-- ==== Sys2Proof/Word.lean ====
section
/-!
DEFINITION. The word types of the device and the plainest operations on them (spec/00_scope.md, Numbers, sizes and time; Registers).
-/
namespace Sys2Proof

/-- A byte of memory or of a frame. -/
abbrev Byte := BitVec 8

/-- A register: registers are 32 bits wide (spec/00_scope.md, Registers). -/
abbrev Word := BitVec 32

/-- A sparse table: pairs of a key and a value, keys strictly rising. -/
abbrev NMap (α : Type) := List (Nat × α)

end Sys2Proof
end

