-- ==== Sys2Proof/Syntax/Frames.lean ====
section
/-!
DEFINITION. What commands carry: the headers of received packets and the fields of the messages (spec/04_olisar_transport.md Packet layout,
spec/11_pair_custody.md Claim messages). Fields are as wide as the wire makes them. A payload
TAG is the 16 bytes that came, big-endian; the payload's reserved fields are taken as 0, as their senders write them.
-/
namespace Sys2Proof

/-- A cell, port or HBM or media channel number (R11). -/
abbrev CellNo := Fin 256

/-- A device ordinal (R10). -/
abbrev Ordinal := Fin 16384

/-- The OXH as it is on the wire: five 32-bit words, big-endian, word 0 first (R69, Table OMT-4). Reserved bits are kept as they came. -/
structure Oxh where
  bits : BitVec 160
deriving DecidableEq, Repr

/-- Who makes a management access (Table MGT-1): a connection of the management port, an in-band management connection by cell × 1,024 + local
index, or the I3C target. -/
inductive Writer where
  | port (conn : Fin 16)
  | inBand (conn : Fin 262144)
  | i3c
deriving DecidableEq, Repr

/-- How a received frame is protected (R319): without a SecTAG, with an ICV that verifies, under the SAK in use or the older one and with a packet number, or with a failing ICV. -/
inductive SecTag where
  | plain
  | protect (old : Bool) (pn : BitVec 64)
  | badIcv
deriving DecidableEq, Repr

/-- What every received RoCE packet brings: the port and priority it arrived on, its size on the wire, the result of the ICRC check, the UDP
port, the IPv6 addresses and hop limit, the BTH and the OXH. A host's message of several packets is one command whose header is that of its first
packet (R72, R80). `pmh` holds the PMH of each packet of the message in order, none for a packet without one; it is empty where no packet has one (R88). -/
structure Pkt where
  port : CellNo
  pcp : Fin 8
  sec : SecTag
  bytes : Fin 65537
  icrcOk : Bool
  udpPort : BitVec 16
  srcAddr : BitVec 128
  dst : BitVec 128
  srcMac : BitVec 48
  hopLimit : BitVec 8
  opcode : BitVec 8
  qpn : BitVec 24
  psn : BitVec 24
  ackReq : Bool
  oxh : Option Oxh
  pmh : List (Option (BitVec 64))
deriving DecidableEq, Repr

/-- The RETH: region key, virtual address, length (R47, R51). -/
structure Reth where
  key : BitVec 32
  va : BitVec 64
  len : BitVec 32
deriving DecidableEq, Repr

/-- Where an error of a line shows (R165, R207): in T1, in the tag of its Alcove way, in a data word of that way, or in a word of its merging-buffer entry, with the bits in
error of the word. -/
inductive ErrSite where
  | t1 | tag
  | lineWord (bits : Fin 4)
  | mbWord (bits : Fin 4)
deriving DecidableEq, Repr

/-- The errors that a read of a request meets (R165, R207, R208, R211): the i-th line it touches and where; for T1 the codeword, and how many symbols of it are in error,
counting upward from a lane. -/
structure LineErr where
  line : Nat
  site : ErrSite
  half : Fin 2
  symbols : Fin 73
  lane : Fin 72
deriving DecidableEq, Repr

/-- An address of chamber memory as mirror traffic names it. -/
structure ChmAddr where
  chamber : BitVec 16
  off : BitVec 50
deriving DecidableEq, Repr

/-- The bytes of a mirror write and where they go (R79). -/
structure ChmWrite where
  dst : ChmAddr
  data : List Byte
deriving DecidableEq, Repr

/-- CLAIM REQUEST payload but for its kind, which the command names (R240, Table PAI-2). -/
structure ClaimReq where
  requester : Ordinal
  scope : BitVec 4
  chamber : BitVec 16
  cSeen : BitVec 48
  number : BitVec 16
  tag : BitVec 128
deriving DecidableEq, Repr

/-- CLAIM GRANT and CLAIM ANSWER payload from the witness or a twin (R240, Table PAI-3). -/
structure ClaimAns where
  pair : BitVec 13
  kind : BitVec 4
  scope : BitVec 4
  solo : Bool
  stale : BitVec 2
  reason : BitVec 4
  chamber : BitVec 16
  claim : BitVec 48
  grantee : Ordinal
  number : BitVec 16
  tag : BitVec 128
deriving DecidableEq, Repr

/-- CLAIM ANSWER of kind STATUS (R238, Table PAI-3). -/
structure StatusAns where
  pair : BitVec 13
  state : BitVec 2
  stale : Bool
  yielded : Bool
  impairment : BitVec 16
  claim : BitVec 48
  sender : Ordinal
  marks : Bool
  tag : BitVec 128
deriving DecidableEq, Repr

/-- A chamber-table entry as twins exchange it (R41, Table CHM-2): state and class as CHM_QUERY codes them, size in pages. -/
structure ChmRecord where
  number : Fin 65536
  state : Fin 5
  cls : Fin 4
  owner : Fin 4096
  comp : Bool
  xts : Fin 4096
  set : Fin 256
  pref : Fin 4
  pages : Fin 68719476737
  holder : Ordinal
  claim : BitVec 48
deriving DecidableEq, Repr

/-- A key-table entry as twins exchange it (R47 to R49): state as KEY_QUERY codes it; window in units of 4 KiB; rights persist, atomic, write, read. -/
structure KeyRecord where
  index : BitVec 24
  state : Fin 4
  gen : BitVec 8
  chamber : Fin 65536
  base : BitVec 38
  len : BitVec 38
  tenant : Fin 4096
  rights : BitVec 4
  bound : Option (Ordinal × BitVec 24)
deriving DecidableEq, Repr

/-- What a follower is told by the custodian (R41, R47, R426). -/
inductive ChmUpdate where
  | chamber (r : ChmRecord)
  | key (r : KeyRecord)
  | release (number : Fin 65536)
  /-- records that the twins compare at a formation (R254) -/
  | formChamber (r : ChmRecord)
  | formKey (r : KeyRecord)
deriving DecidableEq, Repr

/-- Where a connection-manager message arrives: on a port, or on the management port (R65, R385). -/
inductive CmPort where
  | port (p : CellNo)
  | mgmt
deriving DecidableEq, Repr

/-- An RTU, DREQ or DREP (R67, R76): where it arrived, its priority and MACsec state, its source address, and the QPN that it names; on the management port the low 4 bits number the
connection. -/
structure CmMsg where
  via : CmPort
  pcp : Fin 8
  sec : SecTag
  srcAddr : BitVec 128
  qpn : BitVec 24
deriving DecidableEq, Repr

/-- A connection-manager REQ (R65 to R67): the port, its priority and MACsec state, its addresses, whether a federation device sent or forwarded it and the
SRC_ORDINAL it arrived with, the port number of port space TCP (0 for any other service ID), its private data, the host's QPN and start PSN, and the path MTU code 3 to 5. -/
structure CmReq where
  via : CmPort
  pcp : Fin 8
  sec : SecTag
  srcAddr : BitVec 128
  dst : BitVec 128
  fromDevice : Bool
  srcOrdinal : Ordinal
  service : BitVec 16
  priv : List Byte
  qpn : BitVec 24
  psn : BitVec 24
  pmtu : BitVec 4
deriving DecidableEq, Repr

/-- How a control message on connection index 0 arrives (R116): its port and how MACsec finds it. -/
structure CtrlVia where
  port : CellNo
  sec : SecTag
deriving DecidableEq, Repr

/-- A control message and how it arrives. -/
structure Heard (α : Type) where
  via : CtrlVia
  msg : α
deriving DecidableEq, Repr

/-- The rate at which a port's link has trained (Architecture, Port rate; R102). -/
inductive PortRate where
  | g800 | g400 | g200
deriving DecidableEq, Repr

/-- The rate in Gbit/s. -/
def PortRate.gbps : PortRate → Nat
  | .g800 => 800
  | .g400 => 400
  | .g200 => 200

/-- A port's link as it has trained (R77, R117). -/
structure Trained where
  port : CellNo
  rate : PortRate
deriving DecidableEq, Repr

/-- A received PFC frame (R102, R103): for each PCP it names, the pause quanta. -/
structure PfcFrame where
  port : CellNo
  quanta : List (Fin 8 × BitVec 16)
deriving DecidableEq, Repr

/-- NEIGHBOUR HELLO (R117, Table FAB-5). -/
structure Hello where
  port : CellNo
  sec : SecTag
  ordinal : Ordinal
  sentPort : CellNo
  role : BitVec 8
  digest : BitVec 32
deriving DecidableEq, Repr

/-- LINK STATE (R119, Table FAB-6): origin, sequence, and the state codes with port p at bit 2p. -/
structure LinkStateMsg where
  port : CellNo
  sec : SecTag
  origin : Ordinal
  seq : BitVec 48
  states : BitVec 512
deriving DecidableEq, Repr

/-- ROUTE ANNOUNCE (R122, Table FAB-7). -/
structure RouteAnn where
  port : CellNo
  sec : SecTag
  pair : BitVec 13
  holder : Ordinal
  claim : BitVec 48
  seq : BitVec 48
  tag : BitVec 128
deriving DecidableEq, Repr

/-- A frame to be forwarded (R112 to R115): where it arrived, its addresses, QPN, the kind of traffic (request, response, or connection-manager), its hop limit and
OXH, its size, and, for a frame to a host, the return ordinal it is routed to (R111). -/
structure FwdFrame where
  port : CellNo
  sec : SecTag
  src : BitVec 128
  dst : BitVec 128
  qpn : BitVec 24
  response : Bool
  cm : Bool
  mirror : Bool
  ecn : Fin 4
  hopLimit : BitVec 8
  oxh : Bool
  stage : Fin 4
  hopCount : BitVec 8
  srcOrdinal : Ordinal
  ret : Option Ordinal
  bytes : Fin 65537
  pcp : Fin 8
deriving DecidableEq, Repr

/-- A received MKPDU (R320): the material of the CAK it verifies under, its CKN, the sender's key-server priority and SCI, the SAK that a key server
distributes, and whether the sender transmits under the newest SAK. -/
structure Mkpdu where
  port : CellNo
  cak : Nat
  ckn : BitVec 128
  prio : BitVec 8
  sci : BitVec 64
  sak : Option Nat
  txNew : Bool
deriving DecidableEq, Repr

/-- A calendar entry on the wire but for its act ID, with its reserved bytes 9 to 11 (R266, Table TIM-3). -/
structure CalWire where
  time : BitVec 64
  kind : BitVec 4
  flags : BitVec 4
  rsv : BitVec 24
  arg : BitVec 64
deriving DecidableEq, Repr

/-- CALENDAR POST (R268, Table TIM-6) but for its op, which the command names. -/
structure CalPostMsg where
  port : CellNo
  sec : SecTag
  act : BitVec 32
  result : BitVec 8
  entry : CalWire
  tag : BitVec 128
deriving DecidableEq, Repr

/-- CALENDAR POST with op QUERY_MODE or MODE_ANSWER (R283, Table TIM-6). -/
structure ModeMsg where
  port : CellNo
  sec : SecTag
  generation : BitVec 32
  epoch : BitVec 2
  tag : BitVec 128
deriving DecidableEq, Repr

/-- TREE BROADCAST (R269, Table TIM-7) but for its op, which the command names. -/
structure TreeMsg where
  port : CellNo
  sec : SecTag
  act : BitVec 32
  root : Ordinal
  entry : CalWire
  tag : BitVec 128
deriving DecidableEq, Repr

/-- TREE GATHER (R270, Table TIM-7). -/
structure GatherMsg where
  port : CellNo
  sec : SecTag
  act : BitVec 32
  op : Fin 7
  mask : BitVec 8
  accepted : BitVec 16
  refused : BitVec 16
  maxUnc : BitVec 16
  firstRefuser : Ordinal
  tag : BitVec 128
deriving DecidableEq, Repr

/-- What every received IEEE 1588 message brings (R256): the port, its MACsec state and its domain. -/
structure PtpHdr where
  port : CellNo
  sec : SecTag
  domain : BitVec 8
deriving DecidableEq, Repr

/-- What an Announce brings beside its class and grandmaster (R257): stepsRemoved and currentUtcOffset. -/
structure AnnRest where
  steps : BitVec 8
  utc : BitVec 16
deriving DecidableEq, Repr

/-- What the end of a flush finds of its cells: those whose close record is not programmed, with the data lines that are, and the sump blocks that failed a program verify, as
die × 4 + plane (R135, R139, R145). -/
structure FlushCells where
  short : List (CellNo × Nat)
  worn : List (CellNo × Nat)
deriving DecidableEq, Repr

/-- Bulk commands (R286, Table BLK-2). -/
inductive BulkKind where
  | copy | fill | commit | load | trim | verify | snapshot | release | barrier
deriving DecidableEq, Repr

/-- The payload of a BULK COMMAND (R285, Table BLK-1) but for its command code, which the command names. `wellFormed` says that its length is 64 bytes and every reserved bit
and byte is 0. -/
structure BulkPayload where
  media : Bool
  fromSnap : Bool
  scope : BitVec 2
  tag : BitVec 16
  dstKey : BitVec 32
  dstVa : BitVec 64
  srcKey : BitVec 32
  srcVa : BitVec 64
  snap : BitVec 32
  len : BitVec 64
  arg : BitVec 64
  set : BitVec 8
  wellFormed : Bool
deriving DecidableEq, Repr

end Sys2Proof
end

