-- ==== Sys2Proof/Syntax/Data.lean ====
section
/-!
DEFINITION. The frames of the data path, which PROVING may drop, corrupt or hold (spec/17_faults_and_events.md R382): UDP destination port 4791 in PCP 0 to 6.
-/
namespace Sys2Proof

/-- What a received response brings: the port and priority it arrived on, how MACsec finds it, the result of the ICRC check, the UDP port, its source address and its OXH.
The credits of an acknowledgement's AETH, and its message number, are operands of their rows that nothing reads: connections have no credit limit (R81). -/
structure RspPkt where
  port : CellNo
  pcp : Fin 8
  sec : SecTag
  icrcOk : Bool
  udpPort : BitVec 16
  srcAddr : BitVec 128
  oxh : Option Oxh
deriving DecidableEq, Repr

/-- A connection named by the model's key: cell × 1,024 + local index. -/
abbrev ConnNo := Fin 262144

/-- The requests: those of hosts (R72 to R75) and those of the twin (R78, R79). -/
inductive ReqBody where
  | write (r : Reth) (data : List Byte)
  | read (r : Reth) (errs : List LineErr)
  | cas (r : Reth) (compare swap : BitVec 64) (errs : List LineErr)
  | faa (r : Reth) (add : BitVec 64) (errs : List LineErr)
  | send (bytes : Nat)
  | commit (r : Reth)
  | bulk (kind : BulkKind) (b : BulkPayload)
  | bulkAbort (tag : BitVec 16) (wellFormed : Bool)
  | mirrorWrite (a : ChmAddr) (data : List Byte) (copy : Bool)
  /-- an RDMA WRITE with immediate, whose immediate value names the kind (R79) -/
  | mirrorImm (imm : BitVec 32) (a : ChmAddr) (data : List Byte)
  | repair (chamber : BitVec 16) (page : BitVec 36) (line : Option (Fin 128))
deriving DecidableEq, Repr

/-- The responses to the device's own requests (R82, R86, R215), and a congestion notification (R101). -/
inductive RspBody where
  | ack (k : ConnNo) (psn : BitVec 24)
  | nak (k : ConnNo) (syndrome : BitVec 8) (psn : BitVec 24)
  | statusNak (k : ConnNo) (psn : BitVec 24) (status : BitVec 8) (detail : BitVec 16)
  | cnp
  | mirrorAck (k : ConnNo) (psn : BitVec 24)
  | copyAck (k : ConnNo) (psn : BitVec 24)
  | repairAns (k : ConnNo) (psn : BitVec 24) (data : List Byte) (pmh : List (Option (BitVec 64)))
deriving DecidableEq, Repr

/-- A frame of the data path: a request or a response for this device, or a frame to be forwarded (R112). -/
inductive DataFrame where
  | req (p : Pkt) (b : ReqBody)
  | rsp (h : RspPkt) (b : RspBody)
  | fwd (f : FwdFrame)
deriving DecidableEq, Repr

/-- What a register write meets outside the registers: whether a fuse reads back as programmed (R323), and whether the core and die-to-die domains of the course named in a
fence release have lock (R365). -/
structure Env where
  readBack : Bool
  locked : Bool
deriving DecidableEq, Repr

/-- A management request message (R386, Table MGT-2): its bytes before the TAG, and the TAG. -/
structure MgmtMsg where
  bytes : List Byte
  tag : BitVec 128
deriving DecidableEq, Repr

end Sys2Proof
end

