-- ==== Sys2Proof/Syntax/Found.lean ====
section
/-!
DEFINITION. What a read of the medium or of T1 finds (spec/09_media.md R184, spec/10_dram_tier.md R218, Table DRM-3).
-/
namespace Sys2Proof

/-- What a line of the system and plan areas holds (Table DRM-3). The spec gives no addresses within these areas, so a command names the content. -/
inductive T1Content where
  | keys (first : Nat)
  | conn (index : Nat)
  | chambersClean
  | chambersChanged (numbers : List Nat)
  | bitmap (chamber region : Nat)
  | ring (slot : Nat)
  | errorTables (ces frames : List Nat)
  | plan (number : Nat)
deriving DecidableEq, Repr

/-- One codeword as read: the level at which it decoded, 7 for lost, how many bits it had corrected there, and its place in the die as
(plane × 2,048 + block) × 8,192 + page. -/
structure CodeWord where
  level : Nat
  bits : BitVec 16
  addr : Nat
deriving DecidableEq, Repr

end Sys2Proof
end

