-- ==== Sys2Proof/Syntax/Image.lean ====
section
/-!
DEFINITION. The Keystone image as the loader finds it on the configuration module (spec/15_startup.md Tables STA-1 to STA-7): what a command about a start carries. What only
cryptography or the module itself decides (readability, signatures, hashes) is a field of its own.
-/
namespace Sys2Proof

/-- IDENTITY record (Table STA-3). A version 1 record has neither witness nor slot, token, FORMAT nor overrides. -/
structure IdRec where
  devId : BitVec 128
  ordinal : BitVec 14
  witness : BitVec 16
  slot : BitVec 8
  format : Bool
  token : BitVec 32
  overrides : List (BitVec 8 × BitVec 8)
  reservedZero : Bool
deriving DecidableEq, Repr

/-- A link of the TOPOLOGY section (Table STA-4). -/
structure TopoLinkRec where
  a : BitVec 14
  ap : BitVec 8
  role : BitVec 8
  b : BitVec 14
  bp : BitVec 8
deriving DecidableEq, Repr

/-- The TOPOLOGY section (Table STA-4): n_g of each group, the link count as stored, the links, and the first 4 bytes of the digest of the section as stored (R117, R330). -/
structure TopoSec where
  groups : List (BitVec 8)
  linkCount : BitVec 32
  links : List TopoLinkRec
  digest : BitVec 32
  reservedZero : Bool
deriving DecidableEq, Repr

/-- REGISTER LIST entry (Table STA-5). -/
structure RegEnt where
  addr : BitVec 32
  mask : BitVec 32
  value : BitVec 32
deriving DecidableEq, Repr

/-- FIRMWARE blob (Table STA-6): its kind, its version, its body length, the fused vendor hash its signature verifies under, and, in a revocation blob, the hash it revokes. -/
structure FwBlob where
  kind : BitVec 16
  version : BitVec 32
  body : BitVec 32
  vendor : Option (Fin 2)
  revokes : Fin 2
deriving DecidableEq, Repr

/-- KEY WRAP record (Table STA-7): `words` are the 24 words of bytes 16 to 111, byte 16 most significant in the first. -/
structure WrapRec where
  op : BitVec 8
  usage : BitVec 8
  target : BitVec 14
  slot : BitVec 16
  kek : BitVec 16
  tenant : BitVec 16
  dataLen : BitVec 16
  words : List (BitVec 32)
  reservedZero : Bool
deriving DecidableEq, Repr

/-- A directory entry (Table STA-2): kind, offset, length and record count, and whether its reserved bytes are 0. -/
structure DirEnt where
  kind : BitVec 16
  offset : BitVec 32
  length : BitVec 32
  count : BitVec 32
  reservedZero : Bool
deriving DecidableEq, Repr

/-- A copy of the image (Table STA-1): whether the module is readable with an 8D-8D-8D read (R326), the fields of the header, whether its reserved bytes are 0, the section directory, the SHA-384
hash of the owner public key as 12 words, whether the image signature verifies, the sections, and a number for every byte not named here (R335). The magic holds byte 0 in its top byte. -/
structure ImgCopy where
  readable : Bool
  magic : BitVec 32
  version : BitVec 16
  sections : BitVec 16
  seq : BitVec 64
  len : BitVec 32
  reservedZero : Bool
  dir : List DirEnt
  ownerHash : List Nat
  sigOk : Bool
  blobs : List FwBlob
  ids : List IdRec
  topo : TopoSec
  regs : List RegEnt
  wraps : List WrapRec
  rest : Nat
deriving DecidableEq, Repr

/-- What a start finds on a media channel (R178, R179): whether family and geometry of every die are as expected, the identity on the dies, none for blank ones, and the factory bad blocks, as
(die × 4 + plane) × 2,048 + index. -/
structure MediaFound where
  paramsOk : Bool
  identity : Option (BitVec 64)
  bad : List Nat := []
deriving DecidableEq, Repr

end Sys2Proof
end

