-- ==== Sys2Proof/Syntax.lean ====
section
/-!
DEFINITION. The commands of the device (spec/opcode_table.json): what its ports, its management clients, its pins and its own engines and timers bring to it, one constructor for each
row of the table. A timer or an engine's end is a command that acts only when its condition holds.
-/
namespace Sys2Proof

/-- A command, by the mnemonics of the table; each constructor names the rule that it follows. -/
inductive Instr where
  /-- REGISTER_WRITE (R6). A management write to a register that has no row of its own takes effect by the access class of its field. -/
  | registerWrite (w : Writer) (a : BitVec 32) (v : Word) (env : Env)
  /-- RDMA_WRITE (R59). A host RDMA WRITE request is checked, applied at its home cells and acknowledged at the point of its chamber class. -/
  | rdmaWrite (p : Pkt) (r : Reth) (data : List Byte)
  /-- RDMA_READ_REQUEST (R19). A host RDMA READ request is checked, served from T0, T1 or by promotion, and answered with its data. -/
  | rdmaReadRequest (p : Pkt) (r : Reth) (errs : List LineErr)
  /-- COMPARE_AND_SWAP (R60). A compare-and-swap executes once at the custodian's home cell and is answered with the original value. -/
  | compareAndSwap (p : Pkt) (r : Reth) (cmp : BitVec 64) (swp : BitVec 64) (errs : List LineErr)
  /-- FETCH_AND_ADD (R60). A fetch-and-add executes once at the custodian's home cell, is mirrored and is answered with the original value. -/
  | fetchAndAdd (p : Pkt) (r : Reth) (add : BitVec 64) (errs : List LineErr)
  /-- SEND (R74). A SEND is accepted into a receive buffer on an in-band management connection, or refused as an invalid request on a data connection. -/
  | send (p : Pkt) (bytes : Nat)
  /-- PERSIST_COMMIT (R73). A PERSIST COMMIT completes when every earlier write admitted to its range has reached the durable state of its class. -/
  | persistCommit (p : Pkt) (r : Reth)
  /-- ACKNOWLEDGE (R82). A received acknowledgement advances the oldest unacknowledged PSN, resets the retry count and timer, and closes a delay sample. -/
  | acknowledge (h : RspPkt) (k : ConnNo) (psn : BitVec 24) (credit : BitVec 5)
  /-- NAK_RECEIVED (R82). A received sequence-error NAK, RNR NAK or fatal NAK triggers retransmission, a wait, or ERROR on the connection. -/
  | nakReceived (h : RspPkt) (k : ConnNo) (syn : BitVec 8) (psn : BitVec 24)
  /-- STATUS_NAK_RECEIVED (R82). A received STATUS NAK completes the request it names, or is handled as an RNR wait for BUSY. -/
  | statusNakReceived (h : RspPkt) (k : ConnNo) (psn : BitVec 24) (st : BitVec 8) (detail : BitVec 16)
  /-- CONGESTION_NOTIFICATION_PACKET (R101). A received RoCE congestion notification packet is removed without effect and counted. -/
  | congestionNotificationPacket (h : RspPkt)
  /-- INTERNAL_RETRY_TIMER (R30). An internal requester refused a buffer or queue entry retries after its back-off interval. -/
  | internalRetryTimer (c : CellNo) (who : Nat)
  /-- BUFFER_WAIT_NOTICE (R30). An internal requester that has waited over 1 ms raises one C0 Notice for the wait episode. -/
  | bufferWaitNotice (c : CellNo) (who : Nat)
  /-- CIPHER_SEGMENT_END (R314). A cipher pipe ends a segment and takes the next grant, preempting or resuming requests. -/
  | cipherSegmentEnd (c : CellNo) (pipe : Fin 9)
  /-- COMPRESSION_DONE (R36). A compression or decompression direction finishes its work and takes the head of the highest eligible class. -/
  | compressionDone (c : CellNo) (comp : Bool)
  /-- CHM_CREATE (R41). The CREATE chamber command reserves the lowest free chamber number and starts creation. -/
  | chmCreate (w : Writer)
  /-- CHM_RESIZE (R41). The RESIZE command grows or shrinks an ACTIVE chamber, or completes with its refusal result. -/
  | chmResize (w : Writer)
  /-- CHM_DELETE (R41). The DELETE command invalidates every key of the chamber and moves it to DRAINING. -/
  | chmDelete (w : Writer)
  /-- CHM_SET_ATTR (R39). The SET_ATTR command changes the changeable attributes of an ACTIVE chamber. -/
  | chmSetAttr (w : Writer)
  /-- KEY_ISSUE (R47). The KEY_ISSUE command issues a region key with its window, rights and binding from the lowest free index. -/
  | keyIssue (w : Writer)
  /-- KEY_INVALIDATE (R53). The KEY_INVALIDATE command stops admission of a key and starts its invalidation. -/
  | keyInvalidate (w : Writer)
  /-- KEY_QUERY (R63). The KEY_QUERY command returns the state, generation and entry of a key's index. -/
  | keyQuery (w : Writer)
  /-- CHM_QUERY (R63). The CHM_QUERY command returns the state, class, owner and size of a chamber. -/
  | chmQuery (w : Writer)
  /-- CHM_CMD_RESERVED (R63). A chamber command with a reserved opcode completes BAD_ARG. -/
  | chmCmdReserved (w : Writer) (op : Fin 16)
  /-- CREATE_READY (R41). Every home cell is ready and, for Mirrored, the twin has confirmed, so the chamber becomes ACTIVE and CREATE completes OK. -/
  | createReady (n : Fin 65536)
  /-- MIRRORED_CREATE_RECEIVED (R41). A twin receives a Mirrored create and confirms it or refuses it for its XTS slot. -/
  | mirroredCreateReceived (r : Heard ChmRecord)
  /-- CREATE_TWIN_TIMEOUT (R41). A twin's confirmation does not arrive within 10 ms and the create completes TWIN_UNREACHABLE. -/
  | createTwinTimeout (n : Fin 65536)
  /-- CREATE_RELEASE_RESEND (R426). The creating device resends the release of an unconfirmed chamber number every 1 ms. -/
  | createReleaseResend (n : Fin 65536)
  /-- CREATE_RELEASE_ACK (R426). The twin's acknowledgement of a release frees the chamber number for a new CREATE. -/
  | createReleaseAck (n : Heard (Fin 65536))
  /-- CHAMBER_DRAIN_DONE (R41). Every write admitted under a deleted chamber's keys is applied, so the chamber enters RELEASING and DELETE completes. -/
  | chamberDrainDone (n : Fin 65536)
  /-- CHAMBER_RELEASE_DONE (R41). All space and map entries of a RELEASING chamber are returned and the chamber becomes FREE. -/
  | chamberReleaseDone (n : Fin 65536)
  /-- KEY_INVALIDATE_COMPLETE (R53). Every cache has dropped the key and every admitted write is applied, so the invalidation completes and quarantine starts. -/
  | keyInvalidateComplete (idx : BitVec 24)
  /-- KEY_QUARANTINE_END (R55). The quarantine period of a region-key index ends and the index becomes RESTING. -/
  | keyQuarantineEnd (idx : BitVec 24)
  /-- CM_REQ (R67). A connection-manager REQ is checked, a version chosen, and a REP or REJ sent. -/
  | cmReq (q : CmReq)
  /-- CM_RTU (R76). An RTU or first packet at the start PSN moves a CONNECTING connection to READY. -/
  | cmRtu (m : CmMsg)
  /-- CM_DREQ (R76). A DREQ moves a READY connection to DRAINING. -/
  | cmDreq (m : CmMsg)
  /-- CM_DREP (R76). A DREP from the partner closes the disconnection exchange. -/
  | cmDrep (m : CmMsg)
  /-- CONNECT_TIMEOUT (R76). A CONNECTING connection without RTU or packet for 100 ms enters QUARANTINE. -/
  | connectTimeout (k : Fin 262160)
  /-- CONNECTION_DRAIN_DONE (R76). Every admitted request of a DRAINING connection is answered, a DREP is sent and it enters QUARANTINE. -/
  | connectionDrainDone (k : Fin 262160)
  /-- CONNECTION_ERROR_SETTLED (R76). Every write of an ERROR connection is applied, a DREQ is sent and it enters QUARANTINE. -/
  | connectionErrorSettled (k : Fin 262160)
  /-- CONNECTION_QUARANTINE_END (R76). The quarantine period of a connection ends and its local index becomes FREE. -/
  | connectionQuarantineEnd (k : Fin 262160)
  /-- RETRANSMIT_TIMER_EXPIRY (R82). The retransmit timer expires and the requester retransmits from the oldest unacknowledged PSN or enters ERROR. -/
  | retransmitTimerExpiry (k : ConnNo)
  /-- RNR_WAIT_EXPIRY (R82). The wait given by an RNR NAK or BUSY STATUS NAK runs out and the request is sent again. -/
  | rnrWaitExpiry (k : ConnNo)
  /-- ACK_COALESCE_TIMER (R81). One microsecond after the oldest unacknowledged request reached its acknowledgement point, an acknowledgement is sent. -/
  | ackCoalesceTimer (k : ConnNo)
  /-- PACER_RELEASE (R98). The pacing interval of a windowed connection ends and its next packet may leave. -/
  | pacerRelease (k : ConnNo)
  /-- PFC_FRAME_RECEIVED (R103). A received PFC frame pauses or releases the named classes other than PCP 7. -/
  | pfcFrameReceived (m : PfcFrame)
  /-- XOFF_REFRESH (R102). The device repeats XOFF every half pause time while a group stays paused. -/
  | xoffRefresh (p : CellNo) (g : Fin 3)
  /-- PAUSE_WATCHDOG_EXPIRY (R105). The partner holds a class paused longer than WD_MS and the port is fenced. -/
  | pauseWatchdogExpiry (p : CellNo) (pcp : Fin 8)
  /-- XOFF_STORM_EXPIRY (R105). The device holds a group's XOFF longer than STORM_MS and the port is fenced. -/
  | xoffStormExpiry (p : CellNo) (g : Fin 3)
  /-- PORT_FENCE_RELEASE (R106). A write of RELEASE ends a port fence of cause 1 or 2 and the port retrains. -/
  | portFenceRelease (w : Writer) (p : CellNo)
  /-- LINK_TRAINED (R117). A port's link trains, its connection index 0 resets and a fabric port sends NEIGHBOUR HELLO. -/
  | linkTrained (l : Trained)
  /-- LINK_DOWN (R119). A port's PCS loses the link, the port is marked down and a LINK STATE record is originated. -/
  | linkDown (p : CellNo)
  /-- NEIGHBOUR_HELLO (R117). A received NEIGHBOUR HELLO passes or fails the port's identity check. -/
  | neighbourHello (m : Hello)
  /-- HELLO_TIMER (R117). A fabric port sends NEIGHBOUR HELLO every HELLO_MS. -/
  | helloTimer (p : CellNo)
  /-- HELLO_TIMEOUT (R118). No HELLO has arrived within three HELLO intervals on an up link, and the port fails its identity check. -/
  | helloTimeout (p : CellNo)
  /-- IDENTITY_RETRY_TIMER (R118). A port fenced by an identity failure retrains every 1 s and repeats the check. -/
  | identityRetryTimer (p : CellNo)
  /-- LINK_STATE (R120). A received LINK STATE record is accepted and relayed, or dropped, by its sequence number. -/
  | linkState (m : LinkStateMsg)
  /-- LINK_STATE_TIMER (R119). The device originates a LINK STATE record every 2 s. -/
  | linkStateTimer
  /-- LINK_STATE_RECORD_EXPIRY (R120). A record not superseded within 10 s is removed and its origin's ports count as down. -/
  | linkStateRecordExpiry (o : Ordinal)
  /-- ROUTE_CONVERGENCE_END (R121). Start convergence ends when every record is held or 2 s have passed, and CONVERGED is set. -/
  | routeConvergenceEnd
  /-- ROUTE_ANNOUNCE (R123). A received ROUTE ANNOUNCE is checked and accepted, refreshed, relayed or discarded. -/
  | routeAnnounce (m : RouteAnn)
  /-- ROUTE_ANNOUNCE_TIMER (R122). The twin that holds the higher claim originates ROUTE ANNOUNCE every 1 s. -/
  | routeAnnounceTimer
  /-- PAIR_ROUTE_EXPIRY (R123). A pair-route entry not refreshed within 5 s becomes invalid. -/
  | pairRouteExpiry (pair : BitVec 13)
  /-- FORWARD_FRAME (R113). A frame for another device is given its next hop by arrival, stage and destination, or discarded. -/
  | forwardFrame (f : FwdFrame)
  /-- RESIDENCE_EXPIRY (R54). A packet resident in the device over 500 µs is discarded at egress. -/
  | residenceExpiry (p : CellNo)
  /-- NEIGHBOUR_SOLICITATION (R110). A neighbour solicitation on a HOST port for an address inside the prefix is answered with the port MAC address. -/
  | neighbourSolicitation (p : CellNo) (target : BitVec 128)
  /-- HOST_ATTACHMENT_EXPIRY (R111). A host attachment entry not refreshed for 60 s expires. -/
  | hostAttachmentExpiry (addr : BitVec 128)
  /-- MIRROR_WRITE (R233). A mirror write or resync copy at the follower is checked by claim and applied, held or refused. -/
  | mirrorWrite (p : Pkt) (dst : ChmAddr) (data : List Byte) (copy : Bool)
  /-- MIRROR_ACKNOWLEDGE (R21). The twin's mirror acknowledgement reaches the home cell and the host acknowledgement is sent. -/
  | mirrorAcknowledge (h : RspPkt) (k : ConnNo) (psn : BitVec 24) (credit : BitVec 5) (msn : BitVec 24)
  /-- COMPARE_MARKER (R253). A compare marker makes the follower compute its page digest and request the page on a mismatch. -/
  | compareMarker (p : Pkt) (imm : BitVec 32) (dst : ChmAddr) (data : List Byte)
  /-- COMMIT_MARKER (R292). A commit marker is acknowledged once the follower's copy of the page is released in T2. -/
  | commitMarker (p : Pkt) (imm : BitVec 32) (w : ChmWrite)
  /-- PROMOTION_HINT (R153). A promotion hint starts a plan-class promotion at the follower and is acknowledged at once. -/
  | promotionHint (p : Pkt) (imm : BitVec 32) (w : ChmWrite)
  /-- LINE_REPAIR_REQUEST (R215). A twin's request for a line or page over the mirror connection is answered from T1 or after a promotion. -/
  | lineRepairRequest (p : Pkt) (chamber : BitVec 16) (page : BitVec 36) (line : Option (Fin 128))
  /-- LINE_REPAIR_ANSWER (R215). A repair or page answer from the twin is applied as a whole-line write, or discarded if a write intervened. -/
  | lineRepairAnswer (h : RspPkt) (k : ConnNo) (psn : BitVec 24) (data : List Byte) (pmh : List (Option (BitVec 64)))
  /-- LINE_REPAIR_TIMEOUT (R215). No repair answer within 10 ms leaves the line poisoned. -/
  | lineRepairTimeout (chamber : Fin 65536) (page : BitVec 36) (line : Option (Fin 128))
  /-- POWER_FAIL_N_FALL (R135). A recognised fall of POWER_FAIL_N puts the device into FLUSHING and starts the flush. -/
  | powerFailNFall
  /-- INPUT_UNDERVOLTAGE (R134). The 48 V input below 40 V beyond its filter without POWER_FAIL_N starts a flush with a C3 fault. -/
  | inputUndervoltage (mv10 : BitVec 16)
  /-- FLUSH_COMPLETE (R139). The flush reaches step 10, HOLDUP_OK falls, and the device halts or restarts automatically. -/
  | flushComplete (pfHigh : Bool) (inputOk : Bool) (recordOk : Bool) (micros : Nat) (cells : FlushCells)
  /-- DIRTY_CREDIT_REQUEST (R129). A cell whose unused dirty credit falls below 4 MiB requests a credit from the hub. -/
  | dirtyCreditRequest (c : CellNo)
  /-- DIRTY_CREDIT_GRANT (R129). The hub grants a whole or part credit within the device and cell limits. -/
  | dirtyCreditGrant
  /-- DIRTY_CREDIT_RETURN (R129). A cell whose unused credit exceeds 20 MiB returns a credit. -/
  | dirtyCreditReturn (c : CellNo)
  /-- DIRTY_WAIT_EXPIRY (R130). A write that waited STALL_US for dirty space completes BUSY and changes nothing. -/
  | dirtyWaitExpiry (c : CellNo)
  /-- MIRROR_STALL_EXPIRY (R131). A follower mirror write that waited STALL_MS for dirty space or a promotion makes the follower send YIELD or discard the write. -/
  | mirrorStallExpiry (c : CellNo)
  /-- MIRROR_ACK_STALL_EXPIRY (R131). In a pair without a witness, a write whose mirror acknowledgement has not arrived within STALL_MS completes UNAVAILABLE. -/
  | mirrorAckStallExpiry
  /-- SUMP_ERASE_DONE (R144). Every block of a sump set is erased and blank-checked and the set becomes ARMED. -/
  | sumpEraseDone (c : CellNo) (set1 : Bool) (failed : List Nat)
  /-- PROMOTION_COMPLETE (R151). A promotion installs its page in T1, possibly with poison, and waiting requests continue. -/
  | promotionComplete (chamber : Fin 65536) (page : BitVec 36) (sealOk : Bool)
  /-- PROMOTION_TIMEOUT (R152). A promotion not installed within PROMO_MS fails and its waiting requests complete TIER_FAIL. -/
  | promotionTimeout (chamber : Fin 65536) (page : BitVec 36)
  /-- EVICTION_SWEEP (R154). A cell below its free-frame level evicts clean unpinned frames by a clock sweep. -/
  | evictionSweep (c : CellNo)
  /-- DESTAGE_START (R155). A home cell takes a modified frame, compresses, encrypts and appends its sectors to the open media pages. -/
  | destageStart (c : CellNo)
  /-- MERGING_BUFFER_HOLD_EXPIRY (R164). A merging-buffer entry open for MB_HOLD drains to T1. -/
  | mergingBufferHoldExpiry (c : CellNo)
  /-- T2_CREDIT_GRANT (R159). The hub grants or refuses T2 credit for a tenant at a cell, recalling unused credit first if needed. -/
  | t2CreditGrant
  /-- T2_CREDIT_RETURN (R159). A cell whose T2 credit for a tenant exceeds 2 MiB returns a unit. -/
  | t2CreditReturn (t : Fin 4096) (c : CellNo)
  /-- T2_CREDIT_WAIT_EXPIRY (R159). A write that waited 20 µs for a T2 grant completes QUOTA. -/
  | t2CreditWaitExpiry (c : CellNo)
  /-- PLAN_CREATE (R166). The PLAN_CREATE command takes a plan number and loads its entry list under the list key. -/
  | planCreate (w : Writer)
  /-- PLAN_CURSOR (R168). The PLAN_CURSOR command moves a plan's cursor to the first slot of a named entry. -/
  | planCursor (w : Writer)
  /-- PLAN_LOOKAHEAD (R170). The PLAN_LOOKAHEAD command changes a plan's lookahead and shrinks or widens its window. -/
  | planLookahead (w : Writer)
  /-- PLAN_RELEASE (R172). The PLAN_RELEASE command frees a plan, dropping its pins and cancelling queued promotions. -/
  | planRelease (w : Writer)
  /-- PLAN_QUERY (R172). The PLAN_QUERY command returns a plan's state, cursor, pins and first failed entry. -/
  | planQuery (w : Writer)
  /-- ENTRY_QUERY (R172). The ENTRY_QUERY command returns a plan entry's state and cause. -/
  | entryQuery (w : Writer)
  /-- PLAN_CMD_RESERVED (R166). A plan command with a reserved opcode completes BAD_ARG. -/
  | planCmdReserved (w : Writer) (op : Fin 16)
  /-- PLAN_LIST_LOADED (R167). A plan's entry list has been read and checked, invalid entries are marked FAILED and the plan runs. -/
  | planListLoaded
  /-- PLAN_ENGINE_TURN (R169). The plan engine pins one window slot per plan per turn within the plan, tenant and cell limits. -/
  | planEngineTurn
  /-- MEDIA_GRANT (R191). A free die and bus slot are granted to the highest-ranked queued media work. -/
  | mediaGrant (c : CellNo) (die : Fin 16)
  /-- MEDIA_READ_DONE (R184). A media read completes and each codeword is decoded, moving through the read-retry levels as needed. -/
  | mediaReadDone (c : CellNo) (die : Fin 16) (ws : List CodeWord) (mapBad : Bool)
  /-- PROGRAM_PASS_DONE (R188). A program pass completes, closing word-line groups and releasing stripe rows, or ending the row on failure. -/
  | programPassDone (c : CellNo) (die : Fin 16) (ok : Bool) (plane : Fin 4)
  /-- ERASE_DONE (R193). An erase completes, making the superblock FREE or retiring a failed block. -/
  | eraseDone (c : CellNo) (sb : Fin 2048) (failed : List Nat)
  /-- MEDIA_OPERATION_TIMEOUT (R200). A media operation exceeds its time limit and is counted toward die failure. -/
  | mediaOperationTimeout (c : CellNo) (die : Fin 16)
  /-- REBUILD_END (R201). No superblock holds a block of the failed die and the rebuild ends. -/
  | rebuildEnd (c : CellNo)
  /-- MAP_WRITEBACK_TIMER (R182). A map page with changed entries is written back 1 s after its first change. -/
  | mapWritebackTimer (c : CellNo)
  /-- ROOT_CHECKPOINT_TIMER (R182). A root checkpoint is written at least every 10 s while map pages have been written. -/
  | rootCheckpointTimer (c : CellNo)
  /-- MEDIA_SCRUB_PASS_START (R196). The patrol scrub interval elapses and a new pass over the channel begins. -/
  | mediaScrubPassStart (c : CellNo)
  /-- DIE_TEMPERATURE_READ (R196). The channel's die temperatures are read every 10 s for the scrub interval. -/
  | dieTemperatureRead (c : CellNo) (t : BitVec 8)
  /-- SCRUB_NOW (R196). A write of SCRUB_NOW starts a full patrol pass at once. -/
  | scrubNow (w : Writer) (c : CellNo)
  /-- RETIRE_DIE (R200). A write of RETIRE_DIE fails the named die, or is ignored and sets REJECTED. -/
  | retireDie (w : Writer) (c : CellNo) (die : Fin 16)
  /-- HBM_STACK_FAULT (R219). A stack reports a fault of a channel and the channel fails. -/
  | hbmStackFault (c : CellNo)
  /-- HBM_SCRUB_READ (R218). The T1 patrol scrub reads its next line at its steady rate and handles any error. -/
  | hbmScrubRead (c : CellNo) (lanes : List (Fin 72) × List (Fin 72)) (what : T1Content)
  /-- STACK_TEMPERATURE_READ (R220). The stack temperature is read every 1 ms and the refresh rate doubled or restored. -/
  | stackTemperatureRead (stack : Fin 8) (t : Option (BitVec 8))
  /-- ROW_DISTURB_WINDOW_END (R221). A 32 ms counting window ends and every tracker and the throttle table restart empty. -/
  | rowDisturbWindowEnd (c : CellNo)
  /-- SELF_REFRESH_EXIT (R224). The HBM channels leave self-refresh, check their lanes and come ONLINE. -/
  | selfRefreshExit (failed : List CellNo)
  /-- RETIRE_FRAME (R226). The RETIRE_FRAME command moves the frame's contents away and enters it in the retire table. -/
  | retireFrame (w : Writer) (c : CellNo)
  /-- RELEASE_FRAME (R226). The RELEASE_FRAME command returns a retired frame to use. -/
  | releaseFrame (w : Writer) (c : CellNo)
  /-- QUERY_FRAME (R226). The QUERY_FRAME command reports whether a frame is retired. -/
  | queryFrame (w : Writer) (c : CellNo)
  /-- PPR_ROW (R228). The PPR_ROW command queues post-package repair of a row for the next start. -/
  | pprRow (w : Writer) (c : CellNo)
  /-- CANCEL_PPR (R228). The CANCEL_PPR command removes a queued row repair. -/
  | cancelPpr (w : Writer) (c : CellNo)
  /-- RETIRE_CMD_RESERVED (R229). A retire command with a reserved opcode completes BAD_ARG. -/
  | retireCmdReserved (w : Writer) (c : CellNo) (op : Fin 16)
  /-- FRAME_MOVE_TIMEOUT (R226). A frame move that finds no free frame within 10 ms completes BUSY and nothing is retired. -/
  | frameMoveTimeout (c : CellNo)
  /-- POLICY_RETIRE_DECISION (R225). The hub policy firmware retires frames and queues repairs after a qualifying error event. -/
  | policyRetireDecision (c : CellNo) (f : BitVec 22)
  /-- CE_CLEAR_ALL (R209). A write of ALL to HBM_CE_CLEAR clears every correctable-error entry. -/
  | ceClearAll (w : Writer) (c : CellNo)
  /-- CE_CLEAR_ONE (R209). A write of ONE to HBM_CE_CLEAR clears the named correctable-error entry. -/
  | ceClearOne (w : Writer) (c : CellNo) (ent : Fin 32)
  /-- HEARTBEAT_TIMER (R237). Each twin sends HEARTBEAT on every path to its twin and witness every heartbeat interval. -/
  | heartbeatTimer
  /-- HEARTBEAT (R237). A received HEARTBEAT is acknowledged at once in PCP 7. -/
  | heartbeat (via : CtrlVia) (o : Ordinal) (claim : BitVec 48) (sentAt : BitVec 64)
  /-- HEARTBEAT_ACKNOWLEDGE (R239). A heartbeat acknowledgement with a matching claim renews the custodian's lease and ends suspicion. -/
  | heartbeatAcknowledge (o : Heard Ordinal) (claim : BitVec 48) (sentAt : BitVec 64)
  /-- PEER_SUSPICION (R238). No heartbeat or acknowledgement from a peer for MISS intervals makes the device suspect it. -/
  | peerSuspicion (o : Ordinal)
  /-- STATUS_TIMER (R238). Each twin sends STATUS to its twin and witness every 1 ms. -/
  | statusTimer
  /-- LEASE_EXPIRY (R239). The custodian's lease ends and new requests to Mirrored chambers wait. -/
  | leaseExpiry
  /-- CUSTODY_WAIT_EXPIRY (R239). A request that waited STALL_MS at its ingress cell for custody completes UNAVAILABLE. -/
  | custodyWaitExpiry
  /-- CLAIM_LEARN_TIMEOUT (R233). A mirror frame with a higher claim held for 1 ms without a learned record is refused. -/
  | claimLearnTimeout
  /-- TAKEOVER (R241). The witness grants, holds or refuses a TAKEOVER request. -/
  | takeover (m : Heard ClaimReq)
  /-- FAILBACK (R241). The witness grants or refuses a FAILBACK request for the scope. -/
  | failback (m : Heard ClaimReq)
  /-- RECLAIM (R252). The witness grants or refuses a RECLAIM request after a drain that brought no grant. -/
  | reclaim (m : Heard ClaimReq)
  /-- JOIN (R241). The witness grants a JOIN that ends Solo after resync, or refuses it. -/
  | join (m : Heard ClaimReq)
  /-- YIELD (R244). A YIELD sets the sender's yield flag at the witness and makes the twin send TAKEOVER. -/
  | yield (m : Heard ClaimReq)
  /-- QUERY (R241). The witness answers a QUERY with its record for the pair. -/
  | query (m : Heard ClaimReq)
  /-- DRAIN (R251). The custodian stops admitting requests to the scope and waits for the drain point. -/
  | drain (m : Heard ClaimReq)
  /-- CLAIM_RESERVED_KIND (R240). A claim request of a reserved or misdirected kind is answered BAD_KIND. -/
  | claimReservedKind (m : Heard ClaimReq) (kind : Fin 16)
  /-- CLAIM_GRANT (R242). A grant answering an outstanding request raises the claims and applies the grant's effect. -/
  | claimGrant (m : Heard ClaimAns)
  /-- CLAIM_ANSWER (R242). An answer from the witness or twin raises the pair claim and applies the last grant it names. -/
  | claimAnswer (m : Heard ClaimAns)
  /-- CLAIM_STATUS (R238). A received STATUS updates the peer's pair state, stale flag, yield and impairment. -/
  | claimStatus (m : Heard StatusAns) (named : Option Ordinal)
  /-- TAKEOVER_HOLD_EXPIRY (R241). A TAKEOVER held 2 ms without its conditions is answered TWIN_ALIVE. -/
  | takeoverHoldExpiry (pair : BitVec 13)
  /-- CLAIM_REQUEST_RESEND (R242). An outstanding claim request unanswered for 1 ms is resent, or a new one sent after a refusal. -/
  | claimRequestResend
  /-- TAKEOVER_LEASE_WAIT_END (R242). LEASE after a TAKEOVER grant the grantee applies the grant and serves every Mirrored chamber. -/
  | takeoverLeaseWaitEnd
  /-- YIELD_LAPSE (R244). A yield that brought no grant within 10 ms lapses and the device resumes serving. -/
  | yieldLapse
  /-- WITNESS_YIELD_FLAG_EXPIRY (R241). A twin's yield flag at the witness expires 10 ms after it was set. -/
  | witnessYieldFlagExpiry (pair : BitVec 13)
  /-- RESYNC_COPY (R249). A home cell sends the next marked or pulled region to the twin during Resync. -/
  | resyncCopy (c : CellNo) (pulled : Option (Fin 65536 × BitVec 22))
  /-- RESYNC_COPY_ACK (R249). A copy's acknowledgement clears its mark, and JOIN is sent once nothing remains. -/
  | resyncCopyAck (h : RspPkt) (k : ConnNo) (psn : BitVec 24) (credit : BitVec 5) (msn : BitVec 24)
  /-- FAILBACK_TIMER (R251). The pair has stayed Joined for FAILBACK_S and the device sends DRAIN for its preferred chambers. -/
  | failbackTimer
  /-- FAILBACK_NOW (R251). A write of FAILBACK_NOW starts failback without the wait. -/
  | failbackNow (w : Writer)
  /-- HANDOVER (R251). A write of HANDOVER makes the custodian drain every chamber it holds. -/
  | handover (w : Writer)
  /-- COMPARE_NOW (R253). A write of COMPARE_NOW starts a full compare pass. -/
  | compareNow (w : Writer)
  /-- DRAIN_POINT_REACHED (R251). Every admitted request of the drained scope is answered and DRAIN is answered with reason 0. -/
  | drainPointReached
  /-- DRAIN_TIMEOUT (R251). The drain point is not reached within DRAIN_MS, NOT_DRAINED is answered and admission resumes. -/
  | drainTimeout
  /-- RECLAIM_TIMER (R252). A drained custodian without an answer for 5 ms sends RECLAIM. -/
  | reclaimTimer
  /-- COMPARE_PASS_TIMER (R253). A compare pass over the held Mirrored pages starts once per COMPARE_DAYS. -/
  | comparePassTimer
  /-- COLD_START_EXPIRY (R255). COLD_S after pair formation began without an outcome, non-Mirrored chambers open and the device stays Awaiting. -/
  | coldStartExpiry
  /-- SYNC (R256). A received IEEE 1588 Sync is timestamped and moves the time state toward LOCKED. -/
  | sync (h : PtpHdr) (origin : BitVec 64)
  /-- ANNOUNCE (R258). A received Announce takes part in the best-master election of the time root. -/
  | announce (h : PtpHdr) (cls : BitVec 8) (ord : Ordinal) (rest : AnnRest)
  /-- DELAY_REQ (R257). A received Delay_Req is answered in every time state. -/
  | delayReq (h : PtpHdr)
  /-- DELAY_RESP (R256). A received Delay_Resp completes a path-delay measurement. -/
  | delayResp (h : PtpHdr) (arrival : BitVec 64)
  /-- SYNC_TIMER (R257). A LOCKED device or the root sends Sync and Announce at their intervals. -/
  | syncTimer
  /-- ANNOUNCE_TIMEOUT (R258). The best Announce times out and the time root election runs again. -/
  | announceTimeout
  /-- SYNC_LOSS_EXPIRY (R260). No Sync for 250 ms moves the device into HOLDOVER. -/
  | syncLossExpiry
  /-- PPS_IN_EDGE (R262). A PPS_IN edge counts toward PPS lock and aligns the root's seconds. -/
  | ppsInEdge (at_ : BitVec 64) (width : BitVec 32)
  /-- PPS_LOSS (R262). PPS_IN missing or out of window for 3 s ends PPS lock. -/
  | ppsLoss
  /-- WHOLE_SECOND (R261). At each whole second of local time PPS_OUT rises and any pending step or time-of-day write takes effect. -/
  | wholeSecond
  /-- SLEW_COMPLETE (R263). The remaining offset reaches 0 and the device returns to LOCKED. -/
  | slewComplete
  /-- TIME_TOD_WRITE (R262). A write of TIME_TOD_CFG word 1 at the root sets the seconds count at the next edge or second. -/
  | timeTodWrite (w : Writer) (v : Word)
  /-- MODE_COMMIT (R281). A MODE_COMMIT entry fires, commits the shadows and adopts the new epoch and generation. -/
  | modeCommit
  /-- SNAPSHOT_CUT (R275). A SNAPSHOT_CUT entry fires and starts copy-on-write for the set. -/
  | snapshotCut
  /-- COORD_RESTART (R338). A COORD_RESTART entry fires a flush and warm reset with its delay. -/
  | coordRestart
  /-- SCRUB_WINDOW (R266). A SCRUB_WINDOW entry fires and scrub and compare passes run at rank 4 for its duration. -/
  | scrubWindow
  /-- SCRUB_WINDOW_END (R266). The duration of a scrub window runs out. -/
  | scrubWindowEnd
  /-- KEY_ROTATION (R317). A KEY_ROTATION entry fires and links the old slot to the new one by its usage. -/
  | keyRotation
  /-- DOZE_WINDOW (R359). A DOZE_WINDOW entry fires and allows fabric ports to doze for its duration. -/
  | dozeWindow
  /-- DOZE_WINDOW_END (R359). The duration of a doze window runs out. -/
  | dozeWindowEnd
  /-- START_SLOT (R339). A START_SLOT entry fires and sets the stagger slot of the next start. -/
  | startSlot
  /-- CAL_POST_LOCAL (R268). A local post through CAL_CMD takes a calendar entry or is refused with its code. -/
  | calPostLocal (w : Writer)
  /-- CAL_CANCEL_LOCAL (R268). A local cancel through CAL_CMD cancels the POSTED entries of an act. -/
  | calCancelLocal (w : Writer)
  /-- CALENDAR_POST_POST (R268). A received CALENDAR POST with op POST posts an entry or refuses it. -/
  | calendarPostPost (m : CalPostMsg)
  /-- CALENDAR_POST_CANCEL (R268). A received CALENDAR POST with op CANCEL cancels an act's entries. -/
  | calendarPostCancel (m : CalPostMsg)
  /-- CALENDAR_POST_ANSWER (R268). A received CALENDAR POST with op ANSWER carries a post result. -/
  | calendarPostAnswer (m : CalPostMsg)
  /-- QUERY_MODE (R283). A received QUERY_MODE is answered with the device's mode generation and epoch. -/
  | queryMode (m : ModeMsg)
  /-- MODE_ANSWER (R283). Received mode answers can mark the device BEHIND when a majority names a higher generation. -/
  | modeAnswer (m : ModeMsg)
  /-- ACT_BARRIER (R273). The BARRIER act gathers answers from every declared device. -/
  | actBarrier (w : Writer)
  /-- ACT_SNAPSHOT (R277). The SNAPSHOT act posts a time cut and confirms, discards or falls back to a message cut. -/
  | actSnapshot (w : Writer)
  /-- ACT_MODE_COMMIT (R273). The MODE_COMMIT act posts a federation-wide mode commit. -/
  | actModeCommit (w : Writer)
  /-- ACT_RESTART (R273). The RESTART act posts a coordinated restart. -/
  | actRestart (w : Writer)
  /-- ACT_POST (R273). The POST act carries a calendar entry to every device. -/
  | actPost (w : Writer)
  /-- ACT_CMD_RESERVED (R273). An act command with a reserved opcode completes BAD_ARG. -/
  | actCmdReserved (w : Writer) (op : Fin 16)
  /-- TREE_POST (R269). A TREE BROADCAST POST is posted locally and relayed down the tree. -/
  | treePost (m : TreeMsg)
  /-- TREE_CANCEL (R269). A TREE BROADCAST CANCEL cancels the act's entries and is relayed. -/
  | treeCancel (m : TreeMsg)
  /-- TREE_CONFIRM (R277). A TREE BROADCAST CONFIRM makes a PENDING snapshot RETAINED. -/
  | treeConfirm (m : TreeMsg)
  /-- TREE_DISCARD (R277). A TREE BROADCAST DISCARD releases a snapshot's retained sectors and staging frames. -/
  | treeDiscard (m : TreeMsg)
  /-- TREE_PAUSE (R278). A TREE BROADCAST PAUSE stops admission of writes to the set for a message cut. -/
  | treePause (m : TreeMsg)
  /-- TREE_RESUME (R278). A TREE BROADCAST RESUME admits the writes waiting on a message cut. -/
  | treeResume (m : TreeMsg)
  /-- TREE_BARRIER (R271). A TREE BROADCAST BARRIER is answered and relayed. -/
  | treeBarrier (m : TreeMsg)
  /-- TREE_GATHER (R270). A received TREE GATHER is added into the parent's gather, or discarded as late. -/
  | treeGather (m : GatherMsg)
  /-- TREE_GATHER_TIMEOUT (R270). TREE_US after forwarding, a device sends its gather with silent children counted as NO_REPLY. -/
  | treeGatherTimeout (act : BitVec 32) (op : Fin 7)
  /-- MESSAGE_CUT_DRAINED (R278). Every admitted write to the set reaches its acknowledgement point and the message cut is taken. -/
  | messageCutDrained (act : BitVec 32)
  /-- HOLD_WINDOW_END (R276). Local time passes T plus epsilon and writes held around the cut are applied in order. -/
  | holdWindowEnd (act : BitVec 32)
  /-- CUT_RESULT_GATHER_START (R277). The coordinator passes T plus two epsilon and gathers the cut results. -/
  | cutResultGatherStart
  /-- GRACE_WINDOW_END (R281). The grace window closes and the previous epoch is refused. -/
  | graceWindowEnd
  /-- TIME_MODE_ADOPT (R283). A write of TIME_MODE_ADOPT word 1 arms the adoption of a generation and epoch for the next commit. -/
  | timeModeAdopt (w : Writer) (v : Word)
  /-- COMMIT (R279). A write of HUB_COMMIT.COMMIT requests a commit of all shadows at the next eligible tick. -/
  | commit (w : Writer) (v : Word)
  /-- BULK_COPY (R293). A BULK COMMAND COPY is accepted and copies its source range into its destination range. -/
  | bulkCopy (p : Pkt) (b : BulkPayload)
  /-- BULK_FILL (R294). A BULK COMMAND FILL is accepted and writes the pattern over its range. -/
  | bulkFill (p : Pkt) (b : BulkPayload)
  /-- BULK_COMMIT (R292). A BULK COMMAND COMMIT is accepted and destages every modified page of its range. -/
  | bulkCommit (p : Pkt) (b : BulkPayload)
  /-- BULK_LOAD (R295). A BULK COMMAND LOAD is accepted and promotes every absent page of its range. -/
  | bulkLoad (p : Pkt) (b : BulkPayload)
  /-- BULK_TRIM (R294). A BULK COMMAND TRIM is accepted and trims whole pages and zeroes the ends of its range. -/
  | bulkTrim (p : Pkt) (b : BulkPayload)
  /-- BULK_VERIFY (R295). A BULK COMMAND VERIFY is accepted and checks every line, and optionally the T2 copy, of its range. -/
  | bulkVerify (p : Pkt) (b : BulkPayload)
  /-- BULK_SNAPSHOT (R296). A BULK COMMAND SNAPSHOT starts a SNAPSHOT act with this device as coordinator. -/
  | bulkSnapshot (p : Pkt) (b : BulkPayload)
  /-- BULK_RELEASE (R297). A BULK COMMAND RELEASE releases a retained snapshot locally or federation-wide. -/
  | bulkRelease (p : Pkt) (b : BulkPayload)
  /-- BULK_BARRIER (R298). A BULK COMMAND BARRIER holds later commands until earlier ones complete, optionally with a federation barrier. -/
  | bulkBarrier (p : Pkt) (b : BulkPayload)
  /-- BULK_ABORT (R299). A BULK ABORT ends or reports a tagged command with its outcome. -/
  | bulkAbort (p : Pkt) (tag : BitVec 16) (wellFormed : Bool)
  /-- BULK_COMMAND_START (R288). An accepted bulk command starts once earlier writes are applied, checks its keys and issues pieces. -/
  | bulkCommandStart (k : ConnNo) (tag : BitVec 16)
  /-- BULK_PIECE_DONE (R291). A bulk piece completes at its home cell, and the command continues, stops or completes. -/
  | bulkPieceDone (k : ConnNo) (tag : BitVec 16) (lo : BitVec 41)
  /-- KEY_GENERATE (R306). The GENERATE key command fills an empty slot from the DRBG. -/
  | keyGenerate (w : Writer)
  /-- KEY_IMPORT (R307). The IMPORT key command unwraps a key under a KEK into an empty slot. -/
  | keyImport (w : Writer)
  /-- KEY_DESTROY (R305). The DESTROY key command empties an unreferenced LIVE slot. -/
  | keyDestroy (w : Writer)
  /-- KEY_SLOT_QUERY (R311). The QUERY key command returns a slot's metadata and check value. -/
  | keySlotQuery (w : Writer)
  /-- KEY_AGREE (R308). The AGREE key command derives a KEK from an owner's ephemeral public key. -/
  | keyAgree (w : Writer)
  /-- OWNER_ADD (R323). The OWNER_ADD key command programs an unprogrammed owner hash index. -/
  | ownerAdd (w : Writer) (readBack : Bool)
  /-- OWNER_REVOKE (R323). The OWNER_REVOKE key command blows the revocation fuse of an owner hash index. -/
  | ownerRevoke (w : Writer) (readBack : Bool)
  /-- KEY_CMD_RESERVED (R311). A key command with a reserved opcode completes BAD_ARG. -/
  | keyCmdReserved (w : Writer) (op : Fin 16)
  /-- DRBG_RESEED (R306). The DRBG reseeds from the entropy source at its request count or every 1 s. -/
  | drbgReseed
  /-- ENTROPY_HEALTH_FAILURE (R306). A failed entropy health test stops the DRBG and raises C3. -/
  | entropyHealthFailure
  /-- KEY_SCHEDULE_FETCH_DONE (R312). A key schedule fetched over the private key bus is installed in the engine cache. -/
  | keyScheduleFetchDone (c : CellNo) (slot : Nat)
  /-- CELL_GENERATOR_RESEED (R315). The hub reseeds each cell's share generator every 1 ms. -/
  | cellGeneratorReseed
  /-- GENERATOR_STALE_EXPIRY (R315). A cell generator not reseeded for 100 ms stops its engine and raises C2. -/
  | generatorStaleExpiry (c : CellNo)
  /-- TAMPER_VOLTAGE (R324). The voltage tamper detector trips, raises C4 and starts a flush. -/
  | tamperVoltage
  /-- TAMPER_CLOCK (R324). The clock-glitch tamper detector trips, raises C4 and starts a flush. -/
  | tamperClock
  /-- TAMPER_LID (R325). The lid detector trips and flushes, or erases all keys with LID_ERASE. -/
  | tamperLid
  /-- MKPDU (R320). A received MKA PDU advances the port's MKA session and SAK installation. -/
  | mkpdu (m : Mkpdu)
  /-- MKA_HELLO_TIMER (R320). MKA sends its hello every 2 s and ends a session past its life time. -/
  | mkaHelloTimer (p : CellNo)
  /-- SAK_RENEWAL (R320). The SAK is renewed every REKEY_S or at the packet-number limit. -/
  | sakRenewal (p : CellNo) (pn : Nat)
  /-- POWER_GOOD (R351). The 48 V input becomes power good and the power-up sequence and start order begin. -/
  | powerGood (mv10 : BitVec 16)
  /-- POWER_UP_STEP (R351). At each planned time of the power-up sequence the next group of rails is enabled. -/
  | powerUpStep
  /-- STAGGER_END (R339). The start stagger ends and the remaining rails, cells and carriers are raised. -/
  | staggerEnd
  /-- IMAGE_RETRY_TIMER (R336). A device held in start step 2 repeats the image load every 10 s. -/
  | imageRetryTimer
  /-- MODULE_REREAD_TIMER (R327). Every 10 s the device re-reads the image headers and signatures and sets MODULE_WRITTEN on a change. -/
  | moduleRereadTimer (differs : Bool)
  /-- LEADER_WAIT_EXPIRY (R341). A group leader still missing members 10 s after its step 9 writes an S1 record. -/
  | leaderWaitExpiry
  /-- RESET_N_ASSERT (R418). A recognised low on RESET_N starts a warm reset by the device state. -/
  | resetNAssert
  /-- RESET_N_RELEASE (R418). The rising edge of RESET_N begins the start order and its stagger. -/
  | resetNRelease
  /-- RAIL_WINDOW_VIOLATION (R347). A rail crosses its window beyond its filter, is switched off, marked FAILED and its consumers fenced. -/
  | railWindowViolation (n : Fin 64) (mv : BitVec 16) (micros : BitVec 16)
  /-- RAIL_RISE_TIMEOUT (R351). A rail not in its window within RISE_MS of enable is switched off and marked FAILED. -/
  | railRiseTimeout (n : Fin 64) (mv : BitVec 16)
  /-- RAIL_FALL_TIMEOUT (R352). A rail not fallen within FALL_US at power-down is marked and the sequence continues. -/
  | railFallTimeout (n : Fin 64) (mv : BitVec 16)
  /-- INPUT_OVERVOLTAGE (R350). The input above 61 V beyond its filter raises one C0 Notice per episode. -/
  | inputOvervoltage (mv10 : BitVec 16) (micros : BitVec 16)
  /-- INPUT_BELOW_36V (R350). The input below 36 V stops the bootstrap regulator and the device is OFF. -/
  | inputBelow36V (mv10 : BitVec 16)
  /-- CLOCK_DOMAIN_LOSS (R24). A clock domain loses lock or clock and is handled by its class in the domain table. -/
  | clockDomainLoss (n : Fin 100)
  /-- HUB_FUNCTION_FAILURE (R12). A hub core, mesh interface or time unit failure takes the device out of service as C3. -/
  | hubFunctionFailure (fn : Fin 13)
  /-- JOURNAL_PROGRAM_DONE (R378). An S3 record is programmed into the Vault journal and the next sector erase may begin. -/
  | journalProgramDone
  /-- JOURNAL_SECTOR_ERASE_DONE (R378). The next journal sector finishes erasing and waiting records are programmed. -/
  | journalSectorEraseDone
  /-- GOTO_SERVICE (R354). A GOTO of SERVICE starts the exit from QUIET or DORMANT, or is latched. -/
  | gotoService (w : Writer) (maint : Bool)
  /-- GOTO_QUIET (R355). A GOTO of QUIET starts entry to QUIET or exit from DORMANT to QUIET, or is latched. -/
  | gotoQuiet (w : Writer) (maint : Bool)
  /-- GOTO_DORMANT (R356). A GOTO of DORMANT starts entry through QUIET into DORMANT, or is latched. -/
  | gotoDormant (w : Writer) (maint : Bool)
  /-- MAINT_ENTER (R349). A write of MAINT 1 in QUIET enters maintenance. -/
  | maintEnter (w : Writer)
  /-- MAINT_END (R349). A write of MAINT 0 ends maintenance and returns every margin to 0. -/
  | maintEnd (w : Writer)
  /-- MARGIN_WRITE (R349). A write of PWR_MARGIN moves a rail's target in maintenance, or completes DENIED. -/
  | marginWrite (w : Writer) (n : Fin 64) (v : Word)
  /-- QUIET_ENTRY_DONE (R355). Every admitted request is answered and the device is QUIET, acting then on any latched request. -/
  | quietEntryDone
  /-- DORMANT_ENTRY_DONE (R356). Buffers are drained, HBM in self-refresh and host cells gated, and the device is DORMANT. -/
  | dormantEntryDone
  /-- DORMANT_EXIT_DONE (R356). Every cell is clocked and the media resumed, and the device reaches SERVICE or QUIET. -/
  | dormantExitDone
  /-- CELL_WAKE_SLOT (R358). Every 50 µs each course wakes at most one gated cell. -/
  | cellWakeSlot
  /-- DOZE_IDLE_TIMER (R360). A fabric port idle for IDLE_US sends DOZE_REQ. -/
  | dozeIdleTimer (p : CellNo)
  /-- DOZE_REQ (R360). A received DOZE_REQ is answered with an accepting or refusing DOZE_ACK. -/
  | dozeReq (p : CellNo) (sec : SecTag) (seq : BitVec 8)
  /-- DOZE_ACK (R360). A received accepting DOZE_ACK is the requester's agreement point and doze is entered. -/
  | dozeAck (p : CellNo) (sec : SecTag) (seq : BitVec 8) (result : BitVec 8)
  /-- DOZE_REQ_TIMEOUT (R360). A requester without an answer within 10 µs stays awake. -/
  | dozeReqTimeout (p : CellNo)
  /-- DOZE_WAKE (R361). A queued frame, wake pattern or received frame wakes a dozed link, or is latched during entry. -/
  | dozeWake (p : CellNo)
  /-- FLT_UNFENCE (R365). A write of FLT_UNFENCE releases a cell or course fence, or is refused. -/
  | fltUnfence (w : Writer) (unit : BitVec 16) (locked : Bool)
  /-- FLT_FIRST_CLEAR (R371). A write of 1 to FLT_FIRST.VALID empties the first-error capture. -/
  | fltFirstClear (w : Writer)
  /-- FLT_STATUS_CLEAR (R371). A write of 1 to a class bit of FLT_STATUS clears it, to set again while a condition remains. -/
  | fltStatusClear (w : Writer) (v : Word)
  /-- INJECT (R380). A write of TST_INJECT_CTRL arms a bit flip at the next write to the target, or completes DENIED. -/
  | inject (w : Writer) (v : Word)
  /-- PROVE_ENTER (R381). A write of ENTER puts a port into PROVING, or is ignored and sets REFUSED. -/
  | proveEnter (w : Writer) (p : CellNo)
  /-- PROVE_EXIT (R383). A write of EXIT takes the port out of PROVING and releases held frames. -/
  | proveExit (w : Writer)
  /-- PROVE_LIMIT_EXPIRY (R383). LIMIT_S after entry the port leaves PROVING. -/
  | proveLimitExpiry
  /-- PROVE_REORDER_TIMEOUT (R382). A frame held for reordering is released after 10 µs. -/
  | proveReorderTimeout
  /-- MANAGEMENT_REQUEST (R386). A management request message is checked and its operations executed in order, and a response sent. -/
  | managementRequest (w : Writer) (m : MgmtMsg) (env : Env)
  /-- I3C_DYNAMIC_ADDRESS (R392). The I3C target takes a dynamic address by ENTDAA or SETDASA. -/
  | i3cDynamicAddress (addr : BitVec 7)
  /-- I3C_ADDRESS_WRITE (R392). An I3C private write of 4 bytes sets a management address for the next read. -/
  | i3cAddressWrite (addr : BitVec 32)
  /-- I3C_PRIVATE_READ (R392). An I3C private read returns registers from a set address or the status summary. -/
  | i3cPrivateRead (n : Nat)
  /-- VAULT_UNLOCK (R396). A write of VLT_UNLOCK advances or closes the program or erase sequence. -/
  | vaultUnlock (w : Writer) (v : Word)
  /-- VAULT_CMD_PROGRAM (R396). A write of VLT_CMD with PROGRAM selects a program in the open sequence. -/
  | vaultCmdProgram (w : Writer)
  /-- VAULT_CMD_ERASE (R396). A write of VLT_CMD with ERASE selects an erase in the open sequence. -/
  | vaultCmdErase (w : Writer)
  /-- VAULT_ADDR (R396). A write of VLT_ADDR sets the offset and starts an erase. -/
  | vaultAddr (w : Writer) (v : Word)
  /-- VAULT_DATA (R396). A write of VLT_DATA supplies program data, and the last word starts the program. -/
  | vaultData (w : Writer) (ix : Fin 8) (v : Word)
  /-- VAULT_SEQUENCE_TIMEOUT (R396). A sequence not complete within 1 ms closes without effect and sets SEQ_ERR. -/
  | vaultSequenceTimeout
  /-- VAULT_PULSE_DONE (R397). A program or erase pulse and its verify end, ending the operation or giving another pulse. -/
  | vaultPulseDone (ok : Bool)
  /-- VAULT_SUSPEND (R399). A write of SUSPEND stops the running management operation within 20 µs. -/
  | vaultSuspend (w : Writer)
  /-- VAULT_RESUME (R399). A write of RESUME continues a suspended management operation. -/
  | vaultResume (w : Writer)
  /-- PAUSE_QUANTA_EXPIRY (R105). The pause time of a received XOFF runs out without refresh or XON, and the paused class may send again. -/
  | pauseQuantaExpiry (p : CellNo) (pcp : Fin 8)
  /-- THERMAL_TRIP (R422). A junction above 125 °C or a stack above 105 °C for 100 µs switches off every converter and the device goes OFF without a flush. -/
  | thermalTrip
  /-- SNAPSHOT_RELEASE_DONE (R297). A RELEASING snapshot has returned its retained sectors and staging frames and becomes FREE, completing its RELEASE command. -/
  | snapshotReleaseDone (act : BitVec 32)
  /-- IMAGE_LOAD_COMPLETE (R337). Reading and verifying the Keystone image ends, and the chosen copy is committed or the device stays in step 2. -/
  | imageLoadComplete (a : ImgCopy) (b : ImgCopy)
  /-- REPLAY_COMPLETE (R146). Sump replay and map-root loading, or a device format in its place, end in every cell and start step 5 completes. -/
  | replayComplete (metaBad : List CellNo) (bad : List Nat)
  /-- CHANNEL_TRAINING_DONE (R178). The HBM channels are trained and the ONFI parameter pages read and channels trained, ending start step 1. -/
  | channelTrainingDone (hbmBad : List CellNo) (media : List (CellNo × MediaFound))
  /-- START_STEP_TIMEOUT (R338). The bound of a start step (link training, neighbour identity, pair formation or root election) runs out and the start order continues with the stated fallback. -/
  | startStepTimeout
  /-- RESTART_DELAY_EXPIRY (R338). The delay of a fired COORD_RESTART runs out and the start order begins. -/
  | restartDelayExpiry
  /-- QUIET_EXIT_DONE (R354). The exit from QUIET completes within 10 µs, the device is in SERVICE, and any latched request is acted on. -/
  | quietExitDone
  /-- SHADOW_COMMIT_TICK (R407). At the first commit tick after every earlier SH write has reached its shadow, the shadows are committed and PENDING clears. -/
  | shadowCommitTick
  /-- THROTTLE_INTERVAL_END (R223). A throttled requester's interval of THROTTLE_US passes and its next waiting access to the bank is issued. -/
  | throttleIntervalEnd (c : CellNo)
  /-- RAIL_RISEN (R351). An enabled rail enters its window and is marked UP. -/
  | railRisen (n : Fin 64) (mv : BitVec 16) (mw : Nat)
  /-- RAIL_FALLEN (R352). A rail group falls below 10 % of nominal at power-down, and the next group is switched off. -/
  | railFallen
  /-- DELAY_REQ_TIMER (R256). A slave port sends Delay_Req at its interval to measure the path delay. -/
  | delayReqTimer
  /-- CELL_RELEASE_DONE (R365). The release of a fenced cell or course finishes its reset and restore, FLT_UNFENCE_STATUS.BUSY clears and the result is set. -/
  | cellReleaseDone
  /-- TWIN_CREATE_REFUSAL (R41). The twin's refusal of a Mirrored create for its XTS slot returns the chamber to FREE and completes CREATE with BAD_ARG. -/
  | twinCreateRefusal (n : Heard (Fin 65536))
  /-- TWIN_CHAMBER_UPDATE (R41). The follower receives the custodian's chamber-table or key-table change, including the release of a chamber number, and applies it. -/
  | twinChamberUpdate (u : Heard ChmUpdate)
  /-- ROTATION_GRACE_END (R317). T plus epsilon plus GRACE_MS after a CONTROL key rotation, tags under the old key stop being accepted. -/
  | rotationGraceEnd
deriving DecidableEq, Repr

end Sys2Proof
end

