-- ==== Sys2Proof/Config.lean ====
section
/-!
DEFINITION. What the spec leaves open to the implementation: constants without a body, so that nothing can be proved of their values.
-/
namespace Sys2Proof

/-- A fresh free value: the n-th value that the spec leaves undefined or does not state (R40, R88, R210, R397 and others); see the assumption log. -/
opaque Config.freeValue : Nat → Nat

/-- The n-th output of the deterministic random bit generator (R67, R306): keys, start PSNs. -/
opaque Config.drbg : Nat → Nat

/-- The draw of the PROVING generator started from a seed, for the n-th frame and the i-th rate (R382): below 2^24. -/
opaque Config.proveDraw : Nat → Nat → Nat → Nat

/-- The compressed length of a page in bytes, framing included (R157): the format is not disclosed. -/
opaque Config.compressedLen : List Byte → Nat

/-- The check value of key material (R305, R311). -/
opaque Config.checkValue : Nat → Nat

/-- The result of unwrapping a blob under a key-encryption key: the key material, or none when the wrapping does not verify (R307). -/
opaque Config.unwrap : Nat → List Nat → Option Nat

/-- The material that key agreement derives from the device's key and an owner's public key (R308). -/
opaque Config.agree : List Nat → Option Nat

/-- The member of a choice set that the flowlet hash or congestion measure names (R114). -/
opaque Config.flowHash : Nat → Nat

/-- The MAC address of a host, by its IPv6 address: the manual does not say how the device learns it (R109). -/
opaque Config.hostMac : Nat → Nat

/-- AES-256-CMAC (NIST SP 800-38B) under some key material of a message (R122, R240, R268, R386): the standard is not part of the spec. -/
opaque Config.cmac : Nat → List Byte → BitVec 128

/-- The CRC-64 digest of a page and its poison mask (R216, R253). -/
opaque Config.pageDigest : List Byte → List Nat → Nat

/-- The silicon stepping letter and digit as HUB_STEPPING shows them (R405). -/
opaque Config.stepping : Nat

/-- The spare rows of an HBM bank (R228). -/
opaque Config.spareRows : Nat

/-- The device ID fuses, word i (LDR_DEVICE_ID). -/
opaque Config.deviceId : Nat → Nat

/-- The device public key, word i (KEY_DEV_PUB). -/
opaque Config.devicePub : Nat → Nat

end Sys2Proof
end

