-- ==== Sys2Proof/Machine/NMap.lean ====
section
/-!
DEFINITION. Sparse tables in one canonical form (keys strictly rising), and bit-field and byte-order helpers.
-/
namespace Sys2Proof.Machine
open Sys2Proof

/-- The value at a key of a sparse table. -/
def nget {α : Type} : NMap α → Nat → Option α
  | [], _ => none
  | (k', v) :: t, k => if k' = k then some v else nget t k

/-- The value at a key, or the value that an unlisted key has. -/
def ngetD {α : Type} (m : NMap α) (k : Nat) (d : α) : α := (nget m k).getD d

/-- The table with a key set, keys kept strictly rising. -/
def nset {α : Type} : NMap α → Nat → α → NMap α
  | [], k, v => [(k, v)]
  | (k', v') :: t, k, v =>
    if k < k' then (k, v) :: (k', v') :: t
    else if k = k' then (k, v) :: t
    else (k', v') :: nset t k v

/-- The table without a key. -/
def ndel {α : Type} : NMap α → Nat → NMap α
  | [], _ => []
  | (k', v') :: t, k => if k' = k then t else (k', v') :: ndel t k

/-- The table with the entry of a key changed; an unlisted key stays unlisted. -/
def nmod {α : Type} (m : NMap α) (k : Nat) (f : α → α) : NMap α :=
  match nget m k with
  | none => m
  | some v => nset m k (f v)

/-- The table with the entry of a key changed, an unlisted key counting as `d`. -/
def nmodD {α : Type} (m : NMap α) (k : Nat) (d : α) (f : α → α) : NMap α := nset m k (f (ngetD m k d))

/-- Every entry of a table changed, under the same keys. -/
def nmap {α β : Type} (m : NMap α) (f : α → β) : NMap β := m.map fun p => (p.1, f p.2)

/-- The keys of a table strictly rise, so that equal tables are equal lists. -/
def nwf {α : Type} : NMap α → Bool
  | [] => true
  | [_] => true
  | (k, _) :: (k', v') :: t => decide (k < k') && nwf ((k', v') :: t)

/-- A key is listed. -/
def nhas {α : Type} (m : NMap α) (k : Nat) : Bool := (nget m k).isSome

/-- The lowest natural number from `lo` on, among `n` candidates, that is not a key of the table (used where the spec says 'the lowest free'). -/
def nfreeFrom {α : Type} (m : NMap α) (lo : Nat) : Nat → Option Nat
  | 0 => none
  | n + 1 => if nhas m lo then nfreeFrom m (lo + 1) n else some lo

/-- A list of numbers with one more, kept rising and without repeats. -/
def sinsert : List Nat → Nat → List Nat
  | [], k => [k]
  | h :: t, k => if k < h then k :: h :: t else if k = h then h :: t else h :: sinsert t k

/-- Bits hi to lo of a register (spec/00_scope.md: bit fields are written [high:low]). -/
def fld (w : Word) (hi lo : Nat) : Nat := (w.toNat >>> lo) % 2 ^ (hi + 1 - lo)

/-- One bit of a register. -/
def fbit (w : Word) (i : Nat) : Bool := fld w i i == 1

/-- A value placed at bit lo of a register. -/
def at_ (v lo : Nat) : Nat := v <<< lo

/-- A flag placed at a bit. -/
def bit_ (b : Bool) (i : Nat) : Nat := if b then 1 <<< i else 0

/-- A register value from the sum of its placed fields. -/
def word (n : Nat) : Word := BitVec.ofNat 32 n

/-- A count limited to an upper bound: 'saturating at'. -/
def sat (n m : Nat) : Nat := min n m

/-- A value moved into a range: 'outside acts as the nearer limit'. -/
def clampTo (lo hi v : Nat) : Nat := max lo (min hi v)

/-- 0 acts as the given value. -/
def zeroAs (d v : Nat) : Nat := if v = 0 then d else v

/-- The little-endian bytes of a number. -/
def leBytes : Nat → Nat → List Byte
  | 0, _ => []
  | n + 1, v => BitVec.ofNat 8 v :: leBytes n (v / 256)

/-- The number that little-endian bytes spell. -/
def leNat : List Byte → Nat
  | [] => 0
  | b :: t => b.toNat + 256 * leNat t

/-- The bits of a number as bytes, most significant first (spec/00_scope.md: multi-byte fields on the wire are big-endian). -/
def beBytes (n v : Nat) : List Byte := (leBytes n v).reverse

/-- A two's complement value of w bits. -/
def signed (w v : Nat) : Int := if v < 2 ^ (w - 1) then (v : Int) else (v : Int) - (2 ^ w : Nat)

/-- The low w bits of an integer, two's complement. -/
def unsignedBits (w : Nat) (v : Int) : Nat := (v % (2 ^ w : Nat)).toNat

/-- The quotient rounded up. -/
def ceilDiv (a b : Nat) : Nat := (a + b - 1) / b

end Sys2Proof.Machine
end

