-- ==== Sys2Proof/Machine/Parts/Bulk.lean ====
section
/-!
DEFINITION. State of the bulk command queue (spec/13_bulk_queue.md).
-/
namespace Sys2Proof.Machine
open Sys2Proof

/-- Where an accepted command stands: not started; its pieces running; or started and waiting for an act, a gather or a release (R288, R296 to R298). -/
inductive BulkState where
  | waiting | running | acting
deriving DecidableEq, Repr

/-- An accepted command (R287, R288): its connection and PSN, its payload, the number of the next request when it was accepted, the chamber and offset of its target and
source, the offset up to which pieces are issued, the offsets of the pieces in flight, and what its completion will say. `stop` ends the issue of pieces; `abort` marks one that a BULK
ABORT has ended, `mute` one whose connection has ended, of which only the pieces in flight are left (R302). -/
structure BulkCmd where
  id : Nat
  conn : Nat
  psn : Nat
  kind : BulkKind
  pl : BulkPayload
  persist : Bool
  before : Nat
  state : BulkState := .waiting
  chamber : Nat := 0
  off : Nat := 0
  srcChamber : Nat := 0
  srcOff : Nat := 0
  issued : Nat := 0
  flight : List Nat := []
  stop : Bool := false
  abort : Bool := false
  mute : Bool := false
  status : Nat := 0
  detail : Nat := 0
  done : Nat := 0
  bad : Nat := 0
  failed : Nat := 0
  firstBad : Option Nat := none
  result : Nat := 0
  result2 : Nat := 0
deriving DecidableEq, Repr

/-- The record of a completion (R290, Table BLK-3). -/
structure BulkRec where
  psn : Nat
  tag : Nat
  code : Nat
  status : Nat
  detail : Nat
  done : Nat
  result : Nat
  result2 : Nat
deriving DecidableEq, Repr

/-- The bulk queue: accepted commands in order of acceptance, the last 256 completions of each connection, latest first, and the tag last accepted on it. -/
structure BulkPart where
  cmds : List BulkCmd := []
  recs : NMap (List BulkRec) := []
  lastTag : NMap Nat := []
  next : Nat := 0
deriving DecidableEq, Repr

end Sys2Proof.Machine
end

