-- ==== Sys2Proof/Machine/Parts/Chambers.lean ====
section
/-!
DEFINITION. State of chambers, region keys and the chamber command interface (spec/03_chambers.md).
-/
namespace Sys2Proof.Machine
open Sys2Proof

/-- Chamber classes (R38, Table CHM-1). -/
inductive ChmClass where
  | mirrored | localC | volatileC | reference
deriving DecidableEq, Repr

/-- Chamber states (R41, Table CHM-3). -/
inductive ChmState where
  | free | creating | active | draining | releasing
deriving DecidableEq, Repr

/-- A chamber with the attributes of Table CHM-2 (R37 to R41) and its custody record (R230). `byTwin` marks one created by the twin's create. -/
structure Chamber where
  state : ChmState
  cls : ChmClass
  owner : Nat
  comp : Bool
  xts : Nat
  set : Nat
  pref : Nat
  pages : Nat
  holder : Nat := 0
  claim : Nat := 0
  byTwin : Bool := false
deriving DecidableEq, Repr

/-- Region-key index states (R49, Table CHM-5). -/
inductive KeyState where
  | free | live | quarantine | resting
deriving DecidableEq, Repr

/-- A region-key index with its stored generation and entry (R47, R48, R53, R55). Base and length are in units of 4 KiB. `inval` is set from
the acceptance of an invalidation to its completion; `qEnd` is the end of its quarantine, between a reset and the opening of service in federation time (R55), none for a quarantine without end (Table DRM-3). -/
structure KeyEnt where
  state : KeyState := .free
  gen : Nat := 0
  chamber : Nat := 0
  base : Nat := 0
  len : Nat := 0
  tenant : Nat := 0
  rd : Bool := false
  wr : Bool := false
  at_ : Bool := false
  ps : Bool := false
  bound : Option (Nat × Nat) := none
  inval : Bool := false
  qEnd : Option Nat := none
  /-- after a restart the quarantine runs its whole period from SERVICE: the invalidation was under way at the power loss (R55) -/
  qWhole : Bool := false
deriving DecidableEq, Repr

/-- What a running chamber command is waiting for (R41, R53, R62). -/
inductive ChmRun where
  /-- CREATE of a chamber; the deadline of the twin's confirmation, and whether it has confirmed -/
  | create (chamber : Nat) (twinBy : Option Nat) (confirmed : Bool)
  | delete (chamber : Nat)
  | invalidate (index : Nat)
deriving DecidableEq, Repr

/-- Chambers, keys and the chamber command interface (R37 to R63, R426). `kcache` holds, for each cell, its cached key indexes, latest used first;
`releases` holds each unconfirmed release with the time of its next resend (R426). -/
structure ChmPart where
  chambers : NMap Chamber := []
  keys : NMap KeyEnt := []
  kcache : NMap (List Nat) := []
  releases : NMap Nat := []
  run : Option ChmRun := none
  overrun : Bool := false
  lastOp : Nat := 0
  result : Nat := 0
deriving DecidableEq, Repr

end Sys2Proof.Machine
end

