-- ==== Sys2Proof/Machine/Parts/Custody.lean ====
section
/-!
DEFINITION. State of pair custody, the witness and resync (spec/11_pair_custody.md).
-/
namespace Sys2Proof.Machine
open Sys2Proof

/-- Pair states as CUS_PAIR_STATUS shows them. -/
inductive PairState where
  | joined | solo | resync | awaiting
deriving DecidableEq, Repr

/-- Kinds of claim request (R240, Table PAI-4). -/
inductive ClaimKind where
  | takeover | failback | reclaim | join | yield | query | drain
deriving DecidableEq, Repr

/-- A request of this device to its witness that has no GRANT or ANSWER yet, or that was answered without a grant and will be renewed (R242).
`next` is the time of the next resend or of the new request. -/
structure ClaimOut where
  kind : ClaimKind
  scope : Nat
  chamber : Nat
  number : Nat
  next : Nat
  answered : Bool := false
deriving DecidableEq, Repr

/-- A grant of a TAKEOVER waiting for LEASE to pass (R242). -/
structure TakeoverWait where
  claim : Nat
  applyAt : Nat
deriving DecidableEq, Repr

/-- A drain that this device runs as custodian (R251, R252). `number` answers the twin's DRAIN, none for HANDOVER. -/
structure Drain where
  scope : Nat
  chamber : Nat
  number : Option Nat
  began : Nat
  /-- reached the drain point at this time -/
  reached : Option Nat := none
deriving DecidableEq, Repr

/-- What the twin's last STATUS said (R238, Table PAI-3). -/
structure TwinStatus where
  state : Nat
  stale : Bool
  yielded : Bool
  impairment : Nat
  claim : Nat
  marks : Bool
deriving DecidableEq, Repr

/-- Custody as a twin (R230 to R255). `pairClaim`, `ownClaim` and `stale` are kept in the Vault (R231, R247). `halted` names a time since which
admission is stopped because of a higher claim or a refused mirror frame (R233, R239). `marks` holds the marked regions, keyed by cell ×
2^40 + chamber × 2^22 + region, `pull` the pull list under the same keys with the pages concerned, `wholePull` the cells with the flag (R246, R248). -/
structure CusPart where
  witness : Option Nat := none
  pairClaim : Nat := 0
  ownClaim : Nat := 0
  state : PairState := .joined
  stale : Bool := false
  /-- this twin runs the pair since a TAKEOVER grant, until the JOIN grant (R245, R250) -/
  solo : Bool := false
  /-- more than one grant has been missed: no Mirrored chamber is held until the twin's records are taken (R242) -/
  lost : Bool := false
  yieldedAt : Option Nat := none
  leaseEnd : Nat := 0
  leaseLive : Bool := false
  /-- the impairments of this device and its twin at its last yield (R244) -/
  lapsed : Option (Nat × Nat) := none
  lastImp : Nat := 0
  /-- when the twin's last YIELD arrived (R131, R243) -/
  twinYield : Option Nat := none
  /-- the twin names another witness (R234) -/
  witnessBad : Bool := false
  /-- scope of a FAILBACK that is wanted after a drain (R251) -/
  failback : Option Nat := none
  heardTwin : Nat := 0
  heardWitness : Nat := 0
  twinSuspect : Bool := false
  witSuspect : Bool := false
  nextBeat : Nat := 0
  nextStatus : Nat := 0
  halted : Option Nat := none
  out : Option ClaimOut := none
  nextNumber : Nat := 0
  takeover : Option TakeoverWait := none
  drain : Option Drain := none
  /-- a DRAIN sent to the twin: scope, number -/
  drainOut : Option (Nat × Nat) := none
  joinedSince : Nat := 0
  twin : Option TwinStatus := none
  settled : Bool := false
  /-- at the last formation this device's records were the ones kept (R254, R255) -/
  keeps : Bool := false
  /-- COLD_S has passed since formation began without an outcome (R255) -/
  coldOver : Bool := false
  formStart : Nat := 0
  marks : NMap Nat := []
  pull : NMap (List Nat) := []
  wholePull : List Nat := []
  /-- the regions copied so far for a cell with the flag -/
  wholeGot : NMap (List Nat) := []
  metaChm : List Nat := []
  metaKeys : List Nat := []
  sent : Nat := 0
  /-- resync copies in flight, keyed as marks -/
  copying : NMap Nat := []
  /-- when the share of the twin links lets the next copy leave (R249) -/
  nextCopy : Nat := 0
  /-- compare pass: next page key and time of the next pass -/
  comparing : Option Nat := none
  nextCompare : Nat := 0
  /-- pages compared with poisoned lines: 0 until the twin has asked for the page, 1 while their repairs are awaited (R254) -/
  again : NMap Nat := []
  /-- last custodian timestamp given by each home cell, and last applied from the twin (R71, R78) -/
  lastTs : NMap Nat := []
  /-- the last timestamp that each home cell has sent on its mirror connection (R71) -/
  sentTs : NMap Nat := []
  appliedTs : NMap Nat := []
  /-- pages whose later mirror writes are discarded until resync has copied them (R131) -/
  dropPages : NMap Nat := []
deriving DecidableEq, Repr

/-- The last grant of a witness record (R236). -/
structure LastGrant where
  kind : Nat
  scope : Nat
  chamber : Nat
  grantee : Nat
  number : Nat
deriving DecidableEq, Repr

/-- A TAKEOVER that the witness holds (R241). -/
structure HeldTakeover where
  requester : Nat
  number : Nat
  since : Nat
  cSeen : Nat
deriving DecidableEq, Repr

/-- A pair that this device watches (R236 to R241): the record of the Vault when it exists, yield times of the even and odd twin, the held
TAKEOVER, what each twin's STATUS said before the record existed, when each twin was last heard and the suspicion of each. -/
structure Watch where
  pair : Nat
  valid : Bool := false
  cw : Nat := 0
  solo : Bool := false
  stale : Nat := 0
  last : LastGrant := ⟨0, 0, 0, 0, 0⟩
  yieldEven : Option Nat := none
  yieldOdd : Option Nat := none
  held : Option HeldTakeover := none
  statEven : Option TwinStatus := none
  statOdd : Option TwinStatus := none
  heardEven : Nat := 0
  heardOdd : Nat := 0
  suspEven : Bool := false
  suspOdd : Bool := false
deriving DecidableEq, Repr

/-- Repairs and seal checks outstanding at this device (R215, R217): a line or page requested from the twin, whether a write has touched it since, and
the deadline. -/
structure Repair where
  whole : Bool
  touched : Bool
  deadline : Nat
  isSeal : Bool := false
deriving DecidableEq, Repr

/-- Snapshot states (R277, R297). -/
inductive SnapState where
  | pending | retained | releasing
deriving DecidableEq, Repr

/-- A snapshot (R274 to R278): the set, T, how it was cut, the chambers it covers, and for each page preserved before its first later write the
bytes of the page that differ from zero, its poisoned lines and whether it lies in a staging frame (else as retained T2 sectors). -/
structure SnapPage where
  bytes : List (Nat × Byte)
  poison : List Nat
  staging : Bool
  /-- the staging frame that holds it (R148) -/
  slot : Nat := 0
  /-- when it was preserved, and whether its staging frame is on its way to T2 -/
  at_ : Nat := 0
  moving : Bool := false
  /-- its retained sectors and their location -/
  held : Option (Nat × Nat) := none
  /-- the key slot under which those sectors are encrypted (R318) -/
  key : Nat := 0
deriving DecidableEq, Repr

/-- A snapshot of a set (R274 to R278). -/
structure Snap where
  state : SnapState
  set : Nat
  time : Nat
  byMessage : Bool
  chambers : List Nat
  /-- its record number (TIME_SNAP_SEL) -/
  rec_ : Nat := 0
  pages : NMap SnapPage := []
deriving DecidableEq, Repr

end Sys2Proof.Machine
end

