-- ==== Sys2Proof/Machine/Parts/Fabric.lean ====
section
/-!
DEFINITION. State of the fabric: the declared topology, the link-state database, pair routes, host attachments and flowlets (spec/06_federation_fabric.md).
-/
namespace Sys2Proof.Machine
open Sys2Proof

/-- A declared link: two (ordinal, port) ends of one role (R108). -/
structure TopoLink where
  a : Nat
  ap : Nat
  b : Nat
  bp : Nat
  role : Nat
deriving DecidableEq, Repr

/-- The TOPOLOGY section (R108): the member count of each group, the links, and the first 4 bytes of its digest (R117). -/
structure Topo where
  groups : List Nat := [1]
  links : List TopoLink := []
  digest : Nat := 0
deriving DecidableEq, Repr

/-- A LINK STATE record (R119, Table FAB-6): sequence, the state codes of ports 0 to 255 (2 bits each, port p at bit 2p), and when it was accepted. -/
structure LsRec where
  seq : Nat
  states : Nat
  at_ : Nat
deriving DecidableEq, Repr

/-- A pair-route entry (R123). -/
structure PairRoute where
  valid : Bool
  holder : Nat
  claim : Nat
  seq : Nat
  at_ : Nat
deriving DecidableEq, Repr

/-- A flowlet entry (R114): the flow's key, the port it holds and its last frame. -/
structure Flowlet where
  key : Nat
  port : Nat
  last : Nat
deriving DecidableEq, Repr

/-- The fabric part. `hosts` is the host attachment table by address: port and last refresh (R111). -/
structure FabPart where
  topo : Topo := {}
  db : NMap LsRec := []
  lsSeq : Nat := 0
  nextLs : Nat := 0
  convFrom : Option Nat := none
  converged : Bool := false
  pairs : NMap PairRoute := []
  annSeq : Nat := 0
  nextAnn : Nat := 0
  hosts : NMap (Nat × Nat) := []
  flowlets : NMap Flowlet := []
deriving DecidableEq, Repr

end Sys2Proof.Machine
end

