-- ==== Sys2Proof/Machine/Parts/Faults.lean ====
section
/-!
DEFINITION. State of the fault hub, the Flowstone log and the test functions (spec/17_faults_and_events.md).
-/
namespace Sys2Proof.Machine
open Sys2Proof

/-- One error as a unit reports it (R363, R368): its class, its cause of Table FLT-2, and the fields that a capture and a record keep.
`sev` is the severity the raising rule names, none for the default of Table FLT-1. -/
structure FaultEvt where
  cls : Nat
  cause : Nat
  unit : Nat
  requester : Nat := 0xFFFE
  reqCell : Nat := 0
  access : Nat := 0
  addr : Nat := 0
  sev : Option Nat := none
  detail : List Nat := []
deriving DecidableEq, Repr

/-- A first-error capture (R368, R370). `at_` is the cycle of its error. -/
structure Capture where
  cls : Nat
  cause : Nat
  unit : Nat
  requester : Nat
  reqCell : Nat
  access : Nat
  addr : Nat
  time : Nat
  merged : Nat
  at_ : Nat := 0
deriving DecidableEq, Repr

/-- A Flowstone record (R374, Table FLT-6); class 7 is a record that is no fault. `lost` marks a record whose slot lies in an uncorrectable T1 line (R376). -/
structure LogRec where
  seq : Nat
  time : Nat
  sev : Nat
  cls : Nat
  cause : Nat
  unit : Nat
  requester : Nat
  reqCell : Nat
  access : Nat
  merged : Bool
  addr : Nat
  detail : List Nat
deriving DecidableEq, Repr

/-- The fault hub (R363 to R373). `fences` gives each fenced cell the cause of its fence, `courses` each fenced course. -/
structure FaultPart where
  /-- class status bits C0 to C4, bit i for Ci (FLT_STATUS) -/
  bits : BitVec 5 := 0
  first : Option Capture := none
  cellFirst : NMap Capture := []
  /-- the captured errors of the latest cycle that had one (R369, R371) -/
  cycle : List Capture := []
  /-- the copy of the capture in the Vault (R372) -/
  halt : Option Capture := none
  /-- cause and unit of a C4 that stopped every clock, in the bootstrap latch (R367) -/
  latch : Option (Nat × Nat × Nat) := none
  fences : NMap Nat := []
  courses : NMap Nat := []
  /-- media dies that failed since the start, as cell × 16 + die (Table FLT-3), and clock domains that have lost lock (R24) -/
  dies : List Nat := []
  unlocked : List Nat := []
  /-- hub functions whose failure raised C3 (R12, Table REG-4) -/
  hubFailed : List Nat := []
  /-- the unit of a release in progress (FLT_UNFENCE_STATUS.BUSY) -/
  unfencing : Option Nat := none
  unfenceResult : Nat := 0
  /-- the device is HALTED by a C4, which only power-on ends (R367) -/
  grave : Bool := false
deriving DecidableEq, Repr

/-- The Vault journal of S3 records (R378, R379): records oldest first, the number programmed so far, the background erase and the waiting records. -/
structure JournalPart where
  recs : List LogRec := []
  programmed : Nat := 0
  erasing : Bool := false
  nextErased : Bool := false
  waiting : List LogRec := []
  /-- S3 records programmed and dropped within step 9 of a flush (R379) -/
  flushDropped : Nat := 0
deriving DecidableEq, Repr

/-- The Flowstone log (R374 to R379): held records by slot, and the count of sequence numbers given since the start. -/
structure LogPart where
  held : NMap LogRec := []
  next : Nat := 0
  jrn : JournalPart := {}
deriving DecidableEq, Repr

/-- An armed bit flip (R380): target, cell, half, symbols, first symbol, bits and address. -/
structure Injection where
  target : Nat
  cell : Nat
  half : Nat
  symbols : Nat
  firstSym : Nat
  bits : Nat
  addr : Nat
deriving DecidableEq, Repr

/-- A frame held for reordering in PROVING (R382): the frame, its PCP, how many later frames of its PCP have passed, and since when. -/
structure HeldFrame where
  frame : DataFrame
  pcp : Nat
  passed : Nat
  since : Nat
deriving DecidableEq, Repr

/-- Fault injection and link proving (R380 to R383). -/
structure TestPart where
  /-- the TEST_MODE fuse -/
  testMode : Bool := false
  /-- TST_PERMIT, set only from the image register list -/
  permit : Nat := 0
  inject : List Injection := []
  /-- port in PROVING and the time of entry -/
  proving : Option Nat := none
  entered : Nat := 0
  limitS : Nat := 16
  seed : Nat := 1
  lastPort : Nat := 0
  refused : Bool := false
  ended : Nat := 0
  /-- draws made from the generator since entry -/
  draws : Nat := 0
  held : List HeldFrame := []
deriving DecidableEq, Repr

end Sys2Proof.Machine
end

