-- ==== Sys2Proof/Machine/Parts/Memory.lean ====
section
/-!
DEFINITION. State of the HBM channels (spec/10_dram_tier.md) and of the media channels (spec/09_media.md).
-/
namespace Sys2Proof.Machine
open Sys2Proof

/-- HBM channel states (HBM_STATUS.STATE). -/
inductive HbmState where
  | offline | training | online | selfRefresh | failed
deriving DecidableEq, Repr

/-- A correctable-error entry (R209). -/
structure CeEnt where
  la : Nat
  kind : Nat
  lane : Nat
  count : Nat
  first : Nat
  last : Nat
deriving DecidableEq, Repr

/-- A throttle of the throttle table (R222, R223): a row of a bank, or a requester, its next admission time. -/
structure Throttle where
  requester : Option Nat
  bank : Nat
  row : Nat
  next : Nat
deriving DecidableEq, Repr

/-- An HBM channel (R205 to R229). `ce` is the correctable-error table by entry. `trk` counts activations per row, keyed by bank × 2^20 + row (R221); `retired` maps a retired 4 KiB frame to
whether it persists (R226); `scrubNext` is when the patrol scrub reads its next line (R218); `ppr` lists queued row repairs as bank and row (R228); `spares` counts spare rows used per bank. -/
structure Hbm where
  st : HbmState := .offline
  cause : Nat := 0
  refresh2x : Bool := false
  temp : Nat := 0
  coolSince : Option Nat := none
  tempBad : Bool := false
  ce : NMap CeEnt := []
  ue : Option (Nat × Nat × Nat × Nat) := none
  ueTimes : List Nat := []
  scrubPos : Nat := 0
  scrubNext : Nat := 0
  trk : NMap Nat := []
  throttles : List Throttle := []
  windowEnd : Nat := 0
  retired : NMap Bool := []
  ppr : List (Nat × Nat) := []
  /-- rows repaired, of which a frame needs all before the firmware releases it (R228) -/
  fixed : List (Nat × Nat) := []
  spares : NMap Nat := []
  /-- retirement interface -/
  busy : Bool := false
  overrun : Bool := false
  lastOp : Nat := 0
  result : Nat := 0
  /-- a frame move in progress: the frame, whether it persists, and its deadline -/
  moving : Option (Nat × Bool × Nat) := none
  /-- the retirement in progress is the firmware's, which queues the rows for repair (R225) -/
  byPolicy : Bool := false
deriving DecidableEq, Repr

/-- Media channel states (MED_STATUS). -/
inductive MedState where
  | offline | online | rebuilding | formatting
deriving DecidableEq, Repr

/-- Superblock states (R175, R187 to R199, MED_BLOCK_INFO). -/
inductive SbState where
  | free | open_ | closed | erasing | sump | spare | retired
deriving DecidableEq, Repr

/-- A superblock (R175, R187 to R199): when it closed, whether it is marked for refresh, since when its refresh or its erase is queued, the dies that hold its blocks, those that have
erased them, and the map pages changed by its relocation that are not yet written (R193). -/
structure Superblock where
  st : SbState := .free
  closedAt : Nat := 0
  refresh : Bool := false
  since : Nat := 0
  dies : Nat := 0xFFFF
  erased : List Nat := []
  waitMap : List Nat := []
deriving DecidableEq, Repr

/-- What a run of sectors in a stream is (R183, R187, R188). -/
inductive EntKind where
  /-- a destaged page with the lines it covers; `reseal` rewrites an unchanged page (R217) -/
  | destage (reseal : Bool)
  /-- a page relocated from a location, for garbage collection, refresh, rebuild or a static move -/
  | relocate (old : Nat)
  /-- a map page, and one relocated from a location -/
  | map
  | mapMove (old : Nat)
  /-- a piece of a root checkpoint, the last of which completes it (R182) -/
  | root (last : Bool)
  /-- a page of a snapshot: from its staging frame, or relocated from a location (R192, R275) -/
  | snap (act : Nat) (old : Option Nat)
deriving DecidableEq, Repr

/-- Sectors appended to a stream: their page (or map page), count, form, key slot, the lines of the page poisoned at the time, and when they were appended. -/
structure StreamEnt where
  kind : EntKind
  key : Nat
  sectors : Nat
  raw : Bool := false
  slot : Nat := 0
  pois : List Nat := []
  since : Nat := 0
deriving DecidableEq, Repr

/-- A write stream (R187 to R189): its open superblock, the passes each die has programmed in it, the rows that each die's verify reads have checked, the unreleased stripe rows from row
`base` on, the row before which the superblock ends when a row has been abandoned, and what is appended but not yet in a row. -/
structure Stream where
  sb : Option Nat := none
  passes : NMap Nat := []
  checked : NMap Nat := []
  ends : Option Nat := none
  base : Nat := 0
  rows : List (List StreamEnt) := []
  filling : List StreamEnt := []
deriving DecidableEq, Repr

/-- An operation granted to a die (R191). Streams: 0 destage, 1 relocation, 2 map. -/
inductive MedOp where
  | promo (page : Nat)
  | program (stream : Nat)
  /-- the verify read of a die's next closed word line of a stream (R188) -/
  | readBack (stream : Nat)
  /-- the load of a map page (R181) -/
  | mapLoad (mp : Nat)
  /-- the erase of a die's blocks of a superblock, or of a sump set -/
  | erase (sb : Nat)
  | eraseSump (set1 : Bool)
  /-- the read of a page to relocate out of a superblock -/
  | relocate (sb page : Nat)
  /-- a multi-plane read of the patrol scrub, at its position -/
  | scrub (pos : Nat)
  /-- the read of retained sectors of a snapshot's page to relocate them -/
  | relocSnap (sb act page : Nat)
  /-- the read of a map page to relocate it -/
  | relocMap (sb mp : Nat)
  /-- a read of a read-disturb check, at a page of its block (R198) -/
  | check (block page : Nat)
  /-- the second read of a page for a line to repair (R215) -/
  | repair (line : Nat)
  /-- the read of a page's T2 copy for a VERIFY with MEDIA (R295) -/
  | verify (page : Nat)
  /-- the read of a page's T2 copy for a compare pass (R253) -/
  | compare (page : Nat)
deriving DecidableEq, Repr

/-- A die's operation: suspended, and how often it has been. -/
structure DieRun where
  op : MedOp
  suspended : Bool := false
  suspends : Nat := 0
deriving DecidableEq, Repr

/-- A media channel (R174 to R204). Blocks are keyed (die × 4 + plane) × 2,048 + index: `pe` and `reads` by physical block, `remap` (slot to physical index) and
`gone` (0 absent, 1 retired) by slot. `bad` are blocks recorded for retirement at the next reclamation. `identity` is what the dies carry and `vaultId`
what the Vault holds, 0 for none. `mapDirty` gives each changed map page (chamber × 2^17 + k) the time of its first change; `serial` numbers the locations. -/
structure Media where
  st : MedState := .offline
  cause : Nat := 0
  diesIn : Nat := 0xFFFF
  rejected : Bool := false
  sbs : NMap Superblock := []
  pe : NMap Nat := []
  reads : NMap Nat := []
  remap : NMap Nat := []
  gone : NMap Nat := []
  bad : List Nat := []
  identity : Nat := 0
  vaultId : Nat := 0
  streams : NMap Stream := []
  running : NMap DieRun := []
  mapDirty : NMap Nat := []
  /-- the changed lines of each changed map page, a bit for each of its 128 lines, until its write-back is released (R182) -/
  mapLines : NMap Nat := []
  rootAt : Nat := 0
  mapWrites : Nat := 0
  /-- the map root: the location of each map page on the media (R181) -/
  root : NMap Nat := []
  /-- the superblocks that hold the newest root checkpoint, and those that hold the pieces of one on its way (R182) -/
  rootSbs : List Nat := []
  rootNew : List Nat := []
  /-- the map cache: the map page that each frame of it holds with its reference bit, and its clock hand (R181) -/
  cache : NMap (Nat × Bool) := []
  hand : Nat := 0
  serial : Nat := 0
  /-- pages whose T2 copies a compare pass is to read, and since when (R253) -/
  compares : NMap Nat := []
  /-- the position the scrub pass reads next (superblock × 2^17 + die × 2^13 + page), and when the pass started -/
  scrub : Option Nat := none
  scrubStart : Nat := 0
  /-- the read count of a block that `reads` does not list (R198) -/
  readsBase : Nat := 0
  /-- what the last root checkpoint holds: the scrub's position and start, and the read counts (R196, R198) -/
  ckScrub : Option Nat := none
  ckStart : Nat := 0
  ckReads : NMap Nat := []
  ckBase : Nat := 0
  temps : List (Nat × Nat) := []
  timeouts : NMap Nat := []
  level6 : NMap (List Nat) := []
  /-- read-disturb checks queued, by block: since when, and the page that each reads next (R198) -/
  checks : NMap (Nat × Nat) := []
  rebuild : Option Nat := none
  rebuildAt : Nat := 0
  lastErr : Nat × Nat := (0, 0)
  full : Bool := false
  gcTurn : Bool := false
  move : Option Nat := none
  formatLeft : List Nat := []
  wearTold : Nat := 0
  /-- blocks retired, by die (R176), and how many of them were retired before the last format -/
  retired : NMap Nat := []
  retired0 : Nat := 0
  /-- the erases by formats of the blocks of superblocks 0 to 34 that `pe` does not list (R179) -/
  peBase : Nat := 0
deriving DecidableEq, Repr

end Sys2Proof.Machine
end

