-- ==== Sys2Proof/Machine/Parts/Transport.lean ====
section
/-!
DEFINITION. State of the transport's connections and of the requests in progress (spec/04_olisar_transport.md, spec/05_congestion.md,
spec/01_architecture.md R16, R18).
-/
namespace Sys2Proof.Machine
open Sys2Proof

/-- Data connection states (R76, Table OMT-10). -/
inductive ConnState where
  | free | connecting | ready | draining | error | quarantine
deriving DecidableEq, Repr

/-- What a connection serves (R65, R67, R77, R78, R385). -/
inductive Service where
  | data | mgmt | mirror | control
deriving DecidableEq, Repr

/-- A replay-table entry (R84): PSN, kind, status and, for an atomic, the original value. -/
structure Replay where
  psn : Nat
  kind : Nat
  status : Nat
  orig : Nat
deriving DecidableEq, Repr

/-- What a packet that the device sent as requester stands for. -/
inductive SentKind where
  /-- a mirror write of part `part` of request `req` -/
  | part (req part : Nat)
  /-- a resync copy of a page of a region -/
  | copy (chamber region : Nat)
  | hint (chamber page : Nat)
  | marker (chamber page : Nat)
  | commitMarker (cmd : Nat) (chamber page : Nat)
  | repair (chamber page line : Nat)
  | pageReq (chamber page : Nat)
  | mgmt
  | bulkCompletion (tag : Nat)
  | piece (cmd : Nat) (page : Nat)
deriving DecidableEq, Repr

/-- A packet of a request of the device that is not acknowledged (R82, R95): its PSN and the PSNs it takes (a READ takes those of its response packets), its BTH opcode and payload
bytes, what its request stands for and whether it is the request's last packet, the flags and timestamp of a mirror write, payload and PMH, the buffer that it holds a reference
to (R31), and whether it has left under the window (R98). -/
structure Sent where
  psn : Nat
  pkts : Nat
  opcode : Nat
  bytes : Nat
  kind : SentKind
  last : Bool
  hold : Bool
  persist : Bool
  ts : Nat
  data : List Byte
  pmh : Option (BitVec 64)
  buf : Option Nat := none
  left : Bool := false
deriving DecidableEq, Repr

/-- The delay-based window of a connection (R94 to R99). -/
structure Window where
  w : Nat := 0
  rtt : Nat := 0
  hops : Nat := 1
  additive : Bool := false
  /-- the sample in flight: its PSN, its send time on federation time, and on local time -/
  sample : Option (Nat × Nat × Nat) := none
  /-- when the last decrease took effect -/
  decreasedAt : Option Nat := none
  /-- when the last packet left, from which the pacer counts -/
  lastLeft : Option Nat := none
deriving DecidableEq, Repr

/-- A connection (R46, R67, R68, R76, R80 to R84). PSNs are below 2^24. As responder: `epsn`, `nakSent` (a sequence-error NAK since the last
expected packet), `coalesced` and `unackedAt` (R81), the replay table oldest first and its floor. As requester: `npsn`, the unacknowledged `sent`,
retries, the retransmit deadline and value, and the wait of an RNR NAK. -/
structure Conn where
  state : ConnState := .free
  gen : Nat := 0
  version : Nat := 0
  tenant : Nat := 0
  service : Service := .data
  remoteQpn : Nat := 0
  remoteOrd : Nat := 0
  addr : Nat := 0
  port : Nat := 0
  pmtu : Nat := 4096
  epsn : Nat := 0
  nakSent : Bool := false
  coalesced : Nat := 0
  unackedAt : Option Nat := none
  /-- the PSN up to which every request has reached its acknowledgement point (R81) -/
  ackPsn : Nat := 0
  /-- the chamber and the persist flag of the last request that reached its point unacknowledged, for the OXH of its acknowledgement (R70) -/
  ackChm : Option Nat := none
  ackPersist : Bool := false
  replay : List Replay := []
  floor : Option Nat := none
  npsn : Nat := 0
  sent : List Sent := []
  retries : Nat := 0
  rnrs : Nat := 0
  timer : Option Nat := none
  timerVal : Nat := 0
  rnrUntil : Option Nat := none
  win : Window := {}
  /-- end of the quarantine, or the deadline of a CONNECTING connection -/
  deadline : Nat := 0
  /-- free receive buffers of a management connection (R74) -/
  recvFree : Nat := 16
  /-- return ordinal (R111) -/
  ret : Nat := 0
  /-- expected sequence of a management connection (R386) and its HUB_UNIT_SEL (R411) -/
  mgmtSeq : Nat := 1
  unitSel : Nat := 0
deriving DecidableEq, Repr

/-- Kinds of request that the home cells execute: those of hosts, the twin's mirror writes, resync copies, compare markers and commit markers (R79), and the
loads, verifications and trims of bulk pieces (R294, R295). -/
inductive ReqKind where
  | write | read | cas | faa | commit | mirrorWrite | copy | marker | commitMark | load | verify | trim
deriving DecidableEq, Repr

/-- Where one page part of a request stands at its home cell (R16). Deadlines are local times. -/
inductive PartState where
  /-- held at the ingress cell, not yet sent to its home cell (R18) -/
  | ingress
  /-- arrived at its home cell, not yet executed -/
  | queued
  /-- waits for dirty space (R130), staging (R275), T2 credit (R159), each to a deadline -/
  | waitDirty (deadline : Nat)
  | waitStaging (deadline : Nat)
  | waitCredit (deadline : Nat)
  /-- waits for a promotion (R151, R153) -/
  | waitPromo
  /-- waits for a free frame (R154) -/
  | waitFrame
  /-- held by a snapshot cut window (R276) -/
  | waitHold
  /-- held by a row-disturbance throttle (R223) -/
  | waitThrottle (until_ : Nat)
  /-- applied at the home cell; for a mirrored write its mirror is unacknowledged, sent with this timestamp -/
  | mirrored (ts : Nat)
  /-- applied, its mirror refused with NOT_CUSTODIAN at this time (R233) -/
  | refused (since : Nat)
  /-- applied, waiting for program and verify in T2 (R73) -/
  | waitDestage
  /-- its lines are read, its T2 copy is not (R295) -/
  | waitVerify
  | done
  | failed (status : Nat)
deriving DecidableEq, Repr

/-- The part of a request that lies in one page. `lo` and `n` are the part's byte offset and length within the request. -/
structure Part where
  page : Nat
  cell : Nat
  lo : Nat
  n : Nat
  st : PartState
  /-- local time of arrival at the home cell, from which the waits of R131 count -/
  since : Nat
  ts : Nat
  /-- what a read part returned, and the poisoned lines it met -/
  got : List Byte := []
  bad : List Nat := []
  /-- its place in the order of arrival at the home cells (R16) -/
  arr : Nat := 0
  /-- the ends of its waits for dirty space (R130), staging (R275) and T2 credit (R159), which it keeps when it is tried again -/
  dirtyBy : Option Nat := none
  stageBy : Option Nat := none
  creditBy : Option Nat := none
deriving DecidableEq, Repr

/-- Where a request stands as a whole. -/
inductive ReqStage where
  /-- waits at its ingress cell for custody, to a deadline (R233, R239, R242, R251) -/
  | waitCustody (deadline : Nat)
  /-- waits at its ingress cell for a message cut (R278) -/
  | waitPause
  | issued
  /-- reached its acknowledgement point or failed, with its status; waits for its turn to be answered (R81) -/
  | over (status : Nat)
deriving DecidableEq, Repr

/-- A request in progress. `conn` is the connection's number cell × 1,024 + local index; `mark` lists the lines, as line keys,
that the PMHs of a write mark; `arg` holds the operands of an atomic; `orig` the original value of an atomic; `ready` when it reached its
acknowledgement point; `buf` the buffer it holds. -/
structure Req where
  id : Nat
  conn : Nat
  psn : Nat
  pkts : Nat
  kind : ReqKind
  ackReq : Bool
  persist : Bool
  keyIdx : Nat
  va : Nat
  chamber : Nat
  off : Nat
  len : Nat
  data : List Byte
  mark : List Nat
  arg : Nat × Nat
  errs : List LineErr
  hold : Bool := false
  stage : ReqStage
  parts : List Part
  orig : Nat := 0
  at_ : Nat
  ts : Nat
  buf : Option Nat := none
  /-- a PERSIST COMMIT whose earlier writes have reached their point, so that its pages are known (R73) -/
  expanded : Bool := false
  /-- no answer leaves for it: a request behind one refused BUSY, or of a connection that has ended -/
  silent : Bool := false
  /-- a read executed again for a duplicate (R83) -/
  dup : Bool := false
  /-- a piece of a bulk command: the command, the offset of the piece in its range, and its phase, 0 reading a source, 1 acting on the target, 2 waiting for the
  medium (R288) -/
  bulk : Option (Nat × Nat × Nat) := none
deriving DecidableEq, Repr

end Sys2Proof.Machine
end

