-- ==== Sys2Proof/Machine/Parts/Out.lean ====
section
/-!
DEFINITION. What leaves the device: the frames and answers that commands make it send, in the order in which they leave.
-/
namespace Sys2Proof.Machine
open Sys2Proof

/-- What Ethernet and IPv6 say of a frame that leaves (R91, R101, R109): its port, PCP, MAC addresses, IPv6 addresses, hop limit and ECN field. -/
structure Wire where
  port : Nat
  pcp : Nat
  smac : Nat
  dmac : Nat
  src : Nat
  dst : Nat
  hopLimit : Nat
  ecn : Nat := 0
deriving DecidableEq, Repr

/-- What the BTH and the OXH of a frame of this device carry (R69, R70): its connection (cell × 1,024 + local index), the partner's QPN, opcode, PSN, AckReq and OXH. -/
structure FrameHdr where
  wire : Wire
  conn : Nat
  qpn : Nat
  opcode : Nat
  psn : Nat
  ackReq : Bool
  oxh : Option Oxh
deriving DecidableEq, Repr

/-- What leaves the device. -/
inductive Out where
  /-- an Acknowledge, syndrome 0x1F (R81) -/
  | ack (h : FrameHdr)
  /-- one read response packet with its payload and, where it has poison, its PMH (R88, R90) -/
  | readData (h : FrameHdr) (bytes : List Byte) (pmh : Option (BitVec 64))
  | atomicAck (h : FrameHdr) (orig : Nat)
  /-- a standard NAK or RNR NAK with its AETH syndrome (R86) -/
  | nak (h : FrameHdr) (syndrome : Nat)
  | statusNak (h : FrameHdr) (syndrome status detail : Nat)
  /-- a BULK COMPLETION with its payload of 32 bytes (Table BLK-3) -/
  | completion (h : FrameHdr) (payload : List Byte)
  /-- one packet of a request of this device on a connection (R78, R82): what it stands for, payload and PMH -/
  | request (h : FrameHdr) (kind : SentKind) (data : List Byte) (pmh : Option (BitVec 64))
  /-- a control frame on connection index 0 with its OXH and payload bytes; a HEARTBEAT asks for an acknowledgement (R116, R232, R237, Table OMT-7). Or another message of PCP 7 on a port, with
  its fields -/
  | control (w : Wire) (oxh : Option Oxh) (opcode : Nat) (fields : List Nat)
  /-- a connection-manager message: its kind, the QPN it answers, its fields and the first bytes of its private data (R66, R67) -/
  | cm (w : Wire) (kind qpn : Nat) (fields : List Nat) (priv : List Byte)
  /-- a forwarded frame, as it leaves: the frame, whether it carries a carrier OXH, and its OXH fields STAGE, HOP_COUNT, SRC_ORDINAL and TIMESTAMP (R112) -/
  | forwarded (w : Wire) (frame : FwdFrame) (carrier : Bool) (stage hops srcOrd time : Nat)
  /-- any other message: its protocol number, the port or peer it goes to, and its fields in order -/
  | ctrl (opcode dest : Nat) (fields : List Nat)
deriving DecidableEq, Repr

end Sys2Proof.Machine
end

