-- ==== Sys2Proof/Machine/Parts/Ports.lean ====
section
/-!
DEFINITION. State of the ports: pause, fences, links, identity, doze (spec/05_congestion.md, spec/06_federation_fabric.md, spec/16_power.md).
-/
namespace Sys2Proof.Machine
open Sys2Proof

/-- Link states of a port (R107, R117 to R119). -/
inductive LinkState where
  | down | training | up
deriving DecidableEq, Repr

/-- Doze states of a fabric port (R359 to R361). -/
inductive DozeState where
  | active | requested | entering | doze | exiting
deriving DecidableEq, Repr

/-- Doze of a port: sequence number, deadline, idle time, a latched wake, and whether a frame has been received that wakes it (R361). -/
structure Doze where
  st : DozeState := .active
  seq : Nat := 0
  deadline : Nat := 0
  idleSince : Nat := 0
  latched : Bool := false
  woken : Bool := false
deriving DecidableEq, Repr

/-- A frame waiting at a port's egress (R54, R93, R106): its PCP, size, when it arrived in the device, the frame, and the buffer that it holds a reference to (R31, R104). -/
structure Egress where
  pcp : Nat
  bytes : Nat
  since : Nat
  frame : Out
  buf : Option Nat := none
deriving DecidableEq, Repr

/-- A port (R102 to R120). `rx` holds, for each PCP the partner pauses, the end of the pause and when it began without a break; `xoff`, for each group
the device holds, the time since which and of the next refresh. `fence` is cause and class of PORT_FENCE. -/
structure Port where
  link : LinkState := .down
  rx : NMap (Nat × Nat) := []
  xoff : NMap (Nat × Nat) := []
  fence : Option (Nat × Nat) := none
  rateGbps : Nat := 800
  passed : Bool := false
  lastHello : Nat := 0
  nextHello : Nat := 0
  retryAt : Option Nat := none
  mismatch : Option (Nat × Nat) := none
  episode : Bool := false
  queue : List Egress := []
  bucket : Int := 65536
  bucketAt : Nat := 0
  doze : Doze := {}
  pauseFrom : Option Nat := none
  deficit : NMap Nat := []
  /-- frames that failed check 1 of Table OMT-8 (R75), which no register shows -/
  badFrames : Nat := 0
deriving DecidableEq, Repr

end Sys2Proof.Machine
end

