-- ==== Sys2Proof/Machine/Parts/Power.lean ====
section
/-!
DEFINITION. State of the power supervisor and of the start order (spec/16_power.md, spec/15_startup.md, spec/20_electrical.md).
-/
namespace Sys2Proof.Machine
open Sys2Proof

/-- Device states (R354, Table PWR-2), in the order of PWR_STATE_STATUS.STATE. -/
inductive DevState where
  | off | starting | service | quiet | dormant | flushing | halted
deriving DecidableEq, Repr

/-- Rail states (R347, R348, R351). -/
inductive RailState where
  | off | up | failed | skipped
deriving DecidableEq, Repr

/-- A supervised rail (R346 to R352): its state, the cause of its failure (PWR_RAIL_INFO.CAUSE), the voltage and power last measured, the crossings shorter than its
filter, and since when it is enabled and rising. -/
structure Rail where
  st : RailState := .off
  cause : Nat := 0
  mv : Nat := 0
  mw : Nat := 0
  glitches : Nat := 0
  enabledAt : Option Nat := none
deriving DecidableEq, Repr

/-- An entry or exit in progress (R354 to R356): where it leads and by when it is complete. -/
structure Move where
  entry : Bool
  target : DevState
  began : Nat
  due : Nat
deriving DecidableEq, Repr

/-- The power supervisor (R132, R133, R346 to R358). `latched` is the request acted on when the entry or exit in progress has completed. `upStep` is the next step of
Timing PWR-1 and `upFrom` the time it counts from, first power good and then the end of the stagger; `down` is the next group of Timing PWR-2. `downFail` holds the rails that did
not fall, a bit each, as the Vault keeps them (R352). `powerFailN` and `resetN` are the recognised levels of the pins; `gated` the cells without a clock, `wakeFirst` those that wake
before all others, `lastWake` when a cell of each course last began to wake. -/
structure PwrPart where
  state : DevState := .starting
  move : Option Move := none
  latched : Option DevState := none
  maint : Bool := false
  rails : NMap Rail := []
  upStep : Nat := 0
  upFrom : Nat := 0
  upping : Bool := false
  down : Nat := 0
  /-- when the group of a power-down that is falling was switched off (R352) -/
  downAt : Nat := 0
  downFail : Nat := 0
  inputMv : Nat := 0
  inputGood : Bool := false
  powerFailN : Bool := true
  resetN : Bool := true
  /-- a warm reset asked for while the flush runs (R418) -/
  resetWanted : Bool := false
  gated : List Nat := []
  wakeFirst : List Nat := []
  lastWake : NMap Nat := []
deriving DecidableEq, Repr

/-- The identity that the image in use gives the device (R10, R234, R330): its ordinal, its witness, and the number of devices of the federation
and of its group. -/
structure Ident where
  ordinal : Nat := 0
  witness : Option Nat := none
  devices : Nat := 1
  group : Nat := 1
deriving DecidableEq, Repr

/-- What the loader found in a copy of the image at this start (R334, LDR_COPY_STATUS, LDR_COPY_SEQ). -/
structure CopyInfo where
  valid : Bool := false
  read : Bool := false
  cause : Nat := 0
  seq : Nat := 0
deriving DecidableEq, Repr

/-- The start order and the image (R326 to R345). `step` is LDR_STATUS.STEP, 15 once service has opened; `stepAt` when it began, `stepEnds` when each ended, `trigger` the time of the
trigger. The Vault keeps `startCount`, `token` (the format token, R345), `vaultSlot` and `vaultStagger` (R339, in 10 ms) and `posted`. -/
structure LdrPart where
  step : Nat := 1
  stepAt : Nat := 0
  stepEnds : NMap Nat := []
  trigger : Nat := 0
  /-- end of the stagger, once it runs (R339) -/
  staggerEnd : Option Nat := none
  slot : Nat := 0
  ident : Ident := {}
  imageLoaded : Bool := false
  copyA : CopyInfo := {}
  copyB : CopyInfo := {}
  /-- copy B is in use -/
  useB : Bool := false
  version : Nat := 0
  cause : Nat := 0
  divergent : Bool := false
  moduleWritten : Bool := false
  /-- versions of the hub policy and MKA firmware blobs of the image in use -/
  fw : Nat × Nat := (0, 0)
  /-- the vendor hash that the image in use revokes (R322) -/
  revokes : Option Nat := none
  retryAt : Option Nat := none
  rereadAt : Nat := 0
  /-- the start slot that the identity record names (R339) -/
  idSlot : Nat := 0
  /-- the format token to take when this start formats the device (R345) -/
  format : Option Nat := none
  formatted : Bool := false
  /-- the replay or format has ended (step 5) -/
  replayed : Bool := false
  /-- since when this device is group leader after its step 9, whether its wait has been told, and whether the group is complete (R341) -/
  leaderTold : Bool := false
  complete : Bool := false
  /-- slot posted by a START_SLOT entry (R339) -/
  posted : Option Nat := none
  /-- delay in ms of the COORD_RESTART that is flushing the device, and when it ends (R338) -/
  restartMs : Nat := 0
  delayUntil : Option Nat := none
  startCount : Nat := 0
  token : Nat := 0
  vaultSlot : Option Nat := none
  vaultStagger : Nat := 20
deriving DecidableEq, Repr

end Sys2Proof.Machine
end

