-- ==== Sys2Proof/Machine/Parts/Security.lean ====
section
/-!
DEFINITION. State of the key store, the DRBG, the engine key caches, MKA, the fuses and the tamper detectors (spec/14_security.md).
-/
namespace Sys2Proof.Machine
open Sys2Proof

/-- Slot states of Table SEC-2; an EMPTY slot is not listed. -/
inductive SlotState where
  | live | retiring | linked
deriving DecidableEq, Repr

/-- A key-store slot (R303, R304): an XTS pair is listed under its even slot k and occupies k + 1 too. `mat` is the key material, for an XTS pair key 1 +
2^256 × key 2. `check` keeps the check value of a LINKED slot, whose material is erased. -/
structure KeySlot where
  state : SlotState := .live
  usage : Nat
  origin : Nat
  tenant : Nat
  mat : Nat
  check : Nat := 0
  link : Option Nat := none
deriving DecidableEq, Repr

/-- MKA on a port (R320): session live, key server, when the partner was last heard and the next hello is due, when the SAK in use was installed, the
number of SAKs installed (its parity names the slot in use), whether the older SAK still stands, and the next packet number expected under the SAK in use and
under the older one (R319). -/
structure Mka where
  live : Bool := false
  keyServer : Bool := false
  heard : Option Nat := none
  nextHello : Nat := 0
  sakAt : Nat := 0
  saks : Nat := 0
  oldKept : Bool := false
  rxNext : Nat := 1
  rxOld : Nat := 1
deriving DecidableEq, Repr

/-- The security part (R303 to R325). `owners` holds the programmed owner hashes (12 words each); `keyCache` and `fetching` the cached and fetched slots of each
cell, latest used first; `seeds` the last reseed of each cell's share generator; `ctrlOld` the CONTROL slot replaced by a rotation and the federation time until
which its tags are accepted (R317); `destroying` the slot of a DESTROY that waits until no request holds it (R312). -/
structure SecPart where
  slots : NMap KeySlot := []
  cleared : Bool := false
  clearAtHalt : Bool := false
  overrun : Bool := false
  lastOp : Nat := 0
  result : Nat := 0
  draws : Nat := 0
  requests : Nat := 0
  seededAt : Nat := 0
  stopped : Bool := false
  owners : NMap (List Nat) := []
  revoked : List Nat := []
  vendorRevoked : List Nat := []
  active : Nat := 0
  keyCache : NMap (List Nat) := []
  fetching : NMap (List Nat) := []
  seeds : NMap Nat := []
  nextSeed : Nat := 1000000
  engineStopped : List Nat := []
  mka : NMap Mka := []
  mediaEpoch : Nat := 0
  mediaErased : Bool := false
  tamper : Nat := 0
  ctrlOld : Option (Nat × Nat) := none
  destroying : Option Nat := none
deriving DecidableEq, Repr

end Sys2Proof.Machine
end

