-- ==== Sys2Proof/Machine/Parts/Tiers.lean ====
section
/-!
DEFINITION. State of the tiers, the Alcove, plans and quotas (spec/08_tiers.md), of dirty space, sump sets and the flush
(spec/07_persistence.md), and of the cells' pools and engine queues (spec/02_cell_resources.md). A page is keyed by chamber × 2^36 + page, a
line by page key × 128 + line.
-/
namespace Sys2Proof.Machine
open Sys2Proof

/-- Page frame states (R150, Table TIR-3); a FREE frame is not listed. -/
inductive FrameState where
  | loading | clean | modified
deriving DecidableEq, Repr

/-- A page frame of a cell's data area that belongs to a page (R149, R150): its place in the data area, or one past the last place while its promotion waits for a frame (R154), its modified lines (rising), when it was
first modified, its pins as plan × 2^32 + slot in the order taken, and its reference bit. `destaging` lists the lines a destage in progress
covers, with the number of the next request when it began (R125). `unreleased` marks lines programmed in a word-line group not yet closed (R188). -/
structure Frame where
  slot : Nat
  st : FrameState
  lines : List Nat := []
  firstMod : Nat := 0
  pins : List Nat := []
  ref : Bool := false
  destaging : Option (Nat × List Nat) := none
deriving DecidableEq, Repr

/-- Classes of promotion (R35, R151, R153). -/
inductive PromoClass where
  | demand | plan | hint
deriving DecidableEq, Repr

/-- A promotion in progress (R151, R152): its class and since when it stands in it, its deadline, whether its media read has started and the location that it reads, and the buffer that it
holds once the read is done (R26). -/
structure Promo where
  cls : PromoClass
  since : Nat := 0
  deadline : Nat
  started : Bool := false
  loc : Option Nat := none
  buf : Option Nat := none
  /-- the lost sectors once the media read is done, and whether the seal is compared (R216) -/
  readDone : Option (List Nat) := none
  compared : Bool := true
deriving DecidableEq, Repr

/-- Map entry of a page that T2 holds (spec/09_media.md, Table MED-3): TRIMMED, STORED with its sectors, its form, the XTS slot its sectors
were written under (R316, R318) and their location, or LOST. A location is a number of its own × 2,048 plus the superblock. A page not listed is NEVER. -/
inductive MapEnt where
  | trimmed
  | stored (sectors : Nat) (raw : Bool) (slot loc : Nat)
  | lost
deriving DecidableEq, Repr

/-- A merging-buffer entry (R163): its line, the mask of written bytes, the poison bit and when it opened. -/
structure MbEnt where
  line : Nat
  mask : Nat
  poison : Bool
  opened : Nat
deriving DecidableEq, Repr

/-- A way of an Alcove set (R160): the line it holds and its poison bit. -/
structure Way where
  tag : Nat
  poison : Bool
deriving DecidableEq, Repr

/-- The Alcove of a cell (R160 to R165): ways keyed by set × 16 + way, the round-robin pointer of each set, the merging buffer oldest first,
uncorrectable errors of the last 24 hours, and the disabled flag. -/
structure Alcove where
  ways : NMap Way := []
  ptr : NMap Nat := []
  mb : List MbEnt := []
  ueTimes : List Nat := []
  disabled : Bool := false
  lastKind : Nat := 0
  lastLine : Nat := 0
deriving DecidableEq, Repr

/-- Plan states (R166, R172, Table TIR-8). -/
inductive PlanState where
  | free | loading | running | done
deriving DecidableEq, Repr

/-- An entry of a plan (R166, R167): chamber, offset, length and the cause of its failure. -/
structure PlanEnt where
  chamber : Nat
  off : Nat
  len : Nat
  failed : Option Nat := none
  failedPage : Nat := 0
deriving DecidableEq, Repr

/-- A plan (R166 to R172): L in bytes, the cursor C, the consumed slots at or above any backward move, and the slots pinned now. -/
structure Plan where
  state : PlanState := .free
  tenant : Nat := 0
  entries : List PlanEnt := []
  count : Nat := 0
  key : Nat := 0
  va : Nat := 0
  look : Nat := 0
  cursor : Nat := 0
  consumed : List Nat := []
  pinned : List Nat := []
  tried : List Nat := []
deriving DecidableEq, Repr

/-- A write waiting for a T2 credit grant sits in its request; a cell's request for a unit is listed here with its deadline (R159). -/
structure CreditAsk where
  tenant : Nat
  cell : Nat
  deadline : Nat
deriving DecidableEq, Repr

/-- Tier state of the device (R148 to R173). `charge` is the T2 charge of a page in sectors (R158, R159), keyed by page; `credit` is T2 credit in
4 KiB sectors keyed by tenant × 256 + cell; `hand` the clock hand of each cell; `snapGib` the SNAP_GIB in force since the start (R148). -/
structure TierPart where
  frames : NMap Frame := []
  promos : NMap Promo := []
  /-- T2 copies being verified by a VERIFY with MEDIA (R295) -/
  verifs : NMap Promo := []
  map : NMap MapEnt := []
  /-- lines that T2 holds as poisoned, or that a loss has poisoned since their copy (R147), rising (R213) -/
  t2p : List Nat := []
  /-- pages whose map page is unreadable (R182) -/
  mapBad : List Nat := []
  /-- Volatile pages queued for destage by eviction (R154), and pages queued for a seal rewrite (R217) -/
  volQ : List Nat := []
  reseal : List Nat := []
  charge : NMap Nat := []
  credit : NMap Nat := []
  asks : List CreditAsk := []
  alc : NMap Alcove := []
  hand : NMap Nat := []
  snapGib : Nat := 16
  /-- 16 KiB frames that a retired 4 KiB frame took out of the data area, keyed by cell × 2^18 + T1 address / 16,384 (R149) -/
  gone : NMap Nat := []
  plans : NMap Plan := []
  planTurn : Nat := 0
  planRun : Option Nat := none
  planOverrun : Bool := false
  planLastOp : Nat := 0
  planResult : Nat := 0
  planDetail : Nat := 0
  urgent : NMap Nat := []
deriving DecidableEq, Repr

/-- Sump set states (R144, Table PER-4). -/
inductive SumpState where
  | armed | writing | holding | replaying | erasing
deriving DecidableEq, Repr

/-- A sump set of a cell (R136, R144, R145): start count and dirty count of its opening record, whether it was opened and closed, the lines
written, the lost-line records received from other cells, whether its cell's metadata can be read, the highest erase count and pending
replacements. `disregarded` marks a set that R140 disregards. -/
structure SumpSet where
  state : SumpState := .armed
  startCount : Nat := 0
  opened : Bool := false
  closed : Bool := false
  dirtyCount : Nat := 0
  lines : List Nat := []
  /-- the staging frames that it holds, by act and page, with the number of their lines, and the metadata lines that the opening found dirty -/
  staged : List (Nat × Nat × Nat) := []
  metaLines : Nat := 0
  /-- the lost-line records that it took from cells whose carrier failed (R140) -/
  received : List Nat := []
  refPages : List Nat := []
  disregarded : Bool := false
  /-- pages of this set that cannot be decoded: their lines (R146) -/
  unreadable : List Nat := []
  metaUnreadable : Bool := false
  /-- the dies that have erased their blocks of the set, while it is ERASING -/
  erased : List Nat := []
  maxPE : Nat := 0
  pendingRepl : Nat := 0
deriving DecidableEq, Repr

/-- Why the device flushes, as word 3 of PWR_FLUSH_RECORD names it, and how the flush was started (R134, R135, R366, R418). -/
inductive FlushKind where
  | powerFail | undervoltage | severe | warmReset | tamper | restart
deriving DecidableEq, Repr

/-- A flush in progress (R135): its kind, the federation time and local time of the fall, whether it may restart by R139, and the lost-line
count of R140. -/
structure Flush where
  kind : FlushKind
  fall : Nat
  began : Nat
  railCells : List Nat := []
  lost : Nat := 0
  dirtyLines : Nat := 0
  maxCell : Nat := 0
deriving DecidableEq, Repr

/-- The persistence domain (R124 to R147). `dirtyCredit` is each cell's credit in lines (R129); `metaDirty` each cell's dirty metadata lines, the
model's own free value: the spec does not give the layout of metadata lines (R128). -/
structure PerPart where
  /-- the start count of the last service opening, in the Vault: the flush that a later start looks for (R141, R144) -/
  owed : Option Nat := none
  /-- the dirty lines as the last power loss or warm reset found them -/
  atLoss : List Nat := []
  dirtyCredit : NMap Nat := []
  metaDirty : NMap Nat := []
  creditAsks : List Nat := []
  sump : NMap (SumpSet × SumpSet) := []
  flush : Option Flush := none
  /-- the last flush record in the Vault, 8 words (R143) and the outcome shown by LAST_RESULT -/
  record : List Nat := []
  lastResult : Nat := 0
  /-- the cells that R140 covers in the last flush, whose metadata other cells hold -/
  railCells : List Nat := []
  recordFailed : Bool := false
  /-- a flush that the class of a fault asks for; it begins as the command that raised it ends -/
  falling : Option FlushKind := none
deriving DecidableEq, Repr

/-- A buffer of a pool that is held (R26, R31): who asked for it and its reference count. `leaked` marks a buffer of R32. Buffers are numbered cell × 1,024 + place, the places of
pools A to D following one another. -/
structure Buf where
  requester : Nat
  refs : Nat
  leaked : Bool := false
deriving DecidableEq, Repr

/-- Work in a cipher request queue (R35): a name for it, the key slot (4,096 for the internal media key of R316), its 1 KiB segments still to do,
whether a preemption for it was declined (R314), and the buffer that its data passes through (R26). -/
structure CiphWork where
  id : Nat
  slot : Nat
  segments : Nat
  declined : Bool := false
  buf : Option Nat := none
deriving DecidableEq, Repr

/-- What a pipe runs: the class, the grant number and the work. -/
structure PipeRun where
  cls : Nat
  seq : Nat
  work : CiphWork
deriving DecidableEq, Repr

/-- What a waiting internal requester goes on with (R30, R36): a cipher or compression request that found its FIFO full, or the agent that needs the buffer. -/
inductive WaitUse where
  | cipher (cls : Nat) (w : CiphWork)
  /-- a page for class 0 demand, 1 plan, 2 compression, and a page of the plan class that a demand is to move -/
  | comp (cls page : Nat)
  | raise (page : Nat)
  /-- a page read from its media channel (0x1001) -/
  | promotion (page : Nat)
  /-- a destage of the cell (0x1000) -/
  | destage
  /-- a read out of a superblock to relocate it, in a rebuild or not (0x1006, 0x1002), which has met these lost sectors -/
  | relocation (op : MedOp) (lost : List Nat)
  /-- the resync copies of a region from a page on (0x1007) -/
  | resync (chamber region page : Nat)
  /-- the next piece of a bulk command (0x1008) -/
  | piece (cmd : Nat)
deriving DecidableEq, Repr

/-- An internal requester that waits (R30, R36): the cell, its requester ID, the size it asks for and whether it may use the reserve, the back-off interval, when it
asks next, since when it has waited, and whether its notice has been raised. -/
structure BufWait where
  cell : Nat
  requester : Nat
  size : Nat
  reserve : Bool
  interval : Nat
  next : Nat
  since : Nat
  noticed : Bool
  use : WaitUse
deriving DecidableEq, Repr

/-- A cell's engine queues (R35, R36, R313, R314): three cipher FIFOs, the work on each pipe, the works that hold context slots, decompression
and compression FIFOs with the page each entry names, the busy directions, and the consecutive grants to higher classes. -/
structure Engines where
  dec : List CiphWork := []
  enc : List CiphWork := []
  mgt : List CiphWork := []
  pipes : NMap PipeRun := []
  grants : Nat := 0
  ctx : List Nat := []
  starve1 : Nat := 0
  starve2 : Nat := 0
  demand : List Nat := []
  plan : List Nat := []
  comp : List Nat := []
  decBusy : Option Nat := none
  compBusy : Option Nat := none
  starveD : Nat := 0
deriving DecidableEq, Repr

/-- Cell resources (R26 to R36): buffers by number, waiting internal requesters, and the engines of each cell. -/
structure ResPart where
  bufs : NMap Buf := []
  waits : List BufWait := []
  eng : NMap Engines := []
deriving DecidableEq, Repr

end Sys2Proof.Machine
end

