-- ==== Sys2Proof/Machine/Parts/Time.lean ====
section
/-!
DEFINITION. State of federation time, the calendar, acts, snapshots and commits (spec/12_time_and_global_ops.md).
-/
namespace Sys2Proof.Machine
open Sys2Proof

/-- Time states (R260). -/
inductive TimeState where
  | freerun | locking | locked | holdover | slewing | stepPending
deriving DecidableEq, Repr

/-- What an Announce says of its sender (R256, R258): clock class, ordinal and steps removed, when it came, and currentUtcOffset. -/
structure AnnInfo where
  cls : Nat
  ordinal : Nat
  steps : Nat
  at_ : Nat
  utc : Nat
deriving DecidableEq, Repr

/-- PPS input lock (R262): consecutive good edges, the local time of the last edge, and the phase error shown. -/
structure PpsPart where
  locked : Bool := false
  good : Nat := 0
  last : Option Nat := none
  badSince : Option Nat := none
  err : Int := 0
deriving DecidableEq, Repr

/-- Federation time (R256 to R264). Federation time is local time + `offset`, with what has been slewed of `rem` since `slewFrom` added.
`uBase` is the uncertainty at `uFrom`; `lastStamp` the last timestamp issued (R263); `vaultTime` the Vault's real-time record. -/
structure TimePart where
  st : TimeState := .freerun
  everSet : Bool := false
  offset : Int := 0
  rem : Int := 0
  slewFrom : Nat := 0
  stepPending : Int := 0
  uBase : Nat := 0
  uFrom : Nat := 0
  root : Nat := 0
  isRoot : Bool := false
  steps : Nat := 0
  slave : Option Nat := none
  good : Nat := 0
  lastSync : Nat := 0
  best : NMap AnnInfo := []
  pathDelay : NMap Nat := []
  delayT1 : NMap Nat := []
  syncT : NMap (Nat × Nat) := []
  utcOffset : Nat := 0
  vaultTime : Option Nat := none
  todPending : Option Nat := none
  todSec : Nat := 0
  lastSecond : Nat := 0
  lastStamp : Nat := 0
  ppsOut : Nat := 0
  pps : PpsPart := {}
  nextSync : Nat := 0
  nextDelay : Nat := 0
  /-- the time root election of the start order runs since this time (R258) -/
  electing : Option Nat := none
deriving DecidableEq, Repr

/-- Mode epoch, generation, grace and adoption (R281 to R283). Epoch and generation are kept in the Vault. -/
structure ModePart where
  epoch : Nat := 0
  gen : Nat := 0
  oldEpoch : Nat := 0
  graceEnd : Option Nat := none
  behind : Bool := false
  adopt : Option (Nat × Nat) := none
  adoptGen : Nat := 0
  answers : NMap (Nat × Nat) := []
  /-- a commit awaits its tick (HUB_COMMIT_STATUS.PENDING) -/
  commitPending : Bool := false
deriving DecidableEq, Repr

/-- States of a calendar entry (R268); a FREE entry is not listed. -/
inductive CalState where
  | posted | fired | cancelled
deriving DecidableEq, Repr

/-- A calendar entry (R266, Table TIM-3) with the order of its posting. -/
structure CalEnt where
  state : CalState
  kind : Nat
  flags : Nat
  act : Nat
  time : Nat
  arg : Nat
  order : Nat
deriving DecidableEq, Repr

/-- The calendar: its 64 entries, the count of posts accepted, the result of the last local post, and the ends of the scrub and doze windows in force, in federation
time (Table TIM-4). -/
structure CalPart where
  ents : NMap CalEnt := []
  orders : Nat := 0
  result : Nat := 0
  scrubEnd : Option Nat := none
  dozeEnd : Option Nat := none
deriving DecidableEq, Repr

/-- What a gather adds up (R270, Table TIM-7). -/
structure Gather where
  acc : Nat := 0
  refd : Nat := 0
  mask : Nat := 0
  maxU : Nat := 0
  first : Option Nat := none
deriving DecidableEq, Repr

/-- A copy of a broadcast that this device has relayed and not yet answered (R269, R270): the port to the parent, none at the root; the root; the children that have not
answered; the sum so far; whether this device has handled its own part; and the end of its wait. -/
structure Relay where
  parent : Option Nat
  root : Nat
  kids : List Nat
  sum : Gather := {}
  own : Bool := false
  deadline : Nat := 0
deriving DecidableEq, Repr

/-- Where the act of a coordinator stands (R273, R277, R278). -/
inductive ActPhase where
  | barrier | post | wait | cut | pause
deriving DecidableEq, Repr

/-- An act that this device coordinates: its opcode, ID, entry, phase, and the bulk command that started it. -/
structure ActRun where
  op : Nat
  id : Nat
  kind : Nat
  time : Nat
  arg : Nat
  phase : ActPhase
  bulk : Option Nat := none
deriving DecidableEq, Repr

/-- The act interface and the tree (R269 to R278): the act running, TIME_ACT_STATUS and TIME_ACT_RESULT, the next sequence of act IDs, the relays keyed by act × 8 + op, and
the gathers complete at this root that have not been acted on. -/
structure ActPart where
  run : Option ActRun := none
  overrun : Bool := false
  lastOp : Nat := 0
  result : Nat := 0
  id : Nat := 0
  sum : Gather := {}
  seq : Nat := 0
  relays : NMap Relay := []
  ready : List (Nat × Nat × Gather) := []
deriving DecidableEq, Repr

/-- The snapshots and cuts of this device (R274 to R278): snapshots by act ID, hold windows as act and (set, T), sets paused by a message cut as
set and act, and staging frames in use per cell. -/
structure SnapPart where
  snaps : NMap Snap := []
  holds : NMap (Nat × Nat) := []
  paused : NMap Nat := []
deriving DecidableEq, Repr

end Sys2Proof.Machine
end

