-- ==== Sys2Proof/Machine/Parts/Vault.lean ====
section
/-!
DEFINITION. State of the Vault flash as management sees it: the user area, the program and erase sequence and its operations (spec/18_management.md R394 to R400), and of the I3C
target (R392).
-/
namespace Sys2Proof.Machine
open Sys2Proof

/-- An open sequence (R396): the connection that owns it, how many of its writes have come, whether it is an erase, its offset and data, and when it opened. -/
structure VaultSeq where
  owner : Nat
  stage : Nat
  erase : Bool := false
  off : Nat := 0
  data : List Word := []
  since : Nat
deriving DecidableEq, Repr

/-- An operation on bank 1 (R397, R399, R400): its code in VLT_STATUS.OP (1 program, 2 erase, 4 start re-erase), its offset in the user area and data, the pulses begun that count,
and whether it is suspended. -/
structure VaultOp where
  kind : Nat
  off : Nat
  data : List Word := []
  pulses : Nat := 0
  suspended : Bool := false
deriving DecidableEq, Repr

/-- The Vault (R394 to R400). `user` lists the words of the user area that are not erased; `undef` gives the ranges of words whose contents a failed operation left undefined: first
word, number of words, and the model's free value of the first. `flags` are user sectors with the unfinished-erase flag, `reErase` those that this start re-erases. `inner` is a program
that runs while an erase is suspended, `waits` a completed sequence that waits for an internal operation. -/
structure VaultPart where
  seq : Option VaultSeq := none
  op : Option VaultOp := none
  inner : Option VaultOp := none
  waits : Option VaultOp := none
  fail : Bool := false
  seqErr : Bool := false
  overrun : Bool := false
  lastOp : Nat := 0
  lastPulses : Nat := 0
  lastSector : Nat := 0
  user : NMap Word := []
  undef : NMap (Nat × Nat) := []
  flags : List Nat := []
  reErase : List Nat := []
deriving DecidableEq, Repr

/-- The I3C target (R392): its dynamic address, and the address that the next private read takes. -/
structure I3cPart where
  dynAddr : Option Nat := none
  addr : Option Nat := none
deriving DecidableEq, Repr

end Sys2Proof.Machine
end

