-- ==== Sys2Proof/Machine/RegTable.lean ====
section
/-!
DEFINITION. The register table (R401, R403, R404, R412): one name per register of the device, with its block, offset, word count,
access class, the bits a write may change and its reset words, taken from the register tables of spec/02 to spec/19.
-/
namespace Sys2Proof.Machine

/-- The registers of Tables REG-5 to REG-7 (R412), under their own names. -/
inductive RegId where
  | POOL_CFG | POOL_FREE | POOL_RESERVE | POOL_PFC | POOL_CNT | CIPH_QUEUE_CFG
  | CIPH_QUEUE_STATUS | CMP_QUEUE_CFG | CMP_QUEUE_STATUS | TIER_CHM_CMD | TIER_CHM_STATUS | TIER_CHM_ARG
  | TIER_CHM_RET | TIER_THIN_CFG | TIER_THIN_STATUS | TIER_KEY_CFG | TIER_ADMIT_WORD | CELL_KEYCHK_CNT
  | CELL_KEYCHK_LAST | CELL_KEYCHK_XCNT | OMT_CFG | OMT_RETRY_CFG | OMT_CONN_COUNT | OMT_CONN_SEL
  | OMT_CONN_INFO | OMT_CNT | OMT_CC_CFG | OMT_CC_WINMAX | OMT_CC_INFO | OMT_CC_CNT
  | PORT_TC_CFG | PORT_PFC_CFG | PORT_PFC_STATUS | PORT_FENCE | PORT_CNG_CNT | FAB_CFG
  | FAB_PREFIX | FAB_SELF | FAB_PORT_ROLE | FAB_LINK_STATE | FAB_MISMATCH | FAB_ROUTE_STATUS
  | FAB_PAIR_SEL | FAB_PAIR_INFO | FAB_CTRL_KEY | FAB_CNT | TIER_DIRTY_CFG | TIER_DIRTY_STATUS
  | PWR_HOLDUP_CFG | PWR_FLUSH_STATUS | PWR_FLUSH_RECORD | CELL_DIRTY_STATUS | CELL_SUMP_STATUS | CELL_FLUSH_CNT
  | TIER_QUOTA_WORD | TIER_T1_CFG | TIER_DESTAGE_CFG | TIER_USAGE_SEL | TIER_USAGE | TIER_PLAN_CMD
  | TIER_PLAN_STATUS | TIER_PLAN_ARG | TIER_PLAN_RET | TIER_PLAN_CNT | ALC_CFG | ALC_STATUS
  | ALC_CNT | ALC_ERR_LAST | CELL_TIER_STATUS | CELL_TIER_CNT | CMP_CNT | MED_CFG
  | MED_GC_CFG | MED_SCRUB_CFG | MED_CTRL | MED_STATUS | MED_CAP | MED_WEAR
  | MED_REBUILD | MED_BLOCK_SEL | MED_BLOCK_INFO | MED_ERR_LAST | MED_RETRY_CNT | MED_CNT
  | HBM_CFG | HBM_REFRESH_CFG | HBM_RH_CFG | HBM_POLICY_CFG | HBM_STATUS | HBM_CNT
  | HBM_LANE_CNT | HBM_CE_SEL | HBM_CE_INFO | HBM_CE_CLEAR | HBM_UE_LAST | HBM_RETIRE_CMD
  | HBM_RETIRE_ARG | HBM_RETIRE_STATUS | HBM_RETIRE_COUNT | CUS_CFG | CUS_CFG2 | CUS_HEALTH_CFG
  | CUS_CTRL | CUS_PAIR_STATUS | CUS_HEALTH_STATUS | CUS_CLAIM | CUS_CHM_SEL | CUS_CHM_INFO
  | CUS_RESYNC | CUS_WIT_SEL | CUS_WIT_INFO | CUS_CNT | TIME_CFG | TIME_PPS_CFG
  | TIME_ACT_CFG | TIME_NOW | TIME_STATUS | TIME_ROOT | TIME_OFFSET | TIME_PPS_ERR
  | TIME_TOD_CFG | TIME_MODE_ADOPT | TIME_CNT | CAL_SEL | CAL_ENTRY | CAL_POST
  | CAL_CMD | CAL_STATUS | TIME_ACT_CMD | TIME_ACT_STATUS | TIME_ACT_ARG | TIME_ACT_RESULT
  | TIME_SNAP_SEL | TIME_SNAP_INFO | BLK_CFG | BLK_STATUS | BLK_CONN_SEL | BLK_CONN_INFO
  | BLK_CNT | KEY_CMD | KEY_STATUS | KEY_ARG | KEY_RET | KEY_PUB_ARG
  | KEY_DEV_PUB | KEY_OWNER_STATUS | KEY_TAMPER_CFG | KEY_TAMPER_STATUS | KEY_CNT | PORT_MACSEC_CFG
  | PORT_MACSEC_CKN | PORT_MACSEC_STATUS | CIPH_STATUS | CIPH_CNT | LDR_STATUS | LDR_COPY_STATUS
  | LDR_COPY_SEQ | LDR_IDENTITY | LDR_DEVICE_ID | LDR_START_CFG | LDR_STEP_TIME | LDR_GROUP
  | LDR_FORMAT_TOKEN | LDR_START_COUNT | PWR_RAIL_CFG | PWR_RAIL_TIME | PWR_MARGIN | PWR_RAIL_STATUS
  | PWR_RAIL_SEL | PWR_RAIL_INFO | PWR_INPUT_CFG | PWR_INPUT_STATUS | PWR_STATE_CTRL | PWR_STATE_STATUS
  | PWR_DOWN_FAIL | PWR_CNT | PORT_DOZE_CFG | PORT_DOZE_STATUS | PORT_DOZE_CNT | FLT_CFG
  | FLT_STATUS | FLT_FIRST | FLT_CLASS_CNT | FLT_FENCE_MAP | FLT_UNFENCE | FLT_UNFENCE_STATUS
  | FLT_HALT_CAPTURE | FLT_CELL_FIRST | FLT_CELL_STATUS | LOG_NEXT_SEQ | LOG_OLDEST | LOG_SEQ_SEL
  | LOG_REC | LOG_REC_STATUS | LOG_HELD | LOG_CNT | LOG_JRN_SEL | LOG_JRN_REC
  | LOG_JRN_STATUS | TST_STATUS | TST_INJECT_CTRL | TST_INJECT_ADDR | TST_PERMIT | TST_PROVE_CTRL
  | TST_PROVE_CFG | TST_PROVE_RATE | TST_PROVE_STATUS | TST_PROVE_CNT | VLT_UNLOCK | VLT_CMD
  | VLT_ADDR | VLT_DATA | VLT_CTRL | VLT_STATUS | VLT_CNT | HUB_MGT_CFG
  | HUB_MGT_STATUS | HUB_MGT_CNT | HUB_VENDOR | HUB_PART | HUB_STEPPING | HUB_VERSION
  | CELL_SELF | HUB_GLOBAL_STATUS | HUB_COMMIT | HUB_COMMIT_STATUS | HUB_COMMIT_GEN | HUB_ACCESS_STATUS
  | HUB_UNIT_SEL | HUB_UNIT_INFO | HUB_UNIT_COUNT
deriving DecidableEq, Repr

/-- Access classes of Table SCO-1 (R6), one per register: a register of mixed class (RO and W1C, RO and WO) is named by its writable part. -/
inductive RegClass where
  | ro | rw | sh | w1c | wo | st
deriving DecidableEq, Repr

/-- One line of the register tables. `hub` is the hub block of Table REG-2, or none for a cell register (Table REG-3); `mask` and `reset`
give word i the entry at i, the last entry standing for every later word (`mask` repeats with its own length). -/
structure RegInfo where
  hub : Option Nat
  offset : Nat
  count : Nat
  cls : RegClass
  mask : List Nat
  reset : List Nat
deriving DecidableEq, Repr

/-- The register tables of the spec (R412). Registers whose reset comes from fuses, the Vault or silicon are views computed elsewhere. -/
def regInfo : RegId → RegInfo
  | .POOL_CFG => ⟨none, 0x3000, 1, .sh, [0x1FF3], [0x160]⟩
  | .POOL_FREE => ⟨none, 0x3010, 4, .ro, [0x0], [0x200, 0x80, 0x10, 0x2]⟩
  | .POOL_RESERVE => ⟨none, 0x3020, 1, .ro, [0x0], [0x20820]⟩
  | .POOL_PFC => ⟨none, 0x3030, 3, .sh, [0x3FF03FF], [0x1800140, 0x10000C0, 0xC00080]⟩
  | .POOL_CNT => ⟨none, 0x3040, 4, .ro, [0x0], [0x0]⟩
  | .CIPH_QUEUE_CFG => ⟨none, 0x7F00, 1, .sh, [0xF], [0xF]⟩
  | .CIPH_QUEUE_STATUS => ⟨none, 0x7F04, 1, .ro, [0x0], [0x0]⟩
  | .CMP_QUEUE_CFG => ⟨none, 0x8F00, 1, .sh, [0xF], [0xF]⟩
  | .CMP_QUEUE_STATUS => ⟨none, 0x8F04, 1, .ro, [0x0], [0x0]⟩
  | .TIER_CHM_CMD => ⟨some 11, 0x8000, 1, .wo, [0x0], [0x0]⟩
  | .TIER_CHM_STATUS => ⟨some 11, 0x8004, 1, .w1c, [0x40000000], [0x0]⟩
  | .TIER_CHM_ARG => ⟨some 11, 0x8010, 8, .rw, [0xFFFFFFFF], [0x0]⟩
  | .TIER_CHM_RET => ⟨some 11, 0x8030, 4, .ro, [0x0], [0x0]⟩
  | .TIER_THIN_CFG => ⟨some 11, 0x8040, 1, .sh, [0x7F], [0x18]⟩
  | .TIER_THIN_STATUS => ⟨some 11, 0x8044, 2, .ro, [0x0], [0x0]⟩
  | .TIER_KEY_CFG => ⟨some 11, 0x8050, 1, .sh, [0x3FF], [0xA]⟩
  | .TIER_ADMIT_WORD => ⟨some 11, 0x8400, 2048, .sh, [0xFFFFFFFF, 0xFFFFFFFF, 0xFFFFFFFF, 0xFFFFFFFF, 0x80FF0FFF, 0x0, 0x0, 0x0], [0x0]⟩
  | .CELL_KEYCHK_CNT => ⟨none, 0x0300, 8, .ro, [0x0], [0x0]⟩
  | .CELL_KEYCHK_LAST => ⟨none, 0x0320, 2, .ro, [0x0], [0x0]⟩
  | .CELL_KEYCHK_XCNT => ⟨none, 0x0330, 3, .ro, [0x0], [0x0]⟩
  | .OMT_CFG => ⟨none, 0x2000, 1, .sh, [0xF0F0FF], [0x805030]⟩
  | .OMT_RETRY_CFG => ⟨none, 0x2004, 1, .sh, [0x3FF0077], [0x320077]⟩
  | .OMT_CONN_COUNT => ⟨none, 0x2008, 1, .ro, [0x0], [0x0]⟩
  | .OMT_CONN_SEL => ⟨none, 0x2010, 1, .rw, [0x3FF], [0x0]⟩
  | .OMT_CONN_INFO => ⟨none, 0x2014, 4, .ro, [0x0], [0x0]⟩
  | .OMT_CNT => ⟨none, 0x2100, 16, .ro, [0x0], [0x0]⟩
  | .OMT_CC_CFG => ⟨none, 0x2200, 1, .sh, [0x80FFFFFF], [0x80280804]⟩
  | .OMT_CC_WINMAX => ⟨none, 0x2204, 1, .sh, [0x1FFF], [0x100]⟩
  | .OMT_CC_INFO => ⟨none, 0x2208, 2, .ro, [0x0], [0x0]⟩
  | .OMT_CC_CNT => ⟨none, 0x2210, 4, .ro, [0x0], [0x0]⟩
  | .PORT_TC_CFG => ⟨none, 0x1400, 1, .sh, [0xF0FFF], [0x20221]⟩
  | .PORT_PFC_CFG => ⟨none, 0x1404, 1, .sh, [0x80FFFF00], [0x80141400]⟩
  | .PORT_PFC_STATUS => ⟨none, 0x1410, 1, .ro, [0x0], [0x0]⟩
  | .PORT_FENCE => ⟨none, 0x1414, 1, .wo, [0x0], [0x0]⟩
  | .PORT_CNG_CNT => ⟨none, 0x1420, 8, .ro, [0x0], [0x0]⟩
  | .FAB_CFG => ⟨some 4, 0x0000, 1, .sh, [0x80FFFFFF], [0x8040320A]⟩
  | .FAB_PREFIX => ⟨some 4, 0x0010, 2, .sh, [0xFFFFFFFF], [0x0]⟩
  | .FAB_SELF => ⟨some 4, 0x0020, 1, .ro, [0x0], [0x0]⟩
  | .FAB_PORT_ROLE => ⟨some 4, 0x0100, 32, .sh, [0xFFFFFFFF], [0x0]⟩
  | .FAB_LINK_STATE => ⟨some 4, 0x0200, 16, .ro, [0x0], [0xFFFFFFFF]⟩
  | .FAB_MISMATCH => ⟨some 4, 0x0300, 1, .ro, [0x0], [0x0]⟩
  | .FAB_ROUTE_STATUS => ⟨some 4, 0x0308, 1, .ro, [0x0], [0x0]⟩
  | .FAB_PAIR_SEL => ⟨some 4, 0x0400, 1, .rw, [0x1FFF], [0x0]⟩
  | .FAB_PAIR_INFO => ⟨some 4, 0x0404, 3, .ro, [0x0], [0x0]⟩
  | .FAB_CTRL_KEY => ⟨some 4, 0x0500, 1, .sh, [0xFFF], [0x0]⟩
  | .FAB_CNT => ⟨some 4, 0x0600, 16, .ro, [0x0], [0x0]⟩
  | .TIER_DIRTY_CFG => ⟨some 11, 0x8060, 1, .sh, [0xFFFF01FF], [0x64400180]⟩
  | .TIER_DIRTY_STATUS => ⟨some 11, 0x8064, 2, .ro, [0x0], [0x0]⟩
  | .PWR_HOLDUP_CFG => ⟨some 7, 0xF000, 1, .sh, [0x80000000], [0x80000000]⟩
  | .PWR_FLUSH_STATUS => ⟨some 7, 0xF004, 1, .ro, [0x0], [0x0]⟩
  | .PWR_FLUSH_RECORD => ⟨some 7, 0xF010, 8, .ro, [0x0], [0x0]⟩
  | .CELL_DIRTY_STATUS => ⟨none, 0x0400, 1, .ro, [0x0], [0x0]⟩
  | .CELL_SUMP_STATUS => ⟨none, 0x0404, 1, .ro, [0x0], [0x0]⟩
  | .CELL_FLUSH_CNT => ⟨none, 0x0410, 4, .ro, [0x0], [0x0]⟩
  | .TIER_QUOTA_WORD => ⟨some 11, 0x0000, 8192, .sh, [0xFFFFFFFF], [0xFFFFFFFF, 0xFFFFFFFF, 0x0]⟩
  | .TIER_T1_CFG => ⟨some 11, 0xA400, 1, .sh, [0xFF3FFFFF], [0x32100A14]⟩
  | .TIER_DESTAGE_CFG => ⟨some 11, 0xA404, 1, .sh, [0xFFFFFF0F], [0x324B1904]⟩
  | .TIER_USAGE_SEL => ⟨some 11, 0xA410, 1, .rw, [0xFFF], [0x0]⟩
  | .TIER_USAGE => ⟨some 11, 0xA414, 4, .ro, [0x0], [0x0]⟩
  | .TIER_PLAN_CMD => ⟨some 11, 0xA500, 1, .wo, [0x0], [0x0]⟩
  | .TIER_PLAN_STATUS => ⟨some 11, 0xA504, 1, .w1c, [0x40000000], [0x0]⟩
  | .TIER_PLAN_ARG => ⟨some 11, 0xA510, 6, .rw, [0xFFFFFFFF], [0x0]⟩
  | .TIER_PLAN_RET => ⟨some 11, 0xA530, 4, .ro, [0x0], [0x0]⟩
  | .TIER_PLAN_CNT => ⟨some 11, 0xA540, 4, .ro, [0x0], [0x0]⟩
  | .ALC_CFG => ⟨none, 0x4000, 1, .sh, [0xFFFF0F], [0xA1004]⟩
  | .ALC_STATUS => ⟨none, 0x4004, 1, .ro, [0x0], [0x0]⟩
  | .ALC_CNT => ⟨none, 0x4010, 12, .ro, [0x0], [0x0]⟩
  | .ALC_ERR_LAST => ⟨none, 0x4040, 1, .ro, [0x0], [0x0]⟩
  | .CELL_TIER_STATUS => ⟨none, 0x0500, 4, .ro, [0x0], [0x0]⟩
  | .CELL_TIER_CNT => ⟨none, 0x0520, 12, .ro, [0x0], [0x0]⟩
  | .CMP_CNT => ⟨none, 0x8000, 7, .ro, [0x0], [0x0]⟩
  | .MED_CFG => ⟨none, 0x6000, 1, .sh, [0xFFF1], [0x1041]⟩
  | .MED_GC_CFG => ⟨none, 0x6004, 1, .sh, [0xFFFFFFFF], [0x18081A0A]⟩
  | .MED_SCRUB_CFG => ⟨none, 0x6008, 1, .sh, [0xFFFF00FF], [0x600A0071]⟩
  | .MED_CTRL => ⟨none, 0x600C, 1, .wo, [0x0], [0x0]⟩
  | .MED_STATUS => ⟨none, 0x6010, 2, .w1c, [0x10000000, 0x0], [0x0]⟩
  | .MED_CAP => ⟨none, 0x6020, 4, .ro, [0x0], [0x0]⟩
  | .MED_WEAR => ⟨none, 0x6030, 2, .ro, [0x0], [0x0]⟩
  | .MED_REBUILD => ⟨none, 0x6040, 1, .ro, [0x0], [0x0]⟩
  | .MED_BLOCK_SEL => ⟨none, 0x6050, 1, .rw, [0x1FFFF], [0x0]⟩
  | .MED_BLOCK_INFO => ⟨none, 0x6054, 2, .ro, [0x0], [0x0]⟩
  | .MED_ERR_LAST => ⟨none, 0x6060, 2, .ro, [0x0], [0x0]⟩
  | .MED_RETRY_CNT => ⟨none, 0x6100, 8, .ro, [0x0], [0x0]⟩
  | .MED_CNT => ⟨none, 0x6200, 16, .ro, [0x0], [0x0]⟩
  | .HBM_CFG => ⟨none, 0x5000, 1, .sh, [0xC0FF00FF], [0xC0400018]⟩
  | .HBM_REFRESH_CFG => ⟨none, 0x5004, 1, .sh, [0xFF0F], [0x5505]⟩
  | .HBM_RH_CFG => ⟨none, 0x5008, 1, .sh, [0xFFFF03], [0x100202]⟩
  | .HBM_POLICY_CFG => ⟨none, 0x500C, 1, .sh, [0xE0FF000F], [0xE0100004]⟩
  | .HBM_STATUS => ⟨none, 0x5010, 1, .ro, [0x0], [0x0]⟩
  | .HBM_CNT => ⟨none, 0x5020, 16, .ro, [0x0], [0x0]⟩
  | .HBM_LANE_CNT => ⟨none, 0x5080, 72, .ro, [0x0], [0x0]⟩
  | .HBM_CE_SEL => ⟨none, 0x5200, 1, .rw, [0x1F], [0x0]⟩
  | .HBM_CE_INFO => ⟨none, 0x5204, 6, .ro, [0x0], [0x0]⟩
  | .HBM_CE_CLEAR => ⟨none, 0x5220, 1, .wo, [0x0], [0x0]⟩
  | .HBM_UE_LAST => ⟨none, 0x5230, 4, .ro, [0x0], [0x0]⟩
  | .HBM_RETIRE_CMD => ⟨none, 0x5300, 1, .wo, [0x0], [0x0]⟩
  | .HBM_RETIRE_ARG => ⟨none, 0x5304, 1, .rw, [0x801FFFFF], [0x0]⟩
  | .HBM_RETIRE_STATUS => ⟨none, 0x5308, 1, .w1c, [0x40000000], [0x0]⟩
  | .HBM_RETIRE_COUNT => ⟨none, 0x530C, 1, .st, [0xFFFF1FFF], [0x0]⟩
  | .CUS_CFG => ⟨some 3, 0x0000, 1, .sh, [0xFFFFFFFF], [0xA080A3C]⟩
  | .CUS_CFG2 => ⟨some 3, 0x0004, 1, .sh, [0xFFFFFFFF], [0xA05191E]⟩
  | .CUS_HEALTH_CFG => ⟨some 3, 0x0008, 1, .sh, [0x800001FF], [0x80000000]⟩
  | .CUS_CTRL => ⟨some 3, 0x000C, 1, .wo, [0x0], [0x0]⟩
  | .CUS_PAIR_STATUS => ⟨some 3, 0x0010, 1, .ro, [0x0], [0x0]⟩
  | .CUS_HEALTH_STATUS => ⟨some 3, 0x0014, 1, .ro, [0x0], [0x0]⟩
  | .CUS_CLAIM => ⟨some 3, 0x0020, 4, .ro, [0x0], [0x0]⟩
  | .CUS_CHM_SEL => ⟨some 3, 0x0030, 1, .rw, [0xFFFF], [0x0]⟩
  | .CUS_CHM_INFO => ⟨some 3, 0x0034, 3, .ro, [0x0], [0x0]⟩
  | .CUS_RESYNC => ⟨some 3, 0x0040, 4, .ro, [0x0], [0x0]⟩
  | .CUS_WIT_SEL => ⟨some 3, 0x0050, 1, .rw, [0xF], [0x0]⟩
  | .CUS_WIT_INFO => ⟨some 3, 0x0054, 4, .ro, [0x0], [0x0]⟩
  | .CUS_CNT => ⟨some 3, 0x0100, 16, .ro, [0x0], [0x0]⟩
  | .TIME_CFG => ⟨some 2, 0x0000, 1, .sh, [0xFFC0FFF0], [0xFA0032A0]⟩
  | .TIME_PPS_CFG => ⟨some 2, 0x0004, 1, .sh, [0xC000FFFF], [0xC0000000]⟩
  | .TIME_ACT_CFG => ⟨some 2, 0x0008, 1, .sh, [0xFFFFFFFF], [0x320514]⟩
  | .TIME_NOW => ⟨some 2, 0x0010, 2, .ro, [0x0], [0x0]⟩
  | .TIME_STATUS => ⟨some 2, 0x0018, 1, .ro, [0x0], [0x0]⟩
  | .TIME_ROOT => ⟨some 2, 0x001C, 1, .ro, [0x0], [0xFF]⟩
  | .TIME_OFFSET => ⟨some 2, 0x0020, 1, .ro, [0x0], [0x0]⟩
  | .TIME_PPS_ERR => ⟨some 2, 0x0024, 1, .ro, [0x0], [0x0]⟩
  | .TIME_TOD_CFG => ⟨some 2, 0x0028, 2, .wo, [0x0], [0x0]⟩
  | .TIME_MODE_ADOPT => ⟨some 2, 0x0030, 2, .wo, [0x0], [0x0]⟩
  | .TIME_CNT => ⟨some 2, 0x0100, 8, .ro, [0x0], [0x0]⟩
  | .CAL_SEL => ⟨some 2, 0x1000, 1, .rw, [0x3F], [0x0]⟩
  | .CAL_ENTRY => ⟨some 2, 0x1004, 6, .ro, [0x0], [0x0]⟩
  | .CAL_POST => ⟨some 2, 0x1020, 6, .rw, [0xFFFFFFFF], [0x0]⟩
  | .CAL_CMD => ⟨some 2, 0x1040, 1, .wo, [0x0], [0x0]⟩
  | .CAL_STATUS => ⟨some 2, 0x1044, 1, .ro, [0x0], [0x0]⟩
  | .TIME_ACT_CMD => ⟨some 2, 0x2000, 1, .wo, [0x0], [0x0]⟩
  | .TIME_ACT_STATUS => ⟨some 2, 0x2004, 1, .w1c, [0x40000000], [0x0]⟩
  | .TIME_ACT_ARG => ⟨some 2, 0x2010, 4, .rw, [0xFFFFFFFF], [0x0]⟩
  | .TIME_ACT_RESULT => ⟨some 2, 0x2030, 4, .ro, [0x0], [0x0]⟩
  | .TIME_SNAP_SEL => ⟨some 2, 0x3000, 1, .rw, [0xFF], [0x0]⟩
  | .TIME_SNAP_INFO => ⟨some 2, 0x3004, 5, .ro, [0x0], [0x0]⟩
  | .BLK_CFG => ⟨some 10, 0x0000, 1, .sh, [0xFF07FF], [0x400400]⟩
  | .BLK_STATUS => ⟨some 10, 0x0004, 1, .ro, [0x0], [0x0]⟩
  | .BLK_CONN_SEL => ⟨some 10, 0x0010, 1, .rw, [0x3FFFF], [0x0]⟩
  | .BLK_CONN_INFO => ⟨some 10, 0x0014, 1, .ro, [0x0], [0x0]⟩
  | .BLK_CNT => ⟨some 10, 0x0100, 13, .ro, [0x0], [0x0]⟩
  | .KEY_CMD => ⟨some 8, 0x0000, 1, .wo, [0x0], [0x0]⟩
  | .KEY_STATUS => ⟨some 8, 0x0004, 1, .w1c, [0x40000000], [0x0]⟩
  | .KEY_ARG => ⟨some 8, 0x0010, 20, .rw, [0xFFFFFFFF], [0x0]⟩
  | .KEY_RET => ⟨some 8, 0x0060, 3, .ro, [0x0], [0x0]⟩
  | .KEY_PUB_ARG => ⟨some 8, 0x0080, 24, .rw, [0xFFFFFFFF], [0x0]⟩
  | .KEY_DEV_PUB => ⟨some 8, 0x0100, 24, .ro, [0x0], [0x0]⟩
  | .KEY_OWNER_STATUS => ⟨some 8, 0x0200, 1, .ro, [0x0], [0x0]⟩
  | .KEY_TAMPER_CFG => ⟨some 8, 0x0210, 1, .sh, [0x80000000], [0x0]⟩
  | .KEY_TAMPER_STATUS => ⟨some 8, 0x0214, 1, .st, [0x7], [0x0]⟩
  | .KEY_CNT => ⟨some 8, 0x0300, 8, .ro, [0x0], [0x0]⟩
  | .PORT_MACSEC_CFG => ⟨none, 0x1500, 1, .sh, [0x80FFFFFF], [0x800000]⟩
  | .PORT_MACSEC_CKN => ⟨none, 0x1504, 4, .sh, [0xFFFFFFFF], [0x0]⟩
  | .PORT_MACSEC_STATUS => ⟨none, 0x1514, 1, .ro, [0x0], [0xE10]⟩
  | .CIPH_STATUS => ⟨none, 0x7000, 1, .ro, [0x0], [0x0]⟩
  | .CIPH_CNT => ⟨none, 0x7010, 8, .ro, [0x0], [0x0]⟩
  | .LDR_STATUS => ⟨some 1, 0x0000, 1, .w1c, [0x8000000], [0x10000000]⟩
  | .LDR_COPY_STATUS => ⟨some 1, 0x0010, 2, .ro, [0x0], [0x0]⟩
  | .LDR_COPY_SEQ => ⟨some 1, 0x0020, 4, .ro, [0x0], [0x0]⟩
  | .LDR_IDENTITY => ⟨some 1, 0x0030, 1, .ro, [0x0], [0x0]⟩
  | .LDR_DEVICE_ID => ⟨some 1, 0x0040, 4, .ro, [0x0], [0x0]⟩
  | .LDR_START_CFG => ⟨some 1, 0x0050, 1, .sh, [0xFF], [0x14]⟩
  | .LDR_STEP_TIME => ⟨some 1, 0x0060, 10, .ro, [0x0], [0x0]⟩
  | .LDR_GROUP => ⟨some 1, 0x0090, 1, .ro, [0x0], [0x0]⟩
  | .LDR_FORMAT_TOKEN => ⟨some 1, 0x0098, 1, .ro, [0x0], [0x0]⟩
  | .LDR_START_COUNT => ⟨some 1, 0x009C, 1, .ro, [0x0], [0x0]⟩
  | .PWR_RAIL_CFG => ⟨some 7, 0x0000, 64, .sh, [0xFFFFFFF0], [0x2888A050, 0x2888A050, 0x2888A050, 0x2888A050, 0x2888A050, 0x2888A050, 0x2888A050, 0x2888A050, 0x2888A050, 0x2888A050, 0x2888A050, 0x2888A050, 0x2888A050, 0x2888A050, 0x2888A050, 0x2888A050, 0x308A60A0, 0x308A60A0, 0x308A60A0, 0x308A60A0, 0x38CC10A0, 0x38CC10A0, 0x38CC10A0, 0x38CC10A0, 0x38CC10A0, 0x38CC10A0, 0x38CC10A0, 0x38CC10A0, 0x40CDD0A0, 0x40CDD0A0, 0x2888A050, 0x2B493050, 0x871CC140, 0x40CDD140, 0x871CC140, 0x40CDD140, 0x871CC140, 0x40CDD140, 0x871CC140, 0x40CDD140, 0x871CC140, 0x40CDD140, 0x871CC140, 0x40CDD140, 0x871CC140, 0x40CDD140, 0x871CC140, 0x40CDD140, 0x871CC140, 0x40CDD140, 0x871CC140, 0x40CDD140, 0x871CC140, 0x40CDD140, 0x871CC140, 0x40CDD140, 0x871CC140, 0x40CDD140, 0x871CC140, 0x40CDD140, 0x871CC140, 0x40CDD140, 0x871CC140, 0x40CDD140]⟩
  | .PWR_RAIL_TIME => ⟨some 7, 0x0100, 64, .sh, [0xFFFF0000], [0xA320000, 0xA320000, 0xA320000, 0xA320000, 0xA320000, 0xA320000, 0xA320000, 0xA320000, 0xA320000, 0xA320000, 0xA320000, 0xA320000, 0xA320000, 0xA320000, 0xA320000, 0xA320000, 0xA320000, 0xA320000, 0xA320000, 0xA320000, 0xA320000, 0xA320000, 0xA320000, 0xA320000, 0xA320000, 0xA320000, 0xA320000, 0xA320000, 0xA320000, 0xA320000, 0xA320000, 0xA320000, 0x8320000, 0x8320000, 0x8320000, 0x8320000, 0x8320000, 0x8320000, 0x8320000, 0x8320000, 0x8320000, 0x8320000, 0x8320000, 0x8320000, 0x8320000, 0x8320000, 0x8320000, 0x8320000, 0x8320000, 0x8320000, 0x8320000, 0x8320000, 0x8320000, 0x8320000, 0x8320000, 0x8320000, 0x8320000, 0x8320000, 0x8320000, 0x8320000, 0x8320000, 0x8320000, 0x8320000, 0x8320000]⟩
  | .PWR_MARGIN => ⟨some 7, 0x0200, 64, .rw, [0x1F], [0x0]⟩
  | .PWR_RAIL_STATUS => ⟨some 7, 0x0300, 4, .ro, [0x0], [0x0]⟩
  | .PWR_RAIL_SEL => ⟨some 7, 0x0310, 1, .rw, [0x3F], [0x0]⟩
  | .PWR_RAIL_INFO => ⟨some 7, 0x0314, 2, .ro, [0x0], [0x0]⟩
  | .PWR_INPUT_CFG => ⟨some 7, 0x0400, 1, .sh, [0xFF], [0x14]⟩
  | .PWR_INPUT_STATUS => ⟨some 7, 0x0404, 1, .ro, [0x0], [0x0]⟩
  | .PWR_STATE_CTRL => ⟨some 7, 0x0500, 1, .wo, [0x0], [0x0]⟩
  | .PWR_STATE_STATUS => ⟨some 7, 0x0504, 1, .ro, [0x0], [0x20000000]⟩
  | .PWR_DOWN_FAIL => ⟨some 7, 0x0510, 2, .ro, [0x0], [0x0]⟩
  | .PWR_CNT => ⟨some 7, 0x0600, 8, .ro, [0x0], [0x0]⟩
  | .PORT_DOZE_CFG => ⟨none, 0x1600, 1, .sh, [0xC00000FF], [0x80000014]⟩
  | .PORT_DOZE_STATUS => ⟨none, 0x1604, 1, .ro, [0x0], [0x0]⟩
  | .PORT_DOZE_CNT => ⟨none, 0x1610, 4, .ro, [0x0], [0x0]⟩
  | .FLT_CFG => ⟨some 5, 0x0000, 1, .sh, [0x707], [0x202]⟩
  | .FLT_STATUS => ⟨some 5, 0x0004, 1, .w1c, [0xF], [0x0]⟩
  | .FLT_FIRST => ⟨some 5, 0x0010, 7, .w1c, [0x80000000, 0x0, 0x0, 0x0, 0x0, 0x0, 0x0], [0x0]⟩
  | .FLT_CLASS_CNT => ⟨some 5, 0x0090, 5, .ro, [0x0], [0x0]⟩
  | .FLT_FENCE_MAP => ⟨some 5, 0x0040, 8, .ro, [0x0], [0x0]⟩
  | .FLT_UNFENCE => ⟨some 5, 0x0060, 1, .wo, [0x0], [0x0]⟩
  | .FLT_UNFENCE_STATUS => ⟨some 5, 0x0064, 1, .ro, [0x0], [0x0]⟩
  | .FLT_HALT_CAPTURE => ⟨some 5, 0x0070, 7, .ro, [0x0], [0x0]⟩
  | .FLT_CELL_FIRST => ⟨none, 0x9000, 7, .w1c, [0x80000000, 0x0, 0x0, 0x0, 0x0, 0x0, 0x0], [0x0]⟩
  | .FLT_CELL_STATUS => ⟨none, 0x9020, 1, .ro, [0x0], [0x0]⟩
  | .LOG_NEXT_SEQ => ⟨some 6, 0x0000, 2, .ro, [0x0], [0x0]⟩
  | .LOG_OLDEST => ⟨some 6, 0x0008, 2, .ro, [0x0], [0x0]⟩
  | .LOG_SEQ_SEL => ⟨some 6, 0x0010, 2, .rw, [0xFFFFFFFF], [0x0]⟩
  | .LOG_REC => ⟨some 6, 0x0020, 16, .ro, [0x0], [0x0]⟩
  | .LOG_REC_STATUS => ⟨some 6, 0x0060, 1, .ro, [0x0], [0x0]⟩
  | .LOG_HELD => ⟨some 6, 0x0070, 4, .ro, [0x0], [0x0]⟩
  | .LOG_CNT => ⟨some 6, 0x0100, 8, .ro, [0x0], [0x0]⟩
  | .LOG_JRN_SEL => ⟨some 6, 0x0200, 1, .rw, [0x3FFF], [0x0]⟩
  | .LOG_JRN_REC => ⟨some 6, 0x0204, 16, .ro, [0x0], [0x0]⟩
  | .LOG_JRN_STATUS => ⟨some 6, 0x0244, 1, .ro, [0x0], [0x0]⟩
  | .TST_STATUS => ⟨some 12, 0x0000, 1, .ro, [0x0], [0x0]⟩
  | .TST_INJECT_CTRL => ⟨some 12, 0x0010, 1, .wo, [0x0], [0x0]⟩
  | .TST_INJECT_ADDR => ⟨some 12, 0x0014, 1, .rw, [0x7FFFFFFF], [0x0]⟩
  | .TST_PERMIT => ⟨some 12, 0x0100, 1, .ro, [0x0], [0x0]⟩
  | .TST_PROVE_CTRL => ⟨some 12, 0x0104, 1, .wo, [0x0], [0x0]⟩
  | .TST_PROVE_CFG => ⟨some 12, 0x0108, 1, .rw, [0xFFFFFFFF], [0x2580001]⟩
  | .TST_PROVE_RATE => ⟨some 12, 0x0110, 3, .rw, [0xFFFFFF], [0x0]⟩
  | .TST_PROVE_STATUS => ⟨some 12, 0x0120, 1, .w1c, [0x40000000], [0x0]⟩
  | .TST_PROVE_CNT => ⟨some 12, 0x0130, 3, .ro, [0x0], [0x0]⟩
  | .VLT_UNLOCK => ⟨some 9, 0x0000, 1, .wo, [0x0], [0x0]⟩
  | .VLT_CMD => ⟨some 9, 0x0004, 1, .wo, [0x0], [0x0]⟩
  | .VLT_ADDR => ⟨some 9, 0x0008, 1, .wo, [0x0], [0x0]⟩
  | .VLT_DATA => ⟨some 9, 0x0010, 8, .wo, [0x0], [0x0]⟩
  | .VLT_CTRL => ⟨some 9, 0x0030, 1, .wo, [0x0], [0x0]⟩
  | .VLT_STATUS => ⟨some 9, 0x0040, 2, .w1c, [0x7000000], [0x0]⟩
  | .VLT_CNT => ⟨some 9, 0x0100, 6, .ro, [0x0], [0x0]⟩
  | .HUB_MGT_CFG => ⟨some 9, 0x8000, 1, .sh, [0xFFF], [0x0]⟩
  | .HUB_MGT_STATUS => ⟨some 9, 0x8004, 1, .ro, [0x0], [0x0]⟩
  | .HUB_MGT_CNT => ⟨some 9, 0x8100, 8, .ro, [0x0], [0x0]⟩
  | .HUB_VENDOR => ⟨some 0, 0x0000, 1, .ro, [0x0], [0x48445300]⟩
  | .HUB_PART => ⟨some 0, 0x0004, 3, .ro, [0x0], [0x48442D53, 0x4E343039, 0x36000000]⟩
  | .HUB_STEPPING => ⟨some 0, 0x0010, 1, .ro, [0x0], [0x0]⟩
  | .HUB_VERSION => ⟨some 0, 0x0020, 3, .ro, [0x0], [0x0, 0x0, 0x30060001]⟩
  | .CELL_SELF => ⟨none, 0x0000, 1, .ro, [0x0], [0x0]⟩
  | .HUB_GLOBAL_STATUS => ⟨some 0, 0x0040, 1, .ro, [0x0], [0x22000000]⟩
  | .HUB_COMMIT => ⟨some 0, 0x0080, 1, .wo, [0x0], [0x0]⟩
  | .HUB_COMMIT_STATUS => ⟨some 0, 0x0084, 1, .w1c, [0x40000000], [0x0]⟩
  | .HUB_COMMIT_GEN => ⟨some 0, 0x0088, 1, .ro, [0x0], [0x0]⟩
  | .HUB_ACCESS_STATUS => ⟨some 0, 0x00C0, 6, .ro, [0x0], [0x0]⟩
  | .HUB_UNIT_SEL => ⟨some 0, 0x0100, 1, .rw, [0xFFFF], [0x0]⟩
  | .HUB_UNIT_INFO => ⟨some 0, 0x0104, 2, .ro, [0x0], [0x0]⟩
  | .HUB_UNIT_COUNT => ⟨some 0, 0x0140, 12, .ro, [0x0], [0x0]⟩

/-- Register names, part 1, in the order of the spec's chapters. -/
def regsPart1 : List RegId :=
  [.POOL_CFG, .POOL_FREE, .POOL_RESERVE, .POOL_PFC, .POOL_CNT, .CIPH_QUEUE_CFG, .CIPH_QUEUE_STATUS, .CMP_QUEUE_CFG, 
   .CMP_QUEUE_STATUS, .TIER_CHM_CMD, .TIER_CHM_STATUS, .TIER_CHM_ARG, .TIER_CHM_RET, .TIER_THIN_CFG, .TIER_THIN_STATUS, 
   .TIER_KEY_CFG, .TIER_ADMIT_WORD, .CELL_KEYCHK_CNT, .CELL_KEYCHK_LAST, .CELL_KEYCHK_XCNT, .OMT_CFG, .OMT_RETRY_CFG, 
   .OMT_CONN_COUNT, .OMT_CONN_SEL, .OMT_CONN_INFO, .OMT_CNT, .OMT_CC_CFG, .OMT_CC_WINMAX, .OMT_CC_INFO, .OMT_CC_CNT, 
   .PORT_TC_CFG, .PORT_PFC_CFG, .PORT_PFC_STATUS, .PORT_FENCE, .PORT_CNG_CNT, .FAB_CFG, .FAB_PREFIX, .FAB_SELF, 
   .FAB_PORT_ROLE, .FAB_LINK_STATE, .FAB_MISMATCH, .FAB_ROUTE_STATUS, .FAB_PAIR_SEL, .FAB_PAIR_INFO, .FAB_CTRL_KEY, 
   .FAB_CNT, .TIER_DIRTY_CFG, .TIER_DIRTY_STATUS, .PWR_HOLDUP_CFG, .PWR_FLUSH_STATUS, .PWR_FLUSH_RECORD, 
   .CELL_DIRTY_STATUS, .CELL_SUMP_STATUS, .CELL_FLUSH_CNT, .TIER_QUOTA_WORD, .TIER_T1_CFG, .TIER_DESTAGE_CFG, 
   .TIER_USAGE_SEL, .TIER_USAGE, .TIER_PLAN_CMD]

/-- Register names, part 2, in the order of the spec's chapters. -/
def regsPart2 : List RegId :=
  [.TIER_PLAN_STATUS, .TIER_PLAN_ARG, .TIER_PLAN_RET, .TIER_PLAN_CNT, .ALC_CFG, .ALC_STATUS, .ALC_CNT, 
   .ALC_ERR_LAST, .CELL_TIER_STATUS, .CELL_TIER_CNT, .CMP_CNT, .MED_CFG, .MED_GC_CFG, .MED_SCRUB_CFG, .MED_CTRL, 
   .MED_STATUS, .MED_CAP, .MED_WEAR, .MED_REBUILD, .MED_BLOCK_SEL, .MED_BLOCK_INFO, .MED_ERR_LAST, .MED_RETRY_CNT, 
   .MED_CNT, .HBM_CFG, .HBM_REFRESH_CFG, .HBM_RH_CFG, .HBM_POLICY_CFG, .HBM_STATUS, .HBM_CNT, .HBM_LANE_CNT, 
   .HBM_CE_SEL, .HBM_CE_INFO, .HBM_CE_CLEAR, .HBM_UE_LAST, .HBM_RETIRE_CMD, .HBM_RETIRE_ARG, .HBM_RETIRE_STATUS, 
   .HBM_RETIRE_COUNT, .CUS_CFG, .CUS_CFG2, .CUS_HEALTH_CFG, .CUS_CTRL, .CUS_PAIR_STATUS, .CUS_HEALTH_STATUS, 
   .CUS_CLAIM, .CUS_CHM_SEL, .CUS_CHM_INFO, .CUS_RESYNC, .CUS_WIT_SEL, .CUS_WIT_INFO, .CUS_CNT, .TIME_CFG, 
   .TIME_PPS_CFG, .TIME_ACT_CFG, .TIME_NOW, .TIME_STATUS, .TIME_ROOT, .TIME_OFFSET, .TIME_PPS_ERR]

/-- Register names, part 3, in the order of the spec's chapters. -/
def regsPart3 : List RegId :=
  [.TIME_TOD_CFG, .TIME_MODE_ADOPT, .TIME_CNT, .CAL_SEL, .CAL_ENTRY, .CAL_POST, .CAL_CMD, .CAL_STATUS, 
   .TIME_ACT_CMD, .TIME_ACT_STATUS, .TIME_ACT_ARG, .TIME_ACT_RESULT, .TIME_SNAP_SEL, .TIME_SNAP_INFO, .BLK_CFG, 
   .BLK_STATUS, .BLK_CONN_SEL, .BLK_CONN_INFO, .BLK_CNT, .KEY_CMD, .KEY_STATUS, .KEY_ARG, .KEY_RET, .KEY_PUB_ARG, 
   .KEY_DEV_PUB, .KEY_OWNER_STATUS, .KEY_TAMPER_CFG, .KEY_TAMPER_STATUS, .KEY_CNT, .PORT_MACSEC_CFG, .PORT_MACSEC_CKN, 
   .PORT_MACSEC_STATUS, .CIPH_STATUS, .CIPH_CNT, .LDR_STATUS, .LDR_COPY_STATUS, .LDR_COPY_SEQ, .LDR_IDENTITY, 
   .LDR_DEVICE_ID, .LDR_START_CFG, .LDR_STEP_TIME, .LDR_GROUP, .LDR_FORMAT_TOKEN, .LDR_START_COUNT, .PWR_RAIL_CFG, 
   .PWR_RAIL_TIME, .PWR_MARGIN, .PWR_RAIL_STATUS, .PWR_RAIL_SEL, .PWR_RAIL_INFO, .PWR_INPUT_CFG, .PWR_INPUT_STATUS, 
   .PWR_STATE_CTRL, .PWR_STATE_STATUS, .PWR_DOWN_FAIL, .PWR_CNT, .PORT_DOZE_CFG, .PORT_DOZE_STATUS, .PORT_DOZE_CNT, 
   .FLT_CFG]

/-- Register names, part 4, in the order of the spec's chapters. -/
def regsPart4 : List RegId :=
  [.FLT_STATUS, .FLT_FIRST, .FLT_CLASS_CNT, .FLT_FENCE_MAP, .FLT_UNFENCE, .FLT_UNFENCE_STATUS, .FLT_HALT_CAPTURE, 
   .FLT_CELL_FIRST, .FLT_CELL_STATUS, .LOG_NEXT_SEQ, .LOG_OLDEST, .LOG_SEQ_SEL, .LOG_REC, .LOG_REC_STATUS, 
   .LOG_HELD, .LOG_CNT, .LOG_JRN_SEL, .LOG_JRN_REC, .LOG_JRN_STATUS, .TST_STATUS, .TST_INJECT_CTRL, .TST_INJECT_ADDR, 
   .TST_PERMIT, .TST_PROVE_CTRL, .TST_PROVE_CFG, .TST_PROVE_RATE, .TST_PROVE_STATUS, .TST_PROVE_CNT, .VLT_UNLOCK, 
   .VLT_CMD, .VLT_ADDR, .VLT_DATA, .VLT_CTRL, .VLT_STATUS, .VLT_CNT, .HUB_MGT_CFG, .HUB_MGT_STATUS, .HUB_MGT_CNT, 
   .HUB_VENDOR, .HUB_PART, .HUB_STEPPING, .HUB_VERSION, .CELL_SELF, .HUB_GLOBAL_STATUS, .HUB_COMMIT, .HUB_COMMIT_STATUS, 
   .HUB_COMMIT_GEN, .HUB_ACCESS_STATUS, .HUB_UNIT_SEL, .HUB_UNIT_INFO, .HUB_UNIT_COUNT]

/-- Every register name, in the order of the spec's chapters. -/
def allRegs : List RegId := regsPart1 ++ regsPart2 ++ regsPart3 ++ regsPart4

/-- The reset word of instance `i` of a register (R6). -/
def regReset (r : RegId) (i : Nat) : Word :=
  let l := (regInfo r).reset
  BitVec.ofNat 32 (l.getD i (l.getLastD 0))

/-- The bits of word `i` that a write of the register's class may change; reserved bits are outside (R6). -/
def regMask (r : RegId) (i : Nat) : Word :=
  let l := (regInfo r).mask
  BitVec.ofNat 32 (l.getD (i % l.length) 0)

/-- The register, with its instance number, at an offset of a hub block (`some b`) or of a cell block (`none`) (R401, R412). -/
def regAt (b : Option Nat) (off : Nat) : Option (RegId × Nat) :=
  (allRegs.find? fun r =>
    let g := regInfo r
    g.hub == b && g.offset ≤ off && off < g.offset + 4 * g.count && (off - g.offset) % 4 == 0).map
    fun r => (r, (off - (regInfo r).offset) / 4)

end Sys2Proof.Machine
end

