-- ==== Sys2Proof/Machine/Dev.lean ====
section
/-!
DEFINITION. The device: everything the spec gives the block, but for the queue of waiting commands, which State adds.
-/
namespace Sys2Proof.Machine
open Sys2Proof

/-- The state of one HD-SN4096. -/
structure Dev where
  /-- local time in ns since power-on -/
  now : Nat := 0
  /-- the model's own counter of free values used -/
  free : Nat := 0
  /-- what has left the device -/
  out : List Out := []
  /-- committed values of the registers that differ from reset, shadows of SH registers, and committed values that the hub keeps for fenced
  cells (R280); keyed by register, cell and instance -/
  regs : NMap Word := []
  shadow : NMap Word := []
  kept : NMap Word := []
  /-- words latched by the read of word 0 of a register that shows a snapshot, under the keys of `regs` -/
  latch : NMap Word := []
  flt : FaultPart := {}
  log : LogPart := {}
  tst : TestPart := {}
  chm : ChmPart := {}
  conns : NMap Conn := []
  reqs : List Req := []
  nextReq : Nat := 0
  /-- the next place in the order of arrival at the home cells (R16) -/
  nextArr : Nat := 0
  /-- chamber bytes, keyed by chamber × 2^50 + offset; an unlisted byte reads 0 (R40) -/
  mem : List Host.Cell := []
  /-- poisoned lines, rising (R210) -/
  poison : List Nat := []
  /-- home cells with a chamber, as cell × 2^16 + chamber, the lines of whose first so many pages are poisoned but for those in `cured` (R40, R141) -/
  blanket : NMap Nat := []
  cured : List Nat := []
  tier : TierPart := {}
  per : PerPart := {}
  res : ResPart := {}
  cus : CusPart := {}
  watch : NMap Watch := []
  repairs : NMap Repair := []
  tim : TimePart := {}
  mode : ModePart := {}
  cal : CalPart := {}
  act : ActPart := {}
  bulk : BulkPart := {}
  ldr : LdrPart := {}
  snap : SnapPart := {}
  ports : NMap Port := []
  fab : FabPart := {}
  pwr : PwrPart := {}
  sec : SecPart := {}
  vlt : VaultPart := {}
  i3c : I3cPart := {}
  hbm : NMap Hbm := []
  med : NMap Media := []
  /-- symbols in error that T1 lines hold, keyed by cell × 2^24 + line address: the lanes of codeword 0 and of codeword 1 (R207, R380) -/
  latent : NMap (List Nat × List Nat) := []
  /-- errors that injection has left in the Alcove and the merging buffer, under the same keys (R165, R380) -/
  latent0 : NMap (List ErrSite) := []
deriving DecidableEq, Repr

end Sys2Proof.Machine
end

