-- ==== Sys2Proof/Machine/Ops.lean ====
section
/-!
DEFINITION. The shared operations over registers, counters, time, memory and outputs.
-/
namespace Sys2Proof.Machine
open Sys2Proof

/-! ### Registers (R6, R279, R280, R412) -/

/-- The key under which word `i` of a register of a cell (0 for the hub) is kept. -/
def regKey (r : RegId) (cell i : Nat) : Nat := (r.ctorIdx * 256 + cell) * 8192 + i

/-- The committed value of word `i` of a register of cell `c`; an unlisted register holds its reset value (R6). -/
def reg (d : Dev) (r : RegId) (c i : Nat) : Word := ngetD d.regs (regKey r c i) (regReset r i)

/-- The committed value of a hub register of one word. -/
def hreg (d : Dev) (r : RegId) : Word := reg d r 0 0

/-- A field of a hub register. -/
def hfld (d : Dev) (r : RegId) (hi lo : Nat) : Nat := fld (hreg d r) hi lo

/-- A field of a cell register of one word. -/
def cfld (d : Dev) (r : RegId) (c hi lo : Nat) : Nat := fld (reg d r c 0) hi lo

/-- The register with its committed value replaced. -/
def setReg (d : Dev) (r : RegId) (c i : Nat) (v : Word) : Dev := { d with regs := nset d.regs (regKey r c i) v }

/-- The shadow of a register: the last value staged, or the committed one, which the hub keeps for a fenced cell (R279, R280). -/
def shadowOf (d : Dev) (r : RegId) (c i : Nat) : Word :=
  ngetD d.shadow (regKey r c i) (ngetD d.kept (regKey r c i) (reg d r c i))

/-- A counter register advanced by n: it wraps at 2^32. -/
def bumpBy (d : Dev) (r : RegId) (c i n : Nat) : Dev := setReg d r c i (reg d r c i + BitVec.ofNat 32 n)

/-- A counter register advanced by 1. -/
def bump (d : Dev) (r : RegId) (c i : Nat) : Dev := bumpBy d r c i 1

/-! ### Unit identifiers (R7, Table SCO-2) -/

/-- A unit ID: kind in [15:12], index in [11:0] (R7). -/
def unitId (kind idx : Nat) : Nat := kind * 4096 + idx
def uHub (i : Nat) : Nat := unitId 0 i
def uCell (c : Nat) : Nat := unitId 1 c
def uPort (p : Nat) : Nat := unitId 2 p
def uHbm (c : Nat) : Nat := unitId 3 c
def uMedia (c : Nat) : Nat := unitId 4 c
def uDie (c i : Nat) : Nat := unitId 5 (c * 16 + i)
def uCiph (c : Nat) : Nat := unitId 6 c
def uRail (n : Nat) : Nat := unitId 8 n
def uCourse (k : Nat) : Nat := unitId 10 k

/-! ### Time (R5, R259 to R263) -/

/-- What has been slewed so far: toward the remaining offset, at SLEW_PPM (R263). In LOCKING and LOCKED the model steers by the same slew (DESIGN CHOICE: the servo is
not described). -/
def slewed (d : Dev) : Int :=
  if d.tim.st = .slewing ∨ d.tim.st = .locking ∨ d.tim.st = .locked then
    let ppm := clampTo 1 10 (hfld d .TIME_CFG 7 4)
    let most : Int := (((d.now - d.tim.slewFrom) * ppm) / 1000000 : Nat)
    if d.tim.rem < 0 then - min (-d.tim.rem) most else min d.tim.rem most
  else 0

/-- Federation time: 64-bit unsigned nanoseconds of TAI (R5). -/
def fedTime (d : Dev) : Nat := ((d.now : Int) + d.tim.offset + slewed d).toNat % 2 ^ 64

/-- A timestamp: federation time, later than every timestamp issued before (R263: no two timestamps of one device are equal). -/
def stampOf (d : Dev) : Nat := max (fedTime d) (d.tim.lastStamp + 1)

/-- A timestamp is issued (R263). -/
def stamped (d : Dev) : Dev := { d with tim.lastStamp := stampOf d }

/-- The uncertainty u in ns (R259, R260, R263). -/
def uncertainty (d : Dev) : Nat :=
  match d.tim.st with
  | .holdover => sat (d.tim.uBase + zeroAs 1 (hfld d .TIME_CFG 15 8) * (d.now - d.tim.uFrom) / 1000000000) (2 ^ 32 - 1)
  | .slewing => sat (25 + (d.tim.rem - slewed d).natAbs) (2 ^ 32 - 1)
  | .stepPending => sat (25 + d.tim.stepPending.natAbs) (2 ^ 32 - 1)
  | _ => sat d.tim.uBase (2 ^ 32 - 1)

/-- ε of R265 in ns. -/
def epsilon (d : Dev) : Nat := clampTo 50 1000 (hfld d .TIME_CFG 31 22)

/-- A deadline on the local clock has been reached. -/
def due (d : Dev) (t : Nat) : Bool := decide (t ≤ d.now)

/-- Microseconds and milliseconds in ns. -/
def us (n : Nat) : Nat := n * 1000
def ms (n : Nat) : Nat := n * 1000000
def sec (n : Nat) : Nat := n * 1000000000

/-- Q, the quarantine of a key or connection: never below 10 ms (R55, R76). -/
def quarMs (d : Dev) : Nat := ms (max 10 (hfld d .TIER_KEY_CFG 9 0))

/-! ### Outputs and free values -/

/-- A frame or answer leaves the device. -/
def send (d : Dev) (o : Out) : Dev := { d with out := d.out ++ [o] }

/-- The next free value. -/
def freeVal (d : Dev) : Nat := Config.freeValue d.free

/-- A free value is used up. -/
def freeStep (d : Dev) : Dev := { d with free := d.free + 1 }

/-! ### Identity (R10) -/

def ordinal (d : Dev) : Nat := d.ldr.ident.ordinal
def twinOrd (d : Dev) : Nat := Nat.xor d.ldr.ident.ordinal 1
def pairNo (d : Dev) : Nat := d.ldr.ident.ordinal / 2
def groupNo (d : Dev) : Nat := d.ldr.ident.ordinal / 64

/-- A federation of one device. -/
def standalone (d : Dev) : Bool := d.ldr.ident.devices == 1

/-! ### Chamber memory (R14, R37, R40) -/

/-- Page key: chamber × 2^36 + page. -/
def pageKey (chamber page : Nat) : Nat := chamber * 2 ^ 36 + page

/-- Chamber and page of a page key. -/
def keyChamber (k : Nat) : Nat := k / 2 ^ 36
def keyPage (k : Nat) : Nat := k % 2 ^ 36

/-- The home cell of a page: the XOR of the seven bytes of R14. -/
def homeCell (chamber page : Nat) : Nat :=
  let b (n i : Nat) := (n >>> (8 * i)) % 256
  [b page 1, b page 2, b page 3, (page >>> 32) % 16, b chamber 0, b chamber 1].foldl Nat.xor (b page 0)

/-- The home cell of a page key. -/
def homeOf (k : Nat) : Nat := homeCell (keyChamber k) (keyPage k)

/-- What a byte of chamber memory reads: zero when never written (R40). -/
def memByte (m : List Host.Cell) (a : Nat) : Byte := ngetD m a 0

/-- A byte stored; a zero byte is not listed, so that equal memories are equal lists. -/
def memSet (m : List Host.Cell) (a : Nat) (b : Byte) : List Host.Cell :=
  if b = 0 then ndel m a else nset m a b

/-- Consecutive bytes stored. -/
def memWrite (m : List Host.Cell) (a : Nat) : List Byte → List Host.Cell
  | [] => m
  | b :: t => memWrite (memSet m a b) (a + 1) t

/-- Consecutive bytes read. -/
def memRead (m : List Host.Cell) (a : Nat) : Nat → List Byte
  | 0 => []
  | n + 1 => memByte m a :: memRead m (a + 1) n

/-- The canonical form of chamber memory: addresses strictly rising, no listed zero. -/
abbrev Memory.wf (m : List Host.Cell) : Prop := nwf m = true ∧ m.all (fun c => c.2 != 0) = true

/-- A range of chamber memory taken out of the list: it reads zero from then on. -/
def memClear (m : List Host.Cell) (lo n : Nat) : List Host.Cell := m.filter fun c => !(lo ≤ c.1 && c.1 < lo + n)

/-- Address of a byte of a chamber: chamber × 2^50 + offset. -/
def chmAddr (chamber off : Nat) : Nat := chamber * 2 ^ 50 + off

/-- Address of the first byte of a page, and of a line. -/
def pageAddr (k : Nat) : Nat := k * 16384
def lineAddr (l : Nat) : Nat := l * 128

/-- The line key that holds an address. -/
def lineOfAddr (a : Nat) : Nat := a / 128

/-- The lines of a page. -/
def pageLines (k : Nat) : List Nat := (List.range 128).map fun i => k * 128 + i

/-- Lines from the one that holds `a` to the one that holds the last of `n` bytes. -/
def linesOf (a n : Nat) : List Nat :=
  if n = 0 then [] else (List.range (lineOfAddr (a + n - 1) + 1 - lineOfAddr a)).map fun i => lineOfAddr a + i

/-- A page lies under the poison of its whole home cell and chamber; pages that the chamber gained since do not (R40, R141). -/
def blanketed (d : Dev) (k : Nat) : Bool := decide (keyPage k < ngetD d.blanket (homeOf k * 2 ^ 16 + keyChamber k) 0)

/-- Poison of a line (R210). -/
def poisoned (d : Dev) (l : Nat) : Bool := d.poison.contains l || (blanketed d (l / 128) && !d.cured.contains l)

def setPoison (d : Dev) (l : Nat) : Dev := { d with poison := sinsert d.poison l }

/-- A line is no longer poisoned; where its whole cell and chamber are, the line is taken out of them. -/
def clearPoison (d : Dev) (l : Nat) : Dev :=
  { d with poison := d.poison.filter (· != l),
           cured := if blanketed d (l / 128) then sinsert d.cured l else d.cured }

/-- The poisoned lines of a page, as line numbers in it. -/
def pagePoison (d : Dev) (k : Nat) : List Nat := (List.range 128).filter fun i => poisoned d (k * 128 + i)

/-- No line of a page is poisoned. -/
def clearPagePoison (d : Dev) (k : Nat) : Dev :=
  let mine := blanketed d k
  { d with poison := d.poison.filter fun l => l / 128 != k, cured := if mine then (pageLines k).foldl sinsert d.cured else d.cured }

/-! ### Connections (R46) -/

def connKey (cell idx : Nat) : Nat := cell * 1024 + idx
def connCell (k : Nat) : Nat := k / 1024
def connIdx (k : Nat) : Nat := k % 1024
def getConn (d : Dev) (k : Nat) : Conn := ngetD d.conns k {}
def setConn (d : Dev) (k : Nat) (c : Conn) : Dev := { d with conns := nset d.conns k c }
def modConn (d : Dev) (k : Nat) (f : Conn → Conn) : Dev := setConn d k (f (getConn d k))

/-- The 24-bit connection number (R46, Table CHM-4). -/
def qpnOf (gen k : Nat) : Nat := gen * 2 ^ 18 + k

/-! ### Sub-states of a cell -/

def getHbm (d : Dev) (c : Nat) : Hbm := ngetD d.hbm c {}
def setHbm (d : Dev) (c : Nat) (h : Hbm) : Dev := { d with hbm := nset d.hbm c h }
def getMed (d : Dev) (c : Nat) : Media := ngetD d.med c {}
def setMed (d : Dev) (c : Nat) (m : Media) : Dev := { d with med := nset d.med c m }
def getAlc (d : Dev) (c : Nat) : Alcove := ngetD d.tier.alc c {}
def setAlc (d : Dev) (c : Nat) (a : Alcove) : Dev := { d with tier.alc := nset d.tier.alc c a }
def getEng (d : Dev) (c : Nat) : Engines := ngetD d.res.eng c {}
def setEng (d : Dev) (c : Nat) (e : Engines) : Dev := { d with res.eng := nset d.res.eng c e }
def getSump (d : Dev) (c : Nat) : SumpSet × SumpSet := ngetD d.per.sump c ({}, {})
def setSump (d : Dev) (c : Nat) (v : SumpSet × SumpSet) : Dev := { d with per.sump := nset d.per.sump c v }
def getRail (d : Dev) (n : Nat) : Rail := ngetD d.pwr.rails n {}
def setRail (d : Dev) (n : Nat) (r : Rail) : Dev := { d with pwr.rails := nset d.pwr.rails n r }

/-- A cell that is fenced by itself or with its course (R15, R365). -/
def cellFenced (d : Dev) (c : Nat) : Bool := nhas d.flt.fences c || nhas d.flt.courses (c / 16)

/-- Cells of the device. -/
def allCells : List Nat := List.range 256

/-- A function applied to the device for each member of a list, in order. -/
def forEach {α : Type} (l : List α) (d : Dev) (f : Dev → α → Dev) : Dev := l.foldl f d

/-- The device is in one of the states that serve (Table PWR-2). -/
def serving (d : Dev) : Bool := d.pwr.state == .service
def inService3 (d : Dev) : Bool := d.pwr.state == .service || d.pwr.state == .quiet || d.pwr.state == .dormant
def isDown (d : Dev) : Bool := d.pwr.state == .flushing || d.pwr.state == .halted || d.pwr.state == .off


/-- A home cell can work: in DORMANT, a frame of the twin waits until the cell is clocked and its HBM channel awake (R357). -/
def cellAwake (d : Dev) (c : Nat) : Bool := d.pwr.state != .dormant || (!d.pwr.gated.contains c && (getHbm d c).st != .selfRefresh)

end Sys2Proof.Machine
end

