-- ==== Sys2Proof/Machine/Addr.lean ====
section
/-!
DEFINITION. The management address map (spec/19_register_reference.md R401, R403, R404, Table REG-1): which register an address names.
-/
namespace Sys2Proof.Machine
open Sys2Proof

/-- What a management address names below the Vault window (Table REG-1): a word of a hub register, of a register of one cell, or of a register of the cells of a course or of all cells. -/
inductive RegPlace where
  | hub (r : RegId) (i : Nat)
  | cell (c : Nat) (r : RegId) (i : Nat)
  | many (cells : List Nat) (r : RegId) (i : Nat)
deriving DecidableEq, Repr

/-- The register at an address of the map, none where the map or the block holds none (R401, R404). -/
def placeOf (a : Nat) : Option RegPlace :=
  let off := a % 0x10000
  if a < 0x000D0000 then (regAt (some (a / 0x10000)) off).map fun x => .hub x.1 x.2
  else if 0x01000000 ≤ a ∧ a < 0x02000000 then (regAt none off).map fun x => .cell (a / 0x10000 % 256) x.1 x.2
  else if 0x02000000 ≤ a ∧ a < 0x02100000 then
    (regAt none off).map fun x => .many ((List.range 16).map fun j => a / 0x10000 % 256 * 16 + j) x.1 x.2
  else if 0x02100000 ≤ a ∧ a < 0x02110000 then (regAt none off).map fun x => .many allCells x.1 x.2
  else none

/-- The register of a place, its word, and the cells it stands in, 0 for the hub. -/
def placeReg : RegPlace → RegId
  | .hub r _ => r
  | .cell _ r _ => r
  | .many _ r _ => r

def placeWord : RegPlace → Nat
  | .hub _ i => i
  | .cell _ _ i => i
  | .many _ _ i => i

def placeCells : RegPlace → List Nat
  | .hub _ _ => [0]
  | .cell c _ _ => [c]
  | .many l _ _ => l

end Sys2Proof.Machine
end

