-- ==== Sys2Proof/Machine/Flags.lean ====
section
/-!
DEFINITION. Faults, the Flowstone log, fences and the flags they set (spec/17_faults_and_events.md R363 to R379), with the entry into FLUSHING
(spec/07_persistence.md R135) that a C3 or C4 causes.
-/
namespace Sys2Proof.Machine
open Sys2Proof

/-! ### Flowstone log (R374 to R379) -/

/-- The slot a new record takes: the lowest empty one, else that of the held record with the lowest sequence whose severity is at most its own
(R376). Which empty slot is taken is a DESIGN CHOICE. -/
def logSlot (d : Dev) (sev : Nat) : Option Nat :=
  if d.log.held.length < 262144 then nfreeFrom d.log.held 0 262144
  else
    (d.log.held.foldl (fun (best : Option (Nat × Nat)) p =>
      if p.2.sev ≤ sev then
        match best with
        | none => some (p.1, p.2.seq)
        | some b => if p.2.seq < b.2 then some (p.1, p.2.seq) else best
      else best) none).map (·.1)

/-- An S3 record joins the journal's waiting records, at most 64; a further one is dropped and counted (R378, R379). -/
def journalAdd (d : Dev) (r : LogRec) : Dev :=
  if r.sev = 3 then
    if d.log.jrn.waiting.length < (if d.pwr.state = .flushing then 32 else 64) then
      { d with log.jrn.waiting := d.log.jrn.waiting ++ [r] }
    else
      bump { d with log.jrn.flushDropped := d.log.jrn.flushDropped + (if d.pwr.state = .flushing then 1 else 0) } .LOG_CNT 0 6
  else d

/-- The bank of the journal sector that the next record goes to: sectors alternate between the banks (R378). -/
def jrnBank (d : Dev) : Nat := d.log.jrn.programmed / 1024 % 2

/-- The next record has an erased sector to go to: it continues one, or the next has finished erasing (R378). -/
def jrnReady (d : Dev) : Bool := d.log.jrn.programmed % 1024 != 0 || d.log.jrn.programmed == 0 || d.log.jrn.nextErased

/-- A record is programmed into the journal; when its sector is half full the erase of the next begins, and what that sector held is gone (R378). -/
def jrnPut (d : Dev) (r : LogRec) : Dev :=
  let n := d.log.jrn.programmed + 1
  let j := { d.log.jrn with programmed := n, recs := d.log.jrn.recs ++ [r], nextErased := if n % 1024 = 1 then false else d.log.jrn.nextErased }
  let j := if n % 1024 = 512 then { j with erasing := true, recs := j.recs.drop (j.recs.length - 14848) } else j
  bump { d with log.jrn := j } .LOG_CNT 0 5

/-- The log controller accepts a record (R374 to R376): it takes the next sequence number whether or not it finds a slot. -/
def logRecord (d : Dev) (sev cls cause unit requester reqCell access : Nat) (merged : Bool) (addr : Nat) (detail : List Nat) : Dev :=
  let d := stamped d
  let r : LogRec := ⟨d.ldr.startCount * 2 ^ 48 + d.log.next, d.tim.lastStamp, sev, cls, cause, unit, requester, reqCell, access, merged, addr, detail⟩
  let d := { d with log.next := d.log.next + 1 }
  match logSlot d sev with
  | none => journalAdd (bump d .LOG_CNT 0 4) r
  | some k => journalAdd (bump { d with log.held := nset d.log.held k r } .LOG_CNT 0 sev) r

/-- A record that is not an error: class 7 (R374). -/
def logEvent (d : Dev) (sev unit : Nat) (detail : List Nat) : Dev := logRecord d sev 7 0 unit 0xFFFE 0 0 false 0 detail

/-! ### Captures (R368 to R371) -/

/-- A class value above 4 acts as 4 (FLT_CFG). -/
def captureMin (d : Dev) : Nat := min 4 (hfld d .FLT_CFG 2 0)
def alertMin (d : Dev) : Nat := min 4 (hfld d .FLT_CFG 10 8)

/-- An error as it fills an empty capture (R368). -/
def captureOf (d : Dev) (e : FaultEvt) : Capture := ⟨e.cls, e.cause, e.unit, e.requester, e.reqCell, e.access, e.addr, d.tim.lastStamp, 0, d.now⟩

/-- An error enters a capture: it fills an empty one and merges into a held one (R369, R370). Of errors of one cycle the one of higher class fills it, on equal class the one of the lower unit, and the
others merge (R369). -/
def captureInto (c : Option Capture) (e : Capture) : Capture :=
  match c with
  | none => e
  | some h =>
    let m := sat (h.merged + 1) 255
    if h.at_ = e.at_ ∧ (h.cls < e.cls ∨ (h.cls = e.cls ∧ e.unit < h.unit)) then { e with merged := m } else { h with cls := max h.cls e.cls, merged := m }

/-- The cell whose capture keeps an error of a unit (R368): units whose index is a cell number, and media dies. -/
def unitCell (u : Nat) : Option Nat :=
  let k := u / 4096
  let i := u % 4096
  if 1 ≤ k ∧ k ≤ 7 then (if k = 5 then some (i / 16) else some i) else none

/-- ALERT_N is driven low while a class bit at or above ALERT_MIN is set (R373). -/
def alertLow (d : Dev) : Bool := (List.range 5).any fun i => decide (alertMin d ≤ i) && d.flt.bits.getLsbD i

/-- The class bit of FLT_STATUS sets (R371). -/
def setClassBit (d : Dev) (c : Nat) : Dev := { d with flt.bits := d.flt.bits ||| BitVec.ofNat 5 (2 ^ c) }

/-! ### Dirty lines (R124, R128) -/

/-- Lines of a frame that count in the dirty limit: modified lines of Mirrored and Local chambers (Table PER-1). -/
def countedClass : ChmClass → Bool
  | .mirrored => true
  | .localC => true
  | .volatileC => false
  | .reference => false

/-- The class of the chamber of a page key. -/
def classOfPage (d : Dev) (k : Nat) : ChmClass :=
  match nget d.chm.chambers (keyChamber k) with
  | some c => c.cls
  | none => .volatileC

/-- Frames homed at a cell. -/
def cellFrames (d : Dev) (c : Nat) : List (Nat × Frame) := d.tier.frames.filter fun p => homeOf p.1 == c

/-- Pages of snapshots in staging frames at a cell, of chambers whose lines are dirty (R275, Table PER-1). -/
def cellStaging (d : Dev) (c : Nat) : List Nat :=
  (d.snap.snaps.map fun s => (s.2.pages.filter fun p => p.2.staging && homeOf p.1 == c).map (·.1)).flatten

/-- The dirty lines of a cell in ascending line key: data lines and the staging lines of Mirrored and Local chambers (R124). -/
def dirtyLines (d : Dev) (c : Nat) : List Nat :=
  ((cellFrames d c).map fun p => if countedClass (classOfPage d p.1) then p.2.lines.map fun i => p.1 * 128 + i else []).flatten

/-- The dirty count of a cell in lines, metadata included (R128). -/
def dirtyCount (d : Dev) (c : Nat) : Nat :=
  (dirtyLines d c).length + 128 * ((cellStaging d c).filter fun k => countedClass (classOfPage d k)).length + ngetD d.per.metaDirty c 0

/-- Lines in MiB, rounded up. -/
def linesMib (n : Nat) : Nat := ceilDiv n 8192

/-! ### Entry into FLUSHING (R135, R366) -/

/-- A cell is flush-capable when it is not fenced, or fenced by a cause that spares its core domain, HBM channel and media channel: a fault of its
port, transport engine, cipher engine or compressor (R135); of the causes of Table FLT-2 these are 0x05, 0x06 and 0x13. A cell whose media channel is OFFLINE or whose HBM channel is FAILED is not (R203, R219). -/
def flushCapable (d : Dev) (c : Nat) : Bool :=
  (getMed d c).st != .offline && (getHbm d c).st != .failed && !nhas d.flt.courses (c / 16) &&
  match nget d.flt.fences c with
  | some cause => cause == 0x05 || cause == 0x06 || cause == 0x13
  | none => true

/-- The set of a cell a flush writes: the armed one with the lower highest erase count, set 0 on a tie (R144). A cell with a replacement pending has no spare block left, and so no armed
set (R145). -/
def flushSet (p : SumpSet × SumpSet) : Option Bool :=
  let whole := p.1.pendingRepl + p.2.pendingRepl == 0
  let a0 := p.1.state == .armed && whole
  let a1 := p.2.state == .armed && whole
  if a0 && a1 then (if p.2.maxPE < p.1.maxPE then some true else some false)
  else if a0 then some false else if a1 then some true else none

/-- Reference pages of a cell that hold undestaged data (R61). -/
def refPages (d : Dev) (c : Nat) : List Nat :=
  ((cellFrames d c).filter fun p => classOfPage d p.1 == .reference && p.2.st == .modified).map (·.1)

/-- A cell opens its sump set: the opening record carries the start count and the dirty line count (R136, R144). -/
def openSump (d : Dev) (c : Nat) : Dev :=
  let p := getSump d c
  let o (s : SumpSet) : SumpSet :=
    { s with state := .writing, startCount := d.ldr.startCount, opened := true, closed := false, dirtyCount := dirtyCount d c, lines := [], staged := [],
             metaLines := ngetD d.per.metaDirty c 0, received := [], refPages := [], disregarded := false }
  if flushCapable d c then
    match flushSet p with
    | some false => setSump d c (o p.1, p.2)
    | some true => setSump d c (p.1, o p.2)
    | none => d
  else d

/-- The bulk commands of a connection that enters ERROR end: those not started are dropped and counted, those started issue no more and stand only until their pieces in flight are
applied (R302). -/
def bulkError (d : Dev) (k : Nat) : Dev :=
  let n := (d.bulk.cmds.filter fun c => c.conn == k && c.state == .waiting).length
  if (d.bulk.cmds.all fun c => c.conn != k) && !nhas d.bulk.recs k then d
  else
    bumpBy { d with bulk.cmds := (d.bulk.cmds.filter fun c => c.conn != k || c.mute || (c.state == .running && c.flight != [])).map fun c => if c.conn = k then { c with stop := true, mute := true } else c,
                    bulk.recs := ndel d.bulk.recs k } .BLK_CNT 0 12 n

/-- A READY connection enters ERROR and is counted; a delay sample in flight is discarded and counted (R76, R95). A connection that is CONNECTING or DRAINING stays so (DESIGN CHOICE: Table
OMT-10 gives the event for READY only; log entry 'Fences and connections that are not READY'). -/
def connError (d : Dev) (k : Nat) : Dev :=
  let c := getConn d k
  if c.state = .ready then
    let d := if c.win.sample.isSome then bump d .OMT_CC_CNT (connCell k) 3 else d
    bulkError (bump (setConn d k { c with state := .error, timer := none, win.sample := none }) .OMT_CNT (connCell k) 6) k
  else d

/-- The merging buffer of a cell drains (R135 step 2, R164): entries whose halves are written in part are counted as drained with a read. -/
def mbHalf (m i : Nat) : Nat := (m >>> (64 * i)) % 2 ^ 64
def mbNeedsRead (e : MbEnt) : Bool :=
  let h (i : Nat) : Bool := mbHalf e.mask i != 0 && mbHalf e.mask i != 2 ^ 64 - 1
  h 0 || h 1

/-- One merging-buffer entry is counted as drained (R164, ALC_CNT[4] and [5]). -/
def countDrain (d : Dev) (c : Nat) (e : MbEnt) : Dev := bump d .ALC_CNT c (if mbNeedsRead e then 5 else 4)

/-- A media channel stops its work: nothing unreleased stays (R135). -/
def closeOpen (now : Nat) (m : NMap Superblock) (s : Stream) : NMap Superblock :=
  match s.sb with
  | some i => nset m i { ngetD m i {} with st := .closed, closedAt := now }
  | none => m

/-- The map pages that were on their way: their changes still stand in T1 or in the sump, and they are written again (R182). -/
def mapAgain (now : Nat) (m : Media) : NMap Nat :=
  let s := ngetD m.streams 2 {}
  ((s.rows.flatten ++ s.filling).filter fun e => e.kind == .map).foldl (fun t e => if nhas t e.key then t else nset t e.key now) m.mapDirty

/-- A root checkpoint is on its way to the media. -/
def rootAway (m : Media) : Bool :=
  let s := ngetD m.streams 2 {}
  (s.rows.flatten ++ s.filling).any fun e => e.kind == .root false || e.kind == .root true

/-- Open superblocks are closed at their last released row. A root checkpoint that was on its way is due again. -/
def stopMedia (now : Nat) (m : Media) : Media :=
  { m with running := [], sbs := m.streams.foldl (fun t p => closeOpen now t p.2) m.sbs, mapDirty := mapAgain now m, streams := [], rootNew := [],
           mapWrites := if rootAway m then m.mapWrites + 1 else m.mapWrites }

/-- A channel leaves self-refresh (R135, R138). -/
def wakeHbm (h : Hbm) : Hbm := if h.st = .selfRefresh then { h with st := .online, trk := [], throttles := [] } else h

/-- Frames without the promotions and destages that a flush drops (R135). -/
def stopDestage (f : Frame) : Frame := { f with destaging := none }
def keepFrames (m : NMap Frame) : NMap Frame := nmap (m.filter fun p => p.2.st != .loading) stopDestage

/-- A port leaves PROVING (R383): 1 EXIT, 2 LIMIT_S, 3 fence, 4 role change, 5 device state. -/
def leaveProving (d : Dev) (cause : Nat) : Dev :=
  match d.tst.proving with
  | some p => { d with tst.proving := none, tst.lastPort := p, tst.ended := cause }
  | none => d

/-- A connection at a power loss: QUARANTINE for Q from the loss, or as long as it had still to run (R76). -/
def lossConn (t : Nat) (c : Conn) : Conn := if c.state = .free ∨ c.state = .quarantine then c else { ({} : Conn) with state := .quarantine, gen := c.gen, deadline := t }

/-- Every connection ends: a READY one enters ERROR, which is counted, and all of them stand in QUARANTINE (R76). -/
def endConns (d : Dev) : Dev :=
  let d := forEach (d.conns.map (·.1)) d connError
  { d with conns := nmap d.conns (lossConn (d.now + quarMs d)) }

/-- How the class of a C3 or C4 acts on the device (R366, R367): it flushes, halts without a flush, or has only the consequences of its raising
rule. -/
inductive SevereAct where
  | flush | noFlush | stay
deriving DecidableEq, Repr

/-- HALTED without a flush: every HBM channel goes to self-refresh, and the halt capture has no record (R366, R372). -/
def haltNoFlush (d : Dev) : Dev :=
  let d := endConns (leaveProving d 5)
  let d := forEach ((d.hbm.filter fun p => p.2.st == .online).map (·.1)) d fun d c => bump d .HBM_CNT c 6
  { d with pwr.state := .halted, pwr.move := none, pwr.latched := none, reqs := [], flt.halt := none,
           hbm := d.hbm.map fun p => (p.1, if p.2.st = .online then { p.2 with st := .selfRefresh } else p.2) }

/-- The device-wide action of a C3 or C4 (R366, R367). -/
def severe (d : Dev) (cls : Nat) (act : SevereAct) : Dev :=
  match act with
  | .stay => d
  | _ =>
    if inService3 d then
      let d := if cls = 4 then { d with flt.grave := true } else d
      if act = .flush then { d with per.falling := some (d.per.falling.getD .severe) } else haltNoFlush d
    else if d.pwr.state = .starting ∧ cls = 3 then { d with pwr.state := .halted, reqs := [] }
    else d

/-- An error is captured by the device and, where its unit is of a cell, by that cell (R368, R369). -/
def capture (d : Dev) (x : Capture) : Dev :=
  let d := { d with flt.first := some (captureInto d.flt.first x), flt.cycle := d.flt.cycle.filter (fun y => y.at_ == x.at_) ++ [x] }
  match unitCell x.unit with
  | some c => { d with flt.cellFirst := nset d.flt.cellFirst c (captureInto (nget d.flt.cellFirst c) x) }
  | none => d

/-- What a capture holds after it is emptied: the errors of the same cycle, which the write precedes (R371). -/
def emptied (d : Dev) (mine : Capture → Bool) : Option Capture :=
  (d.flt.cycle.filter fun x => x.at_ == d.now && mine x).foldl (fun c x => some (captureInto c x)) none

/-- An error is raised in its class (R363 to R370, R374): counted, its class bit set, captured and recorded, then the class's action on the
device. Fences are the raising rule's (R365). -/
def raise (d : Dev) (e : FaultEvt) (act : SevereAct := .flush) : Dev :=
  let d := bump d .FLT_CLASS_CNT 0 e.cls
  let d := setClassBit d e.cls
  let d := stamped d
  let caught := decide (captureMin d ≤ e.cls)
  let merged := caught && d.flt.first.isSome
  let d := if caught then capture d (captureOf d e) else d
  let sev := e.sev.getD (if e.cls = 0 then 1 else if e.cls = 2 then 2 else 3)
  let d := if e.cls = 1 then d else logRecord d sev e.cls e.cause e.unit e.requester e.reqCell e.access merged e.addr e.detail
  if 3 ≤ e.cls then severe d e.cls act else d

/-- C1 at a unit: counted and, where CAPTURE_MIN lets it, captured; no record (R364). -/
def corrected (d : Dev) (cause unit addr access : Nat) : Dev := raise d { cls := 1, cause := cause, unit := unit, addr := addr, access := access }

/-! ### Fences (R365, R15) -/

/-- A cell is fenced with a cause; an earlier fence keeps its cause (FLT_CELL_STATUS). -/
def fenceCell (d : Dev) (c cause : Nat) : Dev :=
  if nhas d.flt.fences c then d else { d with flt.fences := nset d.flt.fences c cause }

/-- A course is fenced: every cell of it (R24, R365). -/
def fenceCourse (d : Dev) (k cause : Nat) : Dev :=
  let d := if nhas d.flt.courses k then d else { d with flt.courses := nset d.flt.courses k cause }
  forEach (List.range 16) d fun d i => fenceCell d (16 * k + i) cause

/-- A capture as the seven words of FLT_FIRST (R368). -/
def captureWords : Option Capture → Nat → Nat
  | none, _ => 0
  | some c, i =>
    match i with
    | 0 => bit_ true 31 + at_ c.cls 28 + at_ c.merged 16 + c.cause
    | 1 => at_ c.unit 16 + c.requester
    | 2 => at_ c.access 28 + c.reqCell
    | 3 => c.addr / 2 ^ 32
    | 4 => c.addr % 2 ^ 32
    | 5 => c.time / 2 ^ 32
    | 6 => c.time % 2 ^ 32
    | _ => 0

/-- CRC-32C, one bit step and over bytes (R374). -/
def crcBits : Nat → Nat → Nat
  | 0, c => c
  | n + 1, c => crcBits n (if c % 2 = 1 then Nat.xor (c / 2) 0x82F63B78 else c / 2)

def crc32c (bs : List Byte) : Nat := Nat.xor (bs.foldl (fun c b => crcBits 8 (Nat.xor c b.toNat)) 0xFFFFFFFF) 0xFFFFFFFF

/-- Bytes 0 to 59 of a Flowstone record (Table FLT-6). -/
def logHead (r : LogRec) : List Byte :=
  leBytes 8 r.seq ++ leBytes 8 r.time ++ leBytes 1 (at_ r.sev 6 + at_ r.cls 3) ++ leBytes 1 r.cause ++ leBytes 2 r.unit ++
    leBytes 2 r.requester ++ leBytes 1 r.reqCell ++ leBytes 1 (at_ r.access 4 + bit_ r.merged 0) ++ leBytes 8 r.addr ++
    ((List.range 7).map fun i => leBytes 4 (r.detail.getD i 0)).flatten

/-- The 64 bytes of a Flowstone record, its CRC-32C last (R374). -/
def logBytes (r : LogRec) : List Byte := logHead r ++ leBytes 4 (crc32c (logHead r))

/-- Word i of a Flowstone record. -/
def logWord (r : LogRec) (i : Nat) : Nat := leNat ((logBytes r).drop (4 * i) |>.take 4)

end Sys2Proof.Machine
end

