-- ==== Sys2Proof/Machine/T1.lean ====
section
/-!
DEFINITION. T1: areas and addresses, activations and throttles, codewords and poison, channel failure (spec/10_dram_tier.md R205 to R223, spec/08_tiers.md R148,
R149).
-/
namespace Sys2Proof.Machine
open Sys2Proof

/-! ### Areas and addresses (R148, R205, R206) -/

/-- First T1 address of the snapshot staging and data areas of a cell: after system, plan and map cache (Table TIR-1, R206). -/
def stagingBase : Nat := (8 + 5 + 384) * 2 ^ 20
def dataBase (d : Dev) : Nat := stagingBase + d.tier.snapGib * 4 * 2 ^ 20

/-- Data frames of 16 KiB per cell: 1,587 MiB at the default (R149). -/
def dataFrames (d : Dev) : Nat := (2 ^ 31 - dataBase d) / 16384

/-- Staging frames per cell (R148). -/
def stagingFrames (d : Dev) : Nat := d.tier.snapGib * 256

/-- Area of a T1 address, as HBM_UE_LAST codes it: 0 system, 1 plan, 2 map cache, 3 staging, 4 data. -/
def t1Area (d : Dev) (a : Nat) : Nat :=
  if a < 8 * 2 ^ 20 then 0 else if a < 13 * 2 ^ 20 then 1 else if a < stagingBase then 2 else if a < dataBase d then 3 else 4

/-- T1 byte address of line i of the frame in a slot of the data area. -/
def frameAddr (d : Dev) (slot i : Nat) : Nat := dataBase d + slot * 16384 + i * 128

/-- Bank and row of a T1 address (Table DRM-1). -/
def t1Bank (a : Nat) : Nat := Nat.xor ((a / 2 ^ 10) % 64) ((a / 2 ^ 16) % 64)
def t1Row (a : Nat) : Nat := a / 2 ^ 16

/-- The page whose frame holds a data-area address of a cell, with the line in it. -/
def pageAtT1 (d : Dev) (c a : Nat) : Option (Nat × Nat) :=
  if a < dataBase d then none
  else
    let slot := (a - dataBase d) / 16384
    ((cellFrames d c).find? fun p => p.2.slot == slot).map fun p => (p.1, (a - dataBase d) % 16384 / 128)

/-! ### Requesters (Table FLT-4) -/

/-- Who makes an access: a connection or an agent, as requester ID and cell. -/
structure Requester where
  id : Nat
  cell : Nat
  access : Nat
deriving DecidableEq, Repr

/-- The requester of a connection's request: its local index at its ingress cell; accesses of the twin carry 0x0400 + home cell. -/
def connRequester (k access : Nat) : Requester := ⟨connIdx k, connCell k, access⟩

/-! ### Row disturbance (R221 to R223) -/

/-- One activation of a row counts in its bank's tracker of 64 entries; the new count is returned (R221). -/
def track (m : NMap Nat) (bank row : Nat) : NMap Nat × Nat :=
  let key := bank * 2 ^ 20 + row
  match nget m key with
  | some n => (nset m key (n + 1), n + 1)
  | none =>
    let mine := m.filter fun p => p.1 / 2 ^ 20 == bank
    if mine.length < 64 then (nset m key 1, 1)
    else
      match mine.foldl (fun (b : Option (Nat × Nat)) p => match b with
          | none => some p
          | some q => if p.2 < q.2 then some p else b) none with
      | none => (nset m key 1, 1)
      | some p => (nset (ndel m p.1) key (p.2 + 1), p.2 + 1)

def rhLimit (d : Dev) (c : Nat) : Nat := clampTo 4 64 (cfld d .HBM_RH_CFG c 23 16) * 256
def rhThrottle (d : Dev) (c : Nat) : Nat := us (clampTo 1 20 (cfld d .HBM_RH_CFG c 15 8))
def rhRadius (d : Dev) (c : Nat) : Nat := zeroAs 1 (cfld d .HBM_RH_CFG c 1 0)

/-- Neighbours within the radius on either side, inside the bank's 32,768 rows. -/
def neighbours (radius row : Nat) : Nat := min radius row + min radius (32767 - row)

/-- An access that reaches T1 activates its row: at the limit the neighbours are refreshed, the count restarts and the requester, or the row when
all 16 entries are in use, is throttled for the rest of the window (R221 to R223). -/
def activate (d : Dev) (c a : Nat) (r : Requester) : Dev :=
  let h := getHbm d c
  let bank := t1Bank a
  let row := t1Row a
  let (trk, n) := track h.trk bank row
  if n < rhLimit d c then setHbm d c { h with trk := trk }
  else
    let d := bumpBy d .HBM_CNT c 7 (neighbours (rhRadius d c) row)
    let trk := nset trk (bank * 2 ^ 20 + row) 0
    let who := r.cell * 65536 + r.id
    if h.throttles.any fun t => t.requester == some who && t.bank == bank then setHbm d c { h with trk := trk }
    else if h.throttles.length < 16 then
      bump (setHbm d c { h with trk := trk, throttles := h.throttles ++ [⟨some who, bank, row, d.now + rhThrottle d c⟩] }) .HBM_CNT c 8
    else
      bump (setHbm d c { h with trk := trk, throttles := h.throttles ++ [⟨none, bank, row, d.now + rhThrottle d c⟩] }) .HBM_CNT c 9

/-- The banks and rows that n bytes from byte lo of the frame in a slot lie in: one row of 1 KiB in each of its 16 banks (Table DRM-1). -/
def spanRows (d : Dev) (slot lo n : Nat) : List (Nat × Nat) :=
  ((List.range 16).filter fun i => decide (i * 1024 < lo + n ∧ lo < i * 1024 + 1024)).map fun i => let a := frameAddr d slot (8 * i); (t1Bank a, t1Row a)

/-- A throttle limits the accesses of a requester to some rows: its own bank for a requester, its row for every requester (R223). -/
def throttles (rows : List (Nat × Nat)) (r : Requester) (t : Throttle) : Bool :=
  match t.requester with
  | some who => who == r.cell * 65536 + r.id && rows.any fun x => x.1 == t.bank
  | none => rows.any fun x => x.1 == t.bank && x.2 == t.row

/-- When a throttled access to some bytes of a frame may next be issued, if it must wait now (R223). -/
def throttledUntil (d : Dev) (c slot lo n : Nat) (r : Requester) : Option Nat :=
  ((getHbm d c).throttles.filter fun t => throttles (spanRows d slot lo n) r t && decide (d.now < t.next)).foldl (fun b t => some (max t.next (b.getD 0))) none

/-- An access of a throttled requester, or to a throttled row, has been issued: the next one comes an interval later (R223). -/
def throttleTake (d : Dev) (c slot lo n : Nat) (r : Requester) : Dev :=
  let h := getHbm d c
  if h.throttles.any (throttles (spanRows d slot lo n) r) then
    setHbm d c { h with throttles := h.throttles.map fun t => if throttles (spanRows d slot lo n) r t then { t with next := d.now + rhThrottle d c } else t }
  else d

/-! ### Correctable errors (R208, R209) -/

/-- A correction enters the table of 32 entries (R209). -/
def ceAdd (m : NMap CeEnt) (la kind lane time : Nat) : NMap CeEnt × Bool :=
  match m.find? fun p => p.2.la == la with
  | some (i, e) => (nset m i { e with count := sat (e.count + 1) 65535, kind := max e.kind kind, lane := lane, last := time }, false)
  | none =>
    match nfreeFrom m 0 32 with
    | some i => (nset m i ⟨la, kind, lane, 1, time, time⟩, false)
    | none =>
      match m.foldl (fun (b : Option (Nat × CeEnt)) p => match b with
          | none => some p
          | some q => if p.2.count < q.2.count ∨ (p.2.count = q.2.count ∧ p.2.last < q.2.last) then some p else b) none with
      | none => (m, false)
      | some v => (nset m v.1 ⟨la, kind, lane, 1, time, time⟩, true)

/-- Kind of a correction by the lanes in error: 1 check symbols only, 2 one data symbol alone, 3 two to four symbols (R209). -/
def ceKind (lanes : List Nat) : Nat :=
  if lanes.all (64 ≤ ·) then 1 else if lanes.length = 1 then 2 else 3

/-- A corrected codeword: counted, entered in the table, reported as C1 (R208, R209, R364). -/
def correctCodeword (d : Dev) (c a : Nat) (lanes : List Nat) : Dev :=
  let d := bump d .HBM_CNT c 0
  let d := if lanes.all (64 ≤ ·) then bump d .HBM_CNT c 1 else d
  let d := forEach lanes d fun d l => bump d .HBM_LANE_CNT c l
  let h := getHbm d c
  let (ce, repl) := ceAdd h.ce (a / 128) (ceKind lanes) (lanes.getLastD 0) (fedTime d)
  let d := setHbm d c { h with ce := ce }
  let d := if repl then bump d .HBM_CNT c 10 else d
  corrected d 0x1F (uHbm c) a 5

/-! ### Channel failure (R219) -/

/-- A channel fails with a cause: FAILED until power-on, its cell fenced as class C2 with cause 0x0C. -/
def failChannel (d : Dev) (c cause : Nat) : Dev :=
  let h := getHbm d c
  if h.st = .failed then d
  else
    let d := setHbm d c { h with st := .failed, cause := cause }
    raise (fenceCell d c 0x0C) { cls := 2, cause := 0x0C, unit := uHbm c, addr := cause }

/-! ### Uncorrectable lines (R210, R211) -/

/-- Every entry of the merging buffer that holds a line is updated. -/
def mbMark (l : List MbEnt) (line : Nat) (p : Bool) : List MbEnt := l.map fun e => if e.line = line then { e with poison := p } else e

/-- An uncorrectable line at a T1 address: recorded, counted, reported as C0 with an S2 record (R211), and the channel fails when FAIL_UE
codewords have been met within one second (R219). The poison of a data line is set by the caller. -/
def ueLine (d : Dev) (c a codewords : Nat) (r : Requester) : Dev :=
  let d := bumpBy d .HBM_CNT c 2 codewords
  let d := bump d .HBM_CNT c 3
  let h := getHbm d c
  let times := (h.ueTimes.filter fun t => d.now < t + sec 1) ++ List.replicate codewords d.now
  let d := setHbm d c { h with ue := some (t1Area d a, a / 128, r.id, fedTime d), ueTimes := times }
  let d := raise d { cls := 0, cause := 0x0B, unit := uHbm c, requester := r.id, reqCell := r.cell, access := r.access, addr := a, sev := some 2,
                     detail := [a / 128, t1Area d a, r.id] }
  let lim := cfld d .HBM_CFG c 23 16
  if lim ≠ 0 ∧ lim ≤ times.length then failChannel d c 3 else d

/-- Page-frame entry of a page. -/
def getFrame (d : Dev) (k : Nat) : Option Frame := nget d.tier.frames k
def setFrame (d : Dev) (k : Nat) (f : Frame) : Dev := { d with tier.frames := nset d.tier.frames k f }
def delFrame (d : Dev) (k : Nat) : Dev := { d with tier.frames := ndel d.tier.frames k }

/-! ### Mirror pair shorthands used by repair (R215) -/

/-- The pair is Joined and its twin is not suspected. -/
def joined (d : Dev) : Bool := d.cus.state == .joined && !d.cus.twinSuspect

/-- T1 line repair is requested from a second copy, if one exists (R215): from T2 for a CLEAN frame, from the twin for a MODIFIED frame of a
Mirrored chamber while the pair is Joined. The frame that asks leaves on the home cell's mirror connection; `Repair.whole` is false. -/
def repairWanted (d : Dev) (k : Nat) : Bool :=
  match getFrame d k with
  | none => false
  | some f => f.st == .clean || (f.st == .modified && classOfPage d k == .mirrored && joined d && fbit (reg d .HBM_CFG (homeOf k) 0) 31)

/-- The T1 read of a line decodes its two codewords (R207, R208, R211): lanes in error of each, up to 4 corrected. Returns whether the line is
uncorrectable. -/
def decodeLine (d : Dev) (c a : Nat) (lanes : List Nat × List Nat) (r : Requester) : Dev × Bool :=
  let bad := [lanes.1, lanes.2].filter fun l => 5 ≤ l.length
  let good := [lanes.1, lanes.2].filter fun l => 1 ≤ l.length && l.length ≤ 4
  let d := forEach good d fun d l => correctCodeword d c a l
  let d := if good ≠ [] ∧ bad = [] ∧ fbit (reg d .HBM_CFG c 0) 30 then
      bump { d with latent := ndel d.latent (c * 2 ^ 24 + a / 128) } .HBM_CNT c 4 else d
  if bad = [] then (d, false)
  else (ueLine { d with latent := ndel d.latent (c * 2 ^ 24 + a / 128) } c a bad.length r, true)

end Sys2Proof.Machine
end

