-- ==== Sys2Proof/Machine/Operands.lean ====
section
/-!
DEFINITION. Operand forms of the transport: opcodes by version, PSN arithmetic, packets of a message, status encodings and waits, access ranges
(spec/04_olisar_transport.md R64 to R90, spec/03_chambers.md R48 to R52).
-/
namespace Sys2Proof.Machine
open Sys2Proof

/-! ### Statuses (R8, Table SCO-3) -/

def stOk : Nat := 0x00
def stKeyStale : Nat := 0x01
def stKeyInvalid : Nat := 0x02
def stBounds : Nat := 0x03
def stRights : Nat := 0x04
def stQuota : Nat := 0x05
def stPoisoned : Nat := 0x06
def stNotCustodian : Nat := 0x07
def stEpoch : Nat := 0x08
def stTierFail : Nat := 0x09
def stBusy : Nat := 0x0A
def stUnavailable : Nat := 0x0B

/-- The AETH syndrome of a status (R86, Table OMT-11); BUSY and EPOCH are computed from their waits. -/
def syndromeOf (status : Nat) : Nat :=
  if status = stOk then 0x1F
  else if status = stEpoch then 0x21
  else if 1 ≤ status ∧ status ≤ 4 then 0x62
  else 0x63

/-- Malformed or unsupported request: invalid request (Table OMT-11). -/
def synInvalid : Nat := 0x61

/-- PSN sequence error (R80): the InfiniBand NAK code 0 with syndrome 0x60. -/
def synSeqErr : Nat := 0x60

/-! ### RNR waits (R30, R87) -/

/-- Times of the RNR NAK timer codes in ns, code 0 last at 655.36 ms (the RNR NAK timer field of the InfiniBand Architecture specification). -/
def rnrTimes : List (Nat × Nat) :=
  [(1, 10000), (2, 20000), (3, 30000), (4, 40000), (5, 60000), (6, 80000), (7, 120000), (8, 160000), (9, 240000), (10, 320000), (11, 480000),
   (12, 640000), (13, 960000), (14, 1280000), (15, 1920000), (16, 2560000), (17, 3840000), (18, 5120000), (19, 7680000), (20, 10240000),
   (21, 15360000), (22, 20480000), (23, 30720000), (24, 40960000), (25, 61440000), (26, 81920000), (27, 122880000), (28, 163840000),
   (29, 245760000), (30, 327680000), (31, 491520000), (0, 655360000)]

/-- The time of an RNR timer code in ns. -/
def rnrTime (code : Nat) : Nat := ((rnrTimes.find? fun p => p.1 == code).map (·.2)).getD 655360000

/-- The smallest code whose time is at least the wait; code 0x00 when the wait is longer than 491.52 ms (R87). -/
def rnrCode (wait : Nat) : Nat := ((rnrTimes.find? fun p => decide (wait ≤ p.2)).map (·.1)).getD 0

/-- The DETAIL of a BUSY STATUS NAK: the wait in 10 µs units, rounded up and capped (R87). -/
def busyDetail (wait : Nat) : Nat := sat (ceilDiv wait 10000) 0xFFFF

/-! ### PSNs (R80) -/

def psnMod (n : Nat) : Nat := n % 2 ^ 24

/-- Classes of a request packet against the expected PSN (R80). -/
inductive PsnClass where
  | expected | duplicate | outOfSeq
deriving DecidableEq, Repr

def psnClass (psn epsn : Nat) : PsnClass :=
  let diff := psnMod (psn + 2 ^ 24 - epsn)
  if diff = 0 then .expected else if 2 ^ 23 ≤ diff then .duplicate else .outOfSeq

/-- `a` lies at or before `b` in the half window. -/
def psnLe (a b : Nat) : Bool := decide (psnMod (b + 2 ^ 24 - a) < 2 ^ 23)

/-- Packets a message of n bytes occupies at a path MTU (R80): at least one. -/
def packetsOf (n mtu : Nat) : Nat := max 1 (ceilDiv n mtu)

/-! ### Opcodes (R72, Tables OMT-6 and OMT-7) -/

/-- Kinds of request a host or twin sends. -/
inductive OpKind where
  | send | write | writeImm | read | cas | faa | commit | bulk | bulkAbort
deriving DecidableEq, Repr

/-- The standard opcodes of a kind, by the opcode of its first packet: for SEND and WRITE First and the Only forms (Table OMT-6). -/
def stdOpcodes : OpKind → List Nat
  | .send => [0x00, 0x04, 0x05]
  | .write => [0x06, 0x0A]
  | .writeImm => [0x06, 0x0B]
  | .read => [0x0C]
  | .cas => [0x13]
  | .faa => [0x14]
  | .commit => []
  | .bulk => []
  | .bulkAbort => []

/-- The opcode is one the version allows for this kind: standard opcodes on v0, opcodes from 0xC0 on v1 to v3, 0xD5 from v1, 0xD7 and 0xD9 from v2
(R72, Table OMT-7). -/
def opcodeAllowed (version : Nat) (k : OpKind) (opcode : Nat) : Bool :=
  if version = 0 then (stdOpcodes k).contains opcode
  else
    match k with
    | .commit => opcode == 0xD5
    | .bulk => opcode == 0xD7 && 2 ≤ version
    | .bulkAbort => opcode == 0xD9 && 2 ≤ version
    | _ => 0xC0 ≤ opcode && (stdOpcodes k).contains (opcode - 0xC0)

/-! ### Key rights (R52, Table CHM-7) -/

/-- The operation's own right and, with the persist flag, the persist right. -/
def rightsOk (e : KeyEnt) (k : ReqKind) (persist : Bool) : Bool :=
  (match k with
    | .read => e.rd
    | .write => e.wr
    | .cas => e.at_
    | .faa => e.at_
    | .commit => e.ps
    | .mirrorWrite => true
    | .copy => true
    | .marker => true
    | .commitMark => true
    | .load => e.rd
    | .verify => e.rd
    | .trim => e.wr) && (!persist || e.ps)

/-- Bounds (R51): VA + length within the window, computed without overflow; an atomic's VA is a multiple of 8; length 0 skips the check. -/
def boundsOk (e : KeyEnt) (k : ReqKind) (va len : Nat) : Bool :=
  (len == 0 || decide (va + len ≤ e.len * 4096)) && (match k with
    | .cas => va % 8 == 0
    | .faa => va % 8 == 0
    | _ => true)

/-- The page parts of a range of a chamber, in ascending order: page, offset in the request and length (R16, R43). -/
def pageParts (off len : Nat) : List (Nat × Nat × Nat) :=
  if len = 0 then []
  else
    (List.range ((off + len - 1) / 16384 + 1 - off / 16384)).map fun i =>
      let p := off / 16384 + i
      let lo := max off (p * 16384)
      let hi := min (off + len) ((p + 1) * 16384)
      (p, lo - off, hi - lo)

/-- Wait and stall settings. -/
def stallUs (d : Dev) : Nat := us (zeroAs 1 (hfld d .TIER_DIRTY_CFG 31 24))
def stallMs (d : Dev) : Nat := ms (zeroAs 1 (hfld d .CUS_CFG 15 8))
def promoMs (d : Dev) : Nat := ms (zeroAs 1 (hfld d .TIER_DESTAGE_CFG 31 24))
def cellMib (d : Dev) : Nat := clampTo 16 480 (hfld d .TIER_DIRTY_CFG 8 0)
def devGib (d : Dev) : Nat := clampTo 1 96 (hfld d .TIER_DIRTY_CFG 23 16)
def ackCoalesce (d : Dev) (c : Nat) : Nat := zeroAs 1 (cfld d .OMT_CFG c 23 20)
def maxVer (d : Dev) (c : Nat) : Nat := min 3 (cfld d .OMT_CFG c 7 4)
def minVer (d : Dev) (c : Nat) : Nat := min (maxVer d c) (cfld d .OMT_CFG c 3 0)

end Sys2Proof.Machine
end

