-- ==== Sys2Proof/Machine/Wire.lean ====
section
/-!
DEFINITION. Fields of the wire: the OXH, the PMH, the offer block, opcodes of what the device sends and the sizes of its frames (spec/04_olisar_transport.md R66, R69, R72, R88;
spec/06_federation_fabric.md R109).
-/
namespace Sys2Proof
open Sys2Proof.Machine

/-! ### The OXH (R69, Table OMT-4): word w holds bits 159 − 32w to 128 − 32w -/

def Oxh.version (x : Oxh) : Nat := x.bits.toNat / 2 ^ 156
def Oxh.poison (x : Oxh) : Bool := x.bits.getLsbD 155
def Oxh.persist (x : Oxh) : Bool := x.bits.getLsbD 154
def Oxh.hold (x : Oxh) : Bool := x.bits.getLsbD 153
def Oxh.mirror (x : Oxh) : Bool := x.bits.getLsbD 152
def Oxh.epoch (x : Oxh) : Nat := x.bits.toNat / 2 ^ 144 % 4
def Oxh.stage (x : Oxh) : Nat := x.bits.toNat / 2 ^ 142 % 4
def Oxh.src (x : Oxh) : Nat := x.bits.toNat / 2 ^ 128 % 2 ^ 14
def Oxh.claim (x : Oxh) : Nat := x.bits.toNat / 2 ^ 80 % 2 ^ 48
def Oxh.hopCount (x : Oxh) : Nat := x.bits.toNat / 2 ^ 72 % 2 ^ 8
def Oxh.timestamp (x : Oxh) : Nat := x.bits.toNat % 2 ^ 64

/-- An OXH of this device: every reserved bit is 0. -/
def oxhOf (version : Nat) (poison persist hold mirror : Bool) (epoch stage src claim hops time : Nat) : Oxh :=
  ⟨BitVec.ofNat 160 (at_ version 156 + bit_ poison 155 + bit_ persist 154 + bit_ hold 153 + bit_ mirror 152 + at_ (epoch % 4) 144 + at_ (stage % 4) 142 + at_ (src % 2 ^ 14) 128 +
    at_ (claim % 2 ^ 48) 80 + at_ (hops % 2 ^ 8) 72 + time % 2 ^ 64)⟩

/-- The OXH with another timestamp (R71). -/
def Oxh.atTime (x : Oxh) (t : Nat) : Oxh := ⟨BitVec.ofNat 160 (x.bits.toNat / 2 ^ 64 * 2 ^ 64 + t % 2 ^ 64)⟩

end Sys2Proof

namespace Sys2Proof.Machine
open Sys2Proof

/-! ### The PMH (R88) -/

/-- The bits that a PMH sets: [63:33] are reserved. -/
def pmhBits (w : BitVec 64) : List Nat := (List.range 33).filter w.getLsbD

/-- A PMH with some bits set. -/
def pmhWord (l : List Nat) : BitVec 64 := BitVec.ofNat 64 ((l.filter (· < 33)).foldl (fun n i => n ||| 2 ^ i) 0)

/-- The PMH of a payload of n bytes at an address whose poisoned lines, as line keys, are among a list; none where the payload touches none of them. -/
def pmhOf (addr n : Nat) (bad : List Nat) : Option (BitVec 64) :=
  match (linesOf addr n).filter bad.contains with
  | [] => none
  | l => some (pmhWord (l.map (· - lineOfAddr addr)))

/-- The packets of a message of n bytes: offset and length of each payload, at least one (R80). -/
def packetSpans (n mtu : Nat) : List (Nat × Nat) := (List.range (packetsOf n mtu)).map fun i => (i * mtu, min mtu (n - i * mtu))

/-- The lines, as line keys, that the PMHs of a message mark: bit i of a packet's PMH marks the i-th aligned line that its payload touches, from the line of its first byte. -/
def msgMarks (addr n mtu : Nat) (pmh : List (Option (BitVec 64))) : List Nat :=
  (((packetSpans n mtu).zip pmh).map fun x => match x.2 with
    | some w => ((pmhBits w).map (lineOfAddr (addr + x.1.1) + ·)).filter (linesOf (addr + x.1.1) x.1.2).contains
    | none => []).flatten.eraseDups

/-! ### Opcodes of what the device sends (R72, Tables OMT-6 and OMT-7) -/

/-- An opcode of Table OMT-6 in the form of a version. -/
def opForm (version std : Nat) : Nat := if version = 0 then std else 0xC0 + std

/-- The opcode of packet i of n of a message whose First, Middle, Last and Only forms are given. -/
def partOp (i n first middle last only : Nat) : Nat := if n ≤ 1 then only else if i = 0 then first else if i + 1 = n then last else middle

/-! ### The offer block (R66, Table OMT-2) -/

/-- The OMT offer block: magic 0x4F4D, the two version nibbles, epoch and ordinal; every other bit is reserved and 0. -/
def offerBlock (hi lo epoch ord : Nat) : List Byte :=
  [0x4F, 0x4D, BitVec.ofNat 8 (hi % 16 * 16 + lo % 16), 0, BitVec.ofNat 8 (epoch % 4), 0, BitVec.ofNat 8 (ord % 2 ^ 14 / 256), BitVec.ofNat 8 ord]

/-- The versions offered by the private data of a REQ: lowest and highest, 0 to 0 for a plain RoCE partner; nibbles above 3 count as 3 (R67). -/
def offered (priv : List Byte) : Nat × Nat :=
  if priv.length < 44 ∨ priv.getD 36 0 ≠ 0x4F ∨ priv.getD 37 0 ≠ 0x4D then (0, 0)
  else (min 3 ((priv.getD 38 0).toNat % 16), min 3 ((priv.getD 38 0).toNat / 16))

/-! ### Payloads of control frames: big-endian, reserved fields 0; a TAG of 16 bytes follows where the table has one -/

/-- NEIGHBOUR HELLO (Table FAB-5). -/
def helloBytes (ord port role digest : Nat) : List Byte := beBytes 2 (ord % 2 ^ 14) ++ beBytes 1 port ++ beBytes 1 role ++ beBytes 4 digest ++ beBytes 8 0

/-- LINK STATE (Table FAB-6): port p in byte 8 + p / 4, bits [7 − 2 (p mod 4) : 6 − 2 (p mod 4)]; `states` has port p at bit 2p. -/
def linkStateBytes (origin seq states : Nat) : List Byte :=
  beBytes 2 (origin % 2 ^ 14) ++ beBytes 6 seq ++ (List.range 64).map fun i =>
    BitVec.ofNat 8 ((List.range 4).foldl (fun n j => n + at_ (states / 4 ^ (4 * i + j) % 4) (6 - 2 * j)) 0)

/-- ROUTE ANNOUNCE before its TAG (Table FAB-7). -/
def routeBytes (pair holder claim seq : Nat) : List Byte := beBytes 2 (pair % 2 ^ 13) ++ beBytes 2 (holder % 2 ^ 14) ++ beBytes 6 claim ++ beBytes 6 seq

/-- CLAIM REQUEST before its TAG (Table PAI-2). -/
def claimReqBytes (requester kind scope chamber cSeen number : Nat) : List Byte :=
  beBytes 2 (requester % 2 ^ 14) ++ beBytes 1 (kind % 16 * 16 + scope % 16) ++ beBytes 1 0 ++ beBytes 2 (if scope = 2 then chamber else 0) ++ beBytes 6 cSeen ++ beBytes 2 number ++ beBytes 2 0

/-- CLAIM GRANT, and CLAIM ANSWER from the witness or a twin, before its TAG (Table PAI-3). -/
def claimAnsBytes (pair kind scope : Nat) (solo : Bool) (stale reason chamber claim grantee number : Nat) : List Byte :=
  beBytes 2 (pair % 2 ^ 13) ++ beBytes 1 (kind % 16 * 16 + scope % 16) ++ beBytes 1 (bit_ solo 6 + at_ (stale % 4) 4 + reason % 16) ++ beBytes 2 chamber ++ beBytes 6 claim ++
    beBytes 2 (grantee % 2 ^ 14) ++ beBytes 2 number

/-- CLAIM ANSWER of kind STATUS before its TAG (Table PAI-3). -/
def statusBytes (pair state : Nat) (stale yielded : Bool) (impairment claim sender : Nat) (marks : Bool) : List Byte :=
  beBytes 2 (pair % 2 ^ 13) ++ beBytes 1 0xF0 ++ beBytes 1 (at_ (state % 4) 6 + bit_ stale 5 + bit_ yielded 4) ++ beBytes 2 impairment ++ beBytes 6 claim ++ beBytes 2 (sender % 2 ^ 14) ++
    beBytes 2 (bit_ marks 15)

/-- A calendar entry (Table TIM-3). -/
def entryBytes (time kind flags rsv act arg : Nat) : List Byte :=
  beBytes 8 time ++ beBytes 1 (kind % 16 * 16 + flags % 16) ++ beBytes 3 rsv ++ beBytes 4 act ++ beBytes 8 arg

/-- An entry as it came, with the act that it belongs to. -/
def wireEntry (act : Nat) (e : CalWire) : List Byte := entryBytes e.time.toNat e.kind.toNat e.flags.toNat e.rsv.toNat act e.arg.toNat

/-- CALENDAR POST before its TAG (Table TIM-6); the entry of a mode answer holds generation and epoch. -/
def calPostBytes (act op result : Nat) (entry : List Byte) : List Byte := beBytes 4 act ++ beBytes 1 op ++ beBytes 1 result ++ beBytes 2 0 ++ entry
def modeEntry (gen epoch : Nat) : List Byte := beBytes 4 gen ++ beBytes 1 (epoch % 4) ++ List.replicate 19 0
def noEntry : List Byte := List.replicate 24 0

/-- TREE BROADCAST and TREE GATHER before their TAG (Table TIM-7). -/
def treeBytes (act op root : Nat) (entry : List Byte) : List Byte := beBytes 4 act ++ beBytes 1 op ++ beBytes 1 0 ++ beBytes 2 root ++ entry
def gatherBytes (act op mask accepted refused maxU first : Nat) : List Byte :=
  beBytes 4 act ++ beBytes 1 op ++ beBytes 1 mask ++ beBytes 2 accepted ++ beBytes 2 refused ++ beBytes 2 maxU ++ beBytes 2 first ++ List.replicate 18 0

/-- DOZE_REQ and DOZE_ACK (Table PWR-3). -/
def dozeBytes (seq result : Nat) : List Byte := beBytes 1 seq ++ beBytes 1 result ++ beBytes 2 0

/-- A payload as the fields of a message. -/
def payload (l : List Byte) : List Nat := l.map (·.toNat)

/-! ### Sizes of frames (R30, R104): Ethernet 14, tag 4, IPv6 40, UDP 8, BTH 12, OXH 20, PMH 8, ICRC 4 -/

/-- Bytes of a frame besides its opcode headers and payload; with MACsec on, SecTAG and ICV join them (R319). -/
def baseBytes (oxh : Bool) (pmh : Bool) : Nat := 82 + (if oxh then 20 else 0) + (if pmh then 8 else 0)

/-- Payload of a control opcode (Tables FAB-5 to FAB-7, PAI-2, TIM-6). -/
def ctrlPayload (opcode : Nat) : Nat :=
  match opcode with
  | 0xE0 => 16
  | 0xE1 => 72
  | 0xE3 => 0
  | 0xE7 => 48
  | 0xE8 => 48
  | 0xE9 => 48
  | 0xEA => 4
  | 0xEB => 4
  | _ => 32

/-- A connection-manager message: DETH of 8 bytes and a MAD of 256. -/
def cmBytes : Nat := baseBytes false false + 264

/-! ### Addresses (R109) -/

/-- A port's MAC address (R109): 0x02, 0x00, ordinal, 0x00, port number. -/
def macOf (ord p : Nat) : Nat := 0x020000000000 + ord * 2 ^ 16 + p
def macAddr (d : Dev) (p : Nat) : Nat := macOf (ordinal d) p

/-- The federation prefix, the top 64 bits of its addresses. -/
def fabPrefix (d : Dev) : Nat := (reg d .FAB_PREFIX 0 0).toNat * 2 ^ 32 + (reg d .FAB_PREFIX 0 1).toNat

/-- The device address of an ordinal, and the pair address of a pair (Table FAB-3). -/
def devAddr (d : Dev) (o : Nat) : Nat := fabPrefix d * 2 ^ 64 + 0xA1 * 2 ^ 56 + o
def pairAddr (d : Dev) (n : Nat) : Nat := fabPrefix d * 2 ^ 64 + 0xA2 * 2 ^ 56 + n

/-- What an address inside the prefix names (Table FAB-3). -/
inductive FabAddr where
  | device (o : Nat)
  | pair (n : Nat)
  | other
deriving DecidableEq, Repr

def parseAddr (d : Dev) (a : Nat) : FabAddr :=
  let iid := a % 2 ^ 64
  if a / 2 ^ 64 ≠ fabPrefix d then .other
  else if iid / 2 ^ 14 = 0xA1 * 2 ^ 42 then .device (iid % 2 ^ 14)
  else if iid / 2 ^ 14 = 0xA2 * 2 ^ 42 ∧ iid % 2 ^ 14 < 2 ^ 13 then .pair (iid % 2 ^ 14)
  else .other

end Sys2Proof.Machine
end

