-- ==== Sys2Proof/Machine/Pools.lean ====
section
/-!
DEFINITION. Buffer pools and the pause they cause (spec/02_cell_resources.md R26 to R34, spec/05_congestion.md R102).
-/
namespace Sys2Proof.Machine
open Sys2Proof

def getPort (d : Dev) (p : Nat) : Port := ngetD d.ports p {}
def setPort (d : Dev) (p : Nat) (v : Port) : Dev := { d with ports := nset d.ports p v }
def modPort (d : Dev) (p : Nat) (f : Port → Port) : Dev := setPort d p (f (getPort d p))

/-- Role of a port: four bits of FAB_PORT_ROLE (spec/06_federation_fabric.md): 0 OFF, 1 HOST, 2 TWIN, 3 LOCAL, 4 GLOBAL. -/
def portRole (d : Dev) (p : Nat) : Nat := fld (reg d .FAB_PORT_ROLE 0 (p / 8)) (4 * (p % 8) + 3) (4 * (p % 8))

/-- The TWIN ports in ascending order: twin links 0 to T − 1 (R20). -/
def twinPorts (d : Dev) : List Nat := allCells.filter fun p => portRole d p == 2

/-- Pools of Table CEL-1: buffer size, count and fixed reserve. -/
def poolSize (p : Nat) : Nat := [256, 2048, 16384, 65536].getD p 0
def poolCount (p : Nat) : Nat := [512, 128, 16, 2].getD p 0
def poolReserve (p : Nat) : Nat := [32, 8, 2, 0].getD p 0

/-- The first place of a pool's buffers in its cell, and the pool of a place. -/
def poolFirst (p : Nat) : Nat := [0, 512, 640, 656].getD p 658
def poolOf (place : Nat) : Nat := if place < 512 then 0 else if place < 640 then 1 else if place < 656 then 2 else 3

/-- Cell and pool of a buffer (R26): it belongs to them for the life of the device. -/
def bufCell (id : Nat) : Nat := id / 1024
def bufPool (id : Nat) : Nat := poolOf (id % 1024)

/-- Free buffers of pool p of a cell, reserve included (POOL_FREE). -/
def poolFree (d : Dev) (c p : Nat) : Nat := poolCount p - (d.res.bufs.filter fun b => bufCell b.1 == c && bufPool b.1 == p).length

/-- A free buffer of a pool: the lowest. Which one is a DESIGN CHOICE. -/
def freeBuf (d : Dev) (c p : Nat) : Nat := ((List.range (poolCount p)).map fun i => c * 1024 + poolFirst p + i).find? (fun id => !nhas d.res.bufs id) |>.getD 0

/-- The smallest pool whose buffer size is at least the requested size (R27). -/
def firstPool (size : Nat) : Nat := if size ≤ 256 then 0 else if size ≤ 2048 then 1 else if size ≤ 16384 then 2 else 3

/-- A pool has a buffer available to a requester (R27). -/
def poolAvail (d : Dev) (c p : Nat) (reserve : Bool) : Bool :=
  decide (poolReserve p < poolFree d c p) || (reserve && decide (0 < poolFree d c p))

/-- EMPTY_MODE resolved: 0b00 and 0b11 follow the image's federation (R29). True is fall back. -/
def fallsBack (d : Dev) (c : Nat) : Bool :=
  match cfld d .POOL_CFG c 1 0 with
  | 1 => false
  | 2 => true
  | _ => !standalone d

/-- The pool that serves a request of a size, if any (R27, R29). -/
def choosePool (d : Dev) (c size : Nat) (reserve : Bool) : Option Nat :=
  let p := firstPool size
  if poolAvail d c p reserve then some p
  else if fallsBack d c then ((List.range 4).filter (p < ·)).find? fun q => poolAvail d c q reserve
  else none

/-- The general free space F of a cell in bytes (R33). -/
def generalFree (d : Dev) (c : Nat) : Nat :=
  (List.range 4).foldl (fun s p => s + (poolFree d c p - poolReserve p) * poolSize p) 0

/-- XOFF and XON thresholds of a group in bytes; XON at or below XOFF acts as XOFF + 16 KiB (R34). -/
def xoffAt (d : Dev) (c g : Nat) : Nat := fld (reg d .POOL_PFC c g) 9 0 * 1024
def xonAt (d : Dev) (c g : Nat) : Nat :=
  let on := fld (reg d .POOL_PFC c g) 25 16 * 1024
  if on ≤ xoffAt d c g then xoffAt d c g + 16384 else on

/-- PCPs of a threshold group (R33). -/
def groupPcps (g : Nat) : List Nat := if g = 0 then [0, 1, 2] else if g = 1 then [3, 4, 5] else [6]

/-- PFC is sent and honoured: PFC_EN on a HOST port; on TWIN, LOCAL and GLOBAL ports the field acts as 1 (R103). -/
def pfcOn (d : Dev) (p : Nat) : Bool :=
  if portRole d p = 1 then fbit (reg d .PORT_PFC_CFG p 0) 31 else 2 ≤ portRole d p

/-- Duration of 65,535 pause quanta of 512 bit times at the port's rate, in ns (R102). -/
def pauseTime (d : Dev) (p : Nat) : Nat := 65535 * 512 / max 1 (getPort d p).rateGbps

/-- A PFC frame of the device: opcode number 0x0101, destination port, the PCPs named and their quanta (R102). -/
def sendPfc (d : Dev) (p g quanta : Nat) : Dev := send d (.ctrl 0x0101 p (quanta :: groupPcps g))

/-- A port's transmitter runs: its link is up and it is not fenced (R106). -/
def txOn (d : Dev) (p : Nat) : Bool := (getPort d p).link == .up && (getPort d p).fence.isNone

/-- XOFF and XON of the groups of a cell's port follow F (R33, R102). -/
def pfcUpdate (d : Dev) (c : Nat) : Dev :=
  if pfcOn d c && txOn d c then
    forEach [0, 1, 2] d fun d g =>
      let p := getPort d c
      let f := generalFree d c
      if nhas p.xoff g then
        (if xonAt d c g < f then sendPfc (setPort d c { p with xoff := ndel p.xoff g }) c g 0 else d)
      else if f < xoffAt d c g then
        bump (sendPfc (setPort d c { p with xoff := nset p.xoff g (d.now, d.now + pauseTime d c / 2) }) c g 0xFFFF) .PORT_CNG_CNT c 0
      else d
  else d

/-- A buffer is taken, with one reference (R28, R31); the fallback grant is counted (POOL_CNT[1]). -/
def takeBuf (d : Dev) (c pool size requester : Nat) : Dev × Nat :=
  let id := freeBuf d c pool
  let d := { d with res.bufs := nset d.res.bufs id ⟨requester, 1, false⟩ }
  let d := if pool = firstPool size then d else bump d .POOL_CNT c 1
  (pfcUpdate d c, id)

/-- A reference is dropped: the last one frees the buffer in the same cycle (R31). A decrement of a count that is already 0 is a C2 fault that fences the cell and keeps the
buffer out of its pool (R32). -/
def dropRef (d : Dev) (id : Nat) : Dev :=
  let under (requester : Nat) : Dev :=
    raise (fenceCell { d with res.bufs := nset d.res.bufs id ⟨requester, 0, true⟩ } (bufCell id) 0x07)
      { cls := 2, cause := 0x07, unit := uCell (bufCell id), requester := requester, reqCell := bufCell id, addr := id }
  match nget d.res.bufs id with
  | none => under 0xFFFE
  | some b =>
    if b.refs = 0 then under b.requester
    else if b.refs = 1 then pfcUpdate { d with res.bufs := ndel d.res.bufs id } (bufCell id)
    else { d with res.bufs := nset d.res.bufs id { b with refs := b.refs - 1 } }

/-- A buffer, if one is held, gives up its reference. -/
def dropBuf (d : Dev) : Option Nat → Dev
  | none => d
  | some id => dropRef d id

/-- Back-off cap of a cell: values above 10 act as 10; intervals in ns start at 0.5 µs (R30). -/
def backoffCap (d : Dev) (c : Nat) : Nat := 500 * 2 ^ (min 10 (cfld d .POOL_CFG c 7 4))

/-- The requester of a buffer may use the reserve of R27: recovery agents always, the flush agent in FLUSHING. -/
def usesReserve (d : Dev) (requester : Nat) : Bool :=
  requester == 0x1005 || requester == 0x1006 || requester == 0x1007 || (requester == 0x1004 && d.pwr.state == .flushing)

/-- The buffers of a requester's data (R26): data above 65,536 bytes goes through in pieces, each of which asks for a buffer of its own when the one before has gone on; the last piece's
buffer is kept (DESIGN CHOICE: the manual does not say how long a buffer is held). None when a piece finds no buffer, and then nothing is taken. -/
def takePieces : Nat → Dev → Nat → Nat → Nat → Bool → Option (Dev × Nat)
  | 0, d, c, _, requester, reserve => (choosePool d c 1 reserve).map fun p => takeBuf d c p 1 requester
  | n + 1, d, c, size, requester, reserve =>
    let first := max 1 (min 65536 size)
    match choosePool d c first reserve with
    | none => none
    | some p =>
      let x := takeBuf d c p first requester
      if size ≤ 65536 then some x else takePieces n (dropRef x.1 x.2) c (size - 65536) requester reserve

/-- A requester asks for the buffers of some bytes. -/
def takeBufs (d : Dev) (c size requester : Nat) (reserve : Bool) : Option (Dev × Nat) := takePieces (size / 65536 + 1) d c size requester reserve

/-- A reference is added; a holder that would raise the count above 255 takes a new buffer from a pool that serves its size and copies the data into it, counted in POOL_CNT[3] (R31).
Answers the buffer that the new reference is of; none when that copy finds no buffer, and then the consumer goes on with the payload as it has it (DESIGN CHOICE: the manual does not say
what it does). -/
def addRef (d : Dev) (id : Nat) : Dev × Option Nat :=
  match nget d.res.bufs id with
  | none => (d, none)
  | some b =>
    if b.refs = 0 then (d, none)
    else if b.refs = 255 then
      let c := bufCell id
      let d := bump d .POOL_CNT c 3
      (match choosePool d c (poolSize (bufPool id)) false with
        | some p => let x := takeBuf d c p (poolSize (bufPool id)) b.requester; (x.1, some x.2)
        | none => (d, none))
    else ({ d with res.bufs := nset d.res.bufs id { b with refs := b.refs + 1 } }, some id)

/-- An internal requester is refused: counted, and set to retry after 0.5 µs (R30). -/
def addWait (d : Dev) (c requester size : Nat) (use : WaitUse) : Dev :=
  bump { d with res.waits := d.res.waits ++ [⟨c, requester, size, usesReserve d requester, 500, d.now + 500, d.now, false, use⟩] } .POOL_CNT c 2

/-- An internal requester asks for a buffer: it goes on with one, or waits (R28, R30). -/
def withBuf (d : Dev) (c requester size : Nat) (use : WaitUse) (go : Dev → Nat → Dev) : Dev :=
  match takeBufs d c size requester (usesReserve d requester) with
  | some x => go x.1 x.2
  | none => addWait d c requester size use

/-- Control traffic and frames of other devices use a cell's buffer while they are handled (R27, R104): the reserve is open to control traffic. A frame that finds none is discarded and
counted in PORT_CNG_CNT[6] of its port. -/
def throughBuf (d : Dev) (p size requester : Nat) (control : Bool) (go : Dev → Dev) : Dev :=
  match takeBufs d p size requester control with
  | some x => dropRef (go x.1) x.2
  | none => bump d .PORT_CNG_CNT p 6

end Sys2Proof.Machine
end

