-- ==== Sys2Proof/Machine/Compress.lean ====
section
/-!
DEFINITION. The compression engine: its classes and their grants (spec/02_cell_resources.md R35, R36).
-/
namespace Sys2Proof.Machine
open Sys2Proof

/-- An internal requester that finds its class FIFO full retries by the back-off of R30 (R36). -/
def engineWait (d : Dev) (c requester : Nat) (use : WaitUse) : Dev :=
  { d with res.waits := d.res.waits ++ [⟨c, requester, 0, false, 500, d.now + 500, d.now, false, use⟩] }

/-- A free direction of the compression engine takes the head of the highest eligible class (R36). -/
def grantComp (d : Dev) (c : Nat) : Dev :=
  let e := getEng d c
  let lim := zeroAs 1 (cfld d .CMP_QUEUE_CFG c 3 0)
  let e := match e.decBusy with
    | some _ => e
    | none =>
      match e.demand, e.plan with
      | a :: t, p =>
        (match p with
          | [] => { e with demand := t, decBusy := some a, starveD := 0 }
          | b :: u => if lim ≤ e.starveD then { e with plan := u, decBusy := some b, starveD := 0 }
                      else { e with demand := t, decBusy := some a, starveD := e.starveD + 1 })
      | [], b :: u => { e with plan := u, decBusy := some b, starveD := 0 }
      | [], [] => e
  let e := match e.compBusy, e.comp with
    | none, a :: t => { e with comp := t, compBusy := some a }
    | _, _ => e
  setEng d c e

/-- A page enters a class of the compression engine: 0 demand, 1 plan, 2 compression. A demand for a page in the plan class moves it (R36); one that the demand class has no room for leaves
it where it is, and tries again. -/
def submitComp (d : Dev) (c cls page : Nat) : Dev :=
  let e := getEng d c
  if cls = 0 then
    if e.demand.contains page || e.decBusy == some page then d
    else if 16 ≤ e.demand.length then engineWait d c 0x1001 (if e.plan.contains page then .raise page else .comp 0 page)
    else grantComp (setEng d c { e with plan := e.plan.filter (· != page), demand := e.demand ++ [page] }) c
  else if cls = 1 then
    if e.demand.contains page || e.plan.contains page || e.decBusy == some page then d
    else if 16 ≤ e.plan.length then engineWait d c 0x1001 (.comp 1 page)
    else grantComp (setEng d c { e with plan := e.plan ++ [page] }) c
  else if 32 ≤ e.comp.length then engineWait d c 0x1000 (.comp 2 page)
  else grantComp (setEng d c { e with comp := e.comp ++ [page] }) c

end Sys2Proof.Machine
end

