-- ==== Sys2Proof/Machine/Egress.lean ====
section
/-!
DEFINITION. How frames leave the ports: classes, token bucket and deficit round robin, pause and doze (spec/05_congestion.md R91 to R93, R103, R106; spec/06_federation_fabric.md R109,
R116; spec/16_power.md R361), and the control messages of PCP 7.
-/
namespace Sys2Proof.Machine
open Sys2Proof

/-! ### Ports (R107, R116, R117, R119, R320) -/

/-- A port with role TWIN, LOCAL or GLOBAL. -/
def fabricPort (d : Dev) (p : Nat) : Bool := let r := portRole d p; r == 2 || r == 3 || r == 4

/-- The port of a cell runs MACsec (R313). -/
def macsecOn (d : Dev) (c : Nat) : Bool := fbit (reg d .PORT_MACSEC_CFG c 0) 31

def getMka (d : Dev) (p : Nat) : Mka := ngetD d.sec.mka p {}
def setMka (d : Dev) (p : Nat) (m : Mka) : Dev := { d with sec.mka := nset d.sec.mka p m }

/-- A port whose MKA session is not live carries no data frame (R320). -/
def macCarries (d : Dev) (p : Nat) : Bool := !macsecOn d p || (getMka d p).live

/-- A fabric port whose identity check has passed, that is up and not fenced, and whose MACsec session, if any, is live (R119, R320). -/
def portUp (d : Dev) (p : Nat) : Bool :=
  let q := getPort d p
  fabricPort d p && q.link == .up && q.passed && q.fence.isNone && macCarries d p && !cellFenced d p

/-- A port carries frames in both directions: a HOST port with its link up and no fence, or a fabric port whose check has passed (R106, R117). -/
def portCarries (d : Dev) (p : Nat) : Bool := txOn d p && (portRole d p == 1 || (fabricPort d p && (getPort d p).passed))

/-- The far end that the declared topology gives an own port: ordinal, port, role. -/
def farEnd (d : Dev) (o p : Nat) : Option (Nat × Nat × Nat) :=
  d.fab.topo.links.findSome? fun l =>
    if l.a = o ∧ l.ap = p then some (l.b, l.bp, l.role) else if l.b = o ∧ l.bp = p then some (l.a, l.ap, l.role) else none

/-! ### Queues and classes (R91, R93, R103) -/

/-- Bytes that a port's queue holds for a PCP. -/
def occupancy (d : Dev) (p pcp : Nat) : Nat := ((getPort d p).queue.filter (·.pcp == pcp)).foldl (fun n e => n + e.bytes) 0

/-- The partner pauses a PCP now; a port on which PFC is off honours no pause (R103). -/
def pcpPaused (d : Dev) (p pcp : Nat) : Bool := pfcOn d p && (match nget (getPort d p).rx pcp with
  | some (e, _) => decide (d.now < e)
  | none => false)

/-- The bucket of PCP 7 at this time: refilled at CTRL_PCT percent of the rate, at most 64 KiB (R93). -/
def bucketNow (d : Dev) (p : Nat) : Int :=
  let q := getPort d p
  let pct := zeroAs 1 (cfld d .PORT_TC_CFG p 19 16)
  min 65536 (q.bucket + ((d.now - q.bucketAt) * q.rateGbps * pct / 800 : Nat))

/-- DRR weight of a PCP (R93). -/
def drrWeight (d : Dev) (p pcp : Nat) : Nat :=
  zeroAs 1 (if pcp ≤ 2 then cfld d .PORT_TC_CFG p 3 0 else if pcp ≤ 5 then cfld d .PORT_TC_CFG p 7 4 else cfld d .PORT_TC_CFG p 11 8)

/-- A header with the time at which its frame leaves (R70, R71). -/
def hdrAt (t : Nat) (h : FrameHdr) : FrameHdr := { h with oxh := h.oxh.map fun x => x.atTime t }

/-- A frame as it leaves: its OXH carries the time of transmission, but that of a mirror write or resync copy its custodian timestamp (R70, R71). -/
def sentAt (t : Nat) : Out → Out
  | .ack h => .ack (hdrAt t h)
  | .readData h b m => .readData (hdrAt t h) b m
  | .atomicAck h o => .atomicAck (hdrAt t h) o
  | .nak h s => .nak (hdrAt t h) s
  | .statusNak h y s x => .statusNak (hdrAt t h) y s x
  | .completion h f => .completion (hdrAt t h) f
  | .request h k b m => match k with
    | .part _ _ => .request h k b m
    | .copy _ _ => .request h k b m
    | _ => .request (hdrAt t h) k b m
  | .control w x o f => .control w (x.map fun x => x.atTime t) o f
  | .cm w k q f b => .cm w k q f b
  | .forwarded w f c s h o x => .forwarded w f c s h o x
  | .ctrl o p f => .ctrl o p f

/-- The oldest frame of a PCP leaves its queue, and its buffer is free (R31). -/
def emit (d : Dev) (p : Nat) (e : Egress) : Dev :=
  dropBuf (send (modPort d p fun q => { q with queue := q.queue.eraseP fun x => x.pcp == e.pcp }) (sentAt (fedTime d) e.frame)) e.buf

/-- PCP 7 first, while the bucket holds; a frame that finds it short waits (R93). -/
def drainCtrl : Nat → Dev → Nat → Dev
  | 0, d, _ => d
  | n + 1, d, p =>
    match (getPort d p).queue.find? fun e => e.pcp == 7 with
    | none => d
    | some e =>
      if (e.bytes : Int) ≤ bucketNow d p then
        drainCtrl n (emit (modPort d p fun q => { q with bucket := bucketNow d p - e.bytes, bucketAt := d.now }) p e) p
      else d

/-- One turn of a class: its quantum joins its deficit and frames leave while it lasts (R93). -/
def drrTurn : Nat → Dev → Nat → Nat → Dev
  | 0, d, _, _ => d
  | n + 1, d, p, pcp =>
    match (getPort d p).queue.find? fun e => e.pcp == pcp with
    | none => modPort d p fun q => { q with deficit := ndel q.deficit pcp }
    | some e =>
      let left := ngetD (getPort d p).deficit pcp 0
      if e.bytes ≤ left then drrTurn n (emit (modPort d p fun q => { q with deficit := nset q.deficit pcp (left - e.bytes) }) p e) p pcp else d

/-- Rounds of deficit round robin over PCPs 0 to 6; a paused class keeps its deficit but takes no turn (R93). -/
def drrRounds : Nat → Dev → Nat → Dev
  | 0, d, _ => d
  | n + 1, d, p =>
    if (getPort d p).queue.all fun e => e.pcp == 7 || pcpPaused d p e.pcp then d
    else
      drrRounds n (forEach (List.range 7) d fun d pcp =>
        if pcpPaused d p pcp || !((getPort d p).queue.any fun e => e.pcp == pcp) then d
        else
          let d := modPort d p fun q => { q with deficit := nset q.deficit pcp (ngetD q.deficit pcp 0 + drrWeight d p pcp * 4096) }
          drrTurn ((getPort d p).queue.length + 1) d p pcp) p

/-- The link of a port carries PCPs 0 to 6: between the agreement on doze and the end of its exit it carries PCP 7 only (R361). -/
def linkAwake (d : Dev) (p : Nat) : Bool := let s := (getPort d p).doze.st; s == .active || s == .requested

/-- What may leave a port leaves. -/
def drainPort (d : Dev) (p : Nat) : Dev :=
  if !txOn d p then d
  else
    let n := (getPort d p).queue.length
    let d := drainCtrl n d p
    if linkAwake d p && macCarries d p then drrRounds (17 * n) d p else d

/-- Every port that still holds frames lets go what may leave by now: a bucket has refilled, a pause or PFC_EN has ended. -/
def drainAll (d : Dev) : Dev := forEach ((d.ports.filter fun p => p.2.queue != []).map (·.1)) d drainPort

/-- A frame of PCP 0 to 6 restarts the idle time of the port's link (R360) and wakes a dozed end; frames of PCP 7 leave and arrive without waking it (R361, DEDUCED; log entry 'Control frames on a
dozed link'). -/
def carried (d : Dev) (p pcp : Nat) : Dev :=
  if pcp = 7 then d
  else modPort d p fun q => { q with doze := { q.doze with idleSince := d.now, woken := q.doze.st == .doze || q.doze.st == .entering } }

/-- MACsec makes a protected frame 24 bytes longer (R319). -/
def onWire (d : Dev) (p bytes : Nat) : Nat := if macsecOn d p then bytes + 24 else bytes

/-- A frame joins the egress queue of a port and leaves when it may; a PCP 7 frame that the bucket delays is counted (R93). A port that is fenced discards it (R106), and so does
one whose link is down, as Timing FAB-1 has it. -/
def enqueue (d : Dev) (p pcp bytes : Nat) (frame : Out) (buf : Option Nat := none) : Dev :=
  if (getPort d p).fence.isSome then dropBuf (bump d .PORT_CNG_CNT p 6) buf
  else if (getPort d p).link != .up then dropBuf (bump d .FAB_CNT 0 2) buf
  else
    let e : Egress := ⟨pcp, onWire d p bytes, d.now, frame, buf⟩
    let d := drainPort (carried (modPort d p fun q => { q with queue := q.queue ++ [e] }) p pcp) p
    if pcp = 7 ∧ (getPort d p).queue.any (·.pcp == 7) = true then bump d .PORT_CNG_CNT p 4 else d

/-- A port stops carrying: what waits at it is discarded and counted in a counter. -/
def dropQueue (d : Dev) (p : Nat) (r : RegId) (c i : Nat) : Dev :=
  let l := (getPort d p).queue
  bumpBy (forEach l (modPort d p fun q => { q with queue := [], deficit := [] }) fun d e => dropBuf d e.buf) r c i l.length

/-! ### Frames of the device itself (R91, R101, R109, R112) -/

/-- The hop limit with which the device's own frames leave a port: 8, less one on a LOCAL or GLOBAL link (R54, R112). The initial value 8 is a DESIGN CHOICE: R54 names 8 as the most that a
frame entering the federation carries. -/
def ownHopLimit (d : Dev) (p : Nat) : Nat := if portRole d p = 3 ∨ portRole d p = 4 then 7 else 8

/-- The MAC address a frame on a port goes to: the partner port's on a fabric link (R109), on a HOST port that of the host, which the manual does not say how the device learns. -/
def destMac (d : Dev) (p dst : Nat) : Nat :=
  match farEnd d (ordinal d) p with
  | some (o, fp, _) => macOf o fp
  | none => Config.hostMac dst

/-- The Ethernet and IPv6 fields of an own frame: from the device address, Not-ECT (R101, R109). -/
def ownWire (d : Dev) (p pcp dst : Nat) : Wire := ⟨p, pcp, macAddr d p, destMac d p dst, devAddr d (ordinal d), dst, ownHopLimit d p, 0⟩

/-! ### Control messages (R91, R93, R116) -/

/-- Model numbers of IEEE 1588 messages and of the pulse output (R256). -/
def ptpSync : Nat := 0x15880
def ptpDelayReq : Nat := 0x15881
def ptpDelayResp : Nat := 0x15889
def ptpAnnounce : Nat := 0x1588B
def ppsPulse : Nat := 0x1588F

/-- Model numbers of messages between twins, and of a HEARTBEAT acknowledgement, whose fields are the receiver and the send time that it acknowledges. -/
def msgCreate : Nat := 0x0200
def msgChamber : Nat := 0x0201
def msgKey : Nat := 0x0202
def msgRelease : Nat := 0x0203
def msgConfirm : Nat := 0x0204
def msgRefuse : Nat := 0x0205
def msgReleaseAck : Nat := 0x0206
def msgFormChamber : Nat := 0x0207
def msgFormKey : Nat := 0x0208
def msgBeatAck : Nat := 0x0500

/-- The port on which a control message for a device leaves: the lowest fabric port in service whose far end it is (DESIGN CHOICE: the manual names no port; a HEARTBEAT goes on every
path by itself). -/
def portTo (d : Dev) (o : Nat) : Option Nat :=
  allCells.find? fun p => portUp d p && (portRole d p == 2 || portRole d p == 3) && (match farEnd d (ordinal d) p with
    | some x => x.1 == o
    | none => portRole d p == 2 && o == twinOrd d)

/-- How a message of the device leaves. -/
inductive CtrlWay where
  /-- on a port, in PCP 7; an IEEE 1588 event message passes the bucket -/
  | port (p : Nat) (event : Bool)
  /-- through no fabric port: the management port, I3C, a pin, an answer to a neighbour solicitation -/
  | direct
  | nowhere
deriving DecidableEq, Repr

/-- The way of a message by its number: control opcodes and MKPDUs name their port, claim messages and messages between twins their receiver. -/
def ctrlWay (d : Dev) (opcode dest : Nat) : CtrlWay :=
  if opcode = ptpSync ∨ opcode = ptpDelayReq then .port dest true
  else if opcode = ptpDelayResp ∨ opcode = ptpAnnounce ∨ opcode = 0x888E ∨ opcode = msgBeatAck then .port dest false
  else if opcode = 0xE4 ∨ opcode = 0xE5 ∨ opcode = 0xE6 ∨ (msgCreate ≤ opcode ∧ opcode ≤ msgReleaseAck) then
    (match portTo d dest with
      | some p => .port p false
      | none => .nowhere)
  else if 0xE0 ≤ opcode ∧ opcode ≤ 0xEF then .port dest false
  else .direct

/-- A frame of PCP 7 takes a buffer of its port's cell, for which the reserve is open, and holds it while it waits at the port (R27); one that finds none is discarded and counted as R104
says. -/
def sendCtl (d : Dev) (p bytes : Nat) (frame : Out) : Dev :=
  match takeBufs d p bytes 0x2000 true with
  | some x => enqueue x.1 p 7 bytes frame (some x.2)
  | none => bump d .PORT_CNG_CNT p 6

/-- The OXH of a control frame on connection index 0, which runs OMT v3 (R70, R77, R232); MKPDUs and IEEE 1588 messages have none. -/
def ctrlOxh (d : Dev) (opcode claim : Nat) : Option Oxh :=
  if opcode = 0x888E ∨ (ptpSync ≤ opcode ∧ opcode ≤ ptpAnnounce) then none else some (oxhOf 3 false false false false d.mode.epoch 0 (ordinal d) claim 0 (fedTime d))

/-- A control frame on a port. -/
def ctrlFrame (d : Dev) (p opcode claim : Nat) (fields : List Nat) : Out :=
  .control (ownWire d p 7 (devAddr d (((farEnd d (ordinal d) p).map (·.1)).getD (twinOrd d)))) (ctrlOxh d opcode claim) opcode fields

/-- A control message of PCP 7 with a CLAIM. Until the identity check of a port has passed, only HELLO leaves it, and the MKPDUs of MACsec (R117; log entry 'MKPDUs before the identity check').
An IEEE 1588 event message leaves at once and is charged to the bucket, which it drives negative by at most itself (R93). -/
def sendClaimed (d : Dev) (opcode dest claim : Nat) (fields : List Nat) : Dev :=
  match ctrlWay d opcode dest with
  | .direct => send d (.ctrl opcode dest fields)
  | .nowhere => d
  | .port p event =>
    if fabricPort d p && !(getPort d p).passed && opcode != 0xE0 && opcode != 0x888E then d
    else
      let bytes := baseBytes (ctrlOxh d opcode claim).isSome false + ctrlPayload opcode
      if event then
        (if txOn d p then
          send (modPort d p fun q => { q with bucket := max (-(onWire d p bytes : Int)) (bucketNow d p - onWire d p bytes), bucketAt := d.now }) (ctrlFrame d p opcode claim fields)
        else d)
      else sendCtl d p bytes (ctrlFrame d p opcode claim fields)

/-- A control message whose CLAIM is 0 (Table PAI-1). -/
def sendCtrl (d : Dev) (opcode dest : Nat) (fields : List Nat) : Dev := sendClaimed d opcode dest 0 fields

/-- A control message copied to several ports: the copies share one buffer, with a reference each (R31). -/
def sendCopies (d : Dev) (opcode cell : Nat) (ports : List Nat) (fields : List Nat) : Dev :=
  if ports = [] then d
  else
    let bytes := baseBytes true false + ctrlPayload opcode
    match takeBufs d cell bytes 0x2000 true with
    | none => bump d .PORT_CNG_CNT cell 6
    | some (d, id) =>
      let d := forEach ports d fun d p =>
        let x := addRef d id
        enqueue x.1 p 7 bytes (ctrlFrame d p opcode 0 fields) x.2
      dropRef d id

end Sys2Proof.Machine
end

