-- ==== Sys2Proof/Machine/Route.lean ====
section
/-!
DEFINITION. Routing (spec/06_federation_fabric.md R111, R113 to R115): the next hop of a frame, flowlets, and the port of what the device sends to a host.
-/
namespace Sys2Proof.Machine
open Sys2Proof

def groupOf (o : Nat) : Nat := o / 64

/-- A declared link is up in the database at both ends. -/
def linkUp (d : Dev) (l : TopoLink) : Bool :=
  let st (o p : Nat) : Bool := match nget d.fab.db o with
    | some r => (r.states >>> (2 * p)) % 4 == 1
    | none => false
  st l.a l.ap && st l.b l.bp

/-- Up links of a device with a role: own port and far device. -/
def upLinks (d : Dev) (o role : Nat) : List (Nat × Nat) :=
  d.fab.topo.links.filterMap fun l =>
    if l.role = role ∧ linkUp d l = true then (if l.a = o then some (l.ap, l.b) else if l.b = o then some (l.bp, l.a) else none) else none

/-- A frame that lands at x in the group of t can be delivered. -/
def landOk (d : Dev) (x t : Nat) : Bool := x == t || (upLinks d x 3).any fun l => l.2 == t

/-- GLOBAL links of x to the group of t that lead on to t. -/
def globalsTo (d : Dev) (x t : Nat) : List (Nat × Nat) := (upLinks d x 4).filter fun l => groupOf l.2 == groupOf t && landOk d l.2 t

/-- From y, entered over one GLOBAL link, the rest of the route to t is up (Table FAB-4, stage 1). -/
def stage1Ok (d : Dev) (y t : Nat) : Bool :=
  if groupOf y = groupOf t then landOk d y t
  else globalsTo d y t != [] || (upLinks d y 3).any fun l => globalsTo d l.2 t != []

/-- GLOBAL links of x to a third group from which t can be reached. -/
def detours (d : Dev) (x t : Nat) : List (Nat × Nat) :=
  (upLinks d x 4).filter fun l => groupOf l.2 != groupOf t && groupOf l.2 != groupOf x && stage1Ok d l.2 t

/-- The choice with the fewest bytes queued for a PCP, the lower port on a tie (R114). -/
def leastPort (d : Dev) (pcp : Nat) (l : List Nat) : Option Nat :=
  l.foldl (fun (b : Option Nat) p => match b with
    | none => some p
    | some q => if occupancy d p pcp < occupancy d q pcp ∨ (occupancy d p pcp = occupancy d q pcp ∧ p < q) then some p else b) none

/-- Minimal choices of the source toward another group, with the links of the route. -/
def minimalChoices (d : Dev) (s t : Nat) : List (Nat × Nat) :=
  ((globalsTo d s t).map fun l => (l.1, if l.2 = t then 1 else 2)) ++
  ((upLinks d s 3).filterMap fun l => match globalsTo d l.2 t with
    | [] => none
    | g => some (l.1, if g.any fun x => x.2 == t then 2 else 3))

/-- Non-minimal choices of the source (Table FAB-4). -/
def nonMinimal (d : Dev) (s t : Nat) : List (Nat × Nat) :=
  ((detours d s t).map fun l => (l.1, 4)) ++ ((upLinks d s 3).filterMap fun l => if detours d l.2 t = [] then none else some (l.1, 5))

/-- Where a frame goes. -/
inductive Hop where
  | port (p : Nat) (nonMin : Bool)
  | noRoute
  | discard
deriving DecidableEq, Repr

/-- What Table FAB-4 permits a frame and the database shows usable: minimal choices and non-minimal ones as port and links of the route, and what becomes of a frame that has none. -/
structure HopSet where
  mins : List (Nat × Nat)
  nons : List (Nat × Nat)
  otherwise_ : Hop
deriving DecidableEq, Repr

/-- The choices of a frame for device t (Table FAB-4): role of the port it arrived on (1 HOST or originated here), and its STAGE. A LOCAL frame of stage 1, or a GLOBAL one in its own group,
whose one permitted link is down counts as one that the table discards, FAB_CNT[3] (DESIGN CHOICE: R113 names FAB_CNT[2] for want of a usable choice, the table says 'otherwise
discarded'; log entry 'Table FAB-4 otherwise discarded'). -/
def hopSet (d : Dev) (role stage t : Nat) : HopSet :=
  let s := ordinal d
  let one (l : List (Nat × Nat)) : List (Nat × Nat) := l.map fun x => (x.1, 1)
  if role = 3 then
    if stage = 0 then (match globalsTo d s t with
      | [] => ⟨[], one (detours d s t), .noRoute⟩
      | l => ⟨one l, [], .noRoute⟩)
    else if stage = 1 then ⟨one (globalsTo d s t), [], .discard⟩
    else ⟨[], [], .discard⟩
  else if role = 4 then
    if groupOf s = groupOf t then (if stage = 1 ∨ stage = 2 then ⟨one ((upLinks d s 3).filter fun l => l.2 == t), [], .discard⟩ else ⟨[], [], .discard⟩)
    else if stage = 1 then ⟨one (globalsTo d s t) ++ one ((upLinks d s 3).filter fun l => globalsTo d l.2 t != []), [], .noRoute⟩
    else ⟨[], [], .discard⟩
  else if groupOf s = groupOf t then
    (match (upLinks d s 3).filter fun l => l.2 == t with
      | [] => ⟨[], nonMinimal d s t, .noRoute⟩
      | l => ⟨one l, [], .noRoute⟩)
  else ⟨minimalChoices d s t, nonMinimal d s t, .noRoute⟩

/-- The choice of the first frame of a flowlet (R114, R115). -/
def nextHop (d : Dev) (h : HopSet) (pcp : Nat) : Hop :=
  let links (l : List (Nat × Nat)) (p : Nat) : Nat := ((l.find? fun x => x.1 == p).map (·.2)).getD 0
  match leastPort d pcp (h.mins.map (·.1)), leastPort d pcp (h.nons.map (·.1)) with
  | some m, some n =>
    if hfld d .FAB_CFG 31 31 = 1 ∧ links h.mins m * occupancy d m pcp > links h.nons n * occupancy d n pcp + hfld d .FAB_CFG 23 16 * 1024 then .port n true else .port m false
  | some m, none => .port m false
  | none, some n => .port n true
  | none, none => h.otherwise_

/-- The flowlet of a frame (R114): held by a live entry whose port is still among the frame's usable choices, else started with the port now chosen. -/
def flowletHop (d : Dev) (key : Nat) (h : HopSet) (pcp : Nat) : Dev × Hop :=
  let i := Config.flowHash key % 65536
  let gap := us (zeroAs 1 (hfld d .FAB_CFG 15 8))
  let start : Dev × Hop := match nextHop d h pcp with
    | .port p nm =>
      let d := bump { d with fab.flowlets := nset d.fab.flowlets i ⟨key, p, d.now⟩ } .FAB_CNT 0 6
      (if nm then bump d .FAB_CNT 0 1 else d, .port p nm)
    | x => (d, x)
  match nget d.fab.flowlets i with
  | some f =>
    if f.key = key ∧ d.now ≤ f.last + gap ∧ ((h.mins ++ h.nons).any fun x => x.1 == f.port) = true ∧ portUp d f.port = true then
      ({ d with fab.flowlets := nset d.fab.flowlets i { f with last := d.now } }, .port f.port (!(h.mins.any fun x => x.1 == f.port)))
    else start
  | none => start

/-- The host attachment table learns a source address on a HOST port; a full table replaces the entry refreshed longest ago (R111). -/
def learnHost (d : Dev) (p addr : Nat) : Dev :=
  if portRole d p ≠ 1 then d
  else if nhas d.fab.hosts addr || decide (d.fab.hosts.length < 65536) then { d with fab.hosts := nset d.fab.hosts addr (p, d.now) }
  else match d.fab.hosts.foldl (fun (b : Option (Nat × Nat)) h => match b with
      | none => some (h.1, h.2.2)
      | some q => if h.2.2 < q.2 then some (h.1, h.2.2) else b) none with
    | some v => bump { d with fab.hosts := nset (ndel d.fab.hosts v.1) addr (p, d.now) } .FAB_CNT 0 14
    | none => d

/-- The key of a flow: source, destination and QPN (R114). -/
def flowKey (src dst qpn : Nat) : Nat := (src * 2 ^ 128 + dst) * 2 ^ 24 + qpn

/-- The port of a frame that the device sends to a host (R111, R113): from the host attachment table where the return ordinal is its own, else toward the device of the return ordinal. A frame
without entry or route is discarded and counted. -/
def routeOut (d : Dev) (addr ret qpn pcp : Nat) : Dev × Option Nat :=
  if ret = ordinal d then
    match nget d.fab.hosts addr with
    | some (p, _) => (d, some p)
    | none => (bump d .FAB_CNT 0 15, none)
  else
    match flowletHop d (flowKey (devAddr d (ordinal d)) addr qpn) (hopSet d 1 0 ret) pcp with
    | (d, .port p _) => (d, some p)
    | (d, .noRoute) => (bump d .FAB_CNT 0 2, none)
    | (d, .discard) => (bump d .FAB_CNT 0 3, none)

/-- The port number that stands for the management port. -/
def mgmtPort : Nat := 256

/-- A frame of a connection leaves (R77, R78, R91, R111): on the link of a mirror or control connection in PCP 6 or 7, through the management port, or to the host in the PCP of its
kind at stage 0. -/
def connOut (d : Dev) (k : Nat) (response : Bool) (bytes : Nat) (frame : Wire → Out) : Dev :=
  let c := getConn d k
  if 2 ^ 18 ≤ k then send d (frame ⟨mgmtPort, 0, 0, 0, 0, c.addr, 8, 0⟩)
  else
    match c.service with
    | .mirror => enqueue d c.port 6 bytes (frame (ownWire d c.port 6 (devAddr d (twinOrd d))))
    | .control => enqueue d c.port 7 bytes (frame (ownWire d c.port 7 (devAddr d c.remoteOrd)))
    | _ =>
      let pcp := if response then 3 else 0
      match routeOut d c.addr c.ret c.remoteQpn pcp with
      | (d, some p) => enqueue d p pcp bytes (frame (ownWire d p pcp c.addr))
      | (d, none) => d

end Sys2Proof.Machine
end

