-- ==== Sys2Proof/Machine/Transport.lean ====
section
/-!
DEFINITION. What the device sends on a connection: responses with their statuses, and its own requests under the window (spec/04_olisar_transport.md R69 to R72, R78 to R90,
spec/05_congestion.md R94 to R99).
-/
namespace Sys2Proof.Machine
open Sys2Proof

/-! ### Responses -/

/-- The custodian's claim number for a Mirrored chamber, 0 for other classes (Table OMT-5). -/
def chamberClaim (d : Dev) (c : Nat) : Nat :=
  match nget d.chm.chambers c with
  | some ch => if ch.cls = .mirrored then ch.claim else 0
  | none => 0

/-- The claim number of a frame about a chamber on a connection: the pair claim on a mirror connection (Table PAI-1), else that of Table OMT-5. -/
def claimFor (d : Dev) (k : Nat) (chm : Option Nat) : Nat :=
  if (getConn d k).service = .mirror then d.cus.pairClaim else (chm.map (chamberClaim d)).getD 0

/-- What a response tells in its OXH besides what the device knows by itself (R70): the PSN it names, the chamber that its request named, and the persist flag of its request. -/
structure About where
  psn : Nat
  chm : Option Nat
  persist : Bool
deriving DecidableEq, Repr

/-- The OXH of a frame on a connection, none on v0 (R69, R70, Table OMT-5): current epoch, own ordinal, MIRROR on mirror connections, the time of transmission. -/
def ownOxh (d : Dev) (k : Nat) (poison persist hold : Bool) (claim time : Nat) : Option Oxh :=
  let c := getConn d k
  if c.version = 0 then none
  else some (oxhOf c.version poison persist hold (c.service == .mirror) d.mode.epoch 0 (ordinal d) claim 0 time)

/-- The header of a response (R70, R72). -/
def respHdr (d : Dev) (k opcode : Nat) (a : About) (poison : Bool) (w : Wire) : FrameHdr :=
  ⟨w, k, (getConn d k).remoteQpn, opcode, a.psn, false, ownOxh d k poison a.persist false (claimFor d k a.chm) (fedTime d)⟩

/-- An opcode of the connection's version. -/
def connOp (d : Dev) (k std : Nat) : Nat := opForm (getConn d k).version std

/-- Every answer that carries an AETH acknowledges what came before it: the coalescing count restarts (R81). -/
def answered (d : Dev) (k psn : Nat) : Dev := modConn d k fun c => { c with coalesced := 0, unackedAt := none, ackPsn := psn }

/-- A response leaves: nothing is sent once the ports have stopped (R135). `extra` are the bytes of its opcode headers and payload. -/
def respond (d : Dev) (k extra : Nat) (pmh : Bool) (frame : Wire → Out) : Dev :=
  if isDown d then d else connOut d k true (baseBytes ((getConn d k).version != 0) pmh + extra) frame

/-- An Acknowledge, a NAK with a syndrome, a STATUS NAK and an Atomic Acknowledge on a connection (R81, R86). -/
def putAck (d : Dev) (k : Nat) (a : About) : Dev := respond d k 4 false fun w => .ack (respHdr d k (connOp d k 0x11) a false w)
def putNak (d : Dev) (k : Nat) (a : About) (syndrome : Nat) : Dev := respond d k 4 false fun w => .nak (respHdr d k (connOp d k 0x11) a false w) syndrome
def putStatusNak (d : Dev) (k : Nat) (a : About) (syndrome status detail : Nat) : Dev :=
  respond d k 8 false fun w => .statusNak (respHdr d k 0xD6 a false w) syndrome status detail
def putAtomic (d : Dev) (k : Nat) (a : About) (orig : Nat) : Dev := respond d k 12 false fun w => .atomicAck (respHdr d k (connOp d k 0x12) a false w) orig

/-- The first n packets of a read's answer, from its first PSN on (R80, R88): each with its own payload and, where it covers poisoned lines, POISON and a PMH, whose marks are counted. -/
def putRead (d : Dev) (k : Nat) (a : About) (addr : Nat) (bytes : List Byte) (bad : List Nat) (n : Nat) : Dev :=
  let mtu := (getConn d k).pmtu
  let spans := packetSpans bytes.length mtu
  forEach (spans.zipIdx.take n) d fun d x =>
    let pmh := pmhOf (addr + x.1.1) x.1.2 bad
    respond (bumpBy d .OMT_CNT (connCell k) 13 ((pmh.map fun w => (pmhBits w).length).getD 0)) k (4 + x.1.2) pmh.isSome fun w =>
      .readData (respHdr d k (connOp d k (partOp x.2 spans.length 0x0D 0x0E 0x0F 0x10)) { a with psn := psnMod (a.psn + x.2) } pmh.isSome w) ((bytes.drop x.1.1).take x.1.2) pmh

/-- An acknowledgement up to a PSN (R81). -/
def sendAck (d : Dev) (k : Nat) (a : About) : Dev := putAck (answered d k a.psn) k a

/-- A fatal NAK: counted, sent, and the connection enters ERROR (R76, R86). -/
def fatalNak (d : Dev) (k : Nat) (a : About) (syndrome : Nat) : Dev := connError (bump (putNak d k a syndrome) .OMT_CNT (connCell k) 9) k

/-- BUSY with a wait, or with a given timer code (R30, R87): an RNR NAK on v0 and v1, a STATUS NAK on v2 and v3. -/
def sendBusyCode (d : Dev) (k : Nat) (a : About) (code wait : Nat) : Dev :=
  if (getConn d k).version ≤ 1 then bump (putNak d k a (0x20 + code)) .OMT_CNT (connCell k) 11
  else bump (putStatusNak d k a (0x20 + code) stBusy (busyDetail wait)) .OMT_CNT (connCell k) 10

def sendBusy (d : Dev) (k : Nat) (a : About) (wait : Nat) : Dev := sendBusyCode d k a (rnrCode wait) wait

/-- BUSY for an empty pool or a full management receive buffer: the code of POOL_CFG.RNR_TIMER itself (R30, R74, R87). -/
def sendBusyPool (d : Dev) (k : Nat) (a : About) : Dev :=
  let code := cfld d .POOL_CFG (connCell k) 12 8
  sendBusyCode d k a code (rnrTime code)

/-- EPOCH refusal: nothing executed, ePSN not advanced (R85, Table OMT-11). -/
def sendEpoch (d : Dev) (k : Nat) (a : About) : Dev :=
  let d := bump d .OMT_CNT (connCell k) 12
  if (getConn d k).version ≤ 1 then bump (putNak d k a 0x21) .OMT_CNT (connCell k) 11
  else bump (putStatusNak d k a 0x21 stEpoch 0) .OMT_CNT (connCell k) 10

/-- A replay entry is made; a full table of 32 replaces its oldest, whose PSN becomes the replay floor (R84). -/
def addReplay (d : Dev) (k : Nat) (r : Replay) : Dev :=
  modConn d k fun c =>
    let l : List Replay := c.replay.filter fun e => e.psn != r.psn
    if l.length < 32 then { c with replay := l ++ [r] }
    else { c with replay := l.tail ++ [r], floor := l.head?.map fun (x : Replay) => x.psn }

/-- ePSN advances (R80). A replay entry and a floor that are no duplicates of the new ePSN any more have left the half of the PSN space that lies behind it, and go (DEDUCED: their PSNs name
new requests from then on). -/
def advanceTo (c : Conn) (psn : Nat) : Conn :=
  let stale (q : Nat) : Bool := psnClass q c.epsn == .duplicate && psnClass q psn != .duplicate
  { c with epsn := psn, replay := c.replay.filter fun e => !stale e.psn, floor := c.floor.bind fun f => if stale f then none else some f }

/-- A non-OK status other than BUSY and EPOCH reaches the partner (R84, R86): a STATUS NAK with a replay entry on v2 and v3, a fatal NAK below. -/
def sendStatus (d : Dev) (k : Nat) (a : About) (reqPsn kind status : Nat) : Dev :=
  if (getConn d k).version ≤ 1 then fatalNak d k a (syndromeOf status)
  else bump (putStatusNak (answered (addReplay d k ⟨reqPsn, kind, status, 0⟩) k a.psn) k a (syndromeOf status) status 0) .OMT_CNT (connCell k) 10

/-! ### Requests of this device (R82, R94 to R98) -/

def ccOn (d : Dev) (c : Nat) : Bool := fbit (reg d .OMT_CC_CFG c 0) 31
def winMax (d : Dev) (c : Nat) : Nat := clampTo 4 4096 (cfld d .OMT_CC_WINMAX c 12 0) * 1024
def initWin (d : Dev) (c mtu : Nat) : Nat := clampTo 1 64 (cfld d .OMT_CC_CFG c 7 0) * mtu
def targetDelay (d : Dev) (c hops : Nat) : Nat :=
  clampTo 20 100 (cfld d .OMT_CC_CFG c 23 16) * 100 + min 40 (cfld d .OMT_CC_CFG c 15 8) * 100 * hops

/-- The window in force: WIN_MAX while the window is off (R94). -/
def windowOf (d : Dev) (k : Nat) : Nat := if ccOn d (connCell k) then (getConn d k).win.w else winMax d (connCell k)

/-- The retransmit timer's base (R82). -/
def timerBase (d : Dev) (c : Nat) : Nat := us (clampTo 10 1000 (cfld d .OMT_RETRY_CFG c 25 16))

/-- Connections that run the window: mirror connections and in-band management connections (R94). -/
def windowed (c : Conn) : Bool := c.service == .mirror || c.service == .mgmt

/-- The pacing interval of a packet (R98): its size over W / rtt, with the target before the first sample; none while pacing is off (R94). -/
def paceTime (d : Dev) (k bytes : Nat) : Nat :=
  let c := getConn d k
  let rtt := if c.win.rtt = 0 then targetDelay d (connCell k) c.win.hops else c.win.rtt
  if windowed c && ccOn d (connCell k) then ceilDiv (bytes * rtt) (max 1 c.win.w) else 0

/-- When the pacer lets a packet leave: its interval after the packet before it (R98). -/
def paceEnd (d : Dev) (k bytes : Nat) : Nat := ((getConn d k).win.lastLeft.map fun t => t + paceTime d k bytes).getD 0

/-- A waiting packet may leave (R98): at most max(W, one packet) bytes of a windowed connection are unacknowledged, below one MTU the pacer alone limits, and the pacer has released it. -/
def mayLeave (d : Dev) (k : Nat) (s : Sent) : Bool :=
  let c := getConn d k
  let flying := (c.sent.filter (·.left)).foldl (fun n x => n + x.bytes) 0
  let w := windowOf d k
  c.rnrUntil.isNone && (!windowed c || ((decide (w < c.pmtu) || flying == 0 || decide (flying + s.bytes ≤ w)) && decide (paceEnd d k s.bytes ≤ d.now)))

/-- Bytes of a packet's opcode headers: RETH, and the immediate. -/
def reqExtra (s : Sent) : Nat := s.bytes + (match s.kind with
  | .mgmt => 0
  | .marker _ _ => 20
  | .hint _ _ => 20
  | .commitMarker _ _ _ => 20
  | _ => 16)

/-- A packet of the device as it leaves (R69, R70): POISON with a PMH, PERSIST of the request it stems from, HOLD, the pair claim on mirror connections, and its timestamp. -/
def putRequest (d : Dev) (k : Nat) (s : Sent) (ackReq : Bool) : Dev :=
  connOut d k false (baseBytes ((getConn d k).version != 0) s.pmh.isSome + reqExtra s) fun w =>
    .request ⟨w, k, (getConn d k).remoteQpn, s.opcode, s.psn, ackReq, ownOxh d k s.pmh.isSome s.persist s.hold (claimFor d k none) (if s.ts = 0 then fedTime d else s.ts)⟩ s.kind s.data s.pmh

/-- One packet leaves (R82, R95, R98): the retransmit timer starts when none runs, and a delay sample when none is in flight on a windowed connection, whose packet has AckReq set. -/
def leave (d : Dev) (k : Nat) (s : Sent) : Dev :=
  let c := getConn d k
  let sample := windowed c && ccOn d (connCell k) && c.win.sample.isNone
  let c : Conn := { c with sent := c.sent.map fun (x : Sent) => if x.psn = s.psn then { x with left := true } else x }
  let c := if c.timer.isSome then c else { c with timerVal := timerBase d (connCell k), timer := some (d.now + timerBase d (connCell k)) }
  let c := { c with win.sample := if sample then some (s.psn, fedTime d, d.now) else c.win.sample, win.lastLeft := some d.now }
  putRequest (setConn d k c) k s sample

/-- Waiting packets leave in order while they may. -/
def trySend (d : Dev) (k : Nat) : Dev :=
  (((getConn d k).sent.filter fun s => !s.left).foldl (fun (a : Dev × Bool) s =>
    if a.2 && mayLeave a.1 k s then (leave a.1 k s, true) else (a.1, false)) (d, true)).1

/-- The standard opcode of packet i of n of a request (Tables OMT-6 and OMT-7, R79). -/
def requestOp (kind : SentKind) (i n : Nat) : Nat :=
  match kind with
  | .mgmt => partOp i n 0x00 0x01 0x02 0x04
  | .marker _ _ => 0x0B
  | .hint _ _ => 0x0B
  | .commitMarker _ _ _ => 0x0B
  | .repair _ _ _ => 0x0C
  | .pageReq _ _ => 0x0C
  | _ => partOp i n 0x06 0x07 0x08 0x0A

/-- PSNs that a request packet takes: a READ those of its response (R80). -/
def requestPsns (kind : SentKind) (mtu : Nat) : Nat :=
  match kind with
  | .repair _ _ _ => packetsOf 128 mtu
  | .pageReq _ _ => packetsOf 16384 mtu
  | _ => 1

/-- The packets of a request, from a PSN on: payload, PMH of the poisoned lines among `bad`, given as line keys, for a payload that begins at an address. -/
def requestPackets (c : Conn) (addr : Nat) (kind : SentKind) (hold persist : Bool) (ts : Nat) (data : List Byte) (bad : List Nat) (buf : Option Nat) : List Sent :=
  let spans := packetSpans data.length c.pmtu
  spans.zipIdx.map fun x =>
    { psn := psnMod (c.npsn + x.2), pkts := requestPsns kind c.pmtu, opcode := opForm c.version (requestOp kind x.2 spans.length), bytes := x.1.2, kind := kind,
      last := x.2 + 1 == spans.length, hold := hold, persist := persist, ts := ts, data := (data.drop x.1.1).take x.1.2, pmh := pmhOf (addr + x.1.1) x.1.2 bad,
      buf := if x.2 + 1 = spans.length then buf else none }

/-- A request takes the next PSNs of a connection (R82) and its packets leave as soon as they may. -/
def sendRequest (d : Dev) (k addr : Nat) (kind : SentKind) (hold persist : Bool) (ts : Nat) (data : List Byte) (bad : List Nat) (buf : Option Nat := none) : Dev :=
  let c := getConn d k
  if c.state = .ready ∨ c.state = .draining then
    let l := requestPackets c addr kind hold persist ts data bad buf
    trySend (setConn d k { c with npsn := psnMod (c.npsn + (l.map (·.pkts)).foldl (· + ·) 0), sent := c.sent ++ l }) k
  else dropBuf d buf

/-- A closed sample moves the window (R97); a decrease at the floor of 0.5 is counted. -/
def closeSample (d : Dev) (k rtt sentAt : Nat) : Dev :=
  let c := getConn d k
  let cell := connCell k
  let d := bump d .OMT_CC_CNT cell 0
  let t := targetDelay d cell c.win.hops
  let w0 := { c.win with sample := none, rtt := rtt }
  if rtt ≤ t then setConn d k { c with win := { w0 with additive := true } }
  else if c.win.decreasedAt.all fun x => decide (x ≤ sentAt) then
    -- f = max(1 - 0.8 (rtt - target) / rtt, 0.5), in tenths of rtt
    let num := 10 * rtt - 8 * (rtt - t)
    let clamped := decide (num < 5 * rtt)
    let w := if clamped then c.win.w / 2 else c.win.w * num / (10 * rtt)
    let d := bump d .OMT_CC_CNT cell 1
    let d := if clamped then bump d .OMT_CC_CNT cell 2 else d
    setConn d k { c with win := { w0 with w := max w (c.pmtu / 16), additive := false, decreasedAt := some d.now } }
  else setConn d k { c with win := { w0 with additive := c.win.additive } }

/-- A sample in flight is discarded without use, counted (R95). -/
def dropSample (d : Dev) (k : Nat) : Dev :=
  let c := getConn d k
  match c.win.sample with
  | none => d
  | some _ => bump (setConn d k { c with win.sample := none }) .OMT_CC_CNT (connCell k) 3

/-- The sample in flight closes at the federation time of an acknowledgement that covers it; one that a step made negative is discarded (R95). -/
def sampleAck (d : Dev) (k psn : Nat) : Dev :=
  match (getConn d k).win.sample with
  | some (sp, stamp, at0) => if !psnLe sp psn then d else if fedTime d < stamp then dropSample d k else closeSample d k (fedTime d - stamp) at0
  | none => d

/-- What covers packets of the device (R82): an acknowledgement with its HOP_COUNT, the data of a READ, or a NAK, which covers what came before it. -/
inductive Covering where
  | ack (hops : Nat)
  | data
  | nak
deriving DecidableEq, Repr

/-- What arrives advances the oldest unacknowledged PSN to cover `psn` (R82): the covered packets leave `sent` and are returned, their buffers are free, retries reset and the timer
restarts. An acknowledgement tells the path's length, and like the data of a READ it closes the sample and lets the window grow in additive mode (R95 to R97); a NAK leaves the window as it is
(R99). -/
def ackAdvance (d : Dev) (k psn : Nat) (by_ : Covering) : Dev × List Sent :=
  let d := match by_ with
    | .ack h => modConn d k fun c => { c with win.hops := min 5 (h + 1) }
    | _ => d
  let c := getConn d k
  let within (s : Sent) : Bool := s.left && psnLe (psnMod (s.psn + s.pkts + 2 ^ 24 - 1)) psn
  let covered := c.sent.filter within
  if covered = [] then (d, [])
  else
    let rest := c.sent.filter fun s => !within s
    let base := timerBase d (connCell k)
    let d := setConn d k { c with sent := rest, retries := 0, rnrs := 0, timerVal := base, timer := if rest.all (fun x => !x.left) then none else some (d.now + base) }
    let d := forEach covered d fun d s => dropBuf d s.buf
    let d := if by_ = .nak then d else sampleAck d k psn
    let c := getConn d k
    let bytes := covered.foldl (fun n s => n + s.bytes) 0
    let d := if by_ ≠ .nak ∧ windowed c = true ∧ ccOn d (connCell k) = true ∧ c.win.additive = true ∧ c.win.w ≠ 0 then
        setConn d k { c with win.w := min (c.win.w + c.pmtu * bytes / c.win.w) (winMax d (connCell k)) } else d
    (trySend d k, covered)

/-- Go-back-N: everything unacknowledged that has left is sent again from the oldest PSN; the sample is discarded (R82, R95). Only mirror writes and resync copies keep their timestamps (R71):
every other frame gets the time at which it leaves. -/
def retransmit (d : Dev) (k : Nat) : Dev :=
  let d := dropSample d k
  forEach ((getConn d k).sent.filter (·.left)) d fun d s => putRequest d k s false

/-- The unacknowledged packets of a connection are given up, and their buffers with them. -/
def dropSent (d : Dev) (k : Nat) : Dev :=
  let l := (getConn d k).sent
  forEach l (modConn d k fun c => { c with sent := [], timer := none }) fun d s => dropBuf d s.buf

/-! ### Mirror links (R20, R78) -/

/-- The twin link home cell n uses: n mod T, or the next live link in ascending order modulo T; none when no link is live. A link is live once its identity check has passed (R117). -/
def twinLink (d : Dev) (n : Nat) : Option Nat :=
  let tp := twinPorts d
  let t := tp.length
  if t = 0 then none
  else ((List.range t).map fun i => tp.getD ((n + i) % t) 0).find? (portUp d)

/-- The mirror connection of home cell n: local index 1 + n in the cell that owns the link (R78). -/
def mirrorConn (d : Dev) (n : Nat) : Option Nat := (twinLink d n).map fun p => connKey p (1 + n)

/-- The next custodian timestamp of a home cell: strictly increasing (R71). -/
def mirrorStamp (d : Dev) (n : Nat) : Dev × Nat :=
  let t := max (stampOf d) (ngetD d.cus.lastTs n 0 + 1)
  ({ d with tim.lastStamp := max d.tim.lastStamp t, cus.lastTs := nset d.cus.lastTs n t }, t)

/-- A mirror frame with a timestamp leaves a home cell (R71). -/
def stampSent (d : Dev) (n ts : Nat) : Dev := { d with cus.sentTs := nset d.cus.sentTs n (max ts (ngetD d.cus.sentTs n 0)) }

/-- A mirror frame of home cell n leaves on its mirror connection with the pair claim (Table PAI-1); with no live link nothing leaves and the frame is
sent when a link is back. -/
def sendMirror (d : Dev) (n addr : Nat) (kind : SentKind) (hold persist : Bool) (ts : Nat) (data : List Byte) (bad : List Nat) (buf : Option Nat := none) : Dev :=
  match mirrorConn d n with
  | none => dropBuf d buf
  | some k => sendRequest d k addr kind hold persist ts data bad buf

end Sys2Proof.Machine
end

