-- ==== Sys2Proof/Machine/Home.lean ====
section
/-!
DEFINITION. The home cell: frames, promotions, T2 credit, dirty space, the merging buffer and the Alcove, copy-on-write, and the execution of one page part of a request
(spec/01_architecture.md R16, spec/08_tiers.md R150 to R164, spec/07_persistence.md R128 to R130, spec/12_time_and_global_ops.md R275, R276,
spec/10_dram_tier.md R211 to R215).
-/
namespace Sys2Proof.Machine
open Sys2Proof

/-! ### Frames (R149, R150) -/

/-- The place of a frame that its promotion still waits for (R154). -/
def noSlot : Nat := 2 ^ 18

/-- The places of a cell's data area that retirement took out (R149). -/
def goneSlots (d : Dev) (c : Nat) : List Nat :=
  (d.tier.gone.filter fun p => p.1 / 2 ^ 18 == c && decide (dataBase d / 16384 ≤ p.1 % 2 ^ 18)).map fun p => p.1 % 2 ^ 18 - dataBase d / 16384

/-- Slots of a cell's data area in use or taken out by retirement. -/
def usedSlots (d : Dev) (c : Nat) : NMap Nat :=
  let m := ((cellFrames d c).filter fun p => p.2.slot != noSlot).foldl (fun m p => nset m p.2.slot 0) ([] : NMap Nat)
  (goneSlots d c).foldl (fun m s => nset m s 0) m

/-- The data frames of a cell: those of the data area but for the ones that retirement took out (R149). -/
def liveFrames (d : Dev) (c : Nat) : Nat := dataFrames d - (goneSlots d c).length

/-- FREE frames of a cell. -/
def freeFrames (d : Dev) (c : Nat) : Nat := dataFrames d - (usedSlots d c).length

/-- The lowest FREE slot. Which FREE frame is taken is a DESIGN CHOICE. -/
def freeSlot (d : Dev) (c : Nat) : Option Nat := nfreeFrom (usedSlots d c) 0 (dataFrames d)

/-- Frames pinned at a cell. -/
def pinnedFrames (d : Dev) (c : Nat) : Nat := ((cellFrames d c).filter fun p => p.2.pins != []).length

/-- The owner of the chamber of a page. -/
def ownerOf (d : Dev) (k : Nat) : Nat := ((nget d.chm.chambers (keyChamber k)).map (·.owner)).getD 0

/-- The chamber of a page has an attribute. -/
def chmOf (d : Dev) (k : Nat) : Option Chamber := nget d.chm.chambers (keyChamber k)

/-! ### Alcove (R160 to R163) -/

/-- Set and line tag of a T1 address (R160). The way keeps the whole line address, which set and tag determine. -/
def alcSet (a : Nat) : Nat := Nat.xor (Nat.xor ((a / 128) % 256) ((a / 128 / 256) % 256)) ((a / 128 / 65536) % 256)

/-- The way of a set that holds a line. -/
def alcWay (al : Alcove) (a : Nat) : Option Nat :=
  ((List.range 16).find? fun w => match nget al.ways (alcSet a * 16 + w) with
    | some y => y.tag == a / 128
    | none => false)

/-- A fill takes the first invalid way from the pointer on, else the way at the pointer; the pointer moves past it (R161). -/
def alcFill (al : Alcove) (a : Nat) (p : Bool) : Alcove :=
  let s := alcSet a
  let ptr := ngetD al.ptr s 0
  let w := (((List.range 16).map fun i => (ptr + i) % 16).find? fun w => !nhas al.ways (s * 16 + w)).getD ptr
  { al with ways := nset al.ways (s * 16 + w) ⟨a / 128, p⟩, ptr := nset al.ptr s ((w + 1) % 16) }

/-- A line leaves the Alcove. -/
def alcDrop (al : Alcove) (a : Nat) : Alcove :=
  match alcWay al a with
  | some w => { al with ways := ndel al.ways (alcSet a * 16 + w) }
  | none => al

/-- The lines of a frame leave the Alcove: an eviction invalidates them (R162). -/
def alcDropFrame (d : Dev) (c slot : Nat) : Dev :=
  setAlc d c ((List.range 128).foldl (fun al i => alcDrop al (frameAddr d slot i)) (getAlc d c))

/-! ### Armed bit flips (R380, Table FLT-7) -/

/-- The first armed flip of a target and a cell for the line of a T1 address, and the device without it. -/
def takeFlip (d : Dev) (target c a : Nat) : Dev × Option Injection :=
  match d.tst.inject.find? fun j => j.target == target && j.cell == c && j.addr / 128 == a / 128 with
  | some j => ({ d with tst.inject := d.tst.inject.erase j }, some j)
  | none => (d, none)

/-- The key of a T1 line among the latent errors. -/
def latentKey (c a : Nat) : Nat := c * 2 ^ 24 + a / 128

/-- A write to a T1 line takes an armed flip of target 1: its symbols are in error until the line is written whole or corrected. -/
def flipT1 (d : Dev) (c a : Nat) : Dev :=
  match takeFlip d 1 c a with
  | (d, some j) =>
    let lanes := (List.range j.symbols).map fun i => (j.firstSym + i) % 72
    let l := ngetD d.latent (latentKey c a) ([], [])
    { d with latent := nset d.latent (latentKey c a) (if j.half = 0 then (l.1 ++ lanes, l.2) else (l.1, l.2 ++ lanes)) }
  | (d, none) => d

/-- A write to the Alcove or the merging buffer takes an armed flip of its target. -/
def flipT0 (d : Dev) (target c a : Nat) (site : Nat → ErrSite) : Dev :=
  match takeFlip d target c a with
  | (d, some j) => { d with latent0 := nmodD d.latent0 (latentKey c a) [] (· ++ [site j.bits]) }
  | (d, none) => d

/-- A number of bits in error as an operand. -/
def bitsErr (n : Nat) : Fin 4 := Fin.ofNat 4 n

/-- A site in the Alcove, and one in the merging buffer. -/
def alcSite : ErrSite → Bool
  | .tag => true
  | .lineWord _ => true
  | .mbWord _ => false
  | .t1 => false

def mbSite : ErrSite → Bool
  | .mbWord _ => true
  | .tag => false
  | .lineWord _ => false
  | .t1 => false

/-- The latent errors of a line, but for those of some sites, which a write or a reading has ended. -/
def dropSites (d : Dev) (c a : Nat) (f : ErrSite → Bool) : Dev :=
  match nget d.latent0 (latentKey c a) with
  | none => d
  | some l =>
    match l.filter fun s => !f s with
    | [] => { d with latent0 := ndel d.latent0 (latentKey c a) }
    | l => { d with latent0 := nset d.latent0 (latentKey c a) l }

/-- A line is installed in the Alcove (R161, R162): tag and data words are written. -/
def installLine (d : Dev) (c a : Nat) (p : Bool) : Dev :=
  let d := dropSites (setAlc d c (alcFill (getAlc d c) a p)) c a alcSite
  flipT0 (flipT0 d 2 c a fun _ => .tag) 3 c a fun n => .lineWord (bitsErr n)

/-! ### Repairs (R215) -/

/-- A write has touched a line or page for which a repair is outstanding (R215). Repairs are keyed by line, whole pages by 2^64 + page key. -/
def touchRepair (d : Dev) (line : Nat) : Dev :=
  { d with repairs := nmod (nmod d.repairs line fun r => { r with touched := true }) (2 ^ 64 + line / 128) fun r => { r with touched := true } }

/-- A poisoned line of the data area asks for a repair where a second copy exists (R215): from T2 for a CLEAN frame, over the mirror connection for a
MODIFIED frame of a Mirrored chamber. -/
def askRepair (d : Dev) (line : Nat) : Dev :=
  let k := line / 128
  if repairWanted d k && !nhas d.repairs line then
    let d := { d with repairs := nset d.repairs line ⟨false, false, d.now + ms 10, false⟩ }
    match getFrame d k with
    | some f => if f.st = .modified then sendMirror d (homeOf k) (lineAddr line) (.repair (keyChamber k) (keyPage k) (line % 128)) false false 0 [] [] else d
    | none => d
  else d

/-- A T1 read of a line of the data area (R211, R221): its row is activated and its codewords are decoded with the symbols in error; an uncorrectable line is poisoned and its repair
requested. A codeword of a poisoned line is recognised with up to 2 symbols in error, which change nothing; with more it is uncorrectable again (R210). -/
def fetchT1 (d : Dev) (c a line : Nat) (le : List Nat × List Nat) (r : Requester) : Dev :=
  let d := activate d c a r
  if le = ([], []) then d
  else if poisoned d line then
    let n := ([le.1, le.2].filter fun l => decide (3 ≤ l.length)).length
    if n = 0 then d else askRepair (ueLine { d with latent := ndel d.latent (c * 2 ^ 24 + a / 128) } c a n r) line
  else
    let x := decodeLine d c a le r
    if x.2 then askRepair (setPoison x.1 line) line else x.1

/-- The symbols in error that a T1 line holds. -/
def latentOf (d : Dev) (c a : Nat) : List Nat × List Nat := ngetD d.latent (latentKey c a) ([], [])

/-! ### Merging buffer (R163, R164) -/

/-- The bits of a mask for n bytes from byte lo of a line. -/
def maskOf (lo n : Nat) : Nat := (2 ^ n - 1) <<< lo

def fullMask : Nat := 2 ^ 128 - 1

/-- The T1 line under an entry that drains (R164): a half whose mask is full is written without a read; a half written in part has the line read, merged and written, with new check
symbols. Both activate the row (R221). -/
def drainT1 (d : Dev) (c a : Nat) (e : MbEnt) : Dev :=
  let who : Requester := ⟨0x1000, c, 5⟩
  if mbNeedsRead e then
    let d := fetchT1 d c a e.line (latentOf d c a) who
    { d with latent := ndel d.latent (latentKey c a) }
  else
    let d := activate d c a who
    let l := latentOf d c a
    let l := (if mbHalf e.mask 0 = 0 then l.1 else [], if mbHalf e.mask 1 = 0 then l.2 else [])
    { d with latent := if l = ([], []) then ndel d.latent (latentKey c a) else nset d.latent (latentKey c a) l }

/-- One entry drains to T1 as one unit (R164). -/
def drainEntry (d : Dev) (c : Nat) (e : MbEnt) : Dev :=
  let al := getAlc d c
  let d := countDrain (setAlc d c { al with mb := al.mb.filter (· != e) }) c e
  match getFrame d (e.line / 128) with
  | some f => flipT1 (drainT1 d c (frameAddr d f.slot (e.line % 128)) e) c (frameAddr d f.slot (e.line % 128))
  | none => d

/-- The T1 address of a line in its frame, 0 where it has none. -/
def lineT1 (d : Dev) (line : Nat) : Nat := ((getFrame d (line / 128)).map fun f => frameAddr d f.slot (line % 128)).getD 0

/-- The last T0 error of a cell (ALC_ERR_LAST). -/
def alcErr (d : Dev) (c kind a : Nat) : Dev := setAlc d c { getAlc d c with lastKind := kind, lastLine := a / 128 }

/-- The words of a merging-buffer entry are read: a corrected word is counted; an uncorrectable one drains the entry with its poison bit set (R165). Two and three bits in
error are uncorrectable. -/
def mbRead (d : Dev) (c line : Nat) (sites : List ErrSite) : Dev :=
  let a := lineT1 d line
  let sites := (ngetD d.latent0 (latentKey c a) [] ++ sites).filter mbSite
  match (getAlc d c).mb.find? fun e => e.line == line with
  | none => d
  | some e =>
    if sites = [] then d
    else
      let d := dropSites d c a mbSite
      if sites.any fun s => s == .mbWord 2 || s == .mbWord 3 then
        raise (alcErr (bump (setPoison (drainEntry d c e) line) .ALC_CNT c 11) c 3 a)
          { cls := 0, cause := 0x09, unit := uCell c, access := 5, addr := a, sev := some 2 }
      else if sites.contains (.mbWord 1) then corrected (bump d .ALC_CNT c 10) 0x21 (uCell c) a 5
      else d

/-- An entry drains: its words are read first. -/
def drainRead (d : Dev) (c : Nat) (e : MbEnt) : Dev :=
  let d := mbRead d c e.line []
  match (getAlc d c).mb.find? fun x => x.line == e.line with
  | some e => drainEntry d c e
  | none => d

/-- Every entry of a cell's merging buffer drains (R164). -/
def drainCell (d : Dev) (c : Nat) : Dev := forEach (getAlc d c).mb d fun d e => drainRead d c e

/-- Bytes of a write enter the merging buffer (R163): the open entry of the line gathers them, else a free entry opens, the oldest draining first
when all 32 are in use; a full mask drains at once (R164). -/
def mbWrite (d : Dev) (c line lo n : Nat) (mark : Bool) : Dev :=
  let al := getAlc d c
  let whole := n == 128
  match al.mb.find? fun e => e.line == line with
  | some e =>
    let e' := { e with mask := e.mask ||| maskOf lo n, poison := if mark then true else if whole then false else e.poison }
    let d := bump (setAlc d c { al with mb := al.mb.map fun x => if x = e then e' else x }) .ALC_CNT c 3
    let d := flipT0 d 4 c (lineT1 d line) fun n => .mbWord (bitsErr n)
    if e'.mask = fullMask then drainRead d c e' else d
  | none =>
    let d := if al.mb.length < 32 then d
      else match al.mb.head? with
        | some old => bump (drainRead d c old) .ALC_CNT c 6
        | none => d
    let e : MbEnt := ⟨line, maskOf lo n, mark, d.now⟩
    let al := getAlc d c
    let d := dropSites (setAlc d c { al with mb := al.mb ++ [e] }) c (lineT1 d line) mbSite
    let d := flipT0 d 4 c (lineT1 d line) fun n => .mbWord (bitsErr n)
    if e.mask = fullMask then drainRead d c e else d

/-! ### T1 reads -/

/-- The errors that a T1 read of a line meets: those the line holds and those the access brings, as lanes per codeword. -/
def readErrs (d : Dev) (c a line base : Nat) (errs : List LineErr) : List Nat × List Nat :=
  let l := latentOf d c a
  let mine := errs.filter fun e => base + e.line == line && e.site == .t1
  let lanes (h : Fin 2) : List Nat :=
    ((mine.filter fun e => e.half == h).map fun e => (List.range e.symbols.val).map fun i => (e.lane.val + i) % 72).flatten
  (l.1 ++ lanes 0, l.2 ++ lanes 1)

/-- The errors that a read brings for a line, by site. -/
def readSites (line base : Nat) (errs : List LineErr) : List ErrSite := (errs.filter fun e => base + e.line == line).map (·.site)

/-- An uncorrectable word of the Alcove line array: when UE_FENCE of them have occurred within 24 hours the array is disabled until power-on (R165). -/
def alcUncorrectable (d : Dev) (c a : Nat) : Dev :=
  let al := getAlc d c
  let times := (al.ueTimes.filter fun t => decide (d.now < t + sec 86400)) ++ [d.now]
  let d := alcErr (bump (setAlc d c { alcDrop al a with ueTimes := times }) .ALC_CNT c 9) c 2 a
  let lim := cfld d .ALC_CFG c 3 0
  if lim ≠ 0 ∧ lim ≤ times.length ∧ al.disabled = false then
    raise (setAlc d c { getAlc d c with disabled := true, ways := [] }) { cls := 2, cause := 0x0A, unit := uCell c }
  else d

/-- A way is read and its tag or a word of it cannot be trusted: it is invalidated, and the access goes on to T1 (R165). -/
def alcBad (d : Dev) (c a : Nat) (sites : List ErrSite) : Dev :=
  if (alcWay (getAlc d c) a).isNone then d
  else if sites.contains .tag then alcErr (bump (dropSites (setAlc d c (alcDrop (getAlc d c) a)) c a alcSite) .ALC_CNT c 7) c 1 a
  else if sites.any fun s => s == .lineWord 2 || s == .lineWord 3 then alcUncorrectable (dropSites d c a alcSite) c a
  else d

/-- A corrected word of a line: the data is delivered and the line invalidated (R165). -/
def alcCorrected (d : Dev) (c a : Nat) (sites : List ErrSite) : Dev :=
  if sites.contains (.lineWord 1) then
    corrected (bump (dropSites (setAlc d c (alcDrop (getAlc d c) a)) c a alcSite) .ALC_CNT c 8) 0x20 (uCell c) a 5
  else d

/-- The bytes of a line that n bytes from an address touch: the first of them and how many. -/
def lineSpan (addr n line : Nat) : Nat × Nat :=
  let lo := max addr (lineAddr line)
  (lo - lineAddr line, min (addr + n) (lineAddr line + 128) - lo)

/-- One line is read at its home cell (R162, R163, R165, R211): from a merging-buffer entry that holds all of the bytes wanted, from the Alcove, or from T1, where its codewords are
decoded; a fetched line is installed unless `noFill`. `span` gives the bytes wanted of the line. -/
def readLine (d : Dev) (line base : Nat) (span : Nat × Nat) (errs : List LineErr) (noFill : Bool) (r : Requester) : Dev :=
  let k := line / 128
  let c := homeOf k
  match getFrame d k with
  | none => d
  | some f =>
    let a := frameAddr d f.slot (line % 128)
    let sites := readSites line base errs
    let d := mbRead d c line sites
    let want := maskOf span.1 span.2
    if (getAlc d c).mb.any fun e => e.line == line && e.mask &&& want == want then bump d .ALC_CNT c 2
    else
      let t0 := ngetD d.latent0 (latentKey c a) [] ++ sites
      let off := noFill || (getAlc d c).disabled
      let d := if off then d else alcBad d c a t0
      if !off && (alcWay (getAlc d c) a).isSome then alcCorrected (bump d .ALC_CNT c 0) c a t0
      else
        let d := fetchT1 (bump d .ALC_CNT c 1) c a line (readErrs d c a line base errs) r
        if noFill || (getAlc d c).disabled then d else installLine d c a (poisoned d line)

/-- The lines of some bytes are read. -/
def readSpan (d : Dev) (addr n base : Nat) (errs : List LineErr) (noFill : Bool) (r : Requester) : Dev :=
  forEach (linesOf addr n) d fun d l => readLine d l base (lineSpan addr n l) errs noFill r

/-- A page is read from T1 as a whole, past T0 (R155). -/
def readPageT1 (d : Dev) (k : Nat) (r : Requester) : Dev :=
  match getFrame d k with
  | none => d
  | some f => forEach (pageLines k) d fun d l => let a := frameAddr d f.slot (l % 128); fetchT1 d (homeOf k) a l (latentOf d (homeOf k) a) r

/-- A page is written to T1 as a whole, past T0: its rows are activated and its lines have new check symbols (R151, R221). -/
def writePageT1 (d : Dev) (k : Nat) (r : Requester) : Dev :=
  match getFrame d k with
  | none => d
  | some f => forEach (pageLines k) d fun d l =>
    let a := frameAddr d f.slot (l % 128)
    let d := activate d (homeOf k) a r
    flipT1 { d with latent := ndel d.latent (latentKey (homeOf k) a) } (homeOf k) a

/-! ### T2 credit (R159) and dirty space (R128 to R130) -/

def creditKey (tenant c : Nat) : Nat := tenant * 256 + c

/-- Sectors that a page's admission takes: 4 less those it is charged (R159). -/
def admitNeed (d : Dev) (k : Nat) : Nat := 4 - min 4 (ngetD d.tier.charge k 0)

/-- A cell asks the hub for a unit of T2 credit for a tenant, once (R159). -/
def askCredit (d : Dev) (tenant c : Nat) : Dev :=
  if d.tier.asks.any fun a => a.tenant == tenant && a.cell == c then d
  else { d with tier.asks := d.tier.asks ++ [⟨tenant, c, d.now + us 20⟩] }

/-- The charge of a page rises to 4 sectors against its cell's credit; credit below 256 KiB asks for a unit (R159). A mirror write is charged even
beyond the credit. -/
def takeCredit (d : Dev) (k : Nat) : Dev :=
  let t := ownerOf d k
  let c := homeOf k
  let left := ngetD d.tier.credit (creditKey t c) 0 - admitNeed d k
  let d := { d with tier.credit := nset d.tier.credit (creditKey t c) left, tier.charge := nset d.tier.charge k 4 }
  if left < 64 then askCredit d t c else d

/-- The page's lines that a part would newly make dirty or unsaved. -/
def newLines (f : Option Frame) (lo n : Nat) : Nat :=
  ((List.range 128).filter fun i => decide (i * 128 < lo + n) && decide (lo < i * 128 + 128) && !((f.map (·.lines)).getD []).contains i).length

/-- A cell has an armed sump set (R133); one whose media channel is OFFLINE has none (R203). -/
def hasArmed (d : Dev) (c : Nat) : Bool := (getMed d c).st != .offline && (flushSet (getSump d c)).isSome

/-- The dirty credit of a cell in lines (R129). -/
def dirtyCreditOf (d : Dev) (c : Nat) : Nat := ngetD d.per.dirtyCredit c 0

/-- A cell whose unused credit falls below 4 MiB requests a credit (R129). -/
def askDirty (d : Dev) (c : Nat) : Dev :=
  if dirtyCreditOf d c < dirtyCount d c + 4 * 8192 && !d.per.creditAsks.contains c then { d with per.creditAsks := d.per.creditAsks ++ [c] } else d

/-- New dirty lines fit in the credit and the cell limit, and the cell has an armed sump set (R128, R129, R133). -/
def dirtyFits (d : Dev) (c n : Nat) : Bool :=
  n == 0 || (hasArmed d c && decide (dirtyCount d c + n ≤ dirtyCreditOf d c) && decide (dirtyCount d c + n ≤ cellMib d * 8192))

/-! ### Snapshots (R275) -/

/-- Snapshots for which a change with a custodian timestamp must first preserve the page (R275). -/
def cowSnaps (d : Dev) (k ts : Nat) : List Nat :=
  ((d.snap.snaps.filter fun s => s.2.state != .releasing && s.2.chambers.contains (keyChamber k) && !nhas s.2.pages k &&
    (s.2.byMessage || decide (s.2.time ≤ ts))).map (·.1))

/-- A preserved page goes to a staging frame unless its frame is CLEAN with sectors in T2 (R275). -/
def needsStaging (d : Dev) (k : Nat) : Bool :=
  match nget d.tier.map k, getFrame d k with
  | some (.stored _ _ _ _), some f => f.st == .modified
  | some (.stored _ _ _ _), none => false
  | _, _ => true

/-- The frames of 16 KiB, of n from a T1 address on, in which a retired 4 KiB frame of a cell lies (R226). -/
def retiredIn (d : Dev) (c base n : Nat) : List Nat :=
  ((getHbm d c).retired.filter fun p => decide (base ≤ p.1 * 4096 ∧ p.1 * 4096 < base + n * 16384)).map fun p => (p.1 * 4096 - base) / 16384

/-- The staging frames of a cell in use or taken out by retirement, and how many are free (R148, R226). -/
def usedStaging (d : Dev) (c : Nat) : NMap Nat :=
  let m := d.snap.snaps.foldl (fun m s => s.2.pages.foldl (fun m p => if p.2.staging && homeOf p.1 == c then nset m p.2.slot 0 else m) m) ([] : NMap Nat)
  (retiredIn d c stagingBase (stagingFrames d)).foldl (fun m s => nset m s 0) m
def freeStaging (d : Dev) (c : Nat) : Nat := stagingFrames d - (usedStaging d c).length

/-- The lowest free staging frame. Which free one is taken is a DESIGN CHOICE. -/
def stagingSlot (d : Dev) (c : Nat) : Option Nat := nfreeFrom (usedStaging d c) 0 (stagingFrames d)

/-- A page of a snapshot changes. -/
def modSnapPage (d : Dev) (act k : Nat) (f : SnapPage → SnapPage) : Dev :=
  { d with snap.snaps := nmod d.snap.snaps act fun s => { s with pages := nmod s.pages k f } }

/-- The page of a snapshot that a staging frame of a cell holds: act and page. -/
def stagedAt (d : Dev) (c slot : Nat) : Option (Nat × Nat) :=
  d.snap.snaps.findSome? fun s => (s.2.pages.find? fun p => p.2.staging && homeOf p.1 == c && p.2.slot == slot).map fun p => (s.1, p.1)

/-- The pages of the snapshots preserved. -/
def preserve (d : Dev) (k : Nat) (snaps : List Nat) : Dev :=
  let st := needsStaging d k
  let held := if st then none else (match nget d.tier.map k with
    | some (.stored s _ _ sb) => some (s, sb)
    | _ => none)
  let key := match nget d.tier.map k with
    | some (.stored _ _ slot _) => slot
    | _ => 0
  let bytes := (d.mem.filter fun c => pageAddr k ≤ c.1 && c.1 < pageAddr k + 16384).map fun c => (c.1 - pageAddr k, c.2)
  forEach snaps d fun d s =>
    let pg : SnapPage := { bytes := bytes, poison := pagePoison d k, staging := st, slot := if st then (stagingSlot d (homeOf k)).getD 0 else 0, at_ := d.now, held := held, key := key }
    { d with snap.snaps := nmod d.snap.snaps s fun x => { x with pages := nset x.pages k pg } }

/-- A cut opens its snapshot over the ACTIVE chambers of its set that are not Volatile, unless it is open or 256 are held (R274, R275). -/
def openCut (d : Dev) (act set t : Nat) (msg : Bool) : Dev :=
  if nhas d.snap.snaps act || decide (256 ≤ d.snap.snaps.length) then d
  else
    let chs := (d.chm.chambers.filter fun p => p.2.state == .active && p.2.set == set && p.2.cls != .volatileC).map (·.1)
    let used := d.snap.snaps.foldl (fun m p => nset m p.2.rec_ 0) ([] : NMap Nat)
    { d with snap.snaps := nset d.snap.snaps act { state := .pending, set := set, time := t, byMessage := msg, chambers := chs, rec_ := (nfreeFrom used 0 256).getD 0 } }

/-- A mirror write with a timestamp at or after T starts the copy though this device's entry has not fired (R275). -/
def openCuts (d : Dev) (chamber ts : Nat) : Dev :=
  match nget d.chm.chambers chamber with
  | none => d
  | some ch =>
    forEach (d.cal.ents.filter fun p => p.2.state == .posted && p.2.kind == 2 && p.2.arg == ch.set && decide (p.2.time ≤ ts)) d fun d p =>
      openCut d p.2.act p.2.arg p.2.time false

/-! ### The map (R180 to R183) and what leaves with a page -/

/-- The map page of a page in its home cell: chamber × 2^17 + k. -/
def mapPageOf (k : Nat) : Nat := keyChamber k * 2 ^ 17 + keyPage k / 2 ^ 19

/-- The line of its map page that holds the entry of a page: 16 entries of 8 bytes (R180). -/
def mapLineOf (k : Nat) : Nat := keyPage k / 256 % 2048 / 16

/-- The dirty metadata lines of a cell become a free value within its 8 MiB share and within the space that its credit and its limit leave (R128, R129: their layout is not given). -/
def touchMeta (d : Dev) (c : Nat) : Dev :=
  let old := ngetD d.per.metaDirty c 0
  let room := min (dirtyCreditOf d c) (cellMib d * 8192) - (dirtyCount d c - old)
  freeStep { d with per.metaDirty := nset d.per.metaDirty c (min (max old room) (freeVal d % 65537)) }

/-- The first T1 address of the map cache, after the 16 MiB of map root, and the map pages that it has room for (R181, Table TIR-1). -/
def cacheBase : Nat := (8 + 5 + 16) * 2 ^ 20
def cacheSize : Nat := 23552

/-- The map cache holds a map page. -/
def mapCached (m : Media) (mp : Nat) : Bool := m.cache.any fun p => p.2.1 == mp

/-- The clock of the map cache over its frames (R181): the first clean map page met with its reference bit clear leaves; one with changed entries is due to be written back. -/
def cacheSweep : List Nat → Media → Media
  | [], m => m
  | s :: t, m =>
    match nget m.cache s with
    | none => cacheSweep t m
    | some (mp, ref) =>
      if ref then cacheSweep t { m with cache := nset m.cache s (mp, false) }
      else if nhas m.mapLines mp then cacheSweep t { m with mapDirty := if nhas m.mapDirty mp then nset m.mapDirty mp 0 else m.mapDirty }
      else { m with cache := ndel m.cache s, hand := s + 1 }

/-- The lowest frame of the map cache that is free, but for some. -/
def cacheSlot (m : Media) (gone : List Nat) : Option Nat := nfreeFrom (gone.foldl (fun t s => nset t s 0) (nmap m.cache fun _ => 0)) 0 cacheSize

/-- A map page is used or installed in the map cache, outside the frames that retirement took out; a full one loses another by its clock, two turns of it at most, and after them the page at
the hand, whose changed lines are on their way to the media (DESIGN CHOICE: log entry 'The clock of the map cache'). -/
def cacheMap (m : Media) (gone : List Nat) (mp : Nat) : Media :=
  match m.cache.find? fun p => p.2.1 == mp with
  | some (s, _) => { m with cache := nset m.cache s (mp, true) }
  | none =>
    let ss := m.cache.map (·.1)
    let round := (ss.filter fun s => decide (m.hand ≤ s)) ++ ss.filter fun s => decide (s < m.hand)
    let m := if (cacheSlot m gone).isSome then m else cacheSweep (round ++ round) m
    let m := if (cacheSlot m gone).isSome then m else match round with
      | s :: _ => { m with cache := ndel m.cache s, hand := s + 1 }
      | [] => m
    match cacheSlot m gone with
    | some s => { m with cache := nset m.cache s (mp, true) }
    | none => m

/-- The frames of a cell's map cache that retirement took out (R226). -/
def goneCache (d : Dev) (c : Nat) : List Nat := retiredIn d c cacheBase cacheSize

/-- A map entry changes: its map page is changed since now, if it was not before, and stands in the map cache. -/
def setMapEnt (d : Dev) (k : Nat) (e : MapEnt) : Dev :=
  let c := homeOf k
  let m := getMed d c
  let mp := mapPageOf k
  let m := { cacheMap m (goneCache d c) mp with mapLines := nset m.mapLines mp (ngetD m.mapLines mp 0 ||| 2 ^ mapLineOf k) }
  let d := setMed d c { m with mapDirty := if nhas m.mapDirty mp then m.mapDirty else nset m.mapDirty mp d.now }
  touchMeta { d with tier.map := nset d.tier.map k e, tier.mapBad := d.tier.mapBad.filter (· != k) } c

/-- A page's T2 charge returns to its cell's credit (R158, R159). -/
def dropCharge (d : Dev) (k : Nat) : Dev :=
  let key := creditKey (ownerOf d k) (homeOf k)
  { d with tier.credit := nset d.tier.credit key (ngetD d.tier.credit key 0 + ngetD d.tier.charge k 0), tier.charge := ndel d.tier.charge k }

/-- Parts that waited for a page to reach T2, which has been released: a COMMIT is over with the release that holds the page as it stood (R292), a write once its lines are in T2 (R73). -/
def wakeDestaged (d : Dev) (k : Nat) : Dev :=
  let ls := ((getFrame d k).map (·.lines)).getD []
  let overOf (r : Req) (p : Part) : Part :=
    if p.st ≠ .waitDestage ∨ pageKey r.chamber p.page ≠ k then p
    else if r.kind = .commitMark ∨ r.kind = .commit then (if p.ts = 0 ∨ ls = [] then { p with st := .done } else { p with ts := 0 })
    else if (linesOf (chmAddr r.chamber (r.off + p.lo)) p.n).any fun l => ls.contains (l % 128) then p
    else { p with st := .done }
  { d with reqs := d.reqs.map fun r => { r with parts := r.parts.map (overOf r) } }

/-- Everything the device holds of one page goes: frame, promotion with its buffer, map entry, charge, bytes and poison. -/
def forgetPage (d : Dev) (k : Nat) : Dev :=
  let d := dropBuf { d with res.waits := d.res.waits.filter fun w => w.use != .promotion k } ((nget d.tier.promos k).bind (·.buf))
  let d := match getFrame d k with
    | some f => alcDropFrame d (homeOf k) f.slot
    | none => d
  let c := homeOf k
  let d := setAlc d c { getAlc d c with mb := (getAlc d c).mb.filter fun e => e.line / 128 != k }
  let d := dropCharge d k
  let d := clearPagePoison d k
  wakeDestaged { d with tier.frames := ndel d.tier.frames k, tier.promos := ndel d.tier.promos k, tier.verifs := ndel d.tier.verifs k, tier.map := ndel d.tier.map k,
                        mem := memClear d.mem (pageAddr k) 16384, tier.t2p := d.tier.t2p.filter fun l => l / 128 != k } k

/-- A page is trimmed by RESIZE, DELETE or bulk TRIM (Table MED-3): nothing is left of it but its entry, TRIMMED. -/
def trimPage (d : Dev) (k : Nat) : Dev := setMapEnt (forgetPage d k) k .trimmed

/-! ### Marks (R245, R246) -/

/-- The key of the region of a page at its home cell (R246). -/
def regionKey (k : Nat) : Nat := homeOf k * 2 ^ 40 + keyChamber k * 2 ^ 22 + keyPage k / 16384

/-- The region of a page is marked for resync (R245), counted once. -/
def markRegion (d : Dev) (k : Nat) : Dev :=
  if nhas d.cus.marks (regionKey k) then d
  else bump { d with cus.marks := nset d.cus.marks (regionKey k) 0, cus.pull := ndel d.cus.pull (regionKey k) } .CUS_CNT 0 11

/-! ### Promotions (R151 to R153) -/

/-- The counter of a promotion's class in CELL_TIER_CNT. -/
def promoCnt : PromoClass → Nat
  | .demand => 0
  | .plan => 1
  | .hint => 2

/-- What starting a promotion came to. -/
inductive PromoStart where
  | started | failed
deriving DecidableEq, Repr

/-- This device is custodian of a Mirrored chamber. -/
def isHolder (d : Dev) (c : Nat) : Bool :=
  match nget d.chm.chambers c with
  | some ch => ch.cls == .mirrored && ch.holder == ordinal d && !d.cus.lost
  | none => false

/-- The media channel of a cell serves promotions. -/
def mediaOn (d : Dev) (c : Nat) : Bool := (getMed d c).st != .offline

/-- A demand raises a promotion of another class; a page in the plan class of the decompression engine moves with it (R36, R151). -/
def raisePromo (d : Dev) (k : Nat) (p : Promo) : Dev :=
  if p.cls = .demand then d
  else
    let d := { d with tier.promos := nset d.tier.promos k { p with cls := .demand, since := d.now } }
    if (getEng d (homeOf k)).plan.contains k then submitComp d (homeOf k) 0 k else d

/-- A promotion of a page held in T2 starts (R151): the frame becomes LOADING, or the promotion waits in its class for one (R154); a demand raises an earlier class, a custodian sends the
hint (R153); with the channel offline it fails at once (Table TIR-4). -/
def startPromo (d : Dev) (k : Nat) (cls : PromoClass) : Dev × PromoStart :=
  let c := homeOf k
  match nget d.tier.promos k with
  | some p => (if cls = .demand then raisePromo d k p else d, .started)
  | none =>
    if !mediaOn d c then (bump d .CELL_TIER_CNT c 3, .failed)
    else if d.tier.mapBad.contains k then (bump (bump d .CELL_TIER_CNT c 3) .MED_CNT c 15, .failed)
    else
      let d := setFrame d k { slot := (freeSlot d c).getD noSlot, st := .loading }
      let d := bump { d with tier.promos := nset d.tier.promos k { cls := cls, since := d.now, deadline := d.now + promoMs d } } .CELL_TIER_CNT c (promoCnt cls)
      let d := if isHolder d (keyChamber k) && (d.cus.state == .joined || d.cus.state == .resync) && cls != .hint then
          sendMirror d c (pageAddr k) (.hint (keyChamber k) (keyPage k)) false false 0 [] [] else d
      (d, .started)

/-- A promotion has its frame. -/
def placed (d : Dev) (k : Nat) : Bool := (getFrame d k).any fun f => f.slot != noSlot

/-- The oldest promotion of a cell that a predicate admits. -/
def oldestPromo (d : Dev) (c : Nat) (f : Nat → Promo → Bool) : Option (Nat × Promo) :=
  (d.tier.promos.filter fun p => homeOf p.1 == c && f p.1 p.2).foldl (fun (b : Option (Nat × Promo)) p => match b with
    | none => some p
    | some x => if p.2.since < x.2.since then some p else b) none

/-- Promotions of a cell that wait for a frame take the free ones, the oldest first (R154). -/
def placePromos : Nat → Dev → Nat → (Promo → Bool) → Dev
  | 0, d, _, _ => d
  | n + 1, d, c, f =>
    match freeSlot d c, oldestPromo d c fun k p => !placed d k && f p with
    | some s, some (k, _) => placePromos n { d with tier.frames := nmod d.tier.frames k fun x => { x with slot := s } } c f
    | _, _ => d

/-- A page's bytes are at hand for a partial write or a read. -/
inductive PageAt where
  | here | wait | noFrame | failed
deriving DecidableEq, Repr

/-- The page is brought to T1 for an access (R150, R153): a frame not LOADING serves it, a page never written or trimmed gets a zero-filled frame, a LOST
page a poisoned one, and a page in T2 a promotion, of the demand class but for a read of the twin (R215). -/
def bringPage (d : Dev) (k : Nat) (cls : PromoClass := .demand) : Dev × PageAt :=
  match getFrame d k with
  | some f => if f.st = .loading then ((startPromo d k cls).1, .wait) else (setFrame d k { f with ref := true }, .here)
  | none =>
    match nget d.tier.map k with
    | some (.stored _ _ _ _) =>
      match startPromo d k cls with
      | (d, .started) => (d, .wait)
      | (d, .failed) => (d, .failed)
    | m =>
      match freeSlot d (homeOf k) with
      | none => (d, .noFrame)
      | some s =>
        let d := setFrame d k { slot := s, st := .clean, ref := true }
        (if m = some .lost then forEach (pageLines k) d setPoison else d, .here)

/-! ### Applying a write -/

/-- One line of a write: poison follows the coverage (R88, R89, R213), then a valid Alcove way, whose tag is checked (R162, R165), and the merging buffer. -/
def applyLine (d : Dev) (slot line lo n : Nat) (mark : Bool) : Dev :=
  let k := line / 128
  let c := homeOf k
  let a := frameAddr d slot (line % 128)
  let d := if mark then setPoison d line else if n = 128 then clearPoison d line else d
  let d := touchRepair d line
  let d := alcBad d c a ((ngetD d.latent0 (latentKey c a) []).filter (· == .tag))
  let al := getAlc d c
  let d := match alcWay al a with
    | some w => flipT0 (setAlc d c { al with ways := nset al.ways (alcSet a * 16 + w) ⟨a / 128, poisoned d line⟩ }) 3 c a fun n => .lineWord (bitsErr n)
    | none => d
  mbWrite d c line lo n mark

/-- The frame of a page turns MODIFIED with lines added; it keeps the time of its first modification (R150, R155). -/
def modifyFrame (f : Frame) (now : Nat) (lines : List Nat) : Frame :=
  { f with st := .modified, lines := lines.foldl sinsert f.lines, destaging := f.destaging.map (fun x => (x.1, x.2.filter fun l => !lines.contains l)), firstMod := if f.st = .modified then f.firstMod else now, ref := true }

/-- A repair of a line (R215): discarded when a write has touched the line since the request, and asked again while it is still poisoned; a poisoned
copy leaves it poisoned; else a whole-line write that changes neither the dirty state nor the charge. -/
def applyRepair (d : Dev) (line : Nat) (data : Option (List Byte)) (bad : Bool) : Dev :=
  let c := homeOf (line / 128)
  match nget d.repairs line, getFrame d (line / 128) with
  | some r, some f =>
    let d := { d with repairs := ndel d.repairs line }
    if r.touched then
      let d := bump d .HBM_CNT c 12
      if poisoned d line then askRepair d line else d
    else if bad ∨ f.st = .loading then d
    else
      let d := match data with
        | some b => { d with mem := memWrite d.mem (lineAddr line) (b.take 128) }
        | none => d
      bump (applyLine d f.slot line 0 128 false) .HBM_CNT c 11
  | some _, none => { d with repairs := ndel d.repairs line }
  | none, _ => d

/-- Bytes are applied to a page (R16, R163): memory, poison, merging buffer, frame, T2 charge. `marks` are line keys. -/
def applyBytes (d : Dev) (k off : Nat) (data : List Byte) (marks : List Nat) : Dev :=
  let n := data.length
  let f := (getFrame d k).getD { slot := 0, st := .clean }
  let d := if f.st = .modified then d else takeCredit d k
  let d := { d with mem := memWrite d.mem (pageAddr k + off) data }
  let ls := linesOf (pageAddr k + off) n
  let d := setFrame d k (modifyFrame f d.now (ls.map (· % 128)))
  forEach ls d fun d l =>
    applyLine d f.slot l (lineSpan (pageAddr k + off) n l).1 (lineSpan (pageAddr k + off) n l).2 (marks.contains l)

/-! ### Executing one part of a request -/

/-- The custodian holds a write of a set around a cut: |t − T| < 2ε (R276). -/
def inHold (d : Dev) (chamber ts : Nat) : Bool :=
  match nget d.chm.chambers chamber with
  | none => false
  | some ch => d.snap.holds.any fun h => h.2.1 == ch.set && ch.set != 0 && decide (ts < h.2.2 + 2 * epsilon d) && decide (h.2.2 < ts + 2 * epsilon d)

/-- Requests of the twin: never refused for space, never held (R130, R159, R276). -/
def fromTwin (k : ReqKind) : Bool := k == .mirrorWrite || k == .copy || k == .marker || k == .commitMark

/-- What the gate of a change answers: it may be applied, with the T2 sectors and dirty lines that the parts of its request at the cell take together, or the part waits or fails. -/
inductive GateRes where
  | pass (credit dirty : Nat)
  | hold (p : Part)
deriving DecidableEq, Repr

/-- The checks a change of a page passes before it is applied, in order: the cut window (R276), a throttle (R223), staging for copy-on-write
(R275), the page in T1 unless it is covered whole (R153), T2 admission (R159), dirty space (R130). `credit` and `dirty` are what earlier parts of its request at the
same home cell take, since the cell admits the request as one (R43). A wait keeps its first end when it is tried again. -/
def writeGate (d : Dev) (r : Req) (p : Part) (n credit dirty : Nat) : Dev × GateRes :=
  let k := pageKey r.chamber p.page
  let c := p.cell
  let twin := fromTwin r.kind
  let d := if twin then openCuts d r.chamber p.ts else d
  let who := connRequester r.conn (if twin then 4 else if r.kind = .write then 2 else 3)
  let snaps := cowSnaps d k p.ts
  let counted := countedClass (classOfPage d k)
  let thr := match getFrame d k with
    | some f => throttledUntil d c f.slot (r.off + p.lo - p.page * 16384) n who
    | none => none
  if !twin && inHold d r.chamber p.ts then (if p.st = .waitHold then d else bump d .TIME_CNT 0 3, .hold { p with st := .waitHold })
  else
    match thr with
    | some t => (d, .hold { p with st := .waitThrottle t })
    | none =>
      if snaps ≠ [] ∧ needsStaging d k ∧ freeStaging d c < snaps.length then
        let t := p.stageBy.getD (d.now + stallUs d)
        (d, .hold { p with st := .waitStaging t, stageBy := some t })
      else
        let whole := n == 16384 && ((getFrame d k).all fun f => f.st != .loading)
        let (d, at0) := if whole then
            (match getFrame d k with
              | some _ => (d, PageAt.here)
              | none => (d, if (freeSlot d c).isSome then PageAt.here else .noFrame))
          else bringPage d k
        match at0 with
        | .wait => (bump d .CELL_TIER_CNT c 9, .hold { p with st := .waitPromo })
        | .noFrame => (d, .hold { p with st := .waitFrame })
        | .failed => if twin then (d, .hold { p with st := .waitPromo }) else (bump d .CELL_TIER_CNT c 5, .hold { p with st := .failed stTierFail })
        | .here =>
          let f := getFrame d k
          let fresh := !(f.any fun f => f.st == .modified)
          let t := ownerOf d k
          let need := if fresh then credit + admitNeed d k else credit
          if fresh && !twin && (getMed d c).full then (bump d .CELL_TIER_CNT c 10, .hold { p with st := .failed stQuota })
          else if fresh && !twin && ngetD d.tier.credit (creditKey t c) 0 < need then
            let t' := p.creditBy.getD (d.now + us 20)
            (askCredit d t c, .hold { p with st := .waitCredit t', creditBy := some t' })
          else
            let stage := if snaps ≠ [] ∧ needsStaging d k ∧ counted then 128 * snaps.length else 0
            let add := dirty + (if counted then newLines f (r.off + p.lo - p.page * 16384) n else 0) + stage
            if dirtyFits d c add then (d, .pass need add)
            else
              let t' := p.dirtyBy.getD (if twin then p.since + stallMs d else d.now + stallUs d)
              (if p.dirtyBy.isSome then askDirty d c else bump (askDirty d c) .CELL_FLUSH_CNT c 2, .hold { p with st := .waitDirty t', dirtyBy := some t' })

/-- The page of a change that covers it whole takes a free frame as it is applied (R153). -/
def frameFor (d : Dev) (k : Nat) : Dev :=
  if (getFrame d k).isSome then d
  else match freeSlot d (homeOf k) with
    | some s => setFrame d k { slot := s, st := .clean, ref := true }
    | none => d

/-- After a change has been applied at the custodian: mirrored to the twin, or its region marked in Solo (R59, R245). Other classes need nothing. The mirror write
adds a reference to the buffer of its payload (R31). -/
def afterApply (d : Dev) (r : Req) (p : Part) (data : List Byte) (marks : List Nat) : Dev × PartState :=
  let k := pageKey r.chamber p.page
  if fromTwin r.kind then ({ d with cus.appliedTs := nset d.cus.appliedTs p.cell (max p.ts (ngetD d.cus.appliedTs p.cell 0)) }, .done)
  else if classOfPage d k = .mirrored then
    match d.cus.state with
    | .solo => (markRegion d k, .done)
    | _ =>
      let x := match r.buf with
        | some id => addRef d id
        | none => (d, none)
      (sendMirror (stampSent x.1 p.cell p.ts) p.cell (chmAddr r.chamber (r.off + p.lo)) (.part r.id p.page) r.hold r.persist p.ts data marks x.2, .mirrored p.ts)
  else if r.persist && classOfPage d k = .reference then (d, .waitDestage)
  else (d, .done)

/-- The parts of a write at one home cell pass its gate together (R43): each is brought as far as it can go, and the answer says whether all may be applied. A part that fails fails
every part at the cell. -/
def gateAll (d : Dev) (r : Req) (ps : List Part) : Dev × List Part × Bool :=
  let x := ps.foldl (fun (a : Dev × List Part × Bool × Nat × Nat) p =>
    match writeGate a.1 r p p.n a.2.2.2.1 a.2.2.2.2 with
    | (d, .pass credit dirty) => (d, a.2.1 ++ [p], a.2.2.1, credit, dirty)
    | (d, .hold p) => (d, a.2.1 ++ [p], false, a.2.2.2)) (d, [], true, 0, 0)
  match x.2.1.find? fun p => (match p.st with
    | .failed _ => true
    | _ => false) with
  | some f => (x.1, x.2.1.map fun p => { p with st := f.st }, false)
  | none =>
    let need := (x.2.1.filter fun p => (getFrame x.1 (pageKey r.chamber p.page)).isNone).length
    if x.2.2.1 && decide (freeFrames x.1 ((ps.head?.map (·.cell)).getD 0) < need) then (x.1, x.2.1.map fun p => { p with st := .waitFrame }, false)
    else (x.1, x.2.1, x.2.2.1)

/-- A part of a write or mirror write that the gate has let pass is applied at its home cell. -/
def applyWrite (d : Dev) (r : Req) (p : Part) : Dev × PartState :=
  let k := pageKey r.chamber p.page
  let data := (r.data.drop p.lo).take p.n
  let addr := chmAddr r.chamber (r.off + p.lo)
  let marks := r.mark.filter (linesOf addr p.n).contains
  let d := match getFrame d k with
    | some f => throttleTake d p.cell f.slot (r.off + p.lo - p.page * 16384) p.n (connRequester r.conn 2)
    | none => d
  let d := preserve d k (cowSnaps d k p.ts)
  afterApply (applyBytes (frameFor d k) k (r.off + p.lo - p.page * 16384) data marks) r p data marks

/-- The parts of a write at one home cell are executed: all of them, or none (R43). -/
def runWrite (d : Dev) (r : Req) (ps : List Part) : Dev × List Part :=
  match gateAll d r ps with
  | (d, ps, false) => (d, ps)
  | (d, ps, true) => ps.foldl (fun (a : Dev × List Part) p => let x := applyWrite a.1 r p; (x.1, a.2 ++ [{ p with st := x.2 }])) (d, [])

/-- The access of a part waits for a throttle of a requester, and takes it as it is issued (R223). -/
def partThrottled (d : Dev) (r : Req) (p : Part) (who : Requester) : Option Nat :=
  (getFrame d (pageKey r.chamber p.page)).bind fun f => throttledUntil d p.cell f.slot (r.off + p.lo - p.page * 16384) p.n who
def partTake (d : Dev) (r : Req) (p : Part) (who : Requester) : Dev :=
  match getFrame d (pageKey r.chamber p.page) with
  | some f => throttleTake d p.cell f.slot (r.off + p.lo - p.page * 16384) p.n who
  | none => d

/-- An internal agent's access to a whole page waits for a throttle (R223). -/
def agentThrottled (d : Dev) (k : Nat) (who : Requester) : Bool :=
  (getFrame d k).any fun f => (throttledUntil d (homeOf k) f.slot 0 16384 who).isSome

/-- An atomic is executed once at its home cell (R60): its 8 bytes are taken little-endian (DEDUCED). A poisoned line fails it (R90); a compare that fails
changes and mirrors nothing. The replay entry is made in the same cycle (R84). Returns the original value too. The line that an atomic fetches from T1 is installed in the Alcove as a
read's is (DESIGN CHOICE: R162 speaks of reads and writes only; log entry 'The T1 line of an atomic'). -/
def runAtomic (d : Dev) (r : Req) (p : Part) : Dev × Part × Nat :=
  let to_ (st : PartState) : Part := { p with st := st }
  let who := connRequester r.conn 3
  match partThrottled d r p who, bringPage d (pageKey r.chamber p.page) with
  | some t, _ => (d, to_ (.waitThrottle t), 0)
  | none, (d, .wait) => (d, to_ .waitPromo, 0)
  | none, (d, .noFrame) => (d, to_ .waitFrame, 0)
  | none, (d, .failed) => (bump d .CELL_TIER_CNT p.cell 5, to_ (.failed stTierFail), 0)
  | none, (d, .here) =>
    let k := pageKey r.chamber p.page
    let addr := chmAddr r.chamber r.off
    let d := partTake d r p who
    let d := readLine d (lineOfAddr addr) (lineOfAddr addr) (lineSpan addr 8 (lineOfAddr addr)) r.errs false who
    if poisoned d (lineOfAddr addr) then (d, to_ (.failed stPoisoned), 0)
    else
      let old := leNat (memRead d.mem addr 8)
      let hit := r.kind != .cas || old == r.arg.1
      if !hit then (addReplay d r.conn ⟨r.psn, 3, stOk, old⟩, to_ .done, old)
      else
        match writeGate d r p 8 0 0 with
        | (d, .hold q) => (d, q, 0)
        | (d, .pass _ _) =>
          let new := if r.kind = .cas then r.arg.2 else (old + r.arg.1) % 2 ^ 64
          let d := preserve d k (cowSnaps d k p.ts)
          let d := applyBytes d k (r.off - p.page * 16384) (leBytes 8 new) []
          let d := addReplay d r.conn ⟨r.psn, if r.kind = .cas then 3 else 4, stOk, old⟩
          let (d, st) := afterApply d r p (leBytes 8 new) []
          (d, to_ st, old)

/-- A read of a part is served from T0 or T1 once its page is there (R19, R151, R162). -/
def runRead (d : Dev) (r : Req) (p : Part) : Dev × PartState :=
  let k := pageKey r.chamber p.page
  let who := connRequester r.conn 1
  match partThrottled d r p who with
  | some t => (d, .waitThrottle t)
  | none =>
    match bringPage d k (if (getConn d r.conn).service = .mirror then .plan else .demand) with
    | (d, .wait) => (d, .waitPromo)
    | (d, .noFrame) => (d, .waitFrame)
    | (d, .failed) => (bump d .CELL_TIER_CNT p.cell 5, .failed stTierFail)
    | (d, .here) =>
      let addr := chmAddr r.chamber (r.off + p.lo)
      let noFill := decide (zeroAs 1 (cfld d .ALC_CFG p.cell 15 8) * 1024 < r.len)
      let d := partTake d r p who
      (readSpan d addr p.n (lineOfAddr (chmAddr r.chamber r.off)) r.errs noFill who, .done)

/-! ### Bulk pieces (R294, R295) -/

/-- A page of a TRIM (R294): after the cut window and the staging of copy-on-write, the page is TRIMMED, its frame free and its charge returned; a Mirrored one is mirrored as
zeros. -/
def runTrim (d : Dev) (r : Req) (p : Part) : Dev × Part :=
  let k := pageKey r.chamber p.page
  let c := p.cell
  let snaps := cowSnaps d k p.ts
  if inHold d r.chamber p.ts then (if p.st = .waitHold then d else bump d .TIME_CNT 0 3, { p with st := .waitHold })
  else if snaps ≠ [] ∧ needsStaging d k ∧ freeStaging d c < snaps.length then
    let t := p.stageBy.getD (d.now + stallUs d)
    (d, { p with st := .waitStaging t, stageBy := some t })
  else if !dirtyFits d c (if snaps ≠ [] ∧ needsStaging d k ∧ countedClass (classOfPage d k) then 128 * snaps.length else 0) then
    let t := p.dirtyBy.getD (d.now + stallUs d)
    (if p.dirtyBy.isSome then askDirty d c else bump (askDirty d c) .CELL_FLUSH_CNT c 2, { p with st := .waitDirty t, dirtyBy := some t })
  else
    let d := trimPage (preserve d k snaps) k
    let x := afterApply d r p (List.replicate 16384 0) []
    (x.1, { p with st := x.2 })

/-- A page of a LOAD (R295): an absent page is promoted in the plan class, without a pin. -/
def runLoad (d : Dev) (r : Req) (p : Part) : Dev × PartState :=
  match bringPage d (pageKey r.chamber p.page) .plan with
  | (d, .wait) => (d, .waitPromo)
  | (d, .noFrame) => (d, .waitFrame)
  | (d, .failed) => (d, .failed stTierFail)
  | (d, .here) => (d, .done)

/-- A page of a VERIFY (R295): every line of the range is read through the line code, and with MEDIA (`persist`) the T2 copy too; a page never written or TRIMMED passes. -/
def runVerify (d : Dev) (r : Req) (p : Part) : Dev × PartState :=
  let k := pageKey r.chamber p.page
  let none_ := (getFrame d k).isNone && (match nget d.tier.map k with
    | none => true
    | some .trimmed => true
    | _ => false)
  let who := connRequester r.conn 5
  if none_ then (d, .done)
  else match partThrottled d r p who, bringPage d k .plan with
  | some t, _ => (d, .waitThrottle t)
  | none, (d, .wait) => (d, .waitPromo)
  | none, (d, .noFrame) => (d, .waitFrame)
  | none, (d, .failed) => (d, .failed stTierFail)
  | none, (d, .here) =>
    let addr := chmAddr r.chamber (r.off + p.lo)
    let d := readSpan (partTake d r p who) addr p.n (lineOfAddr (chmAddr r.chamber r.off)) r.errs true who
    match r.persist, nget d.tier.map k with
    | true, some (.stored _ _ _ _) => ({ d with tier.verifs := nset d.tier.verifs k { cls := .plan, since := d.now, deadline := d.now } }, .waitVerify)
    | _, _ => (d, .done)

end Sys2Proof.Machine
end

