-- ==== Sys2Proof/Machine/Engine.lean ====
section
/-!
DEFINITION. The request engine: access checks, custody at the ingress cell, the order of execution at the home cells and the answers (spec/03_chambers.md R49 to R60, spec/01_architecture.md
R16, R18, spec/04_olisar_transport.md R75 to R90, spec/11_pair_custody.md R235, R239).
-/
namespace Sys2Proof.Machine
open Sys2Proof

/-! ### Access checks (R49 to R52, Table CHM-6) -/

/-- Check 1: state and generation of the presented key; none when LIVE and admitted (Table CHM-5, R53). -/
def keyClass (d : Dev) (key : Nat) : Option Nat :=
  let e := ngetD d.chm.keys (key / 256) {}
  if key / 256 = 0 ∨ e.state = .free then some stKeyInvalid
  else if e.state = .live ∧ e.gen = key % 256 ∧ e.inval = false then none
  else some stKeyStale

/-- Check 2: binding of a key to a connection (R48). -/
def bindingOk (e : KeyEnt) (tenant ord qpn : Nat) : Bool :=
  e.tenant == tenant && (match e.bound with
    | none => true
    | some (o, q) => o == ord && q == qpn)

/-- A failed check is counted at the ingress cell, with its key and QPN (Table CHM-9, CELL_KEYCHK_LAST). -/
def failCheck (d : Dev) (c : Nat) (x : Bool) (i status key qpn : Nat) : Dev :=
  let d := bump d (if x then .CELL_KEYCHK_XCNT else .CELL_KEYCHK_CNT) c i
  setReg (setReg d .CELL_KEYCHK_LAST c 0 (word key)) .CELL_KEYCHK_LAST c 1 (word (status * 2 ^ 24 + qpn))

/-- A check of Table CHM-6 fails for a request that stands at its ingress cell. -/
def failReq (d : Dev) (r : Req) (x : Bool) (i status : Nat) : Dev :=
  failCheck d (connCell r.conn) x i status (r.keyIdx * 256 + (ngetD d.chm.keys r.keyIdx {}).gen) (qpnOf (getConn d r.conn).gen r.conn)

/-- A key entry is used: it moves to the front of the ingress cell's cache of 4,096 entries; a miss is counted (R53). Only a key that
passes check 1 comes here, so a key that fails it counts as no miss (DESIGN CHOICE: the manual does not say; log entry 'Key cache misses'). -/
def cacheKey (d : Dev) (c idx : Nat) : Dev :=
  let l := ngetD d.chm.kcache c []
  let d := if l.contains idx then d else bump d .CELL_KEYCHK_CNT c 7
  { d with chm.kcache := nset d.chm.kcache c ((idx :: l.filter (· != idx)).take 4096) }

/-- A chamber lies in the scope of a drain asked for by ordinal `asker` (R240, R251). -/
def inScope (scope chamber asker : Nat) (n : Nat) (ch : Chamber) : Bool :=
  match scope with
  | 0 => true
  | 1 => ch.pref == 1 + asker % 2
  | 2 => n == chamber
  | _ => false

/-- What custody says to a request at the ingress cell. -/
inductive Gate where
  | open_ | wait
  | refuse (status : Nat)
deriving DecidableEq, Repr

/-- Custody of a Mirrored chamber for a request that changes it or only reads it (R230, R233, R235, R239, R242, R244, R251, R255). -/
def custodyGate (d : Dev) (n : Nat) (ch : Chamber) (reads : Bool) : Gate :=
  if ch.cls ≠ .mirrored then .open_
  else if d.cus.settled = false then .wait
  else if ch.holder ≠ ordinal d ∨ d.cus.lost = true then
    (if d.cus.takeover.isSome || (match d.cus.out with
        | some o => o.kind == .takeover && !o.answered
        | none => false) then .wait else .refuse stNotCustodian)
  else if d.cus.witness.isNone then (if d.cus.state = .awaiting ∧ reads = false then .wait else .open_)
  else if d.cus.halted.isSome ∨ d.cus.yieldedAt.isSome then .wait
  else if (match d.cus.drain with
      | some x => inScope x.scope x.chamber (twinOrd d) n ch
      | none => false) then .wait
  else if d.now < d.cus.leaseEnd then .open_ else .wait

/-! ### Requests and their parts -/

def getReq (d : Dev) (id : Nat) : Option Req := d.reqs.find? fun r => r.id == id
def setReq (d : Dev) (r : Req) : Dev := { d with reqs := d.reqs.map fun x => if x.id = r.id then r else x }
def delReq (d : Dev) (id : Nat) : Dev := { d with reqs := d.reqs.filter fun x => x.id != id }
def addReq (d : Dev) (r : Req) : Dev := { d with reqs := d.reqs ++ [r], nextReq := r.id + 1 }

/-- A part that waits at its home cell or has not been executed (R16). -/
def pendingPart : PartState → Bool
  | .ingress => true
  | .queued => true
  | .waitDirty _ => true
  | .waitStaging _ => true
  | .waitCredit _ => true
  | .waitPromo => true
  | .waitFrame => true
  | .waitHold => true
  | .waitThrottle _ => true
  | .mirrored _ => false
  | .refused _ => false
  | .waitDestage => false
  | .waitVerify => false
  | .done => false
  | .failed _ => false

/-- A part that needs nothing more. -/
def partOver : PartState → Bool
  | .done => true
  | .failed _ => true
  | _ => false

/-- Changes of memory. -/
def isChange : ReqKind → Bool
  | .read => false
  | .commit => false
  | .marker => false
  | .commitMark => false
  | .load => false
  | .verify => false
  | _ => true

/-- An earlier request of the connection holds a part at the ingress cell (R18): it has not been sent to the mesh whole, or, before a read, one of its changes is not yet applied at another
home cell. Pieces of bulk commands keep their own order (R288). -/
def holdsIssue (e r : Req) (p : Part) : Bool :=
  e.conn == r.conn && e.bulk.isNone && r.bulk.isNone &&
  ((!e.silent && (match e.stage with
    | .waitCustody _ => true
    | .waitPause => true
    | _ => false)) ||
  e.parts.any fun q => q.st == .ingress || (r.kind == .read && isChange e.kind && pendingPart q.st && q.cell != p.cell))

/-- A request that waits at a home cell holds back a part that arrived later, for the same page or of the same connection (R16). -/
def holdsBack (e r : Req) (p : Part) : Bool :=
  e.parts.any fun q => pendingPart q.st && q.st != .ingress && decide (q.arr < p.arr) &&
    ((e.chamber == r.chamber && q.page == p.page) || (e.conn == r.conn && e.bulk.isNone && r.bulk.isNone && q.cell == p.cell))

/-- The final status of parts that are all over: that of the failed part at the lowest offset (R43). -/
def finalStatus (l : List Part) : Nat :=
  match l.find? fun p => (match p.st with
    | .failed _ => true
    | _ => false) with
  | some p => (match p.st with
    | .failed s => s
    | _ => stOk)
  | none => stOk

/-- The parts of a request, at its ingress cell. -/
def makeParts (d : Dev) (r : Req) : List Part :=
  (pageParts r.off r.len).map fun q => { page := q.1, cell := homeCell r.chamber q.1, lo := q.2.1, n := q.2.2, st := .ingress, since := d.now, ts := r.ts }

/-- Checks 4 to 6 of Table CHM-6, in order: bounds, rights, home cells in service. Answers the status of the first that fails, counted. -/
def lateChecks (d : Dev) (r : Req) (key : Nat) : Dev × Nat :=
  let e := ngetD d.chm.keys r.keyIdx {}
  let c := connCell r.conn
  let qpn := qpnOf (getConn d r.conn).gen r.conn
  if !boundsOk e r.kind r.va r.len then (failCheck d c false 2 stBounds key qpn, stBounds)
  else if !rightsOk e r.kind r.persist then (failCheck d c false 4 stRights key qpn, stRights)
  else if (pageParts r.off r.len).any fun q => cellFenced d (homeCell r.chamber q.1) then (failCheck d c true 1 stUnavailable key qpn, stUnavailable)
  else (d, stOk)

/-- The chamber's set is paused by a message cut for a request that changes it (R278). -/
def pausedFor (d : Dev) (r : Req) : Bool :=
  (isChange r.kind) && (match nget d.chm.chambers r.chamber with
    | some ch => ch.set != 0 && nhas d.snap.paused ch.set
    | none => false)

/-- A request that custody admits passes checks 4 to 6 and is issued with its parts, or waits for a message cut, or is over with the status of the check
that failed. -/
def admitReq (d : Dev) (r : Req) : Dev :=
  if pausedFor d r then setReq d { r with stage := .waitPause }
  else
    let key := r.keyIdx * 256 + (ngetD d.chm.keys r.keyIdx {}).gen
    match lateChecks d r key with
    | (d, 0) =>
      setReq d { r with stage := .issued, parts := if r.kind = .commit then [] else makeParts d r }
    | (d, st) => setReq d { r with stage := .over st }

/-- A region is named by this device's own pull list or a whole-cell flag (R248). -/
def pulls (d : Dev) (k : Nat) : Bool := nhas d.cus.pull (regionKey k) || (d.cus.wholePull.contains (homeOf k) && !nhas d.cus.marks (regionKey k))

/-- The check of a mirror frame by its claim, which `arg` holds (R233); a copy of a region that this device pulls comes from the twin whoever holds the
chamber (R249). -/
def mirrorGate (d : Dev) (r : Req) : Gate :=
  if r.arg.1 < d.cus.pairClaim then .refuse stNotCustodian
  else if d.cus.pairClaim < r.arg.1 then .wait
  else
    match nget d.chm.chambers r.chamber with
    | none => .refuse stNotCustodian
    | some ch =>
      if ch.holder = twinOrd d ∨ (r.kind = .copy ∧ pulls d (pageKey r.chamber (r.off / 16384)) = true) then .open_ else .refuse stNotCustodian

/-- A mirror frame is refused: nothing is applied (R233, CUS_CNT[9]). -/
def refuseMirror (d : Dev) (r : Req) : Dev := bump (setReq d { r with stage := .over stNotCustodian }) .CUS_CNT 0 9

/-- A mirror frame is applied, refused or goes on waiting (R233). -/
def retryMirror (d : Dev) (r : Req) : Dev :=
  match mirrorGate d r with
  | .open_ => setReq d { r with stage := .issued, parts := makeParts d r }
  | .refuse _ => refuseMirror d r
  | .wait => d

/-- A request reaches custody again: admitted, refused or still waiting. -/
def retryCustody (d : Dev) (r : Req) : Dev :=
  if fromTwin r.kind then retryMirror d r
  else match nget d.chm.chambers r.chamber with
  | none => setReq (failReq d r true 0 stUnavailable) { r with stage := .over stUnavailable }
  | some ch =>
    match custodyGate d r.chamber ch (r.kind == .read) with
    | .open_ => admitReq d r
    | .refuse st => setReq (failReq d r false 5 st) { r with stage := .over st }
    | .wait => d

/-! ### Execution -/

/-- A change that its mirror has yet to confirm counts its wait from its application (R131), any other part from its arrival. -/
def sinceOf (d : Dev) (q : Part) : PartState → Nat
  | .mirrored _ => d.now
  | _ => q.since

/-- A page that a resync copy has replaced: its pull entry goes with the region's last page, and later mirror writes to it are applied again (R131, R248,
R249). -/
def copied (d : Dev) (k : Nat) : Dev :=
  let key := regionKey k
  let later := (List.range (16383 - keyPage k % 16384)).any fun i => homeOf (k + 1 + i) == homeOf k &&
    (((chmOf d k).map fun c => decide (keyPage k + 1 + i < c.pages)).getD false)
  let d := { d with cus.dropPages := ndel d.cus.dropPages k }
  if later then d
  else
    let got := if d.cus.wholePull.contains (homeOf k) then nset d.cus.wholeGot (homeOf k) (sinsert (ngetD d.cus.wholeGot (homeOf k) []) key) else d.cus.wholeGot
    { d with cus.pull := ndel d.cus.pull key, cus.wholeGot := got }

/-- The digest of a page with its poison mask; the bytes of poisoned lines count as zero (R216, R253). A page of zeros digests as zero whether it has been written or not, as R253 says of
one that has not: twins whose bytes agree do not diverge (DEDUCED; log entry 'The digest of a page of zeros'). -/
def digestWith (d : Dev) (k : Nat) (lost : List Nat) : Nat :=
  let bad := (List.range 128).filter fun i => poisoned d (k * 128 + i) || lost.contains i
  let bytes := ((List.range 128).map fun i => if bad.contains i then List.replicate 128 (0 : Byte) else memRead d.mem (lineAddr (k * 128 + i)) 128).flatten
  let written := d.mem.any fun x => decide (pageAddr k ≤ x.1 ∧ x.1 < pageAddr k + 16384)
  if bad = [] ∧ written = false then 0 else Config.pageDigest bytes bad % 2 ^ 64
def digestOf (d : Dev) (k : Nat) : Nat := digestWith d k []

/-- A page is brought to T1 for its digest, in the plan class; one that is never-written or TRIMMED needs no access (R253). -/
def bringDigest (d : Dev) (k : Nat) : Dev × PageAt :=
  match getFrame d k, nget d.tier.map k with
  | some _, _ => bringPage d k .plan
  | none, some (.stored _ _ _ _) => bringPage d k .plan
  | none, some .lost => bringPage d k .plan
  | none, _ => (d, .here)

/-- A compare marker at the follower (R253, R254): a page that T1 does not hold is read by a plan-class promotion first; a digest that differs asks the page from
the custodian. -/
def runMarker (d : Dev) (r : Req) (p : Part) : Dev × PartState :=
  let k := pageKey r.chamber p.page
  match bringDigest d k with
  | (d, .wait) => (d, .waitPromo)
  | (d, .noFrame) => (d, .waitFrame)
  | (d, .failed) => (d, .done)
  | (d, .here) =>
    if digestOf d k = r.arg.2 then (d, .done)
    else
      (sendMirror { d with repairs := nset d.repairs (2 ^ 64 + k) ⟨true, false, d.now + ms 10, false⟩ } p.cell (pageAddr k)
        (.pageReq (keyChamber k) (keyPage k)) false false 0 [] [], .done)

/-- Releases of a page that come before one that holds it as it stands: 1 when a destage is under way that does not hold all of it, else 0 (R292). -/
def nextRelease (d : Dev) (k : Nat) : Nat :=
  match getFrame d k with
  | some f => (match f.destaging with
    | some (_, ls) => if f.lines.all ls.contains then 0 else 1
    | none => 0)
  | none => 0

/-- A commit marker at the follower, or a page of a COMMIT at the custodian, which sends the marker to its twin (R292): it is over once the page, as it stands, has been
released in T2. -/
def runCommitMark (d : Dev) (r : Req) (p : Part) : Dev × PartState :=
  let d := match r.bulk with
    | some (id, _, _) =>
      if isHolder d r.chamber && joined d then sendMirror d p.cell (pageAddr (pageKey r.chamber p.page)) (.commitMarker id r.chamber p.page) false true 0 [] [] else d
    | none => d
  if (getFrame d (pageKey r.chamber p.page)).any fun f => f.st == .modified then (d, .waitDestage) else (d, .done)

/-- The parts of a request with those of a list in the place of their own pages. -/
def putParts (d : Dev) (id : Nat) (ps : List Part) : Dev :=
  match getReq d id with
  | none => d
  | some r => setReq d { r with parts := r.parts.map fun q => (ps.find? fun p => p.page == q.page).getD q }

/-- A part that is executed on its own, and its new state. -/
def runPart (d : Dev) (r : Req) (p : Part) : Dev :=
  let to_ (x : Dev × PartState) : Dev := putParts x.1 r.id [{ p with st := x.2, since := sinceOf x.1 p x.2 }]
  let read (x : Dev × PartState) : Dev :=
    let addr := chmAddr r.chamber (r.off + p.lo)
    putParts x.1 r.id [if x.2 = .done ∨ x.2 = .waitVerify then { p with st := x.2, got := memRead x.1.mem addr p.n, bad := (linesOf addr p.n).filter (poisoned x.1) } else { p with st := x.2 }]
  match r.kind with
  | .read => read (runRead d r p)
  | .verify => read (runVerify d r p)
  | .marker => to_ (runMarker d r p)
  | .commitMark =>
    let x := runCommitMark d r p
    putParts x.1 r.id [{ p with st := x.2, since := sinceOf x.1 p x.2, ts := nextRelease x.1 (pageKey r.chamber p.page) }]
  | .load => to_ (runLoad d r p)
  | .trim =>
    let x := runTrim d r p
    putParts x.1 r.id [{ x.2 with since := sinceOf x.1 p x.2.st }]
  | .cas | .faa =>
    let x := runAtomic d r p
    let d := putParts x.1 r.id [{ x.2.1 with since := sinceOf x.1 p x.2.1.st }]
    (match getReq d r.id with
      | some r => setReq d { r with orig := x.2.2 }
      | none => d)
  | _ => d

/-- The parts of a write at a home cell, executed as one (R43). -/
def runGroup (d : Dev) (r : Req) (ps : List Part) : Dev :=
  let x := runWrite d r ps
  let d := if r.kind = .copy then forEach (x.2.filter fun p => p.st == .done) x.1 fun d p => copied d (pageKey r.chamber p.page) else x.1
  putParts d r.id (x.2.map fun p => { p with since := sinceOf d p p.st })

/-- Writes, whose parts at one home cell are admitted together. -/
def isWrite (k : ReqKind) : Bool := k == .write || k == .mirrorWrite || k == .copy

/-- A change whose home cell has sent a later mirror write since it arrived takes the cell's next timestamp, so that the mirror writes of a home cell keep rising timestamps (R71). -/
def restamp (d : Dev) (r : Req) (p : Part) : Dev × Part :=
  if isChange r.kind && !fromTwin r.kind && decide (p.ts ≤ ngetD d.cus.sentTs p.cell 0) && nhas d.cus.sentTs p.cell then
    let x := mirrorStamp d p.cell
    (x.1, { p with ts := x.2 })
  else (d, p)

/-- Requests that came before a request. -/
def earlier (d : Dev) (id : Nat) : List Req := d.reqs.filter fun e => e.id < id

/-- Pages of a range whose frames hold data not yet in T2 (R73). -/
def unsavedPages (d : Dev) (r : Req) : List Part :=
  ((pageParts r.off r.len).filter fun q => (getFrame d (pageKey r.chamber q.1)).any fun f => f.st == .modified).map fun q =>
    { page := q.1, cell := homeCell r.chamber q.1, lo := q.2.1, n := q.2.2, st := .waitDestage, since := d.now, ts := nextRelease d (pageKey r.chamber q.1) }

/-- A PERSIST COMMIT moves on once every earlier write and atomic to its range has reached its acknowledgement point: poison in the range fails it (R90);
for a Reference chamber it waits for the destage of the range (R73). -/
def runCommit (d : Dev) (r : Req) : Dev :=
  let lo := r.off
  let hi := r.off + r.len
  let before := (earlier d r.id).any fun e => isChange e.kind && e.chamber == r.chamber && decide (e.off < hi) && decide (lo < e.off + e.len) &&
    (match e.stage with
      | .over _ => false
      | _ => true)
  if r.expanded || before then d
  else if (linesOf (chmAddr r.chamber lo) r.len).any (poisoned d) then setReq d { r with stage := .over stPoisoned }
  else
    let ps := match nget d.chm.chambers r.chamber with
      | some ch => if ch.cls = .reference then unsavedPages d r else []
      | none => []
    setReq d { r with parts := ps, expanded := true }

/-- A part leaves for its home cell, where it arrives at once: it takes its place in the order of arrival, and a change at the custodian the next timestamp of the cell (R16, R18, R71). A part for a
fenced cell fails at the ingress cell with nothing changed (R15). -/
def issuePart (d : Dev) (id : Nat) (p : Part) : Dev :=
  match getReq d id with
  | none => d
  | some r =>
    if p.st ≠ .ingress ∨ ((earlier d id).any fun e => holdsIssue e r p) = true then d
    else
      let (d, ts) := if isChange r.kind && !fromTwin r.kind then mirrorStamp d p.cell else (d, p.ts)
      putParts { d with nextArr := d.nextArr + 1 } id [{ p with st := .queued, since := d.now, ts := ts, arr := d.nextArr }]

/-- Parts of a request that wait for or at a fenced home cell fail UNAVAILABLE, with nothing changed (R15). -/
def failFenced (d : Dev) (r : Req) : Req :=
  { r with parts := r.parts.map fun p => if pendingPart p.st && cellFenced d p.cell then { p with st := .failed stUnavailable } else p }

/-- A request's parts that may leave for their home cells do so, in PSN order on each connection (R18). -/
def issueReq (d : Dev) (id : Nat) : Dev :=
  match getReq d id with
  | none => d
  | some r =>
    if r.stage ≠ .issued then d
    else
      let r := failFenced d r
      forEach r.parts (setReq d r) fun d p => issuePart d id p

/-- A cell and a request whose parts there are queued, by arrival. -/
def arrivals (d : Dev) : List (Nat × Nat × Nat) :=
  let ins (x : Nat × Nat × Nat) (l : List (Nat × Nat × Nat)) : List (Nat × Nat × Nat) := l.takeWhile (fun y => decide (y.1 < x.1)) ++ x :: l.dropWhile fun y => decide (y.1 < x.1)
  ((d.reqs.map fun r => (r.parts.filter fun p => p.st == .queued).map fun p => (p.arr, r.id, p.page)).flatten).foldl (fun l x => ins x l) []

/-- One queued part runs when its home cell can work and nothing that arrived earlier holds it back (R16); a write runs with its other parts at the cell, once none of them waits. -/
def runArrival (d : Dev) (x : Nat × Nat × Nat) : Dev :=
  match getReq d x.2.1 with
  | none => d
  | some r =>
    match r.parts.find? fun p => p.page == x.2.2 && p.st == .queued with
    | none => d
    | some p =>
      let held (p : Part) : Bool := d.reqs.any fun e => e.id != r.id && holdsBack e r p
      if cellAwake d p.cell = false then d
      else if isWrite r.kind then
        let mine := r.parts.filter fun q => q.cell == p.cell
        match mine.find? fun q => (match q.st with
          | .failed _ => true
          | _ => false) with
        | some f => putParts d r.id ((mine.filter fun q => q.st == .queued).map fun q => { q with st := f.st })
        | none =>
          if (mine.any fun q => (pendingPart q.st && q.st != .queued) || held q) then d
          else
            let y := (mine.filter fun q => q.st == .queued).foldl (fun (a : Dev × List Part) q => let z := restamp a.1 r q; (z.1, a.2 ++ [z.2])) (d, [])
            runGroup y.1 r y.2
      else if held p then d
      else
        let y := restamp d r p
        runPart y.1 r y.2

/-- A commit moves on, and a request whose parts are all over reaches its point. -/
def finishReq (d : Dev) (id : Nat) : Dev :=
  match getReq d id with
  | none => d
  | some r =>
    if r.stage ≠ .issued then d
    else
      let d := if r.kind = .commit then runCommit d r else d
      match getReq d id with
      | none => d
      | some r =>
        if r.stage = .issued ∧ r.parts.all (fun p => partOver p.st) ∧ (r.kind = .commit → r.expanded = true) then
          setReq d { r with stage := .over (finalStatus r.parts) }
        else d

/-- A part of a request may leave for its home cell now. -/
def issuable (d : Dev) : Bool :=
  d.reqs.any fun r => r.stage == .issued && r.parts.any fun p => p.st == .ingress && !((earlier d r.id).any fun e => holdsIssue e r p)

/-- Requests leave for their home cells, run there in order of arrival, and reach their points; again while that lets a held one leave. -/
def runReqs : Nat → Dev → Dev
  | 0, d => d
  | n + 1, d =>
    let d := forEach (d.reqs.map (·.id)) d issueReq
    let d := forEach (arrivals d) d runArrival
    let d := forEach (d.reqs.map (·.id)) d finishReq
    if issuable d then runReqs n d else d

/-! ### Plan cursors (R168, R169) -/

/-- The slots of a plan's entry: one for every page its range touches (R168). -/
def entrySlots (e : PlanEnt) : Nat := if e.len = 0 then 0 else (e.off + e.len - 1) / 16384 + 1 - e.off / 16384

/-- The entry and the page of slot k, with the last byte of the slot's range. -/
def slotAt : List PlanEnt → Nat → Nat → Option (Nat × PlanEnt × Nat)
  | [], _, _ => none
  | e :: t, i, k => if k < entrySlots e then some (i, e, e.off / 16384 + k) else slotAt t (i + 1) (k - entrySlots e)

/-- All slots of a plan. -/
def planSlots (p : Plan) : Nat := p.entries.foldl (fun n e => n + entrySlots e) 0

/-- The last byte of the range of a slot's page in its chamber. -/
def slotLast (e : PlanEnt) (page : Nat) : Nat := min (e.off + e.len) ((page + 1) * 16384) - 1

def getPlan (d : Dev) (n : Nat) : Plan := ngetD d.tier.plans n {}
def setPlan (d : Dev) (n : Nat) (p : Plan) : Dev := { d with tier.plans := nset d.tier.plans n p }

/-- A part of a request waits for a page's promotion. -/
def promoWanted (d : Dev) (k : Nat) : Bool := d.reqs.any fun r => r.parts.any fun p => p.st == .waitPromo && pageKey r.chamber p.page == k

/-- A pin of a plan's slot is dropped (R169); a queued plan promotion that neither a pin nor a request asks for and that has not started is cancelled. -/
def unpin (d : Dev) (n slot : Nat) : Dev :=
  let p := getPlan d n
  let d := setPlan d n { p with pinned := p.pinned.filter (· != slot) }
  match slotAt p.entries 0 slot with
  | none => d
  | some (_, e, page) =>
    let k := pageKey e.chamber page
    match getFrame d k with
    | none => d
    | some f =>
      let pins := f.pins.filter (· != n * 2 ^ 32 + slot)
      let d := setFrame d k { f with pins := pins }
      match nget d.tier.promos k with
      | some pr =>
        if pr.cls = .plan ∧ pr.started = false ∧ pins = [] ∧ promoWanted d k = false then delFrame { d with tier.promos := ndel d.tier.promos k } k else d
      | none => d

/-- The cursor moves to C: pins below it are dropped, slots passed without being consumed are counted, and past the last slot the plan is DONE with
every pin dropped (R168, Table TIR-8). -/
def moveCursor (d : Dev) (n c : Nat) : Dev :=
  let p := getPlan d n
  let passed := ((List.range c).filter fun s => decide (p.cursor ≤ s) && !p.consumed.contains s).length
  let d := bumpBy d .TIER_PLAN_CNT 0 2 passed
  let d := setPlan d n { p with cursor := c }
  let d := forEach (p.pinned.filter (· < c)) d fun d s => unpin d n s
  if planSlots p ≤ c then
    let d := forEach (getPlan d n).pinned d fun d s => unpin d n s
    setPlan d n { getPlan d n with state := .done }
  else d

/-- A completed read of a tenant consumes the slots whose last byte it covers (R168). -/
def consumeRead (d : Dev) (tenant chamber off len : Nat) : Dev :=
  forEach (d.tier.plans.map (·.1)) d fun d n =>
    let p := getPlan d n
    if p.state = .running ∧ p.tenant = tenant then
      forEach (List.range (planSlots p)) d fun d s =>
        let p := getPlan d n
        match slotAt p.entries 0 s with
        | none => d
        | some (_, e, page) =>
          if e.chamber = chamber ∧ off ≤ slotLast e page ∧ slotLast e page < off + len ∧ p.state = .running ∧ ¬ p.consumed.contains s ∧ p.cursor ≤ s then
            let d := bump (setPlan d n { p with consumed := sinsert p.consumed s }) .TIER_PLAN_CNT 0 1
            moveCursor d n (max p.cursor (s + 1))
          else d
    else d

/-! ### Answers (R81, R86, R90) -/

/-- Last PSN of a request. -/
def lastPsn (r : Req) : Nat := psnMod (r.psn + r.pkts - 1)

/-- What the answers of a request tell of it (R70), with the PSN that they name. -/
def aboutReq (r : Req) (psn : Nat) : About := ⟨psn, some r.chamber, r.persist⟩

/-- A read's data with its poison, by version (R90): below v3 only the packets before the first one that would cover a poisoned line leave, and a status takes its place. -/
def answerRead (d : Dev) (r : Req) : Dev :=
  let c := getConn d r.conn
  let start := chmAddr r.chamber r.off
  let bytes := (r.parts.map (·.got)).flatten
  let bad := (r.parts.map (·.bad)).flatten
  let n := packetsOf bytes.length c.pmtu
  if bad = [] ∨ c.version = 3 then
    let d := putRead d r.conn (aboutReq r r.psn) start bytes bad n
    if r.dup then d else answered d r.conn (lastPsn r)
  else
    let first := ((packetSpans bytes.length c.pmtu).findIdx? fun x => (pmhOf (start + x.1) x.2 bad).isSome).getD n
    let d := putRead (bump d .OMT_CNT (connCell r.conn) 14) r.conn (aboutReq r r.psn) start bytes bad first
    sendStatus d r.conn (aboutReq r (psnMod (r.psn + first))) r.psn 2 stPoisoned

/-- Kind code of a replay entry. -/
def replayKind : ReqKind → Nat
  | .read => 2
  | .cas => 3
  | .faa => 4
  | .commit => 5
  | _ => 1

/-- A write that reached its point is acknowledged at once when its AckReq asks for it or the coalescing count is full, and otherwise counted (R81). -/
def answerWrite (d : Dev) (r : Req) : Dev :=
  let c := getConn d r.conn
  if r.ackReq || ackCoalesce d (connCell r.conn) ≤ c.coalesced + 1 then sendAck d r.conn (aboutReq r (lastPsn r))
  else setConn d r.conn { c with coalesced := c.coalesced + 1, unackedAt := some (c.unackedAt.getD d.now), ackPsn := lastPsn r, ackChm := some r.chamber, ackPersist := r.persist }

/-- BUSY ends a request without effect: the partner is told to wait, ePSN returns to its PSN, and the requests admitted behind it are not answered (R86, R87); those
not yet executed have no effect. -/
def answerBusy (d : Dev) (r : Req) : Dev :=
  let d := sendBusy d r.conn (aboutReq r r.psn) (stallUs d)
  let d := modConn d r.conn fun c => { c with epsn := r.psn }
  let gone (e : Req) : Bool := e.conn == r.conn && e.bulk.isNone && decide (r.id < e.id) && (e.parts.all fun p => pendingPart p.st)
  let d := forEach (d.reqs.filter gone) d fun d e => dropBuf d e.buf
  { d with reqs := (d.reqs.filter fun e => !gone e).map fun e =>
      if e.conn = r.conn ∧ e.bulk = none ∧ r.id < e.id then
        { e with silent := true, parts := e.parts.map fun p => if pendingPart p.st then { p with st := .failed stBusy } else p }
      else e }

/-- The answer of one request whose turn has come. -/
def answerOne (d : Dev) (r : Req) (status : Nat) : Dev :=
  let c := getConn d r.conn
  let live := c.state = .ready ∨ c.state = .draining
  let d := if r.kind = .read ∧ live ∧ status = stOk ∧ c.service ≠ .mirror then
      consumeRead d c.tenant r.chamber r.off r.len else d
  let d := if r.parts.all fun p => partOver p.st then delReq (dropBuf d r.buf) r.id
    else setReq (dropBuf d r.buf) { r with silent := true, buf := none }
  if r.silent ∨ ¬ live then d
  else if status = stBusy then answerBusy d r
  else if status = stOk then
    match r.kind with
    | .read => answerRead d r
    | .cas | .faa => putAtomic (answered d r.conn (lastPsn r)) r.conn (aboutReq r r.psn) r.orig
    | .commit => sendAck (addReplay d r.conn ⟨r.psn, 5, stOk, 0⟩) r.conn (aboutReq r (lastPsn r))
    | _ => answerWrite d r
  else sendStatus d r.conn (aboutReq r r.psn) r.psn (replayKind r.kind) status

/-- Answers leave in PSN order: the first requests of a connection that are over are answered (R58, R81). -/
def answerConn : Nat → Dev → Nat → Dev
  | 0, d, _ => d
  | n + 1, d, k =>
    match d.reqs.find? fun r => r.conn == k && !r.silent with
    | none => d
    | some r =>
      match r.stage with
      | .over st => answerConn n (answerOne d r st) k
      | _ => d

/-- Requests that are over and that nobody waits for leave; a bulk piece stays while its command stands. -/
def dropSilent (d : Dev) : Dev :=
  forEach (d.reqs.filter fun r => r.silent && (r.bulk.all fun b => d.bulk.cmds.all fun c => c.id != b.1) && (match r.stage with
    | .over _ => r.parts.all fun p => partOver p.st
    | _ => false)) d fun d r => delReq (dropBuf d r.buf) r.id

/-- Everything that can move moves: waiting requests in order of arrival, then answers in PSN order on each connection. -/
def pump (d : Dev) : Dev :=
  let d := runReqs (d.reqs.length + 1) d
  let ks := (d.reqs.map (·.conn)).eraseDups
  dropSilent (forEach ks d fun d k => answerConn d.reqs.length d k)

/-- A state for the waits of parts: every part in a state that a predicate names is tried again. -/
def requeue (d : Dev) (f : Req → Part → Bool) : Dev :=
  { d with reqs := d.reqs.map fun r => { r with parts := r.parts.map fun p => if f r p then { p with st := .queued } else p } }

/-- Requests that wait for custody are tried again in order of arrival. -/
def pumpCustody (d : Dev) : Dev :=
  pump (forEach (d.reqs.map (·.id)) d fun d id =>
    match getReq d id with
    | some r => (match r.stage with
      | .waitCustody _ => retryCustody d r
      | _ => d)
    | none => d)

/-! ### Reception (R75 to R85) -/

/-- A host frame in a PCP other than that of its kind is counted (R92). -/
def countPcp (d : Dev) (p : Pkt) (want : Nat) : Dev :=
  if portRole d p.port = 1 ∧ p.pcp.val ≠ want then bump d .PORT_CNG_CNT p.port 7 else d

/-- The time of a packet's OXH as the checks see it: on a HOST port a zero timestamp is the time of arrival (R70). -/
def oxhTime (d : Dev) (port : Nat) (x : Oxh) : Nat := if portRole d port = 1 ∧ x.timestamp = 0 then fedTime d else x.timestamp

/-- An OXH is over age (R54): more than 4 ms and the uncertainty old. -/
def overAge (d : Dev) (port : Nat) (x : Oxh) : Bool := decide (oxhTime d port x + 4000000 + uncertainty d < fedTime d)

/-- An OXH is a carrier OXH, which exists only on LOCAL and GLOBAL links (R112). -/
def carrierOxh (d : Dev) (port : Nat) (x : Oxh) : Bool := x.version == 0 && (portRole d port == 3 || portRole d port == 4)

/-- The OXH of a packet that its checks and its connection see: a carrier OXH is taken off (R112). -/
def ownOf (d : Dev) (port : Nat) (x : Option Oxh) : Option Oxh := x.filter fun x => !carrierOxh d port x

/-- A CONNECTING connection becomes READY with its window at INIT_WIN (R76, R97). -/
def enterReady (d : Dev) (k : Nat) : Dev :=
  modConn d k fun c => { c with state := .ready, win := { w := initWin d (connCell k) c.pmtu } }

/-- The grace window of the last MODE_COMMIT is open (R281). -/
def inGrace (d : Dev) : Bool := d.mode.graceEnd.any fun t => decide (fedTime d < t)

/-- A POSTED MODE_COMMIT has opened its grace window, ε before its T (R281). -/
def graceAhead (d : Dev) (e : CalEnt) : Bool := e.state == .posted && e.kind == 1 && decide (e.time ≤ fedTime d + epsilon d)

/-- The epoch of a packet is accepted: the current one, or the other one within the grace window (R85, R281). -/
def epochOk (d : Dev) (e : Nat) : Bool :=
  e == d.mode.epoch || (inGrace d && e == d.mode.oldEpoch) || d.cal.ents.any fun p => graceAhead d p.2 && p.2.arg % 4 == e

/-- Header checks of check 3: opcode by version, OXH present with the negotiated version, POISON on the first packet only of a v3 write with a PMH, and a PMH nowhere else
(R72, R75, R88). -/
def headerOk (c : Conn) (x : Option Oxh) (pmh : List (Option (BitVec 64))) (opcode : Nat) (k : OpKind) (payload : Bool) : Bool :=
  opcodeAllowed c.version k opcode &&
  (match x with
    | none => c.version == 0 && pmh.all (·.isNone)
    | some x => c.version != 0 && x.version == c.version &&
        (if c.version == 3 && payload && (k == .write || k == .writeImm) then x.poison == (pmh.head?.join).isSome else !x.poison && pmh.all (·.isNone)))

/-- Kind code of the replay entry of an operation that executes once. -/
def onceKind : OpKind → Option Nat
  | .cas => some 3
  | .faa => some 4
  | .commit => some 5
  | _ => none

/-- Answer a duplicate (R83, R84). `again` executes a read once more. A write's duplicate is acknowledged up to ePSN − 1 once every request has reached its point, and while later ones
have not, up to the last that has: R81 lets no acknowledgement carry more (DEDUCED; log entry 'The PSN that a duplicate is acknowledged for'). -/
def duplicate (d : Dev) (k : Nat) (a : About) (op : OpKind) (again : Dev → Dev) : Dev :=
  let d := bump d .OMT_CNT (connCell k) 1
  let d := if op = .bulk then bump d .BLK_CNT 0 11 else d
  if d.reqs.any fun r => r.conn == k && r.psn == a.psn && !r.silent && !r.dup then d
  else
    let c := getConn d k
    match c.replay.find? fun e => e.psn == a.psn with
    | some e =>
      let d := bump d .OMT_CNT (connCell k) 3
      if e.status ≠ stOk then
        (if c.version ≤ 1 then putNak d k a (syndromeOf e.status)
         else bump (putStatusNak d k a (syndromeOf e.status) e.status 0) .OMT_CNT (connCell k) 10)
      else if e.kind = 3 ∨ e.kind = 4 then putAtomic d k a e.orig
      else putAck d k a
    | none =>
      if op = .read then again (bump d .OMT_CNT (connCell k) 2)
      else if (c.floor.any fun f => psnLe a.psn f) = true then connError (bump d .OMT_CNT (connCell k) 4) k
      else putAck d k { a with psn := c.ackPsn }

/-- An executed atomic or commit whose request is sent again at the expected PSN, behind one refused BUSY, is answered from its entry (DESIGN CHOICE: R84 speaks of entries for
duplicates only; log entry 'An executed request sent again at the expected PSN'). -/
def replayed (d : Dev) (k : Nat) (a : About) (op : OpKind) (pkts : Nat) : Option Dev :=
  match (getConn d k).replay.find? fun e => e.psn == a.psn && e.status == stOk && onceKind op == some e.kind with
  | none => none
  | some e =>
    let d := bump (modConn d k fun c => { advanceTo c (psnMod (a.psn + pkts)) with nakSent := false }) .OMT_CNT (connCell k) 3
    some (answered (if e.kind = 5 then putAck d k a else putAtomic d k a e.orig) k a.psn)

/-- The checks of Table OMT-8 on a request that arrives for a connection and names a chamber. When all of them pass at the expected PSN, `go` runs with the connection; ePSN is its
to advance. A carrier OXH is checked for its age and taken off before the QPN is looked up (R112). -/
def receive (d : Dev) (p : Pkt) (chm : Option Nat) (op : OpKind) (payload : Bool) (pkts : Nat → Nat) (again : Dev → Nat → Dev) (go : Dev → Nat → Dev) : Dev :=
  let d := countPcp d p 0
  let k := p.qpn.toNat % 2 ^ 18
  let gen := p.qpn.toNat / 2 ^ 18
  let oxh := ownOf d p.port p.oxh
  let a : About := ⟨p.psn.toNat, chm, oxh.any (·.persist)⟩
  if isDown d ∨ p.icrcOk = false ∨ p.udpPort ≠ 4791 then d
  else if portRole d p.port = 1 ∧ (p.oxh.any fun x => x.mirror) then bump d .OMT_CNT p.port 15
  else if p.oxh.any fun x => carrierOxh d p.port x && overAge d p.port x then bump d .CELL_KEYCHK_CNT (connCell k) 6
  else
    let c := getConn d k
    if gen = 0 ∨ c.gen ≠ gen ∨ ¬ (c.state = .connecting ∨ c.state = .ready ∨ c.state = .draining) then bump d .OMT_CNT (connCell k) 7
    else
      let d := if c.state = .connecting ∧ a.psn = c.epsn then enterReady d k else d
      let c := getConn d k
      let cls := psnClass a.psn c.epsn
      if !headerOk c oxh p.pmh p.opcode.toNat op payload then
        (if cls = .expected then fatalNak (bump d .OMT_CNT (connCell k) 15) k a synInvalid else d)
      else if oxh.any (overAge d p.port) then bump d .CELL_KEYCHK_CNT (connCell k) 6
      else
        match cls with
        | .duplicate => duplicate d k a op (fun d => again d k)
        | .outOfSeq =>
          if c.nakSent then d
          else bump (putNak (setConn d k { c with nakSent := true }) k { a with psn := c.epsn } synSeqErr) .OMT_CNT (connCell k) 0
        | .expected =>
          let d := setConn d k { c with nakSent := false }
          if c.state = .draining then bump (putNak d k a synInvalid) .OMT_CNT (connCell k) 9
          else if oxh.any fun x => !epochOk d x.epoch then sendEpoch d k a
          else
            match replayed d k a op (pkts k) with
            | some d => d
            | none => go d k

/-- The remaining time before the device serves again, in QUIET or DORMANT or on its way there; none in SERVICE (R87, R355, R356). -/
def busyWait (d : Dev) : Option Nat :=
  let left := match d.pwr.move with
    | some m => m.due - d.now
    | none => 0
  match d.pwr.state, d.pwr.move with
  | .service, none => none
  | .service, some m => if m.entry then some (left + 10000) else none
  | .quiet, none => some 10000
  | .quiet, some m => if m.entry then (if m.target = .dormant then some (left + 850000) else some (left + 10000)) else some left
  | .dormant, none => some 850000
  | .dormant, some m => if m.entry then some (left + 850000) else some left
  | _, _ => none

/-- Bytes of a message on the wire as its buffers hold them: the first packet and the payload of the others (R27). -/
def messageBytes (p : Pkt) (len mtu : Nat) : Nat := p.bytes + (len - min len mtu)

/-- A host's message that is handled at once takes a buffer for that time; without one it is answered BUSY with the wait of POOL_CFG (R30). -/
def hostBuf (d : Dev) (p : Pkt) (k : Nat) (a : About) (go : Dev → Dev) : Dev :=
  match takeBufs d (connCell k) p.bytes (connIdx k) false with
  | none => bump (sendBusyPool d k a) .POOL_CNT (connCell k) 0
  | some x => dropRef (go x.1) x.2

/-- A host's memory request at the expected PSN: its buffers (R26, R30), the answer of QUIET and DORMANT (R87), then checks 1 to 3 of Table CHM-6 and custody; a request
that fails is over with its status, and leaves in its turn. -/
def hostRequest (d : Dev) (p : Pkt) (k : Nat) (kind : ReqKind) (reth : Reth) (data : List Byte) (arg : Nat × Nat) (errs : List LineErr) (dup : Bool) : Dev :=
  let c := getConn d k
  let cell := connCell k
  let psn := p.psn.toNat
  let len := if kind = .write then data.length else if kind = .cas ∨ kind = .faa then 8 else reth.len.toNat
  let pkts := if kind = .write ∨ kind = .read then packetsOf len c.pmtu else 1
  let key := reth.key.toNat
  let e := ngetD d.chm.keys (key / 256) {}
  let persist := p.oxh.any (·.persist) || kind == .commit
  let a : About := ⟨psn, some e.chamber, persist⟩
  match busyWait d with
  | some w => sendBusy d k a w
  | none =>
    match takeBufs d cell (messageBytes p data.length c.pmtu) (connIdx k) false with
    | none => bump (sendBusyPool d k a) .POOL_CNT cell 0
    | some (d, buf) =>
      let d := if dup then d else modConn d k fun c => advanceTo c (psnMod (psn + pkts))
      let qpn := qpnOf c.gen k
      let off := e.base * 4096 + reth.va.toNat
      let r : Req :=
        { id := d.nextReq, conn := k, psn := psn, pkts := pkts, kind := kind, ackReq := p.ackReq, persist := persist,
          keyIdx := key / 256, va := reth.va.toNat, chamber := e.chamber, off := off, len := len, data := data,
          mark := msgMarks (chmAddr e.chamber off) data.length c.pmtu p.pmh, arg := arg, errs := errs, stage := .issued, parts := [], at_ := d.now, ts := fedTime d, buf := some buf, dup := dup }
      let d := addReq d r
      let refuse (d : Dev) (st : Nat) : Dev := setReq d { r with stage := .over st }
      let d := match keyClass d key with
        | some st => refuse (failCheck d cell false (if st = stKeyStale then 0 else 1) st key qpn) st
        | none =>
          let d := cacheKey d cell (key / 256)
          if !bindingOk e c.tenant (ordinal d) qpn then refuse (failCheck d cell false 3 stRights key qpn) stRights
          else
            match nget d.chm.chambers e.chamber with
            | none => refuse (failCheck d cell true 0 stUnavailable key qpn) stUnavailable
            | some ch =>
              if ch.state ≠ .active then refuse (failCheck d cell true 0 stUnavailable key qpn) stUnavailable
              else
                match custodyGate d e.chamber ch (kind == .read) with
                | .refuse st => refuse (failCheck d cell false 5 st key qpn) st
                | .wait => setReq d { r with stage := .waitCustody (d.now + stallMs d) }
                | .open_ => admitReq d r
      pump d

end Sys2Proof.Machine
end

