-- ==== Sys2Proof/Machine/Access.lean ====
section
/-!
DEFINITION. Management accesses: who may make them, when they are served, and the status they complete with (spec/18_management.md R384, R385, R389, Tables MGT-1 and
MGT-4; spec/19_register_reference.md HUB_ACCESS_STATUS).
-/
namespace Sys2Proof.Machine
open Sys2Proof

/-- Access status codes of Table MGT-4. -/
def acOk : Nat := 0
def acMismatch : Nat := 1
def acBusyBank : Nat := 2
def acDenied : Nat := 3
def acNoUnit : Nat := 4
def acBadAlias : Nat := 5

/-- Index of a path in HUB_ACCESS_STATUS: management port, in-band, I3C. -/
def pathIdx : Writer → Nat
  | .port _ => 0
  | .inBand _ => 1
  | .i3c => 2

/-- Key of a management-port connection, beyond those of the cells. -/
def portConnKey (c : Nat) : Nat := 2 ^ 18 + c

/-- The connection of a management client. -/
def writerConn : Writer → Option Nat
  | .port c => some (portConnKey c.val)
  | .inBand c => some c.val
  | .i3c => none

/-- The tenant of a management client, none for I3C (Table MGT-1, R385). -/
def writerTenant (d : Dev) : Writer → Option Nat
  | .port _ => some 0
  | .inBand c => some (getConn d c.val).tenant
  | .i3c => none

/-- Tenant 0 on the management port or in-band. -/
def operator (d : Dev) (w : Writer) : Bool := writerTenant d w == some 0

/-- Start step in which a device is; 15 once service has opened. -/
def startStep (d : Dev) : Nat := d.ldr.step

/-- The path is served in the device's state (R385, R392): the management port from the end of step 3, in-band in SERVICE, QUIET and DORMANT. -/
def served (d : Dev) : Writer → Bool
  | .port _ => (d.pwr.state == .starting && decide (4 ≤ startStep d)) || inService3 d
  | .inBand _ => inService3 d
  | .i3c => d.pwr.state != .off && d.pwr.state != .flushing && (d.pwr.state != .starting || startStep d != 2)

/-- Words that complete DENIED or MISMATCH are counted (HUB_MGT_CNT). -/
def countAccess (d : Dev) (status : Nat) : Dev :=
  if status = acDenied then bump d .HUB_MGT_CNT 0 5 else if status = acMismatch then bump d .HUB_MGT_CNT 0 6 else d

/-- The status of an access is held for its path (R389, R410, HUB_ACCESS_STATUS). -/
def accessDone (d : Dev) (w : Writer) (addr status : Nat) : Dev :=
  let d := countAccess d status
  let i := 2 * pathIdx w
  let old := reg d .HUB_ACCESS_STATUS 0 i
  if status = 0 then setReg d .HUB_ACCESS_STATUS 0 i (word (fld old 27 0))
  else
    let n := sat (fld old 15 0 + 1) 0xFFFF
    setReg (setReg d .HUB_ACCESS_STATUS 0 i (word (at_ status 28 + at_ status 24 + n))) .HUB_ACCESS_STATUS 0 (i + 1) (word addr)

/-- Management address of word i of a register, of cell c for a cell register (R401, R403). -/
def regAddr (r : RegId) (c i : Nat) : Nat :=
  match (regInfo r).hub with
  | some b => b * 0x10000 + (regInfo r).offset + 4 * i
  | none => 0x01000000 + c * 0x10000 + (regInfo r).offset + 4 * i

/-- A cell whose core rail is FAILED or whose course core domain is unlocked answers no access (Table MGT-4). -/
def cellGone (d : Dev) (c : Nat) : Bool := (getRail d (c / 16)).st == .failed || d.flt.unlocked.contains (c / 16)

/-- A write of a register by a client (R389): not served, no unit, denied, or completed OK with its effect. -/
def command (d : Dev) (w : Writer) (r : RegId) (c i : Nat) (allowed : Bool) (go : Dev → Dev) : Dev :=
  if !served d w then d
  else if (regInfo r).hub.isNone && cellGone d c then accessDone d w (regAddr r c i) acNoUnit
  else if w = .i3c ∨ allowed = false then accessDone d w (regAddr r c i) acDenied
  else go (accessDone d w (regAddr r c i) acOk)

end Sys2Proof.Machine
end

