-- ==== Sys2Proof/Machine/Engines.lean ====
section
/-!
DEFINITION. Engine queues and internal waits of a cell: cipher classes, preemption and key schedules (spec/02_cell_resources.md R30, R35, R36; spec/14_security.md
R312 to R315), the compression engine.
-/
namespace Sys2Proof.Machine
open Sys2Proof

/-- The slot number that stands for the internal media key, held in no slot (R316). -/
def mediaKey : Nat := 4096

/-- The class FIFO of the cipher queue (R35). -/
def ciphFifo (e : Engines) : Nat → List CiphWork
  | 0 => e.dec
  | 1 => e.enc
  | _ => e.mgt

def setFifo (e : Engines) (cls : Nat) (l : List CiphWork) : Engines :=
  match cls with
  | 0 => { e with dec := l }
  | 1 => { e with enc := l }
  | _ => { e with mgt := l }

/-- Pipes that serve the request queue: pipe 8, and pipes 0 to 7 while the port runs without MACsec (R313). -/
def queuePipes (d : Dev) (c : Nat) : List Nat := if macsecOn d c then [8] else 8 :: List.range 8

/-- The schedule of a slot is at hand (R312). -/
def keyReady (d : Dev) (c slot : Nat) : Bool := slot == mediaKey || (ngetD d.sec.keyCache c []).contains slot

/-- SAK slots of a port (R303). -/
def sakSlot (p i : Nat) : Nat := 3584 + 2 * p + i % 2

/-- A slot's schedule is used or installed: it moves to the front; a full cache of 32 loses the entry used longest ago that is no SAK of the port (R312). -/
def cacheUse (d : Dev) (c slot : Nat) : Dev :=
  let l := ngetD d.sec.keyCache c []
  let l := if l.contains slot then slot :: l.filter (· != slot)
    else if l.length < 32 then slot :: l
    else match l.reverse.find? fun s => s < 3584 with
      | some v => slot :: l.filter (· != v)
      | none => l
  { d with sec.keyCache := nset d.sec.keyCache c l }

/-- A key fault (R312): counted, C2 of the engine, which stops. -/
def keyFault (d : Dev) (c slot : Nat) : Dev :=
  raise (bump { d with sec.engineStopped := sinsert d.sec.engineStopped c } .CIPH_CNT c 6) { cls := 2, cause := 0x13, unit := uCiph c, addr := slot }

/-- The slot serves media data: a LIVE or RETIRING XTS pair, or the internal key (R312). -/
def dataSlotOk (d : Dev) (slot : Nat) : Bool :=
  slot == mediaKey || (match nget d.sec.slots slot with
    | some s => s.usage == 1 && s.state != .linked
    | none => false)

/-- A request names its slot: a miss is counted and fetched (R312). -/
def needKey (d : Dev) (c slot : Nat) : Dev :=
  if slot = mediaKey then d
  else if keyReady d c slot then cacheUse d c slot
  else
    let d := bump d .CIPH_CNT c 0
    { d with sec.fetching := nset d.sec.fetching c (slot :: (ngetD d.sec.fetching c []).filter (· != slot)) }

/-- The class whose head is granted next (R36, R312): the highest whose head has its schedule, or a lower one that has waited through STARVE_LIMIT grants to
higher classes. Of two lower classes that both have, class 1 comes first (DESIGN CHOICE: the manual does not say; log entry 'Two starved cipher classes'). -/
def nextClass (d : Dev) (c : Nat) : Option Nat :=
  let e := getEng d c
  let lim := zeroAs 1 (cfld d .CIPH_QUEUE_CFG c 3 0)
  let ready (i : Nat) : Bool := match ciphFifo e i with
    | w :: _ => keyReady d c w.slot
    | [] => false
  if ready 1 && decide (lim ≤ e.starve1) then some 1
  else if ready 2 && decide (lim ≤ e.starve2) then some 2
  else [0, 1, 2].find? ready

/-- A grant moves the head of a class to a pipe and counts against the waiting lower classes (R36). -/
def grantTo (d : Dev) (c cls pipe : Nat) : Dev :=
  let e := getEng d c
  match ciphFifo e cls with
  | [] => d
  | w :: rest =>
    let e := setFifo { e with pipes := nset e.pipes pipe ⟨cls, e.grants, w⟩, grants := e.grants + 1 } cls rest
    setEng d c { e with starve1 := if cls = 1 ∨ e.enc = [] then 0 else if cls = 0 then e.starve1 + 1 else e.starve1,
                        starve2 := if cls = 2 ∨ e.mgt = [] then 0 else e.starve2 + 1 }

/-- Free pipes take the next grants. -/
def grantFree (d : Dev) (c : Nat) : Dev :=
  if d.sec.engineStopped.contains c then d
  else forEach (queuePipes d c) d fun d p =>
    if nhas (getEng d c).pipes p then d
    else match nextClass d c with
      | some cls => grantTo d c cls p
      | none => d

/-- The requester behind a class of an engine (Table FLT-4): the promotion agent, the destage agent, the media controller. -/
def classRequester (cls : Nat) : Nat := if cls = 0 then 0x1001 else if cls = 1 then 0x1000 else 0x1002

/-- A request enters its cipher class, a FIFO of 16 entries, or is refused (R35, R36). One that names a slot that cannot serve completes with a key fault (R312). -/
def submitCipher (d : Dev) (c cls : Nat) (w : CiphWork) : Dev :=
  let e := getEng d c
  if !dataSlotOk d w.slot then dropBuf (keyFault d c w.slot) w.buf
  else if 16 ≤ (ciphFifo e cls).length then engineWait d c (classRequester cls) (.cipher cls w)
  else grantFree (needKey (setEng d c (setFifo e cls (ciphFifo e cls ++ [w]))) c w.slot) c

/-- COMPRESSION_DONE: a direction (false decompression) finishes its work and takes its next grant (R36). -/
def compressionDone (d : Dev) (c : Nat) (comp : Bool) : Dev :=
  let e := getEng d c
  grantComp (setEng d c (if comp then { e with compBusy := none } else { e with decBusy := none })) c

/-- The head of a class is marked as one whose preemption was declined (R314). -/
def declineHead (e : Engines) (cls : Nat) : Engines :=
  match ciphFifo e cls with
  | w :: t => setFifo e cls ({ w with declined := true } :: t)
  | [] => e

/-- The pipe of the queue that a higher class may preempt: it runs the lowest class, and among those the request granted last (R314). -/
def victim (d : Dev) (c : Nat) : Option Nat :=
  ((queuePipes d c).foldl (fun (b : Option (Nat × PipeRun)) p =>
    match nget (getEng d c).pipes p, b with
    | some r, some q => if q.2.cls < r.cls ∨ (q.2.cls = r.cls ∧ q.2.seq < r.seq) then some (p, r) else b
    | some r, none => some (p, r)
    | none, b => b) none).map (·.1)

/-- A higher class waits with its schedule at hand. -/
def preemptor (d : Dev) (c cls : Nat) : Option Nat :=
  ([0, 1, 2].filter (· < cls)).find? fun i => match ciphFifo (getEng d c) i with
    | w :: _ => keyReady d c w.slot && !w.declined
    | [] => false

/-- CIPHER_SEGMENT_END: a pipe ends a segment (R36, R313, R314). Work with segments left goes on, or is preempted by a higher class, which takes one of 8
context slots; work that is done frees its pipe, its context slot and its buffer. -/
def cipherSegmentEnd (d : Dev) (c pipe : Nat) : Dev :=
  let e := getEng d c
  match nget e.pipes pipe with
  | none => grantFree d c
  | some r =>
    let d := bump d .CIPH_CNT c 1
    let w := { r.work with segments := r.work.segments - 1 }
    if w.segments = 0 then
      grantFree (dropBuf (setEng d c { e with pipes := ndel e.pipes pipe, ctx := e.ctx.filter (· != w.id) }) w.buf) c
    else
      let keep := setEng d c { e with pipes := nset e.pipes pipe { r with work := w } }
      match preemptor d c r.cls with
      | none => keep
      | some h =>
        if victim d c ≠ some pipe then keep
        else if e.ctx.contains w.id || decide (e.ctx.length < 8) then
          let e := { e with pipes := ndel e.pipes pipe, ctx := if e.ctx.contains w.id then e.ctx else e.ctx ++ [w.id] }
          grantTo (bump (setEng d c (setFifo e r.cls (w :: ciphFifo e r.cls))) .CIPH_CNT c 2) c h pipe
        else bump (setEng d c (declineHead { e with pipes := nset e.pipes pipe { r with work := w } } h)) .CIPH_CNT c 3

/-- KEY_SCHEDULE_FETCH_DONE: a fetched schedule is installed and waiting heads may be granted (R312). -/
def keyScheduleFetchDone (d : Dev) (c slot : Nat) : Dev :=
  let f := ngetD d.sec.fetching c []
  if f.contains slot then
    grantFree (cacheUse (bump { d with sec.fetching := nset d.sec.fetching c (f.filter (· != slot)) } .KEY_CNT 0 6) c slot) c
  else d

/-- CELL_GENERATOR_RESEED: every 1 ms the hub's DRBG reseeds each cell's share generator, unless the DRBG has stopped (R306, R315). -/
def cellGeneratorReseed (d : Dev) : Dev :=
  if d.sec.stopped || !due d d.sec.nextSeed then d
  else { d with sec.nextSeed := d.now + ms 1, sec.seeds := allCells.foldl (fun m c => nset m c d.now) d.sec.seeds }

/-- When a cell's generator was last seeded: by the hub, or at the beginning of the start. -/
def seededOf (d : Dev) (c : Nat) : Nat := max (ngetD d.sec.seeds c 0) d.ldr.trigger

/-- GENERATOR_STALE_EXPIRY: a cell whose generator has not been reseeded for 100 ms stops its engine; its port and pages are handled as those of a fenced
cell (R15, R315). -/
def generatorStaleExpiry (d : Dev) (c : Nat) : Dev :=
  if due d (seededOf d c + ms 100) && !d.sec.engineStopped.contains c then
    raise (fenceCell { d with sec.engineStopped := sinsert d.sec.engineStopped c } c 0x13) { cls := 2, cause := 0x13, unit := uCiph c, addr := 0 }
  else d

/-! ### Internal waits (R30, R36) -/

/-- A requester waits for a buffer, not for an engine. -/
def waitsBuffer (w : BufWait) : Bool := match w.use with
  | .cipher _ _ => false
  | .comp _ _ => false
  | .raise _ => false
  | _ => true

/-- BUFFER_WAIT_NOTICE: a requester that has waited over 1 ms raises one C0 Notice for the episode (R30). -/
def bufferWaitNotice (d : Dev) (c requester : Nat) : Dev :=
  match d.res.waits.find? fun w => w.cell == c && w.requester == requester && !w.noticed && decide (w.since + ms 1 < d.now) && waitsBuffer w with
  | some w =>
    let d := { d with res.waits := d.res.waits.map fun x => if x = w then { x with noticed := true } else x }
    raise d { cls := 0, cause := 0x08, unit := uCell c, requester := requester, reqCell := c, addr := firstPool w.size }
  | none => d

end Sys2Proof.Machine
end

