-- ==== Sys2Proof/Machine/Keys.lean ====
section
/-!
DEFINITION. The key store and its commands, the DRBG, rotation, MKA, the owner fuses and the tamper detectors (spec/14_security.md R303 to R311, R316 to R325).
-/
namespace Sys2Proof.Machine
open Sys2Proof

def getSlot (d : Dev) (k : Nat) : Option KeySlot := nget d.sec.slots k

/-- The odd slot k + 1 of a filled XTS pair (R304, R311). -/
def oddOfPair (d : Dev) (k : Nat) : Bool := k % 2 == 1 && (match getSlot d (k - 1) with
  | some s => s.usage == 1
  | none => false)

/-- A slot is occupied, by itself or as the second half of a pair. -/
def slotTaken (d : Dev) (k : Nat) : Bool := (getSlot d k).isSome || oddOfPair d k

/-- A LIVE CONTROL slot of tenant 0 and its material (R386). -/
def controlMat (d : Dev) (k : Nat) : Option Nat :=
  match getSlot d k with
  | some s => if s.state = .live ∧ s.usage = 4 ∧ s.tenant = 0 ∧ d.sec.cleared = false then some s.mat else none
  | none => none

/-- Slot of the CONTROL key of federation messages (FAB_CTRL_KEY). -/
def ctrlSlot (d : Dev) : Nat := hfld d .FAB_CTRL_KEY 11 0

/-- The material under which the device computes its tags (R317). -/
def ctrlMat (d : Dev) : Option Nat := (getSlot d (ctrlSlot d)).bind fun s => if s.usage = 4 ∧ d.sec.cleared = false then some s.mat else none

/-- The TAG under the CONTROL key of a message (R122, R240, R268), 0 without a key; and a message with its TAG. -/
def ctrlTag (d : Dev) (m : List Byte) : BitVec 128 := ((ctrlMat d).map fun k => Config.cmac k m).getD 0
def tagged (d : Dev) (m : List Byte) : List Nat := payload (m ++ beBytes 16 (ctrlTag d m).toNat)

/-- The TAG of a message verifies: under the current CONTROL key, or within the grace of a rotation under the one before it (R317). -/
def tagOk (d : Dev) (m : List Byte) (tag : BitVec 128) : Bool :=
  (ctrlMat d).any (fun k => Config.cmac k m == tag) || (match d.sec.ctrlOld with
    | some (k, t) => decide (fedTime d < t) && (getSlot d k).any fun s => Config.cmac s.mat m == tag
    | none => false)

/-- An XTS slot that a chamber of an owner may name (R310): an even LIVE slot of usage XTS whose tenant is 0 or the owner. -/
def xtsSlotOk (d : Dev) (k owner : Nat) : Bool :=
  k % 2 == 0 && d.sec.destroying != some k && (match getSlot d k with
    | some s => s.state == .live && s.usage == 1 && (s.tenant == 0 || s.tenant == owner)
    | none => false)

/-- The current end of a chain of links, at most 8 long (R317, R318). -/
def chainEnd (d : Dev) : Nat → Nat → Nat
  | 0, k => k
  | n + 1, k => match (getSlot d k).bind (·.link) with
    | some j => chainEnd d n j
    | none => k

/-- The longest chain of links that ends at a slot (R317). -/
def chainInto (d : Dev) : Nat → Nat → Nat
  | 0, _ => 0
  | n + 1, k => (d.sec.slots.filter fun p => p.2.link == some k).foldl (fun m p => max m (1 + chainInto d n p.1)) 0

/-- A chamber names a slot. -/
def chamberNames (d : Dev) (k : Nat) : Bool := d.chm.chambers.any fun p => p.2.xts == k

/-- A general slot has a reference (R310); `posted` is a POSTED KEY_ROTATION entry that names it. -/
def slotReferenced (d : Dev) (k : Nat) (posted : Bool) : Bool :=
  chamberNames d k || (allCells.any fun p => cfld d .PORT_MACSEC_CFG p 11 0 == k) || ctrlSlot d == k ||
    (d.sec.slots.any fun p => p.2.link == some k) || posted

/-- Sectors written under a slot remain (R318): in T2, on their way there, or retained by a snapshot. -/
def slotSectors (d : Dev) (k : Nat) : Bool :=
  (d.tier.map.any fun p => match p.2 with
    | .stored _ _ s _ => s == k
    | _ => false) ||
  (d.snap.snaps.any fun s => s.2.pages.any fun p => p.2.held.isSome && p.2.key == k) ||
  (d.med.any fun m => m.2.streams.any fun v => (v.2.rows.flatten ++ v.2.filling).any fun e => e.slot == k && (match e.kind with
    | .destage _ | .relocate _ | .snap _ _ => true
    | _ => false))

/-- A request of a cell engine holds a slot (R312): it is queued, runs, or waits for room in its class. -/
def slotHeld (d : Dev) (k : Nat) : Bool :=
  (d.res.eng.any fun p => (p.2.dec ++ p.2.enc ++ p.2.mgt ++ p.2.pipes.map (·.2.work)).any fun w => w.slot == k) ||
    (d.res.waits.any fun w => match w.use with
      | .cipher _ x => x.slot == k
      | _ => false)

/-- Every engine cache drops a slot (R305, R312). -/
def purgeSlot (d : Dev) (k : Nat) : Dev :=
  { d with sec.keyCache := d.sec.keyCache.map fun p => (p.1, p.2.filter (· != k)), sec.fetching := d.sec.fetching.map fun p => (p.1, p.2.filter (· != k)) }

/-- A RETIRING slot is at its end: a CONTROL slot is held until the grace of its rotation has ended (R317). -/
def graceHolds (d : Dev) (k : Nat) : Bool := match d.sec.ctrlOld with
  | some (j, _) => j == k
  | none => false

/-- Check value of key material (R304). -/
def checkOf (mat : Nat) : Nat := Config.checkValue (mat % 2 ^ 256) % 2 ^ 24

/-- A slot settles (Table SEC-2): RETIRING or LINKED, it becomes EMPTY once no chamber names it; RETIRING, it becomes LINKED once no sector under it and no request that holds it remains. -/
def settleSlot (d : Dev) (k : Nat) (s : KeySlot) : Dev :=
  if s.state = .live ∨ graceHolds d k = true then d
  else if chamberNames d k = false then purgeSlot { d with sec.slots := ndel d.sec.slots k } k
  else if s.state = .retiring ∧ slotSectors d k = false ∧ slotHeld d k = false then
    purgeSlot { d with sec.slots := nset d.sec.slots k { s with state := .linked, check := checkOf s.mat, mat := 0 } } k
  else d

/-- RETIRING and LINKED slots settle. -/
def settleKeys (d : Dev) : Dev := forEach (d.sec.slots.filter fun p => p.2.state != .live) d fun d p => settleSlot d p.1 p.2

/-! ### The DRBG (R306) -/

/-- The DRBG reseeds. -/
def reseed (d : Dev) : Dev := bump { d with sec.requests := 0, sec.seededAt := d.now } .KEY_CNT 0 4

/-- One request to the DRBG, which reseeds before every 2^20 requests. -/
def drbgDraw (d : Dev) : Dev × Nat :=
  let d := if 2 ^ 20 ≤ d.sec.requests then reseed d else d
  ({ d with sec.draws := d.sec.draws + 1, sec.requests := d.sec.requests + 1 }, Config.drbg d.sec.draws % 2 ^ 256)

/-- Key 2 of a pair, drawn again while it equals key 1; a ninth equal draw stands. -/
def drawOther (d : Dev) (k1 : Nat) : Nat → Dev × Nat
  | 0 => drbgDraw d
  | n + 1 => let (d, k) := drbgDraw d; if k = k1 then drawOther d k1 n else (d, k)

/-- DRBG_RESEED: at its request count or after 1 s (R306). -/
def drbgReseed (d : Dev) : Dev :=
  if d.sec.stopped then d else if due d (d.sec.seededAt + sec 1) || decide (2 ^ 20 ≤ d.sec.requests) then reseed d else d

/-- ENTROPY_HEALTH_FAILURE: the DRBG stops and C3 names the crypto root (R306). -/
def entropyHealthFailure (d : Dev) : Dev :=
  raise (bump { d with sec.stopped := true } .KEY_CNT 0 5) { cls := 3, cause := 0x14, unit := uHub 8 }

/-! ### Key commands (R311, Table SEC-3) -/

/-- Results of KEY_STATUS. -/
inductive KeyResult where
  | ok | busy | badArg | notEmpty | inUse | unwrapFail | entropy | notFound | refused | fuseFail
deriving DecidableEq, Repr

def karg (d : Dev) (i : Nat) : Word := reg d .KEY_ARG 0 i
def kslot (d : Dev) : Nat := fld (karg d 0) 11 0

/-- A command completes: LAST_OP and RESULT, and on OK its return words. -/
def keyDone (d : Dev) (op : Nat) (r : KeyResult) (rets : List (Nat × Nat)) : Dev :=
  let d := { d with sec.lastOp := op, sec.result := r.ctorIdx }
  if r = .ok then forEach rets d fun d p => setReg d .KEY_RET 0 p.1 (word p.2) else d

/-- A key command of a client: denied to I3C and to tenants other than 0, and ignored while another runs, which sets OVERRUN (R311). -/
def keyCommand (d : Dev) (w : Writer) (go : Dev → Dev) : Dev :=
  command d w .KEY_CMD 0 0 (operator d w) fun d => if d.sec.destroying.isSome then { d with sec.overrun := true } else go d

/-- A target slot that GENERATE, IMPORT or AGREE may not name (R311). -/
def badTarget (d : Dev) (k usage : Nat) : Bool :=
  decide (3584 ≤ k) || !([1, 2, 4, 5].contains usage) || (usage == 1 && k % 2 == 1) || oddOfPair d k

/-- The target is not EMPTY, or either half of the pair is not. -/
def targetFull (d : Dev) (k usage : Nat) : Bool := slotTaken d k || (usage == 1 && slotTaken d (k + 1))

def fillSlot (d : Dev) (k usage origin tenant mat : Nat) : Dev :=
  { d with sec.slots := nset d.sec.slots k { usage := usage, origin := origin, tenant := tenant, mat := mat } }

/-- KEY_GENERATE (R306, R311). -/
def keyGenerate (d : Dev) (w : Writer) : Dev := keyCommand d w fun d =>
  let usage := fld (karg d 0) 27 24
  let k := kslot d
  if badTarget d k usage then keyDone d 1 .badArg []
  else if targetFull d k usage then keyDone d 1 .notEmpty []
  else if d.sec.stopped then keyDone d 1 .entropy []
  else
    let (d, k1) := drbgDraw d
    let (d, k2) := if usage = 1 then drawOther d k1 8 else (d, 0)
    let d := bump (fillSlot d k usage 0 (fld (karg d 0) 23 12) (k1 + 2 ^ 256 * k2)) .KEY_CNT 0 0
    keyDone d 1 .ok [(1, checkOf k1)]

/-- A KEK slot of tenant 0 (R307). -/
def kekMat (d : Dev) (k : Nat) : Option Nat :=
  match getSlot d k with
  | some s => if s.state = .live ∧ s.usage = 5 ∧ s.tenant = 0 then some s.mat else none
  | none => none

/-- An import of wrapped words, whose length fits the usage or does not, into a slot (R307): its result and the material. -/
def importInto (d : Dev) (k usage : Nat) (fits : Bool) (tenant kek : Nat) (words : List Nat) : Dev × KeyResult × Nat :=
  if badTarget d k usage then (d, .badArg, 0)
  else
    match kekMat d kek with
    | none => (d, .badArg, 0)
    | some km =>
      if targetFull d k usage then (d, .notEmpty, 0)
      else
        let n := if usage = 1 then 18 else 10
        match Config.unwrap km (words.take n) with
        | none => (bump d .KEY_CNT 0 2, .unwrapFail, 0)
        | some m =>
          if fits = false ∨ (words.drop n).any (· != 0) ∨ (usage = 1 ∧ m % 2 ^ 256 = m / 2 ^ 256 % 2 ^ 256) then (bump d .KEY_CNT 0 2, .unwrapFail, 0)
          else (bump (fillSlot d k usage 1 tenant m) .KEY_CNT 0 1, .ok, m)

/-- KEY_IMPORT (R307, R311). -/
def keyImport (d : Dev) (w : Writer) : Dev := keyCommand d w fun d =>
  let (d', r, m) := importInto d (kslot d) (fld (karg d 0) 27 24) true (fld (karg d 0) 23 12) (fld (karg d 1) 11 0)
    ((List.range 18).map fun i => (karg d (2 + i)).toNat)
  keyDone d' 2 r [(1, checkOf m)]

/-- A DESTROY ends: engine caches are purged and the Vault copy is erased (R305, R312). -/
def destroyEnd (d : Dev) (k : Nat) : Dev :=
  keyDone (bump (purgeSlot { d with sec.slots := ndel d.sec.slots k, sec.destroying := none } k) .KEY_CNT 0 3) 3 .ok []

/-- KEY_DESTROY (R305, R310, R311). `posted` says whether a POSTED KEY_ROTATION entry names the slot. While a request holds the slot the command stays BUSY (R312). -/
def keyDestroyWith (d : Dev) (w : Writer) (posted : Nat → Bool) : Dev := keyCommand d w fun d =>
  let k := kslot d
  if 3584 ≤ k ∨ oddOfPair d k then keyDone d 3 .badArg []
  else
    match getSlot d k with
    | none => keyDone d 3 .notFound []
    | some s =>
      if s.state ≠ .live ∨ slotReferenced d k (posted k) then keyDone d 3 .inUse []
      else if slotHeld d k then keyDone { d with sec.destroying := some k } 3 .busy []
      else destroyEnd d k

/-- What a slot that no request holds any more waits for: the end of its DESTROY, or LINKED and EMPTY (R312). -/
def keyTurn (d : Dev) : Dev :=
  let d := match d.sec.destroying with
    | some k => if slotHeld d k then d else destroyEnd d k
    | none => d
  if d.sec.slots.any fun p => p.2.state != .live then settleKeys d else d

/-- KEY_SLOT_QUERY (R311): state, usage, origin, tenant, check value and link. -/
def keySlotQuery (d : Dev) (w : Writer) : Dev := keyCommand d w fun d =>
  let k := kslot d
  if 3584 ≤ k ∨ oddOfPair d k then keyDone d 4 .badArg []
  else
    match getSlot d k with
    | none => keyDone d 4 .ok [(0, 0), (1, 0), (2, 0)]
    | some s =>
      keyDone d 4 .ok [(0, at_ (s.state.ctorIdx + 1) 29 + at_ s.usage 25 + at_ s.origin 23 + s.tenant), (1, if s.state = .linked then s.check else checkOf s.mat),
        (2, match s.link with
          | some l => 2 ^ 31 + l
          | none => 0)]

/-- An agreement into a slot (R308): a KEK of tenant 0. -/
def agreeInto (d : Dev) (k : Nat) (pub : List Nat) : Dev × KeyResult × Nat :=
  if badTarget d k 5 then (d, .badArg, 0)
  else
    match Config.agree (pub ++ [ordinal d, k]) with
    | none => (d, .badArg, 0)
    | some m =>
      if targetFull d k 5 then (d, .notEmpty, 0) else (bump (fillSlot d k 5 2 0 (m % 2 ^ 256)) .KEY_CNT 0 1, .ok, m % 2 ^ 256)

/-- KEY_AGREE (R308, R311). -/
def keyAgree (d : Dev) (w : Writer) : Dev := keyCommand d w fun d =>
  let (d', r, m) := agreeInto d (kslot d) ((List.range 24).map fun i => (reg d .KEY_PUB_ARG 0 i).toNat)
  keyDone d' 5 r [(1, checkOf m)]

/-- A blown fuse fails its read-back: FUSE_FAIL and C2 (R323). -/
def fuseFail (d : Dev) (op i : Nat) : Dev := raise (keyDone d op .fuseFail []) { cls := 2, cause := 0x1E, unit := uHub 8, addr := i }

/-- OWNER_ADD (R323). `readBack` says whether the fuses pass their read-back; whether an index whose fuse fails counts as programmed is a free value. -/
def ownerAdd (d : Dev) (w : Writer) (readBack : Bool) : Dev := keyCommand d w fun d =>
  let i := fld (karg d 0) 1 0
  let h := (List.range 12).map fun j => (reg d .KEY_PUB_ARG 0 j).toNat
  if nhas d.sec.owners i then keyDone d 6 .refused []
  else
    let d' := { d with sec.owners := nset d.sec.owners i h }
    if readBack then keyDone d' 6 .ok [] else fuseFail (freeStep (if freeVal d % 2 = 1 then d' else d)) 6 i

/-- OWNER_REVOKE (R323). -/
def ownerRevoke (d : Dev) (w : Writer) (readBack : Bool) : Dev := keyCommand d w fun d =>
  let i := fld (karg d 0) 1 0
  let left := d.sec.owners.any fun p => p.1 != i && !d.sec.revoked.contains p.1
  if i = d.sec.active ∨ left = false then keyDone d 7 .refused []
  else
    let d' := { d with sec.revoked := sinsert d.sec.revoked i }
    if readBack then keyDone d' 7 .ok [] else fuseFail (freeStep (if freeVal d % 2 = 1 then d' else d)) 7 i

/-- KEY_CMD_RESERVED: OPCODE 0x0 or 0x8 to 0xF (R311). -/
def keyCmdReserved (d : Dev) (w : Writer) (op : Nat) : Dev := keyCommand d w fun d => keyDone d op .badArg []

/-! ### Rotation (R317, R318) -/

/-- A KEY_ROTATION entry may be accepted (R317). -/
def rotationOk (d : Dev) (old new : Nat) : Bool :=
  match getSlot d old, getSlot d new with
  | some a, some b => a.state == .live && b.state == .live && d.sec.destroying != some old && d.sec.destroying != some new && (a.usage == 1 || a.usage == 4) && a.usage == b.usage && a.tenant == b.tenant &&
      decide (chainInto d 9 old ≤ 7)
  | _, _ => false

/-- A rotation takes effect at T on a slot that is still LIVE (R317, Table SEC-2): for CONTROL, FAB_CTRL_KEY takes the new slot in shadow and committed value and the old key is accepted until the
end of the grace. -/
def rotate (d : Dev) (old new graceEnd : Nat) : Dev :=
  match (getSlot d old).filter fun s => s.state == .live with
  | none => d
  | some s =>
    let d := { d with sec.slots := nset d.sec.slots old { s with state := .retiring, link := some new } }
    let d := if s.usage = 4 then
        let k := regKey .FAB_CTRL_KEY 0 0
        { d with regs := nset d.regs k (word new), shadow := ndel d.shadow k, sec.ctrlOld := some (old, graceEnd) } else d
    settleKeys d

/-- ROTATION_GRACE_END: tags under the old key stop being accepted (R317). -/
def rotationGraceEnd (d : Dev) : Dev :=
  match d.sec.ctrlOld with
  | some (_, t) => if t ≤ fedTime d then settleKeys { d with sec.ctrlOld := none } else d
  | none => d

/-! ### MKA (R320) -/

/-- The CAK of a port: a LIVE general slot of usage CAK, while MACSEC_EN is set. -/
def cakOf (d : Dev) (p : Nat) : Option Nat :=
  if macsecOn d p ∧ cfld d .PORT_MACSEC_CFG p 11 0 < 3584 then
    (getSlot d (cfld d .PORT_MACSEC_CFG p 11 0)).bind fun s => if s.state = .live ∧ s.usage = 2 then some s.mat else none
  else none

/-- The SCI of a port: its MAC address and port identifier 1 (IEEE 802.1AE). -/
def sciOf (d : Dev) (p : Nat) : Nat := macAddr d p * 2 ^ 16 + 1

/-- The CKN of a port as one number, byte 0 most significant. -/
def cknOf (d : Dev) (p : Nat) : Nat := (List.range 4).foldl (fun n i => n * 2 ^ 32 + (reg d .PORT_MACSEC_CKN p i).toNat) 0

/-- The engine of a cell drops a schedule (R312). -/
def dropSchedule (d : Dev) (c slot : Nat) : Dev := { d with sec.keyCache := nset d.sec.keyCache c ((ngetD d.sec.keyCache c []).filter (· != slot)) }

/-- A new SAK is installed in the port's free SAK slot, and its schedule goes to the port's engine (R312); the old one is kept until the partner transmits under the new one
(R320). -/
def installSak (d : Dev) (p mat : Nat) : Dev :=
  let m := getMka d p
  let d := { d with sec.slots := nset d.sec.slots (sakSlot p (m.saks + 1)) { usage := 3, origin := 0, tenant := 0, mat := mat } }
  let d := cacheUse (bump d .KEY_CNT 0 6) p (sakSlot p (m.saks + 1))
  bump (setMka d p { m with live := true, sakAt := d.now, saks := m.saks + 1, oldKept := m.live, rxNext := 1, rxOld := m.rxNext }) .KEY_CNT 0 7

/-- The device distributes a fresh SAK as key server, unless the DRBG has stopped (R306, R320): opcode 0x888E is the EtherType of EAPOL. -/
def serveSak (d : Dev) (p : Nat) : Dev :=
  if d.sec.stopped then d
  else
    let (d, k) := drbgDraw d
    sendCtrl (installSak d p k) 0x888E p [1, k]

/-- MKPDU: a verified MKPDU of the port's CAK and CKN keeps the session alive, elects the key server, installs a distributed SAK or, at the key server, starts
with a fresh one, and empties the old SAK once the partner transmits under the new one (R320). -/
def mkpdu (d : Dev) (m : Mkpdu) : Dev :=
  let p := m.port.val
  match cakOf d p with
  | none => d
  | some c =>
    if c ≠ m.cak ∨ cknOf d p ≠ m.ckn.toNat then d
    else
      let mine := cfld d .PORT_MACSEC_CFG p 23 16
      let server := decide (mine < m.prio.toNat) || (mine == m.prio.toNat && decide (sciOf d p < m.sci.toNat))
      let s := { getMka d p with heard := some d.now, keyServer := server }
      let d := setMka d p s
      let d := if server then (if s.live then d else serveSak d p)
        else match m.sak with
          | some k => installSak d p k
          | none => d
      let s := getMka d p
      if m.txNew ∧ s.oldKept then
        setMka (dropSchedule { d with sec.slots := ndel d.sec.slots (sakSlot p (s.saks + 1)) } p (sakSlot p (s.saks + 1))) p { s with oldKept := false }
      else d

/-- A session ends: the SAK slots are emptied and the port carries no data frame (R320). -/
def endMka (d : Dev) (p : Nat) : Dev :=
  let d := dropSchedule (dropSchedule { d with sec.slots := ndel (ndel d.sec.slots (sakSlot p 0)) (sakSlot p 1) } p (sakSlot p 0)) p (sakSlot p 1)
  setMka d p { getMka d p with live := false, oldKept := false, heard := none }

/-- MKA_HELLO_TIMER: a hello every 2 s, and the end of a session whose partner has not been heard for 6 s (R320). -/
def mkaHelloTimer (d : Dev) (p : Nat) : Dev :=
  if (cakOf d p).isNone || !due d (getMka d p).nextHello then d
  else
    let d := sendCtrl (setMka d p { getMka d p with nextHello := d.now + sec 2 }) 0x888E p [0]
    let s := getMka d p
    if s.live && (match s.heard with
      | some t => decide (t + sec 6 < d.now)
      | none => true) then endMka d p else d

/-- SAK_RENEWAL: every REKEY_S seconds, or at the packet-number limit, the key server distributes a new SAK (R320). -/
def sakRenewal (d : Dev) (p pn : Nat) : Dev :=
  let s := getMka d p
  if s.live && s.keyServer && (decide (0xC000000000000000 ≤ pn) || due d (s.sakAt + sec (cfld d .PORT_MACSEC_STATUS p 15 0))) then serveSak d p else d

/-- The lowest packet number that the replay window of 2^n - 1 frames still admits, where the next one expected is `next` (R319, IEEE 802.1AE). -/
def replayLow (d : Dev) (p next : Nat) : Nat := next - (2 ^ cfld d .PORT_MACSEC_CFG p 15 12 - 1)

/-- What MACsec lets through on a port (R319, R320): a discarded frame is counted. A frame under an SAK that the port does not hold counts as one whose ICV fails (DEDUCED; log entry
'MACsec receive'). -/
def macGate (d : Dev) (p : Nat) (t : SecTag) : Dev × Bool :=
  if macsecOn d p then
    let s := getMka d p
    match t with
    | .plain => (bump d .CIPH_CNT p 7, false)
    | .badIcv => (bump d .CIPH_CNT p 5, false)
    | .protect old pn =>
      if macCarries d p = false then (d, false)
      else if old = true ∧ s.oldKept = false then (bump d .CIPH_CNT p 5, false)
      else if pn.toNat < replayLow d p (if old then s.rxOld else s.rxNext) ∨ pn = 0 then (bump d .CIPH_CNT p 4, false)
      else if old then (setMka d p { s with rxOld := max s.rxOld (pn.toNat + 1) }, true)
      else (setMka d p { s with rxNext := max s.rxNext (pn.toNat + 1) }, true)
  else (d, t == .plain)

/-! ### Tamper (R324, R325) -/

/-- A detector trips: C4 with cause 0x15, recorded with KEY_TAMPER_STATUS; the flush it starts clears the keys in SRAM when it reaches HALTED (R324). -/
def tamperTrip (d : Dev) (last : Nat) : Dev :=
  if d.pwr.state = .off then d
  else raise { d with sec.tamper := last, sec.clearAtHalt := true } { cls := 4, cause := 0x15, unit := uHub 8, addr := last }

/-- TAMPER_VOLTAGE (R324). -/
def tamperVoltage (d : Dev) : Dev := tamperTrip d 1

/-- TAMPER_CLOCK (R324). -/
def tamperClock (d : Dev) : Dev := tamperTrip d 2

/-- TAMPER_LID (R324, R325): with LID_ERASE, key store, caches and contexts are cleared without a flush, the Vault copies erased and the media epoch
advanced, and the device halts. The detector acts only while rail[31] is up (R424). -/
def tamperLid (d : Dev) : Dev :=
  if d.pwr.state = .off ∨ (getRail d 31).st ≠ .up then d
  else if fbit (hreg d .KEY_TAMPER_CFG) 31 then
    let d := { d with sec.slots := [], sec.keyCache := [], sec.fetching := [], sec.mka := [], sec.mediaEpoch := d.sec.mediaEpoch + 1,
                      sec.mediaErased := true, sec.tamper := 4, res.eng := d.res.eng.map fun p => (p.1, { p.2 with ctx := [] }) }
    let d := raise d { cls := 4, cause := 0x15, unit := uHub 8, addr := 4 } .noFlush
    { d with pwr.state := .halted, reqs := [] }
  else tamperTrip d 3

end Sys2Proof.Machine
end

