-- ==== Sys2Proof/Machine/Chambers.lean ====
section
/-!
DEFINITION. Chamber and key commands, chamber states, and what twins tell each other of them (spec/03_chambers.md R37 to R55, R62, R63, R426).
-/
namespace Sys2Proof.Machine
open Sys2Proof

/-! ### Capacity (R42, R176) -/

/-- Dies in service of a channel. -/
def diesOf (m : Media) : Nat := ((List.range 16).filter fun i => (m.diesIn >>> i) % 2 == 1).length

/-- Good blocks of the dies in service: 8,192 a die less those retired (R176). -/
def goodBlocks (m : Media) : Nat :=
  ((List.range 16).filter fun i => (m.diesIn >>> i) % 2 == 1).foldl (fun n i => n + (8192 - min 8192 (ngetD m.retired i 0))) 0

/-- Usable physical capacity of a cell in bytes (R176); an OFFLINE channel contributes 0. -/
def usableBytes (m : Media) : Nat :=
  let n := diesOf m
  if m.st = .offline ∨ n = 0 then 0 else 93 * (n - 1) * 2 ^ 27 * goodBlocks m / (100 * n)

/-- Usable physical capacity of the device. -/
def usablePhysical (d : Dev) : Nat := allCells.foldl (fun s c => s + usableBytes (getMed d c)) 0

/-- The export limit in bytes (R42). -/
def exportLimit (d : Dev) : Nat := clampTo 16 64 (hfld d .TIER_THIN_CFG 6 0) * usablePhysical d / 16

/-- Allocated logical space in pages (R42). -/
def allocatedPages (d : Dev) : Nat := d.chm.chambers.foldl (fun s p => s + p.2.pages) 0

/-- Region bits that a Mirrored chamber of n pages takes in every slice (R246). -/
def regionBits (pages : Nat) : Nat := ceilDiv pages 16384

/-- Region bits allocated to Mirrored chambers other than `n`. -/
def bitsUsed (d : Dev) (n : Nat) : Nat :=
  d.chm.chambers.foldl (fun s p => if p.2.cls = .mirrored ∧ p.1 ≠ n then s + regionBits p.2.pages else s) 0

/-- A chamber of a class may have a size (R42, R246): `old` pages are already allocated to chamber `n`. -/
def spaceOk (d : Dev) (n old pages : Nat) (cls : ChmClass) : Bool :=
  decide (pages ≤ old) ||
  (decide ((allocatedPages d - old + pages) * 16384 ≤ exportLimit d) && (cls != .mirrored || decide (bitsUsed d n + regionBits pages ≤ 14680064)))

/-! ### Chambers and their pages -/

/-- The device's half of the numbers and indexes (R38, R47). -/
def half (d : Dev) : Nat := d.ldr.ident.ordinal % 2

/-- The lowest chamber number that CREATE may take: FREE, in the device's half, and not one whose release the twin has not acknowledged (R38, R63, R426). -/
def freeChamber (d : Dev) : Option Nat :=
  let used := d.chm.releases.foldl (fun m p => nset m p.1 0) ((d.chm.chambers.map fun p => (p.1, 0)) : NMap Nat)
  if standalone d then nfreeFrom used 0 65536 else nfreeFrom used (half d * 32768) 32768

/-- The pages of a chamber of which the device holds anything, from a page on. -/
def heldPages (d : Dev) (n fromPage : Nat) : List Nat :=
  let mine (k : Nat) : Bool := keyChamber k == n && decide (fromPage ≤ keyPage k)
  let ks : List Nat := (d.tier.frames.map fun p => p.1) ++ (d.tier.map.map fun p => p.1) ++ (d.tier.charge.map fun p => p.1) ++
    (d.mem.map fun p => p.1 / 16384) ++ (d.poison.map fun l => l / 128)
  (ks.filter mine).eraseDups

/-- A slot of a plan has been consumed or passed (R168). -/
def slotDone (p : Plan) (s : Nat) : Bool := p.state == .done || decide (s < p.cursor) || p.consumed.contains s

/-- The first slot of entry i of a plan that is neither consumed nor passed, as its page (R172). -/
def firstLeft (p : Plan) (i : Nat) (e : PlanEnt) : Option Nat :=
  let lo := (p.entries.take i).foldl (fun n e => n + entrySlots e) 0
  ((List.range (entrySlots e)).find? fun j => !slotDone p (lo + j)).map fun j => e.off / 16384 + j

/-- A chamber leaves ACTIVE: pins on its pages are dropped, and its entries that are not DONE turn FAILED with cause 6 (R172); an entry keeps its first cause. -/
def planChamberGone (d : Dev) (c : Nat) : Dev :=
  let mark (p : Plan) (i : Nat) (e : PlanEnt) : PlanEnt :=
    if e.chamber = c ∧ e.failed = none then (match firstLeft p i e with
      | some page => { e with failed := some 6, failedPage := page }
      | none => e) else e
  let d := { d with tier.plans := nmap d.tier.plans fun p => { p with entries := p.entries.mapIdx (mark p) } }
  forEach (d.tier.frames.filter fun p => keyChamber p.1 == c) d fun d p =>
    forEach p.2.pins d fun d pin => unpin d (pin / 2 ^ 32) (pin % 2 ^ 32)

/-- Pages from a page on are TRIMMED (Table MED-3); a retained snapshot keeps what they held (R39, R275, Table CHM-3). -/
def trimFrom (d : Dev) (n fromPage : Nat) : Dev :=
  let d := { d with blanket := d.blanket.map fun p => (p.1, if p.1 % 2 ^ 16 = n then min p.2 fromPage else p.2) }
  forEach (heldPages d n fromPage) d fun d k => trimPage (preserve d k (cowSnaps d k (fedTime d))) k

/-- A chamber number becomes FREE: map entries, marks and keys' windows of it are gone (Table CHM-3, R246). -/
def freeNumber (d : Dev) (n : Nat) : Dev :=
  let d := trimFrom (planChamberGone d n) n 0
  settleKeys { d with chm.chambers := ndel d.chm.chambers n, blanket := d.blanket.filter (fun b => b.1 % 2 ^ 16 != n),
                      cured := d.cured.filter (fun l => keyChamber (l / 128) != n), cus.marks := d.cus.marks.filter fun p => p.1 / 2 ^ 22 % 2 ^ 16 != n,
                      cus.pull := d.cus.pull.filter fun p => p.1 / 2 ^ 22 % 2 ^ 16 != n }

/-! ### Messages to the twin -/

def chmStateCode : ChmState → Nat
  | .free => 0
  | .creating => 1
  | .active => 2
  | .draining => 3
  | .releasing => 4

def chmWords (n : Nat) (c : Chamber) : List Nat :=
  [n, chmStateCode c.state, c.cls.ctorIdx, c.owner, if c.comp then 1 else 0, c.xts, c.set, c.pref, c.pages, c.holder, c.claim]

/-- A change of a Mirrored chamber's entry reaches the twin, or in Solo marks the chamber's metadata (R41, R245). -/
def tellChamber (d : Dev) (n : Nat) (c : Chamber) : Dev :=
  if c.cls ≠ .mirrored then d
  else match d.cus.state with
    | .solo => { d with cus.metaChm := sinsert d.cus.metaChm n }
    | _ => sendCtrl d msgChamber (twinOrd d) (chmWords n c)

/-- Rights as KEY_QUERY shows them: persist, atomic, write, read. -/
def rightsBits (e : KeyEnt) : Nat := bit_ e.ps 31 + bit_ e.at_ 30 + bit_ e.wr 29 + bit_ e.rd 28

/-- A key entry as a message carries it: everything R48 names, with the rights in four bits and the binding as a mode, an ordinal and a QPN. -/
def keyWords (idx : Nat) (e : KeyEnt) : List Nat :=
  [idx, e.state.ctorIdx, e.gen, e.chamber, e.base, e.len, e.tenant, rightsBits e / 2 ^ 28] ++ (match e.bound with
    | some (o, q) => [1, o, q]
    | none => [0, 0, 0])

/-- A change of a key of a Mirrored chamber reaches the twin, or in Solo marks its 256 indexes (R47, R245). -/
def tellKey (d : Dev) (idx : Nat) (e : KeyEnt) : Dev :=
  match nget d.chm.chambers e.chamber with
  | none => d
  | some c =>
    if c.cls ≠ .mirrored then d
    else match d.cus.state with
      | .solo => { d with cus.metaKeys := sinsert d.cus.metaKeys (idx / 256) }
      | _ => sendCtrl d msgKey (twinOrd d) (keyWords idx e)

/-! ### The chamber command interface (R62, R63, Table CHM-10) -/

/-- Results of TIER_CHM_STATUS. -/
inductive ChmResult where
  | ok | busy | badArg | noNumber | noSpace | inUse | notCustodian | twinUnreachable | notFound
deriving DecidableEq, Repr

def carg (d : Dev) (i : Nat) : Word := reg d .TIER_CHM_ARG 0 i

/-- A command completes with its result; its return words are given only by OK. -/
def chmDone (d : Dev) (r : ChmResult) (rets : List (Nat × Nat)) : Dev :=
  let d := { d with chm.run := none, chm.result := r.ctorIdx }
  if r = .ok then forEach rets d fun d p => setReg d .TIER_CHM_RET 0 p.1 (word p.2) else d

/-- A write of TIER_CHM_CMD (R62): denied to I3C and tenants other than 0; ignored while a command runs, which sets OVERRUN. -/
def chmCommand (d : Dev) (w : Writer) (op : Nat) (go : Dev → Dev) : Dev :=
  command d w .TIER_CHM_CMD 0 0 (operator d w) fun d =>
    if d.chm.run.isSome then { d with chm.overrun := true } else go { d with chm.lastOp := op }

/-- A size in pages or a window from two argument words. -/
def carg2 (d : Dev) (i hi : Nat) : Nat := (carg d i).toNat + 2 ^ 32 * fld (carg d (i + 1)) hi 0

/-- NOT_FOUND, BUSY, NOT_CUSTODIAN or TWIN_UNREACHABLE of a command that names a chamber (R41, R63); none when it may go on. -/
def chamberBar (d : Dev) (c : Chamber) : Option ChmResult :=
  if c.state ≠ .active then some .busy
  else if c.cls = .mirrored ∧ c.holder ≠ ordinal d then some .notCustodian
  else if c.cls = .mirrored ∧ d.cus.state = .awaiting then some .twinUnreachable
  else none

def classOf (n : Nat) : ChmClass :=
  match n with
  | 0 => .mirrored
  | 1 => .localC
  | 2 => .volatileC
  | _ => .reference

/-- CHM_CREATE (R38, R41, R63). -/
def chmCreate (d : Dev) (w : Writer) : Dev := chmCommand d w 1 fun d =>
  let a := carg d 0
  let cls := classOf (fld a 31 30)
  let owner := fld a 11 0
  let pages := carg2 d 1 4
  let xts := fld (carg d 3) 11 0
  match freeChamber d with
  | none => chmDone d .noNumber []
  | some n =>
    if cls = .mirrored ∧ standalone d = false ∧ d.cus.state ≠ .joined then chmDone d .twinUnreachable []
    else if (cls = .mirrored ∧ standalone d = true) ∨ fld a 28 27 = 3 ∨ pages = 0 ∨ 2 ^ 36 < pages ∨ xtsSlotOk d xts owner = false then chmDone d .badArg []
    else if !spaceOk d n 0 pages cls then chmDone d .noSpace []
    else
      let c : Chamber := ⟨.creating, cls, owner, fbit a 29, xts, fld a 23 16, fld a 28 27, pages, ordinal d, d.cus.pairClaim, false⟩
      let by_ := if cls = .mirrored then some (d.now + ms 10) else none
      let d := { d with chm.chambers := nset d.chm.chambers n c, chm.run := some (.create n by_ false), tier.map := d.tier.map.filter fun p => keyChamber p.1 != n }
      if cls = .mirrored then sendCtrl d msgCreate (twinOrd d) (chmWords n c) else d

/-- CREATE_READY: every home cell is ready and, for Mirrored, the twin has confirmed in time: ACTIVE, OK, the number returned (Table CHM-3). -/
def createReady (d : Dev) (n : Nat) : Dev :=
  match d.chm.run, nget d.chm.chambers n with
  | some (.create m by_ _), some c =>
    if m = n ∧ (match by_ with
        | some t => decide (d.now ≤ t)
        | none => true) = true then
      let c := { c with state := .active }
      tellChamber (chmDone { d with chm.chambers := nset d.chm.chambers n c } .ok [(0, n)]) n c
    else d
  | _, _ => d

/-- A Mirrored create that has failed: the number is FREE and is released at the twin (R41, R426). -/
def createFails (d : Dev) (n : Nat) (r : ChmResult) (release : Bool) : Dev :=
  let d := chmDone { d with chm.chambers := ndel d.chm.chambers n } r []
  if release then sendCtrl { d with chm.releases := nset d.chm.releases n (d.now + ms 1) } msgRelease (twinOrd d) [n] else d

/-- The pair leaves Joined while a Mirrored create runs (Table CHM-3). -/
def createAbort (d : Dev) : Dev :=
  match d.chm.run with
  | some (.create n (some _) _) => createFails d n .twinUnreachable true
  | _ => d

/-- CREATE_TWIN_TIMEOUT: the twin has not confirmed within 10 ms (Table CHM-3). -/
def createTwinTimeout (d : Dev) (n : Nat) : Dev :=
  match d.chm.run with
  | some (.create m (some t) _) => if m = n ∧ t ≤ d.now then createFails d n .twinUnreachable true else d
  | _ => d

/-- TWIN_CREATE_REFUSAL: the twin refuses for its XTS slot (Table CHM-3). -/
def twinCreateRefusal (d : Dev) (n : Nat) : Dev :=
  match d.chm.run with
  | some (.create m (some _) _) => if m = n then createFails d n .badArg false else d
  | _ => d

/-- CREATE_RELEASE_RESEND: every 1 ms while the pair stays Joined (R426). -/
def createReleaseResend (d : Dev) (n : Nat) : Dev :=
  match nget d.chm.releases n with
  | some t =>
    if t ≤ d.now ∧ d.cus.state = .joined then
      sendCtrl { d with chm.releases := nset d.chm.releases n (d.now + ms 1) } msgRelease (twinOrd d) [n] else d
  | none => d

/-- CREATE_RELEASE_ACK: the number may be given to a new CREATE (R426). -/
def createReleaseAck (d : Dev) (n : Nat) : Dev := { d with chm.releases := ndel d.chm.releases n }

/-- A record of the twin as an entry of this device. -/
def recordChamber (r : ChmRecord) (st : ChmState) (byTwin : Bool) : Chamber :=
  ⟨st, classOf r.cls.val, r.owner.val, r.comp, r.xts.val, r.set.val, r.pref.val, r.pages.val, r.holder.val, r.claim.toNat, byTwin⟩

/-- MIRRORED_CREATE_RECEIVED: the twin confirms, or refuses for its XTS slot (R41, R310). -/
def mirroredCreateReceived (d : Dev) (r : ChmRecord) : Dev :=
  if !xtsSlotOk d r.xts.val r.owner.val then sendCtrl d msgRefuse (twinOrd d) [r.number.val]
  else
    let d := match nget d.chm.chambers r.number.val with
      | some _ => d
      | none => { d with chm.chambers := nset d.chm.chambers r.number.val (recordChamber r .creating true), tier.map := d.tier.map.filter fun p => keyChamber p.1 != r.number.val }
    sendCtrl d msgConfirm (twinOrd d) [r.number.val]

/-- State of a key in the code of KEY_QUERY. -/
def keyStateOf (n : Nat) : KeyState :=
  match n with
  | 0 => .free
  | 1 => .live
  | 2 => .quarantine
  | _ => .resting

/-- Two records name different holders of a Mirrored chamber at the same chamber claim (R233). -/
def recordsClash (old : Option Chamber) (r : ChmRecord) : Bool :=
  old.any fun o => o.cls == .mirrored && classOf r.cls.val == .mirrored && o.claim == r.claim.toNat && o.holder != r.holder.val

/-- A record of the twin is taken: of two that clash the one with the lower holder, else the one with the higher claim, and at the same claim the holder's (R233). -/
def takesRecord (d : Dev) (old : Option Chamber) (r : ChmRecord) : Bool :=
  if recordsClash old r then old.any fun o => decide (r.holder.val < o.holder)
  else old.all fun o => decide (o.claim < r.claim.toNat) || (o.claim == r.claim.toNat && r.holder.val != ordinal d)

/-- The state that a record names. -/
def stateOf (n : Nat) : ChmState :=
  match n with
  | 0 => .free
  | 1 => .creating
  | 2 => .active
  | 3 => .draining
  | _ => .releasing

/-- A record of the twin takes the place of the own entry (R41, Table CHM-3). -/
def putRecord (d : Dev) (r : ChmRecord) : Dev :=
  let old := nget d.chm.chambers r.number.val
  let st := stateOf r.state.val
  if st = .free then freeNumber d r.number.val
  else
    let c := recordChamber r st (old.any (·.byTwin))
    let d := if old.any fun o => decide (c.pages < o.pages) then trimFrom d r.number.val c.pages else d
    let d := { d with chm.chambers := nset d.chm.chambers r.number.val c }
    if st = .active then d else planChamberGone d r.number.val

/-- A key record of the twin takes the place of the own entry (R47). -/
def putKey (d : Dev) (r : KeyRecord) : Dev :=
  let e : KeyEnt := { state := keyStateOf r.state.val, gen := r.gen.toNat, chamber := r.chamber.val, base := r.base.toNat, len := r.len.toNat,
                      tenant := r.tenant.val, rd := r.rights.getLsbD 0, wr := r.rights.getLsbD 1, at_ := r.rights.getLsbD 2, ps := r.rights.getLsbD 3,
                      bound := r.bound.map fun b => (b.1.val, b.2.toNat), qEnd := if r.state.val = 2 then some (d.now + quarMs d) else none }
  let d := { d with chm.keys := nset d.chm.keys r.index.toNat e }
  if e.state = .live then d else { d with chm.kcache := d.chm.kcache.map fun p => (p.1, p.2.filter (· != r.index.toNat)) }

/-- A chamber record of a formation at the device whose records are kept (R233, R254): a number that is FREE here is freed at the twin; of records that clash the lower holder is kept. -/
def keepChamber (d : Dev) (r : ChmRecord) : Dev :=
  match nget d.chm.chambers r.number.val with
  | none => if r.state.val = 0 then d else sendCtrl d msgChamber (twinOrd d) [r.number.val]
  | some o => if recordsClash (some o) r then { d with chm.chambers := nset d.chm.chambers r.number.val { o with holder := min o.holder r.holder.val } } else d

/-- A key record of a formation at the device whose records are kept (R254): an index that is FREE here is freed at the twin. -/
def keepKey (d : Dev) (r : KeyRecord) : Dev :=
  let e := ngetD d.chm.keys r.index.toNat {}
  if e.state = .free ∧ r.state.val ≠ 0 then sendCtrl d msgKey (twinOrd d) (keyWords r.index.toNat e) else d

/-- Records that clash are told in an S2 record (R233). -/
def tellClash (d : Dev) (r : ChmRecord) : Dev :=
  if recordsClash (nget d.chm.chambers r.number.val) r then logEvent d 2 (uHub 3) [r.number.val] else d

/-- TWIN_CHAMBER_UPDATE: the follower applies the custodian's change of a chamber or key entry, or frees a released number and acknowledges it (R41, R47, R426); records that the twins compare at
a formation are kept or taken (R254). -/
def twinChamberUpdate (d : Dev) (u : ChmUpdate) : Dev :=
  match u with
  | .release n =>
    let d := match nget d.chm.chambers n.val with
      | some c => if c.state = .creating ∧ c.byTwin = true then { d with chm.chambers := ndel d.chm.chambers n.val } else d
      | none => d
    sendCtrl d msgReleaseAck (twinOrd d) [n.val]
  | .chamber r => if takesRecord d (nget d.chm.chambers r.number.val) r then putRecord (tellClash d r) r else tellClash d r
  | .key r => putKey d r
  | .formChamber r =>
    let old := nget d.chm.chambers r.number.val
    let d := tellClash d r
    if d.cus.keeps then keepChamber d r else if recordsClash old r && !takesRecord d old r then d else putRecord d r
  | .formKey r => if d.cus.keeps then keepKey d r else putKey d r

/-- The records of Mirrored chambers and of their keys, for the comparison of a formation (R254). -/
def sendRecords (d : Dev) : Dev :=
  let mine := d.chm.chambers.filter fun p => p.2.cls == .mirrored
  let d := forEach mine d fun d p => sendCtrl d msgFormChamber (twinOrd d) (chmWords p.1 p.2)
  forEach (d.chm.keys.filter fun p => p.2.state != .free && mine.any fun q => q.1 == p.2.chamber) d fun d p => sendCtrl d msgFormKey (twinOrd d) (keyWords p.1 p.2)

/-- A LIVE key of a chamber reaches beyond a size in pages (Table CHM-3). -/
def keyBeyond (d : Dev) (n pages : Nat) : Bool := d.chm.keys.any fun p => p.2.state == .live && p.2.chamber == n && decide (pages * 4 < p.2.base + p.2.len)

/-- CHM_RESIZE (R41, R63). -/
def chmResize (d : Dev) (w : Writer) : Dev := chmCommand d w 2 fun d =>
  let n := fld (carg d 0) 15 0
  let pages := carg2 d 1 4
  match nget d.chm.chambers n with
  | none => chmDone d .notFound []
  | some c =>
    match chamberBar d c with
    | some r => chmDone d r []
    | none =>
      if pages = 0 ∨ 2 ^ 36 < pages then chmDone d .badArg []
      else if !spaceOk d n c.pages pages c.cls then chmDone d .noSpace []
      else if pages < c.pages ∧ keyBeyond d n pages then chmDone d .inUse []
      else
        let d := if pages < c.pages then trimFrom d n pages else d
        let c := { c with pages := pages }
        tellChamber (chmDone { d with chm.chambers := nset d.chm.chambers n c } .ok []) n c

/-- A retained snapshot of a chamber exists. -/
def snapshotOf (d : Dev) (n : Nat) : Bool := d.snap.snaps.any fun s => s.2.state == .retained && s.2.chambers.contains n

/-- CHM_DELETE (R41, R53, R63): every key of the chamber stops being admitted. -/
def chmDelete (d : Dev) (w : Writer) : Dev := chmCommand d w 3 fun d =>
  let n := fld (carg d 0) 15 0
  match nget d.chm.chambers n with
  | none => chmDone d .notFound []
  | some c =>
    match chamberBar d c with
    | some r => chmDone d r []
    | none =>
      if snapshotOf d n then chmDone d .inUse []
      else
        let c := { c with state := .draining }
        let keys := d.chm.keys.map fun p => (p.1, if p.2.state = .live ∧ p.2.chamber = n then { p.2 with inval := true } else p.2)
        tellChamber (planChamberGone { d with chm.chambers := nset d.chm.chambers n c, chm.keys := keys, chm.run := some (.delete n) } n) n c

/-- A key enters QUARANTINE: every cache drops it (R53, R55). -/
def quarantineKey (d : Dev) (idx : Nat) : Dev :=
  match nget d.chm.keys idx with
  | none => d
  | some e =>
    let e := { e with state := .quarantine, inval := false, qEnd := some (d.now + quarMs d) }
    tellKey { d with chm.keys := nset d.chm.keys idx e, chm.kcache := d.chm.kcache.map fun p => (p.1, p.2.filter (· != idx)) } idx e

/-- A piece of a COPY that still reads its source stands for the write that it will make under its destination key (R53, R288, R293); any other request for none. -/
def copyTarget (d : Dev) (r : Req) : Req :=
  match (r.bulk.bind fun b => if b.2.2 = 0 then d.bulk.cmds.find? fun c => c.id == b.1 else none) with
  | some c => { r with keyIdx := c.pl.dstKey.toNat / 256, chamber := c.chamber }
  | none => { r with keyIdx := 0, chamber := 2 ^ 16 }

/-- Admitted writes and atomics that a predicate names and that are not yet applied at their home cells and, for Mirrored, at the twin (R53). -/
def unapplied (d : Dev) (f : Req → Bool) : Bool :=
  d.reqs.any fun r => (f r && isChange r.kind && !fromTwin r.kind && (match r.stage with
    | .over _ => r.parts.any fun p => !partOver p.st
    | _ => true)) || f (copyTarget d r)

/-- CHAMBER_DRAIN_DONE: the chamber enters RELEASING, its keys QUARANTINE, and DELETE completes OK (Table CHM-3). -/
def chamberDrainDone (d : Dev) (n : Nat) : Dev :=
  match nget d.chm.chambers n with
  | none => d
  | some c =>
    if c.state ≠ .draining ∨ unapplied d (fun r => r.chamber == n) then d
    else
      let ks := (d.chm.keys.filter fun p => p.2.state == .live && p.2.chamber == n).map (·.1)
      let d := forEach ks d quarantineKey
      let c := { c with state := .releasing }
      let d := tellChamber { d with chm.chambers := nset d.chm.chambers n c } n c
      if d.chm.run = some (.delete n) then chmDone d .ok [] else d

/-- CHAMBER_RELEASE_DONE: all space is returned and the number is FREE (Table CHM-3). -/
def chamberReleaseDone (d : Dev) (n : Nat) : Dev :=
  match nget d.chm.chambers n with
  | none => d
  | some c => if c.state = .releasing then tellChamber (freeNumber d n) n { c with state := .free } else d

/-- CHM_SET_ATTR (R39, R63). -/
def chmSetAttr (d : Dev) (w : Writer) : Dev := chmCommand d w 4 fun d =>
  let a := carg d 0
  let n := fld a 15 0
  let owner := fld (carg d 1) 11 0
  match nget d.chm.chambers n with
  | none => chmDone d .notFound []
  | some c =>
    match chamberBar d c with
    | some r => chmDone d r []
    | none =>
      if fld a 28 27 = 3 ∨ xtsSlotOk d c.xts owner = false then chmDone d .badArg []
      else
        let c := { c with comp := fbit a 29, pref := fld a 28 27, set := fld a 23 16, owner := owner }
        tellChamber (chmDone { d with chm.chambers := nset d.chm.chambers n c } .ok []) n c

/-- The index a KEY_ISSUE takes (R47): the lowest FREE one of the device's half, else the RESTING one with the oldest quarantine end. -/
def issueIndex (d : Dev) : Option Nat :=
  let lo := if standalone d then 0 else half d * 2 ^ 23
  let n := if standalone d then 2 ^ 24 else 2 ^ 23
  match nfreeFrom d.chm.keys (max 1 lo) (n - (if lo = 0 then 1 else 0)) with
  | some i => some i
  | none =>
    (d.chm.keys.foldl (fun (b : Option (Nat × Nat)) p =>
      if p.2.state = .resting ∧ lo ≤ p.1 ∧ p.1 < lo + n then
        let e := p.2.qEnd.getD 0
        match b with
        | none => some (p.1, e)
        | some q => if e < q.2 then some (p.1, e) else b
      else b) none).map (·.1)

/-- KEY_ISSUE (R47, R48, R63). -/
def keyIssue (d : Dev) (w : Writer) : Dev := chmCommand d w 5 fun d =>
  let a := carg d 0
  let n := fld a 15 0
  let base := carg2 d 1 5
  let len := carg2 d 3 5
  let m := carg d 5
  let ordArg := (carg d 6).toNat
  match nget d.chm.chambers n with
  | none => chmDone d .notFound []
  | some c =>
    match issueIndex d with
    | none => chmDone d .noNumber []
    | some i =>
      match chamberBar d c with
      | some r => chmDone d r []
      | none =>
        if (fbit a 31 ∧ c.cls = .volatileC) ∨ len = 0 ∨ c.pages * 4 < base + len ∨ (fbit m 31 ∧ 16383 < ordArg) then chmDone d .badArg []
        else
          let old := (ngetD d.chm.keys i {}).gen
          let gen := if old = 255 then 1 else old + 1
          let e : KeyEnt := { state := .live, gen := gen, chamber := n, base := base, len := len, tenant := fld a 27 16, rd := fbit a 28, wr := fbit a 29,
                              at_ := fbit a 30, ps := fbit a 31, bound := if fbit m 31 then some (ordArg, fld m 23 0) else none }
          tellKey (chmDone { d with chm.keys := nset d.chm.keys i e } .ok [(0, i * 256 + gen)]) i e

/-- KEY_INVALIDATE (R53, R63). -/
def keyInvalidate (d : Dev) (w : Writer) : Dev := chmCommand d w 6 fun d =>
  let key := (carg d 0).toNat
  let i := key / 256
  let e := ngetD d.chm.keys i {}
  if e.state ≠ .live ∨ e.gen ≠ key % 256 then chmDone d .notFound []
  else
    match (nget d.chm.chambers e.chamber).bind (chamberBar d) with
    | some r => chmDone d r []
    | none => { d with chm.keys := nset d.chm.keys i { e with inval := true }, chm.run := some (.invalidate i) }

/-- KEY_INVALIDATE_COMPLETE: every cache has dropped the key and every admitted change is applied: the quarantine starts and the command completes (R53). -/
def keyInvalidateComplete (d : Dev) (i : Nat) : Dev :=
  if d.chm.run = some (.invalidate i) ∧ unapplied d (fun r => r.keyIdx == i) = false then chmDone (quarantineKey d i) .ok [] else d

/-- KEY_QUARANTINE_END: the index becomes RESTING (R55). -/
def keyQuarantineEnd (d : Dev) (i : Nat) : Dev :=
  match nget d.chm.keys i with
  | some e => if e.state = .quarantine ∧ inService3 d = true ∧ (e.qEnd.any fun t => due d t) = true then { d with chm.keys := nset d.chm.keys i { e with state := .resting } } else d
  | none => d

/-- KEY_QUERY (R63, Table CHM-10). -/
def keyQuery (d : Dev) (w : Writer) : Dev := chmCommand d w 7 fun d =>
  let e := ngetD d.chm.keys ((carg d 0).toNat / 256) {}
  let live := e.state = .live
  chmDone d .ok [(0, at_ e.state.ctorIdx 30 + at_ e.gen 16 + (if live then e.chamber else 0)),
                 (1, if live then rightsBits e + at_ e.tenant 16 else 0)]

/-- CHM_QUERY (R63, Table CHM-10). -/
def chmQuery (d : Dev) (w : Writer) : Dev := chmCommand d w 8 fun d =>
  match nget d.chm.chambers (fld (carg d 0) 15 0) with
  | none => chmDone d .ok [(0, 0), (1, 0), (2, 0)]
  | some c => chmDone d .ok [(0, at_ (chmStateCode c.state) 29 + at_ c.cls.ctorIdx 27 + c.owner), (1, c.pages % 2 ^ 32), (2, c.pages / 2 ^ 32)]

/-- CHM_CMD_RESERVED: OPCODE 0x0 or 0x9 to 0xF (R63). -/
def chmCmdReserved (d : Dev) (w : Writer) (op : Nat) : Dev := chmCommand d w op fun d => chmDone d .badArg []

end Sys2Proof.Machine
end

