-- ==== Sys2Proof/Machine/Conns.lean ====
section
/-!
DEFINITION. Connections: the connection manager, their states, and the timers of the requester and responder (spec/04_olisar_transport.md R64 to R68, R76 to R82,
spec/05_congestion.md R97 to R99, spec/03_chambers.md R45, R55).
-/
namespace Sys2Proof.Machine
open Sys2Proof

/-! ### Admission (R45, R173) -/

/-- Word w of entry e of the tenant admission table. -/
def admitWord (d : Dev) (e w : Nat) : Word := reg d .TIER_ADMIT_WORD 0 (8 * e + w)

/-- The prefix of an entry as a number. -/
def admitPrefix (d : Dev) (e : Nat) : Nat := (List.range 4).foldl (fun n w => n * 2 ^ 32 + (admitWord d e w).toNat) 0

/-- A valid entry matches an address (R45). -/
def admitMatches (d : Dev) (e addr : Nat) : Bool :=
  let w := admitWord d e 4
  let len := fld w 23 16
  fbit w 31 && decide (len ≤ 128) && (addr / 2 ^ (128 - len) == admitPrefix d e / 2 ^ (128 - len))

/-- The tenant of an address: the longest matching prefix, the lower entry on a tie (R45). -/
def tenantOf (d : Dev) (addr : Nat) : Option Nat :=
  ((List.range 256).foldl (fun (b : Option (Nat × Nat)) e =>
    if admitMatches d e addr then
      let len := fld (admitWord d e 4) 23 16
      match b with
      | none => some (len, fld (admitWord d e 4) 11 0)
      | some q => if q.1 < len then some (len, fld (admitWord d e 4) 11 0) else b
    else b) none).map (·.2)

/-- States in which a connection counts as active (OMT_CONN_COUNT, R173, R385). -/
def activeConn (c : Conn) : Bool := c.state == .connecting || c.state == .ready || c.state == .draining || c.state == .error

/-- A further connection is within the tenant's quota (R173). -/
def connQuotaOk (d : Dev) (t : Nat) : Bool :=
  let q := fld (reg d .TIER_QUOTA_WORD 0 (2 * t + 1)) 18 0
  q == 0x7FFFF || decide ((d.conns.filter fun p => p.2.tenant == t && p.2.state != .free && p.2.service == .data).length < q)

/-- Data connections of a cell. -/
def dataConns (d : Dev) (c : Nat) : Nat := (d.conns.filter fun p => connCell p.1 == c && activeConn p.2 && p.2.service == .data).length

/-- The cell that serves a REQ (R75, R111): that of the HOST port it arrived on, or the HOST cell with the fewest data connections. -/
def reqCell (d : Dev) (p : Nat) : Option Nat :=
  if portRole d p = 1 then some p
  else ((allCells.filter fun c => portRole d c == 1).foldl (fun (b : Option (Nat × Nat)) c =>
    let n := dataConns d c
    match b with
    | none => some (c, n)
    | some q => if n < q.2 then some (c, n) else b) none).map (·.1)

/-! ### The connection manager (R66, R67) -/

/-- Model numbers of the connection-manager messages the device sends: REJ, REP, DREQ, DREP. -/
def cmRej : Nat := 0x0300
def cmRep : Nat := 0x0301
def cmDreq : Nat := 0x0302
def cmDrep : Nat := 0x0303

/-- The version chosen between a partner's range and the port's (R67). -/
def chooseVersion (hostMin hostMax portMin portMax : Nat) : Option Nat :=
  let v := min hostMax portMax
  if v < max hostMin portMin ∨ hostMax < hostMin then none else some v

/-- Path MTU of a code (Table OMT-9). -/
def mtuOf (code : Nat) : Nat := if code = 3 then 1024 else if code = 4 then 2048 else 4096

/-- A connection-manager message leaves (R91, R111): through the management port, or in PCP 7 toward a host's return ordinal. -/
def sendCm (d : Dev) (mgmt : Bool) (addr ret kind qpn : Nat) (fields : List Nat) (priv : List Byte) : Dev :=
  if mgmt then send d (.cm ⟨mgmtPort, 0, 0, 0, 0, addr, 8, 0⟩ kind qpn fields priv)
  else match routeOut d addr ret qpn 7 with
    | (d, some p) => sendCtl d p cmBytes (.cm (ownWire d p 7 addr) kind qpn fields priv)
    | (d, none) => d

/-- A message of the device about a connection of its own. -/
def sendCmConn (d : Dev) (k kind : Nat) (fields : List Nat) (priv : List Byte) : Dev :=
  let c := getConn d k
  if c.service = .mirror then sendCtl d c.port cmBytes (.cm (ownWire d c.port 7 (devAddr d (twinOrd d))) kind c.remoteQpn fields priv)
  else sendCm d (decide (2 ^ 18 ≤ k)) c.addr c.ret kind c.remoteQpn fields priv

/-- The return ordinal of a REQ (R111). -/
def cmRet (d : Dev) (q : CmReq) : Nat :=
  match q.via with
  | .port p => if portRole d p.val = 1 then ordinal d else q.srcOrdinal.val
  | .mgmt => ordinal d

/-- A REJ with its reason and, when check 3 failed, the offer block in bytes 0 to 7 of its private data (R66, R67). -/
def sendRej (d : Dev) (q : CmReq) (reason : Nat) (priv : List Byte) : Dev :=
  sendCm d (q.via == .mgmt) q.srcAddr.toNat (cmRet d q) cmRej q.qpn.toNat [reason] priv

/-- A connection is allocated: its generation advances by 1, 63 followed by 1 (R68); ePSN is the start PSN drawn from the DRBG. -/
def allocConn (d : Dev) (k tenant version : Nat) (s : Service) (q : CmReq) (mtu : Nat) : Dev :=
  let old := getConn d k
  let (d, r) := drbgDraw d
  setConn d k { state := .connecting, gen := if old.gen = 63 then 1 else old.gen + 1, version := version, tenant := tenant, service := s,
                remoteQpn := q.qpn.toNat, addr := q.srcAddr.toNat, port := connCell k, pmtu := mtu, epsn := psnMod r, ackPsn := psnMod (r + 2 ^ 24 - 1),
                npsn := q.psn.toNat, deadline := d.now + ms 100, ret := cmRet d q }

/-- The REP: QPN, resources and depth of 32, start PSN, and the offer block with the version chosen (R66, R67). -/
def sendRep (d : Dev) (k : Nat) : Dev :=
  let c := getConn d k
  sendCmConn d k cmRep [qpnOf c.gen k, 32, 32, c.epsn] (offerBlock c.version c.version d.mode.epoch (ordinal d))

/-- CM_REQ on the management port: v1 and port number 20,302 only, at most 16 connections, tenant 0 without a match (R65, R67, R385). -/
def cmReqMgmt (d : Dev) (q : CmReq) : Dev :=
  let (lo, hi) := offered q.priv
  if q.service.toNat ≠ 20302 then sendRej d q 8 []
  else if !served d (.port 0) then sendRej d q 28 []
  else match chooseVersion lo hi 1 1 with
    | none => sendRej d q 28 (offerBlock 1 1 d.mode.epoch (ordinal d))
    | some v =>
      let used := (List.range 16).filter fun i => activeConn (getConn d (portConnKey i))
      match (List.range 16).find? fun i => (getConn d (portConnKey i)).state == .free with
      | none => sendRej d q 28 []
      | some i => if 16 ≤ used.length then sendRej d q 28 [] else sendRep (allocConn d (portConnKey i) 0 v .mgmt q 4096) (portConnKey i)

/-- A connection-manager message arrives at a port that carries frames (R106, R117, R319): a host is learnt, and its frames outside PCP 7 are counted (R92, R111). -/
def cmArrives (d : Dev) (p pcp addr : Nat) (sec : SecTag) : Dev × Bool :=
  if isDown d || !portCarries d p then (d, false)
  else
    let x := macGate d p sec
    if x.2 = false then x
    else (learnHost (if portRole d p = 1 ∧ pcp ≠ 7 then bump x.1 .PORT_CNG_CNT p 7 else x.1) p addr, true)

/-- A REQ for this device (R65, R67, R68): the six checks in order, then a connection and a REP. Check 2 asks for the HOST port of the cell that serves it (DEDUCED; log entry 'The port that
serves a REQ'). -/
def cmReqHere (d : Dev) (q : CmReq) (p : Nat) : Dev :=
  if q.service.toNat ≠ 20301 ∧ q.service.toNat ≠ 20302 then sendRej d q 8 []
  else
    match (if !inService3 d || (portRole d p != 1 && !q.fromDevice) then none else reqCell d p) with
    | none => sendRej d q 28 []
    | some c =>
      if cellFenced d c || !txOn d c then sendRej d q 28 []
      else
        let (lo, hi) := offered q.priv
        match chooseVersion lo hi (minVer d c) (maxVer d c) with
        | none => sendRej d q 28 (offerBlock (maxVer d c) (minVer d c) d.mode.epoch (ordinal d))
        | some v =>
          match tenantOf d q.srcAddr.toNat with
          | none => sendRej d q 28 []
          | some t =>
            let mg := q.service.toNat = 20302
            let inBand := (d.conns.filter fun x => x.1 < 2 ^ 18 && x.2.service == .mgmt && activeConn x.2).length
            if mg ∧ t ≠ 0 then sendRej d q 28 []
            else if (¬ mg ∧ connQuotaOk d t = false) ∨ (mg ∧ 64 ≤ inBand) then sendRej d q 28 []
            else
              match ((List.range 1023).map (· + 1)).find? fun i => (getConn d (connKey c i)).state == .free with
              | none => sendRej d q 28 []
              | some i =>
                let mtu := min (mtuOf (cfld d .OMT_CFG c 15 12)) (mtuOf q.pmtu.toNat)
                sendRep (allocConn d (connKey c i) t v (if mg then .mgmt else .data) q mtu) (connKey c i)

/-- The connection that a QPN names, while its generation is current (R46). -/
def connOfQpn (d : Dev) (qpn : Nat) : Option Nat :=
  let k := qpn % 2 ^ 18
  let g := qpn / 2 ^ 18
  if g = 0 ∨ (getConn d k).gen ≠ g then none else some k

/-- A message that names a connection reaches it (R67, R76). -/
def cmNamed (d : Dev) (m : CmMsg) (go : Dev → Nat → Dev) : Dev :=
  match m.via with
  | .mgmt => if served d (.port 0) then go d (portConnKey (m.qpn.toNat % 16)) else d
  | .port p =>
    let x := cmArrives d p.val m.pcp.val m.srcAddr.toNat m.sec
    if x.2 then ((connOfQpn x.1 m.qpn.toNat).map fun k => go x.1 k).getD x.1 else x.1

/-- CM_RTU: a CONNECTING connection becomes READY (R76). -/
def cmRtu (d : Dev) (m : CmMsg) : Dev := cmNamed d m fun d k => if (getConn d k).state = .connecting then enterReady d k else d

/-- CM_DREQ: a READY connection drains (R76). -/
def cmDreqReceived (d : Dev) (m : CmMsg) : Dev :=
  cmNamed d m fun d k => if (getConn d k).state = .ready then dropSample (modConn d k fun c => { c with state := .draining }) k else d

/-- CM_DREP: the partner has closed the disconnection; nothing is left to do (R76). -/
def cmDrepReceived (d : Dev) (m : CmMsg) : Dev := cmNamed d m fun d _ => d

/-- A connection enters QUARANTINE for the period Q (R55, R76). -/
def quarantineConn (d : Dev) (k : Nat) : Dev :=
  let d := forEach (d.reqs.filter fun r => r.conn == k) d fun d r =>
    if isChange r.kind && r.parts != [] && !(r.parts.all fun p => partOver p.st) then setReq (dropBuf d r.buf) { r with silent := true, buf := none }
    else delReq (dropBuf d r.buf) r.id
  modConn (dropSent d k) k fun c => { c with state := .quarantine, deadline := d.now + quarMs d, rnrUntil := none, unackedAt := none }

/-- CONNECT_TIMEOUT: no RTU or packet within 100 ms (R76). -/
def connectTimeout (d : Dev) (k : Nat) : Dev :=
  let c := getConn d k
  if c.state = .connecting ∧ due d c.deadline then quarantineConn d k else d

/-- CONNECTION_DRAIN_DONE: every admitted request has been answered; DREP (R76). -/
def connectionDrainDone (d : Dev) (k : Nat) : Dev :=
  let c := getConn d k
  if c.state = .draining ∧ (d.reqs.all fun r => r.conn != k) ∧ (d.bulk.cmds.all fun b => b.conn != k) then sendCmConn (quarantineConn d k) k cmDrep [] [] else d

/-- CONNECTION_ERROR_SETTLED: every admitted write and atomic is applied at its home cells; DREQ (R76). -/
def connectionErrorSettled (d : Dev) (k : Nat) : Dev :=
  let c := getConn d k
  let open_ := d.reqs.any fun r => r.conn == k && isChange r.kind && (match r.stage with
    | .over _ => false
    | _ => r.parts.isEmpty || r.parts.any fun p => pendingPart p.st)
  if c.state = .error ∧ open_ = false then sendCmConn (quarantineConn d k) k cmDreq [] [] else d

/-- CONNECTION_QUARANTINE_END: the local index is FREE; its generation is kept (R55, R68, R76). -/
def connectionQuarantineEnd (d : Dev) (k : Nat) : Dev :=
  let c := getConn d k
  if c.state = .quarantine ∧ inService3 d = true ∧ due d c.deadline then setConn d k { gen := c.gen } else d

/-! ### Timers (R81, R82, R98, R99) -/

def retryLimit (d : Dev) (c : Nat) : Nat := cfld d .OMT_RETRY_CFG c 2 0
def rnrLimit (d : Dev) (c : Nat) : Nat := cfld d .OMT_RETRY_CFG c 6 4

/-- RETRANSMIT_TIMER_EXPIRY: counted; a retry with the timer doubled and the window at one MTU, or ERROR at the limit (R82, R99). -/
def retransmitTimerExpiry (d : Dev) (k : Nat) : Dev :=
  let c := getConn d k
  if c.state = .ready ∧ (c.timer.any fun t => due d t) = true then
    let d := bump d .OMT_CNT (connCell k) 5
    if retryLimit d (connCell k) ≤ c.retries then connError d k
    else
      let v := 2 * c.timerVal
      let d := setConn d k { c with retries := c.retries + 1, timerVal := v, timer := some (d.now + v),
                                    win := if windowed c then { c.win with w := c.pmtu, additive := false } else c.win }
      retransmit d k
  else d

/-- RNR_WAIT_EXPIRY: the request is sent again (R82). -/
def rnrWaitExpiry (d : Dev) (k : Nat) : Dev :=
  let c := getConn d k
  if (c.rnrUntil.any fun t => due d t) = true then
    trySend (retransmit (setConn d k { c with rnrUntil := none, timer := some (d.now + c.timerVal) }) k) k
  else d

/-- ACK_COALESCE_TIMER: 1 µs after the oldest unacknowledged request reached its point (R81). -/
def ackCoalesceTimer (d : Dev) (k : Nat) : Dev :=
  let c := getConn d k
  if (c.unackedAt.any fun t => due d (t + us 1)) = true then sendAck d k ⟨c.ackPsn, c.ackChm, c.ackPersist⟩ else d

/-- PACER_RELEASE: the next packet may leave (R98). -/
def pacerRelease (d : Dev) (k : Nat) : Dev := trySend d k

end Sys2Proof.Machine
end

