-- ==== Sys2Proof/Machine/Fabric.lean ====
section
/-!
DEFINITION. Ports, pause, fences, link state, pair routes and forwarding (spec/05_congestion.md R91 to R106, spec/06_federation_fabric.md R107 to R123,
spec/03_chambers.md R54).
-/
namespace Sys2Proof.Machine
open Sys2Proof

/-- State code of an own port in LINK STATE (Table FAB-6). -/
def portCode (d : Dev) (p : Nat) : Nat :=
  if !fabricPort d p then 3 else if (getPort d p).fence.isSome || cellFenced d p then 2 else if portUp d p then 1 else 0

/-- The state codes of all own ports, port p at bit 2p. -/
def ownStates (d : Dev) : Nat := allCells.foldl (fun n p => n + at_ (portCode d p) (2 * p)) 0

/-! ### Link-state database (R119 to R121) -/

/-- A control record leaves on every fabric port whose check has passed, except one (R116, R120). Its copies share a buffer of the cell on whose port it arrived, or of the first of these ports. -/
def flood (d : Dev) (opcode except_ : Nat) (fields : List Nat) : Dev :=
  let ports := allCells.filter fun p => portUp d p && p != except_
  sendCopies d opcode (if except_ < 256 then except_ else ports.headD 0) ports fields

/-- The device originates a LINK STATE record with its next sequence number (R119). -/
def originateLs (d : Dev) : Dev :=
  let seq := (d.ldr.startCount % 2 ^ 16) * 2 ^ 32 + d.fab.lsSeq
  let st := ownStates d
  let d := { d with fab.lsSeq := d.fab.lsSeq + 1, fab.nextLs := d.now + sec 2, fab.db := nset d.fab.db (ordinal d) ⟨seq, st, d.now⟩ }
  flood d 0xE1 256 (payload (linkStateBytes (ordinal d) seq st))

/-- A change in an own port state originates a record, in the model at once, from the end of the identity checks of the start on (R119). -/
def lsCheck (d : Dev) : Dev :=
  if ((nget d.fab.db (ordinal d)).map (·.states)) = some (ownStates d) ∨ d.ldr.step < 5 then d
  else bump (originateLs d) .FAB_CNT 0 9

/-- LINK_STATE_TIMER: every 2 s (R119). -/
def linkStateTimer (d : Dev) : Dev := if due d d.fab.nextLs && decide (5 ≤ d.ldr.step) && !isDown d then originateLs d else d

/-- A control frame is heard on a port: MACsec lets it through and, but for HELLO, the identity check has passed (R116). -/
def ctrlHeard (d : Dev) (p : Nat) (t : SecTag) : Dev × Bool :=
  let (d, ok) := macGate d p t
  (d, ok && !isDown d && portUp d p)

/-- A control message of the twin or of a neighbour is taken from a port where it is heard (R116). -/
def ctrlIn (d : Dev) (via : CtrlVia) (go : Dev → Dev) : Dev :=
  let x := ctrlHeard d via.port.val via.sec
  if x.2 then go x.1 else x.1

/-- LINK_STATE: accepted and relayed when its sequence is higher than the stored one, else dropped (R120). -/
def linkState (d : Dev) (m : LinkStateMsg) : Dev :=
  let (d, ok) := ctrlHeard d m.port.val m.sec
  if !ok then d
  else
    let old := nget d.fab.db m.origin.val
    if (old.all fun r => decide (r.seq < m.seq.toNat)) = true then
      let changed := old.all fun r => r.states != m.states.toNat
      let d := bump { d with fab.db := nset d.fab.db m.origin.val ⟨m.seq.toNat, m.states.toNat, d.now⟩ } .FAB_CNT 0 7
      let d := if changed then bump d .FAB_CNT 0 9 else d
      flood d 0xE1 m.port.val (payload (linkStateBytes m.origin.val m.seq.toNat m.states.toNat))
    else bump d .FAB_CNT 0 8

/-- LINK_STATE_RECORD_EXPIRY: a record not superseded within 10 s is removed (R120). -/
def linkStateRecordExpiry (d : Dev) (o : Nat) : Dev :=
  match nget d.fab.db o with
  | some r => if o ≠ ordinal d ∧ due d (r.at_ + sec 10) = true then bump { d with fab.db := ndel d.fab.db o } .FAB_CNT 0 9 else d
  | none => d

/-- ROUTE_CONVERGENCE_END: every declared device has a record, or 2 s have passed since the step began (R121). -/
def routeConvergenceEnd (d : Dev) : Dev :=
  match d.fab.convFrom with
  | some t => if d.ldr.ident.devices ≤ d.fab.db.length ∨ due d (t + sec 2) = true then { d with fab.converged := true, fab.convFrom := none } else d
  | none => d

/-! ### Pair routes (R122, R123) -/

/-- The claims this device announces for its pair: it holds the higher claim (R122). -/
def holdsHigher (d : Dev) : Bool := d.cus.ownClaim == d.cus.pairClaim && !d.cus.stale

/-- An announcement is originated, entered in the own table and flooded, its tag under the CONTROL key (R122). -/
def announce (d : Dev) : Dev :=
  if standalone d then d
  else
    let seq := (d.ldr.startCount % 2 ^ 16) * 2 ^ 32 + d.fab.annSeq
    let e := ngetD d.fab.pairs (pairNo d) ⟨false, 0, 0, 0, 0⟩
    let mine := !e.valid || decide (e.claim < d.cus.ownClaim) || (e.claim == d.cus.ownClaim && decide (ordinal d ≤ e.holder))
    let d := { d with fab.annSeq := d.fab.annSeq + 1, fab.nextAnn := d.now + sec 1,
                      fab.pairs := if mine then nset d.fab.pairs (pairNo d) ⟨true, ordinal d, d.cus.ownClaim, seq, d.now⟩ else d.fab.pairs }
    flood d 0xE2 256 (tagged d (routeBytes (pairNo d) (ordinal d) d.cus.ownClaim seq))

/-- ROUTE_ANNOUNCE_TIMER: every 1 s while this twin holds the higher claim (R122). -/
def routeAnnounceTimer (d : Dev) : Dev :=
  if due d d.fab.nextAnn && holdsHigher d && inService3 d then announce d else d

/-- The payload of a ROUTE ANNOUNCE before its TAG. -/
def annBytes (m : RouteAnn) : List Byte := routeBytes m.pair.toNat m.holder.val m.claim.toNat m.seq.toNat

/-- ROUTE_ANNOUNCE (R123). -/
def routeAnnounce (d : Dev) (m : RouteAnn) : Dev :=
  let (d, ok) := ctrlHeard d m.port.val m.sec
  if !ok then d
  else
    let body := annBytes m
    let relay (d : Dev) : Dev := flood d 0xE2 m.port.val (payload (body ++ beBytes 16 m.tag.toNat))
    if !tagOk d body m.tag || m.holder.val / 2 != m.pair.toNat then bump d .FAB_CNT 0 12
    else
      let new : PairRoute := ⟨true, m.holder.val, m.claim.toNat, m.seq.toNat, d.now⟩
      match nget d.fab.pairs m.pair.toNat with
      | none => relay (bump { d with fab.pairs := nset d.fab.pairs m.pair.toNat new } .FAB_CNT 0 10)
      | some e =>
        if e.claim < m.claim.toNat ∨ (e.claim = m.claim.toNat ∧ m.holder.val < e.holder) then
          relay (bump { d with fab.pairs := nset d.fab.pairs m.pair.toNat new } .FAB_CNT 0 10)
        else if e.claim = m.claim.toNat ∧ e.holder = m.holder.val ∧ e.seq < m.seq.toNat then
          relay { d with fab.pairs := nset d.fab.pairs m.pair.toNat new }
        else bump d .FAB_CNT 0 11

/-- PAIR_ROUTE_EXPIRY: an entry not refreshed within 5 s becomes invalid (R123). -/
def pairRouteExpiry (d : Dev) (pair : Nat) : Dev :=
  match nget d.fab.pairs pair with
  | some e => if due d (e.at_ + sec 5) then { d with fab.pairs := nset d.fab.pairs pair { e with valid := false } } else d
  | none => d

/-! ### Mirror links (R20, R78) -/

/-- What a mirrored part of a request carries. -/
def mirrorData (r : Req) (p : Part) : List Byte :=
  match r.kind with
  | .cas => leBytes 8 r.arg.2
  | .faa => leBytes 8 ((r.orig + r.arg.1) % 2 ^ 64)
  | _ => (r.data.drop p.lo).take p.n

/-- The mirror frame of a part is sent again with its timestamp (R78, R233). -/
def resendPart (d : Dev) (r : Req) (p : Part) (ts : Nat) : Dev :=
  let addr := chmAddr r.chamber (r.off + p.lo)
  let x := match r.buf with
    | some id => addRef d id
    | none => (d, none)
  sendMirror x.1 p.cell addr (.part r.id p.page) r.hold r.persist ts (mirrorData r p) (r.mark.filter (linesOf addr p.n).contains) x.2

/-- Home cells whose twin link has changed send their unacknowledged mirror writes again, in order, with their timestamps (R78). -/
def moveMirrors (before d : Dev) : Dev :=
  let moved := allCells.filter fun n => twinLink before n != twinLink d n
  if moved = [] then d
  else forEach d.reqs d fun d r =>
    forEach r.parts d fun d p =>
      match p.st with
      | .mirrored ts =>
        if moved.contains p.cell then resendPart d r p ts else d
      | _ => d

/-- The mirror connections of a twin link: index 1 + n for home cell n, v3, tenant 0, READY (R78). -/
def setUpMirror (d : Dev) (p : Nat) : Dev :=
  forEach allCells d fun d n =>
    let k := connKey p (1 + n)
    let g := (getConn d k).gen
    setConn (dropSent d k) k
      { state := .ready, gen := if g = 63 then 1 else g + 1, version := 3, service := .mirror, remoteOrd := twinOrd d, port := p,
        pmtu := 4096, ackPsn := 2 ^ 24 - 1, win := { w := initWin d p 4096 } }

/-! ### Fences (R106) -/

/-- The time a port has been paused joins PORT_CNG_CNT[3] when its last pause ends. -/
def pauseEnds (d : Dev) (p : Nat) : Dev :=
  let q := getPort d p
  match q.pauseFrom with
  | some t => if q.rx = [] then bumpBy (setPort d p { q with pauseFrom := none }) .PORT_CNG_CNT p 3 ((d.now - t) / 1000) else d
  | none => d

/-- The control connection of a port goes with its link (R77). -/
def resetControl (d : Dev) (p : Nat) : Dev := setConn (dropSent d (connKey p 0)) (connKey p 0) {}

/-- A port is fenced (R106): its link drops, queued frames are discarded and counted, the connections of its cell end, mirror traffic moves, and the link
state follows. -/
def fencePort (d : Dev) (p cause cls : Nat) : Dev :=
  let before := d
  let d := dropQueue d p .PORT_CNG_CNT p 6
  let d := pauseEnds (modPort d p fun q => { q with fence := some (cause, cls), link := .down, passed := false, rx := [], xoff := [] }) p
  let d := forEach ((d.conns.map (·.1)).filter fun k => connCell k == p) (resetControl d p) connError
  lsCheck (moveMirrors before (if d.tst.proving = some p then leaveProving d 3 else d))

/-- A fence of the pause watchdog or an XOFF storm: C2 at the port (R105, R106). -/
def pauseFence (d : Dev) (p cause cls : Nat) : Dev :=
  raise (fencePort d p cause cls) { cls := 2, cause := 0x05, unit := uPort p, addr := cls }

/-! ### Pause (R102 to R105) -/

/-- PFC_FRAME_RECEIVED: the PCPs named, but 7, are paused for their quanta or released (R103). -/
def pfcFrameReceived (d : Dev) (m : PfcFrame) : Dev :=
  let p := m.port.val
  let d := bump d .PORT_CNG_CNT p 1
  let d := if m.quanta.any fun x => x.1.val == 7 then bump d .PORT_CNG_CNT p 2 else d
  if !pfcOn d p then d
  else
    let d := forEach (m.quanta.filter fun x => x.1.val != 7) d fun d x =>
      let q := getPort d p
      if x.2.toNat = 0 then setPort d p { q with rx := ndel q.rx x.1.val }
      else
        let since := match nget q.rx x.1.val with
          | some (e, s) => if d.now < e then s else d.now
          | none => d.now
        setPort d p { q with rx := nset q.rx x.1.val (d.now + x.2.toNat * 512 / max 1 q.rateGbps, since), pauseFrom := some (q.pauseFrom.getD d.now) }
    drainPort (pauseEnds d p) p

/-- PAUSE_QUANTA_EXPIRY: the pause of a class has run out (R105). -/
def pauseQuantaExpiry (d : Dev) (p pcp : Nat) : Dev :=
  match nget (getPort d p).rx pcp with
  | some (e, _) => if e ≤ d.now then drainPort (pauseEnds (modPort d p fun q => { q with rx := ndel q.rx pcp }) p) p else d
  | none => d

/-- XOFF_REFRESH: XOFF is repeated every half of its pause time, while the port sends PFC at all (R102, R103, R106). -/
def xoffRefresh (d : Dev) (p g : Nat) : Dev :=
  match nget (getPort d p).xoff g with
  | some (since, next) =>
    if next ≤ d.now ∧ pfcOn d p = true ∧ txOn d p = true then
      bump (sendPfc (modPort d p fun q => { q with xoff := nset q.xoff g (since, d.now + pauseTime d p / 2) }) p g 0xFFFF) .PORT_CNG_CNT p 0
    else d
  | none => d

/-- A limit of 1 to 100 ms. -/
def msLimit (n : Nat) : Nat := ms (clampTo 1 100 n)

/-- The 1 µs tick of the watchdog at which a limit after a time has passed (R105): what the partner sends or F does within the tick is applied first. -/
def tickAfter (t : Nat) : Nat := (t / 1000 + 1) * 1000

/-- PAUSE_WATCHDOG_EXPIRY: a PCP has been held paused without a break for longer than WD_MS (R105). -/
def pauseWatchdogExpiry (d : Dev) (p pcp : Nat) : Dev :=
  match nget (getPort d p).rx pcp with
  | some (_, s) => if pcpPaused d p pcp = true ∧ tickAfter (s + msLimit (cfld d .PORT_PFC_CFG p 23 16)) ≤ d.now ∧ (getPort d p).fence = none then pauseFence d p 1 pcp else d
  | none => d

/-- XOFF_STORM_EXPIRY: the device has held a group's XOFF without a break for longer than STORM_MS (R105). -/
def xoffStormExpiry (d : Dev) (p g : Nat) : Dev :=
  match nget (getPort d p).xoff g with
  | some (s, _) => if tickAfter (s + msLimit (cfld d .PORT_PFC_CFG p 15 8)) ≤ d.now ∧ (getPort d p).fence = none then pauseFence d p 2 g else d
  | none => d

/-- PORT_FENCE_RELEASE: a fence of cause 1 or 2 ends and the port retrains (R106). -/
def portFenceRelease (d : Dev) (w : Writer) (p : Nat) : Dev :=
  command d w .PORT_FENCE p 0 (operator d w) fun d =>
    match (getPort d p).fence with
    | some (c, _) => if c = 1 ∨ c = 2 then lsCheck (modPort d p fun q => { q with fence := none, link := .training }) else d
    | none => d

/-! ### Neighbour identity (R117, R118) -/

def helloMs (d : Dev) : Nat := ms (clampTo 1 50 (hfld d .FAB_CFG 7 0))

/-- NEIGHBOUR HELLO leaves a port (R117). -/
def sendHello (d : Dev) (p : Nat) : Dev :=
  sendCtrl (modPort d p fun q => { q with nextHello := d.now + helloMs d }) 0xE0 p (payload (helloBytes (ordinal d) p (portRole d p) d.fab.topo.digest))

/-- LINK_TRAINED: the port runs at the rate it has trained to, connection index 0 starts anew, and a fabric port sends HELLO (R77, R117). -/
def linkTrained (d : Dev) (p : Nat) (rate : PortRate) : Dev :=
  let q := getPort d p
  if portRole d p = 0 ∨ 4 < portRole d p ∨ isDown d ∨ (q.fence.any fun f => f.1 != 3) = true then d
  else
    let d := setPort d p { q with link := .up, passed := false, lastHello := d.now, doze := {}, bucket := bucketNow d p, bucketAt := d.now, rateGbps := rate.gbps }
    let d := resetControl d p
    if fabricPort d p then
      let far := ((farEnd d (ordinal d) p).map (·.1)).getD (twinOrd d)
      lsCheck (sendHello (setConn d (connKey p 0) { state := .ready, version := 3, service := .control, remoteOrd := far, port := p, ackPsn := 2 ^ 24 - 1 }) p)
    else lsCheck d

/-- LINK_DOWN: the port is marked down, its queued frames are discarded and counted in FAB_CNT[2], and mirror traffic moves (R20, R119). -/
def linkDown (d : Dev) (p : Nat) : Dev :=
  let before := d
  let d := resetControl (dropQueue d p .FAB_CNT 0 2) p
  let d := pauseEnds (modPort d p fun q => { q with link := .down, passed := false, rx := [], xoff := [], doze := {} }) p
  lsCheck (moveMirrors before d)

/-- A port fails its identity check (R118): fenced with cause 3, C2 once per episode, FAB_MISMATCH, and a retry every 1 s. -/
def identityFails (d : Dev) (p cause seen : Nat) : Dev :=
  let again := (getPort d p).episode
  let d := bump (setReg d .FAB_MISMATCH 0 0 (word (at_ cause 29 + at_ seen 8 + p))) .FAB_CNT 0 13
  let d := modPort (fencePort d p 3 0) p fun q => { q with episode := true, retryAt := some (d.now + sec 1), mismatch := some (cause, seen) }
  if again then d else raise d { cls := 2, cause := 0x06, unit := uPort p, addr := seen }

/-- A port passes its identity check: an identity fence ends, its mirror connections are set up on a TWIN port, and it carries traffic (R78, R117, R118). -/
def identityPasses (d : Dev) (p : Nat) : Dev :=
  let before := d
  let q := getPort d p
  let fresh := !q.passed
  let d := setPort d p { q with passed := true, lastHello := d.now, fence := if q.episode then none else q.fence, episode := false, retryAt := none }
  let d := if fresh && portRole d p == 2 then setUpMirror d p else d
  lsCheck (moveMirrors before d)

/-- NEIGHBOUR_HELLO (R117, R118). -/
def neighbourHello (d : Dev) (m : Hello) : Dev :=
  let p := m.port.val
  let (d, ok) := macGate d p m.sec
  if !ok || isDown d || !fabricPort d p || (getPort d p).link != .up then d
  else match farEnd d (ordinal d) p with
    | none => identityFails d p 1 m.ordinal.val
    | some (o, fp, _) =>
      if o ≠ m.ordinal.val ∨ fp ≠ m.sentPort.val then identityFails d p 1 m.ordinal.val
      else if m.role.toNat ≠ portRole d p then identityFails d p 2 m.ordinal.val
      else if m.digest.toNat ≠ d.fab.topo.digest then identityFails d p 3 m.ordinal.val
      else identityPasses d p

/-- HELLO_TIMER: every HELLO_MS on a fabric port whose link is up (R117). -/
def helloTimer (d : Dev) (p : Nat) : Dev :=
  if fabricPort d p && (getPort d p).link == .up && due d (getPort d p).nextHello && !isDown d then sendHello d p else d

/-- HELLO_TIMEOUT: no HELLO within 3 × HELLO_MS on an up link (R118). -/
def helloTimeout (d : Dev) (p : Nat) : Dev :=
  let q := getPort d p
  if fabricPort d p && q.link == .up && decide (q.lastHello + 3 * helloMs d < d.now) && !isDown d then identityFails d p 4 0 else d

/-- IDENTITY_RETRY_TIMER: the port retrains every 1 s (R118). -/
def identityRetryTimer (d : Dev) (p : Nat) : Dev :=
  match (getPort d p).retryAt with
  | some t => if t ≤ d.now then modPort d p fun q => { q with link := .training, retryAt := some (d.now + sec 1) } else d
  | none => d

/-! ### Addresses and hosts (R109 to R111) -/

/-- HOST_ATTACHMENT_EXPIRY: 60 s after the last refresh (R111). -/
def hostAttachmentExpiry (d : Dev) (addr : Nat) : Dev :=
  match nget d.fab.hosts addr with
  | some (_, t) => if due d (t + sec 60) then { d with fab.hosts := ndel d.fab.hosts addr } else d
  | none => d

/-- NEIGHBOUR_SOLICITATION: on a HOST port, any address inside FAB_PREFIX is answered with the port's MAC address (R110); ICMPv6 type 136. -/
def neighbourSolicitation (d : Dev) (p target : Nat) : Dev :=
  if portRole d p = 1 ∧ target / 2 ^ 64 = fabPrefix d ∧ isDown d = false then sendCtrl d 136 p [target, macAddr d p] else d

/-! ### Forwarding (R110 to R112) -/

/-- STAGE of a frame as this device routes it: it has taken one more global hop when it arrived over a GLOBAL link (R112). -/
def stageHere (d : Dev) (f : FwdFrame) : Nat := if portRole d f.port = 1 then 0 else f.stage + (if portRole d f.port = 4 then 1 else 0)

/-- PCP of a forwarded frame (R91): by its kind and stage; a frame without OXH has stage 0. -/
def fwdPcp (f : FwdFrame) (oxh : Bool) (stage : Nat) : Nat := if f.cm then 7 else (if f.response then 3 else 0) + (if oxh then min 2 stage else 0)

/-- The hop limit with which a frame leaves (R54): at most 8 from a HOST port, less one. -/
def hopLimitHere (d : Dev) (f : FwdFrame) : Nat := (if portRole d f.port = 1 then min 8 f.hopLimit.toNat else f.hopLimit.toNat) - 1

/-- The Ethernet and IPv6 fields of a forwarded frame: its own addresses and ECN field (R101, R109, R112). -/
def fwdWire (d : Dev) (f : FwdFrame) (p pcp : Nat) : Wire := ⟨p, pcp, macAddr d p, destMac d p f.dst.toNat, f.src.toNat, f.dst.toNat, hopLimitHere d f, f.ecn⟩

/-- A frame leaves toward device t (R112, R113): hop limit, HOP_COUNT, SRC_ORDINAL or a carrier OXH with its time of arrival, PCP by stage. -/
def forwardTo (d : Dev) (f : FwdFrame) (t : Nat) (buf : Option Nat) : Dev :=
  let role := portRole d f.port
  let host := role = 1
  let stage := stageHere d f
  let hops := (if host ∨ f.oxh = false then 0 else f.hopCount.toNat) + 1
  let pcp := fwdPcp f (f.oxh || role == 1) stage
  if hopLimitHere d f = 0 then dropBuf (bump d .FAB_CNT 0 5) buf
  else if 5 < hops ∨ 2 < stage then dropBuf (bump d .FAB_CNT 0 3) buf
  else
    match flowletHop d (flowKey f.src.toNat f.dst.toNat f.qpn.toNat) (hopSet d (if host then 1 else role) stage t) pcp with
    | (d, .noRoute) => dropBuf (bump d .FAB_CNT 0 2) buf
    | (d, .discard) => dropBuf (bump d .FAB_CNT 0 3) buf
    | (d, .port p _) =>
      let carrier := role == 1 && !f.oxh
      bump (enqueue d p pcp (f.bytes + if carrier then 20 else 0)
        (.forwarded (fwdWire d f p pcp) f carrier stage hops (if host then ordinal d else f.srcOrdinal) (if carrier then fedTime d else 0)) buf) .FAB_CNT 0 0

/-- A frame for a host attached here leaves on the port its address was last seen on (R111). -/
def toHost (d : Dev) (f : FwdFrame) (buf : Option Nat) : Dev :=
  let stage := stageHere d f
  let pcp := fwdPcp f f.oxh stage
  if hopLimitHere d f = 0 then dropBuf (bump d .FAB_CNT 0 5) buf
  else match nget d.fab.hosts f.dst.toNat with
  | some (p, _) => enqueue d p pcp f.bytes (.forwarded (fwdWire d f p pcp) f false stage f.hopCount.toNat f.srcOrdinal 0) buf
  | none => dropBuf (bump d .FAB_CNT 0 15) buf

/-- Where a frame that is not for this device goes (R110 to R113). One to a host address for which no return ordinal is known has no route, FAB_CNT[2] (DESIGN CHOICE: the manual names no counter;
log entry 'A frame to a host without a return ordinal'). -/
def forwardOn (d : Dev) (f : FwdFrame) (buf : Option Nat) : Dev :=
  match parseAddr d f.dst.toNat with
  | .device o => if o = ordinal d then dropBuf d buf else forwardTo d f o buf
  | .pair n =>
    if !f.cm then dropBuf (bump d .FAB_CNT 0 3) buf
    else match nget d.fab.pairs n with
      | some e => if e.valid then (if e.holder = ordinal d then dropBuf d buf else forwardTo d f e.holder buf) else dropBuf (bump d .FAB_CNT 0 2) buf
      | none => dropBuf (bump d .FAB_CNT 0 2) buf
  | .other =>
    match f.ret with
    | some o => if o.val = ordinal d then toHost d f buf else forwardTo d f o buf
    | none => dropBuf (bump d .FAB_CNT 0 2) buf

/-- FORWARD_FRAME: a frame whose destination is neither the device address nor the pair address held here is forwarded, delivered to an attached host, or discarded (R110 to R115). It holds a
buffer of the cell of its port, and one that finds none is discarded (R104); a frame with MIRROR set on a HOST port is discarded too (R70). -/
def forwardFrame (d : Dev) (f : FwdFrame) : Dev :=
  let p := f.port.val
  let role := portRole d p
  if isDown d || role == 0 || role == 2 || 4 < role || !portCarries d p then d
  else if f.mirror then (if role = 1 then bump d .OMT_CNT p 15 else d)
  else
    let d := learnHost (carried d p f.pcp) p f.src.toNat
    match takeBufs d p f.bytes 0x2000 f.cm with
    | some (d, id) => forwardOn d f (some id)
    | none => bump d .PORT_CNG_CNT p 6

/-- A REQ is for this device (R109, R110): it names the device address, or the own pair address unless the twin holds the pair route. -/
def cmForMe (d : Dev) (dst : Nat) : Bool :=
  match parseAddr d dst with
  | .device o => o == ordinal d
  | .pair n => n == pairNo d && (match nget d.fab.pairs n with
    | some e => !(e.valid && e.holder == twinOrd d)
    | none => true)
  | .other => false

/-- CM_REQ (R65, R67, R110): on the management port, or for this device on a port; one for another device is forwarded as a frame of 8 hops. -/
def cmReq (d : Dev) (q : CmReq) : Dev :=
  match q.via with
  | .mgmt => cmReqMgmt d q
  | .port p =>
    let x := cmArrives d p q.pcp q.srcAddr.toNat q.sec
    if x.2 = false then x.1
    else if cmForMe x.1 q.dst.toNat then cmReqHere x.1 q p
    else forwardFrame x.1
      { port := p, sec := q.sec, src := q.srcAddr, dst := q.dst, qpn := 1, response := false, cm := true, mirror := false, ecn := 0, hopLimit := 8,
        oxh := portRole d p != 1, stage := 0, hopCount := 0, srcOrdinal := q.srcOrdinal, ret := none, bytes := ⟨358, by decide⟩, pcp := 7 }

/-- RESIDENCE_EXPIRY: a frame resident at a port for more than 500 µs is discarded at egress and counted (R54). -/
def residenceExpiry (d : Dev) (p : Nat) : Dev :=
  let late (e : Egress) : Bool := decide (e.since + us 500 < d.now)
  let l := (getPort d p).queue.filter late
  bumpBy (forEach l (modPort d p fun q => { q with queue := q.queue.filter fun e => !late e }) fun d e => dropBuf d e.buf) .FAB_CNT 0 4 l.length

end Sys2Proof.Machine
end

