-- ==== Sys2Proof/Machine/Clock.lean ====
section
/-!
DEFINITION. Federation time: the IEEE 1588 messages, the time root election, holdover, slews and steps, PPS (spec/12_time_and_global_ops.md R256 to R264). Times of
messages are 64-bit nanoseconds of TAI.
-/
namespace Sys2Proof.Machine
open Sys2Proof

/-- The domain of the profile (Table TIM-1). -/
def ptpDomain : Nat := 24

/-- A port that carries IEEE 1588: a fabric port that is up, or a HOST port whose link is up (Table TIM-1). -/
def ptpPort (d : Dev) (p : Nat) : Bool :=
  portUp d p || (portRole d p == 1 && (getPort d p).link == .up && (getPort d p).fence.isNone && macCarries d p && !cellFenced d p)

/-- A message is heard: MACsec lets it through, the port carries IEEE 1588, the domain is 24; another domain is counted (TIME_CNT[6]). -/
def ptpHeard (d : Dev) (h : PtpHdr) : Dev × Bool :=
  let (d, ok) := macGate d h.port.val h.sec
  if !ok || isDown d || !ptpPort d h.port.val then (d, false)
  else if h.domain.toNat ≠ ptpDomain then (bump d .TIME_CNT 0 6, false)
  else (d, true)

/-! ### Setting, slewing and stepping (R263, R264) -/

/-- What has been slewed joins the offset. -/
def foldSlew (d : Dev) : Dev :=
  let s := slewed d
  { d with tim.offset := d.tim.offset + s, tim.rem := d.tim.rem - s, tim.slewFrom := d.now }

/-- Federation time is set, the one set that may go backward (Table TIM-2, R262). -/
def setTime (d : Dev) (t : Nat) : Dev :=
  { d with tim.offset := (t : Int) - d.now, tim.rem := 0, tim.slewFrom := d.now, tim.everSet := true, tim.lastStamp := 0, tim.lastSecond := t / 1000000000 }

/-- The uncertainty of a LOCKED device (R259). -/
def lockedU (d : Dev) : Nat := if d.tim.isRoot then 0 else min 25 (8 * d.tim.steps)

/-- The device is LOCKED. -/
def enterLocked (d : Dev) : Dev :=
  let d := foldSlew d
  { d with tim.st := .locked, tim.rem := 0, tim.uBase := lockedU d, tim.uFrom := d.now, tim.everSet := true }

/-- HOLDOVER begins: u grows from its current value (R260, TIME_CNT[0]). -/
def enterHoldover (d : Dev) : Dev :=
  let u := uncertainty d
  let d := foldSlew d
  bump { d with tim.st := .holdover, tim.rem := 0, tim.stepPending := 0, tim.uBase := u, tim.uFrom := d.now } .TIME_CNT 0 0

/-- An offset measured after HOLDOVER, or by a root against PPS, is slewed or waits for a step (R263). -/
def applyOffset (d : Dev) (off : Int) : Dev :=
  let d := foldSlew d
  if off ≤ 10000 then { d with tim.st := .slewing, tim.rem := off, tim.slewFrom := d.now }
  else { d with tim.st := .stepPending, tim.stepPending := off, tim.rem := 0 }

/-- The servo of LOCKING and LOCKED (DESIGN CHOICE): it slews toward the offset last measured. -/
def steer (d : Dev) (off : Int) : Dev :=
  let d := foldSlew d
  { d with tim.rem := off }

/-! ### The time root (R258) -/

/-- The clock class this device announces for itself. -/
def ownClass (d : Dev) : Nat := if d.tim.pps.locked then 6 else 248

/-- What this device announces of itself. -/
def ownAnn (d : Dev) : AnnInfo := ⟨ownClass d, ordinal d, 0, 0, d.tim.utcOffset⟩

/-- One Announce is better than another: class, ordinal, steps. -/
def annBetter (a b : AnnInfo) : Bool :=
  decide (a.cls < b.cls) || (a.cls == b.cls && (decide (a.ordinal < b.ordinal) || (a.ordinal == b.ordinal && decide (a.steps < b.steps))))

/-- announceReceiptTimeout: 3 intervals of 62.5 ms. -/
def annTimeout : Nat := 187500000

/-- The best Announce that has not timed out, with its port; the lower port on a tie. -/
def bestAnnounce (d : Dev) : Option (Nat × AnnInfo) :=
  (d.tim.best.filter fun p => portUp d p.1 && decide (d.now < p.2.at_ + annTimeout)).foldl (fun (b : Option (Nat × AnnInfo)) p => match b with
    | none => some p
    | some x => if annBetter p.2 x.2 then some p else b) none

/-- The clock identity of an ordinal (R258). -/
def clockIdentity (o : Nat) : Nat := 0xA1 * 2 ^ 56 + o

/-- Announce leaves a port: priorities, class, accuracy, variance, the root's identity, steps, currentUtcOffset. -/
def sendAnnounce (d : Dev) (p : Nat) : Dev :=
  let cls := if d.tim.isRoot then ownClass d else match d.tim.slave.bind fun s => nget d.tim.best s with
    | some a => a.cls
    | none => ownClass d
  let root := if d.tim.isRoot ∨ d.tim.slave = none then ordinal d else d.tim.root
  sendCtrl d ptpAnnounce p [128, 128, cls, 0xFE, 0xFFFF, clockIdentity root, d.tim.steps, d.tim.utcOffset]

/-- Announce leaves every fabric port that is up, except one. -/
def announceAll (d : Dev) (except_ : Nat) : Dev := forEach (allCells.filter fun p => portUp d p && p != except_) d sendAnnounce

/-- The device becomes the root (Table TIM-2): out of FREERUN it counts from the Vault real-time record, else from 0 s of TAI; otherwise its time continues. -/
def becomeRoot (d : Dev) : Dev :=
  let was := d.tim.isRoot
  let d := if d.tim.st = .freerun then setTime d (d.tim.vaultTime.getD 0 * 1000000000) else d
  let d := enterLocked { d with tim.isRoot := true, tim.root := ordinal d, tim.steps := 0, tim.slave := none, tim.electing := none, tim.stepPending := 0 }
  if was then d else announceAll (bump d .TIME_CNT 0 2) 256

/-- The device follows the master of a port, whose currentUtcOffset it passes on (Table TIM-1). A new root is counted (TIME_CNT[2]). -/
def follow (d : Dev) (p : Nat) (a : AnnInfo) : Dev :=
  let new := d.tim.isRoot || d.tim.slave.isNone || d.tim.root != a.ordinal
  let d := { d with tim.isRoot := false, tim.root := a.ordinal, tim.steps := a.steps + 1, tim.slave := some p, tim.electing := none, tim.utcOffset := a.utc,
                    tim.lastSync := if d.tim.slave = some p then d.tim.lastSync else d.now }
  let d := if d.tim.st = .locked then { d with tim.uBase := lockedU d } else d
  if new then bump d .TIME_CNT 0 2 else d

/-- An election among the Announces at hand and the device itself; a device with no fabric port up never elects itself (R258). -/
def elect (d : Dev) : Dev :=
  match bestAnnounce d with
  | some (p, a) => if annBetter a (ownAnn d) then follow d p a else becomeRoot d
  | none =>
    if standalone d || allCells.any (portUp d) then becomeRoot d
    else
      let d := { d with tim.isRoot := false, tim.slave := none, tim.electing := none }
      if d.tim.st = .holdover then d else enterHoldover d

/-- The election of the start order begins (R258): Announce leaves every fabric port at once. A standalone device is its own root. In FREERUN u is a free value until time is set: no rule
gives it. -/
def startElection (d : Dev) : Dev :=
  let d := { d with tim.electing := some d.now }
  if standalone d then becomeRoot d else announceAll (if d.tim.st = .freerun then freeStep { d with tim.uBase := freeVal d % 2 ^ 32 } else d) 256

/-- The root is known. -/
def rootKnown (d : Dev) : Bool := d.tim.electing.isNone && (d.tim.isRoot || d.tim.slave.isSome)

/-- The device sends Announce on its fabric ports: until the election of its start is over in every state, and after that unless it is in HOLDOVER, SLEWING, STEP_PENDING or FREERUN and not the
root (R257, R258). -/
def mayAnnounce (d : Dev) : Bool := decide (d.ldr.step ≤ 8) || d.tim.isRoot || d.tim.st == .locked || d.tim.st == .locking

/-- ANNOUNCE (R257, R258): one from a HOST port is discarded, as is one that names this device. A better master is followed at once, and the improvement relayed. -/
def announceReceived (d : Dev) (h : PtpHdr) (cls ord steps utc : Nat) : Dev :=
  match ptpHeard d h with
  | (d, false) => d
  | (d, true) =>
    let p := h.port.val
    if portRole d p = 1 ∨ ord = ordinal d then d
    else
      let d := { d with tim.best := nset d.tim.best p ⟨cls, ord, steps, d.now, utc⟩ }
      match bestAnnounce d with
      | none => d
      | some (q, a) =>
        let own := d.tim.isRoot || d.tim.electing.isSome
        if own && !annBetter a (ownAnn d) then d
        else if !own && d.tim.slave.isNone then d
        else
          let changed := d.tim.slave != some q || d.tim.root != a.ordinal || d.tim.steps != a.steps + 1
          let d := follow d q a
          if changed && mayAnnounce d then announceAll d q else d

/-- ANNOUNCE_TIMEOUT: the best Announce has timed out (R258). -/
def announceTimeout (d : Dev) : Dev :=
  match d.tim.slave with
  | none => d
  | some p =>
    if (nget d.tim.best p).any fun a => decide (d.now < a.at_ + annTimeout) then d
    else
      let d := { d with tim.best := ndel d.tim.best p, tim.slave := none }
      if allCells.any (portUp d) then elect d else d

/-! ### Sync and delay (R256, R257, Table TIM-2) -/

/-- SYNC: the master's time at sending. Only the slave port's counts. -/
def syncReceived (d : Dev) (h : PtpHdr) (origin : Nat) : Dev :=
  match ptpHeard d h with
  | (d, false) => d
  | (d, true) =>
    let p := h.port.val
    let now := fedTime d
    let d := { d with tim.syncT := nset d.tim.syncT p (origin, now) }
    if d.tim.isRoot ∨ d.tim.slave ≠ some p then d
    else
      let d := { d with tim.lastSync := d.now }
      let target := origin + ngetD d.tim.pathDelay p 0
      let off : Int := (target : Int) - now
      match d.tim.st with
      | .freerun => freeStep { setTime d target with tim.st := .locking, tim.good := 0, tim.uBase := freeVal d % 2 ^ 32 }
      | .locking =>
        let good := if off.natAbs ≤ 100 then d.tim.good + 1 else 0
        let d := steer { d with tim.good := good } off
        if 16 ≤ good then enterLocked d else d
      | .locked => steer d off
      | .holdover => applyOffset d off
      | .slewing => d
      | .stepPending => d

/-- SYNC_LOSS_EXPIRY: no Sync on the slave port for 250 ms (Table TIM-2, R260). -/
def syncLossExpiry (d : Dev) : Dev :=
  if (d.tim.st == .locked || d.tim.st == .slewing) && !d.tim.isRoot && due d (d.tim.lastSync + 250000000) then enterHoldover d else d

/-- DELAY_REQ: answered in every time state (R257). -/
def delayReq (d : Dev) (h : PtpHdr) : Dev :=
  match ptpHeard d h with
  | (d, false) => d
  | (d, true) => sendCtrl d ptpDelayResp h.port.val [fedTime d]

/-- DELAY_REQ_TIMER: 62.5 ms on the slave port (R256). -/
def delayReqTimer (d : Dev) : Dev :=
  match d.tim.slave with
  | some p =>
    if due d d.tim.nextDelay && !isDown d then
      sendCtrl { d with tim.nextDelay := d.now + 62500000, tim.delayT1 := nset d.tim.delayT1 p (fedTime d) } ptpDelayReq p [fedTime d]
    else d
  | none => d

/-- DELAY_RESP: the mean path delay of the port (R256). -/
def delayResp (d : Dev) (h : PtpHdr) (arrival : Nat) : Dev :=
  match ptpHeard d h with
  | (d, false) => d
  | (d, true) =>
    let p := h.port.val
    match nget d.tim.syncT p, nget d.tim.delayT1 p with
    | some (t1, t2), some t3 =>
      { d with tim.pathDelay := nset d.tim.pathDelay p ((((t2 : Int) - t1) + ((arrival : Int) - t3)) / 2).toNat, tim.delayT1 := ndel d.tim.delayT1 p }
    | _, _ => d

/-- A port on which Sync and Announce leave: any for a LOCKED device or the root, and a fabric port in LOCKING too (R257). -/
def masterPort (d : Dev) (p : Nat) : Bool := ptpPort d p && d.tim.slave != some p && (d.tim.isRoot || d.tim.st == .locked || (d.tim.st == .locking && portRole d p != 1))

/-- SYNC_TIMER: every 62.5 ms Sync and Announce leave the master ports (R256, R257). -/
def syncTimer (d : Dev) : Dev :=
  if due d d.tim.nextSync && !isDown d then
    forEach (allCells.filter (masterPort d)) { d with tim.nextSync := d.now + 62500000 } fun d p =>
      sendAnnounce (sendCtrl d ptpSync p [fedTime d]) p
  else d

/-! ### PPS and the seconds count (R261, R262) -/

/-- The phase of a time against the nearest whole second, in ns. -/
def phaseErr (t : Nat) : Int :=
  let r := t % 1000000000
  if r < 500000000 then (r : Int) else (r : Int) - 1000000000

/-- PPS_IN_EDGE: a rising edge of a pulse of `width` ns. Eight in a row 1 s ± 1 µs apart lock; at a PPS-locked root that has opened service its error is slewed or stepped, and a written
time of day takes effect (R262, R263). -/
def ppsInEdge (d : Dev) (width : Nat) : Dev :=
  if !fbit (hreg d .TIME_PPS_CFG) 31 || width < 1000 || 500000000 < width || d.pwr.state == .off then d
  else
    let t := fedTime d - hfld d .TIME_PPS_CFG 15 0
    let pps := d.tim.pps
    let gap := match pps.last with
      | some l => d.now - l
      | none => 0
    let off := (phaseErr gap).natAbs
    let inWin := pps.last.isSome && decide (off ≤ 1000) && (if pps.locked then decide (500000000 ≤ gap) else decide (gap ≤ 1500000000))
    let pps := if inWin then { pps with good := pps.good + 1, last := some d.now }
      else if pps.locked then pps else { pps with good := 1, last := some d.now }
    let pps := { pps with locked := pps.locked || decide (8 ≤ pps.good), err := phaseErr t }
    let d := { d with tim.pps := pps }
    if d.tim.isRoot && pps.locked && (inWin || pps.good == 8) then
      match d.tim.todPending with
      | some s => applyOffset { d with tim.todPending := none } ((s * 1000000000 : Nat) - (t : Int))
      | none => if phaseErr t = 0 ∨ d.tim.st ≠ .locked then d else applyOffset d (- phaseErr t)
    else d

/-- PPS_LOSS: edges missing or out of window for 3 s (R262). -/
def ppsLoss (d : Dev) : Dev :=
  match d.tim.pps.last with
  | some l => if d.tim.pps.locked && due d (l + sec 3) then { d with tim.pps := { d.tim.pps with locked := false, good := 0 } } else d
  | none => d

/-- WHOLE_SECOND: PPS_OUT rises, a pending step is made, and a written time of day takes effect at a root that is not PPS-locked (R261 to R264). -/
def wholeSecond (d : Dev) : Dev :=
  let s := fedTime d / 1000000000
  if s ≤ d.tim.lastSecond ∨ d.pwr.state = .off then d
  else
    let width := if d.tim.st = .locked then 10000 else 100000
    let d := { d with tim.lastSecond := s }
    let d := if fbit (hreg d .TIME_PPS_CFG) 30 && d.tim.everSet then sendCtrl { d with tim.ppsOut := width } ppsPulse 0 [s, width]
      else { d with tim.ppsOut := 0 }
    let d : Dev := match d.tim.todPending with
      | some t => if d.tim.isRoot && !d.tim.pps.locked then applyOffset { d with tim.todPending := none } ((t * 1000000000 : Nat) - ((s * 1000000000 : Nat) : Int)) else d
      | none =>
        if d.tim.st = .stepPending then
          let d := foldSlew d
          bump { d with tim.offset := d.tim.offset + d.tim.stepPending, tim.stepPending := 0, tim.rem := 0, tim.slewFrom := d.now, tim.st := .slewing } .TIME_CNT 0 1
        else d
    { d with tim.lastSecond := fedTime d / 1000000000 }

/-- SLEW_COMPLETE: nothing is left to slew (Table TIM-2). -/
def slewComplete (d : Dev) : Dev := if d.tim.st = .slewing ∧ d.tim.rem = slewed d then enterLocked d else d

/-- TIME_TOD_WRITE: word 1 of TIME_TOD_CFG (R262). A root that has not opened service sets the time at once. -/
def timeTodWrite (d : Dev) (w : Writer) (v : Nat) : Dev := command d w .TIME_TOD_CFG 0 1 (operator d w) fun d =>
  if !d.tim.isRoot then d
  else
    let s := cfld d .TIME_TOD_CFG 0 15 0 * 2 ^ 32 + v
    let d := { d with tim.utcOffset := cfld d .TIME_TOD_CFG 0 31 16 }
    if d.ldr.step = 15 then { d with tim.todPending := some s } else setTime d (s * 1000000000)

end Sys2Proof.Machine
end

