-- ==== Sys2Proof/Machine/Commit.lean ====
section
/-!
DEFINITION. Committing the shadows, and what a commit does beside copying them (spec/12_time_and_global_ops.md R279, R280, R283, spec/19_register_reference.md R407 to R409,
spec/06_federation_fabric.md R107, spec/14_security.md R320).
-/
namespace Sys2Proof.Machine
open Sys2Proof

/-- The register and the cell of a key of `regs`. -/
def keyReg (k : Nat) : Option RegId := allRegs.find? fun r => r.ctorIdx == k / (256 * 8192)
def keyCell (k : Nat) : Nat := k / 8192 % 256

/-- The key belongs to a register of a fenced cell. -/
def keyFenced (d : Dev) (k : Nat) : Bool := (keyReg k).any (fun r => (regInfo r).hub.isNone) && cellFenced d (keyCell k)

/-- One shadow is copied to the committed values, or for a fenced cell into the set that the hub keeps (R279, R280). -/
def commitOne (d : Dev) (k : Nat) (v : Word) : Dev :=
  if keyFenced d k then { d with kept := nset d.kept k v } else { d with regs := nset d.regs k v }

/-- A port whose role changes retrains, its cell's connections end, and a fabric port repeats its check; it leaves PROVING (R107, R383). -/
def roleChanged (d : Dev) (p : Nat) : Dev :=
  let before := d
  let d := modPort (resetControl (dropQueue d p .FAB_CNT 0 2) p) p fun q => { q with link := .training, passed := false, rx := [], xoff := [], doze := {} }
  let d := forEach ((d.conns.map (·.1)).filter fun k => connCell k == p) d connError
  lsCheck (moveMirrors before (if d.tst.proving = some p then leaveProving d 4 else d))

/-- MKA starts again on a port whose PORT_MACSEC_CFG changes (R320). -/
def restartMka (d : Dev) (p : Nat) : Dev := setMka (endMka d p) p { nextHello := d.now }

/-- The mode that TIME_MODE_ADOPT armed is adopted with the registers, and BEHIND ends (R283). -/
def adoptMode (d : Dev) : Dev :=
  match d.mode.adopt with
  | some (g, e) => { d with mode.gen := g, mode.epoch := e, mode.adopt := none, mode.behind := false }
  | none => d

/-- What has been slewed, and what u has grown by, at the rates that a commit may change (R260, R263). -/
def foldRates (d : Dev) : Dev :=
  let d := if d.tim.st = .holdover then { d with tim.uBase := uncertainty d, tim.uFrom := d.now } else d
  foldSlew d

/-- A commit (R279, R280): at one tick every shadow becomes a committed value and the generation advances by 1. -/
def commitAll (d : Dev) : Dev :=
  let d := foldRates d
  let old := d
  let d := { forEach d.shadow d fun d p => commitOne d p.1 p.2 with shadow := [], mode.commitPending := false }
  let d := adoptMode (bump d .HUB_COMMIT_GEN 0 0)
  let d := forEach (allCells.filter fun p => portRole d p != portRole old p) d roleChanged
  let d := forEach (allCells.filter fun p => reg d .PORT_MACSEC_CFG p 0 != reg old .PORT_MACSEC_CFG p 0) d restartMka
  forEach (allCells.filter fun c => (reg d .PORT_PFC_CFG c 0 != reg old .PORT_PFC_CFG c 0) || [0, 1, 2].any fun g => reg d .POOL_PFC c g != reg old .POOL_PFC c g) d pfcUpdate

/-- A cell takes the committed values that the hub kept for it, before its fence is released (R280). -/
def takeKept (d : Dev) (c : Nat) : Dev :=
  let mine (k : Nat) : Bool := keyCell k == c && (keyReg k).any fun r => (regInfo r).hub.isNone
  { d with regs := (d.kept.filter fun p => mine p.1).foldl (fun m p => nset m p.1 p.2) d.regs, kept := d.kept.filter fun p => !mine p.1 }

/-- A MODE_COMMIT entry is POSTED. -/
def modePosted (d : Dev) : Bool := d.cal.ents.any fun p => p.2.state == .posted && p.2.kind == 1

/-- COMMIT: a write of HUB_COMMIT (R279, R407, R408). While an earlier one is pending the two are joined. -/
def commitWrite (d : Dev) (w : Writer) (v : Word) : Dev := command d w .HUB_COMMIT 0 0 (operator d w && !modePosted d) fun d =>
  let s := hreg d .HUB_COMMIT_STATUS
  if !fbit v 31 then d
  else if d.pwr.state = .flushing ∨ d.pwr.state = .halted then setReg d .HUB_COMMIT_STATUS 0 0 (s ||| word (2 ^ 30))
  else if d.mode.commitPending then setReg d .HUB_COMMIT_STATUS 0 0 (word (at_ (fld s 31 8) 8 + sat (fld s 7 0 + 1) 255))
  else { d with mode.commitPending := true }

/-- SHADOW_COMMIT_TICK: the tick of a pending commit (R407). -/
def shadowCommitTick (d : Dev) : Dev :=
  if !d.mode.commitPending then d
  else if d.pwr.state = .flushing ∨ d.pwr.state = .halted then { d with mode.commitPending := false }
  else commitAll d

end Sys2Proof.Machine
end

