-- ==== Sys2Proof/Machine/Persist.lean ====
section
/-!
DEFINITION. The persistence domain: dirty credits and waits, power failure, and the replay of a sump set (spec/07_persistence.md R124 to R147).
-/
namespace Sys2Proof.Machine
open Sys2Proof

/-- Cells in service without an armed sump set (R133). -/
def unarmedCells (d : Dev) : Nat := (allCells.filter fun c => !cellFenced d c && !hasArmed d c).length

/-- The level of HOLDUP_OK (R133). -/
def holdupOk (d : Dev) : Bool := (inService3 d && unarmedCells d == 0) || d.pwr.state == .flushing

/-! ### Start and power failure (R134, R135, R138) -/

/-- Every rail but the always-on one goes off; FAILED and SKIPPED rails keep their state until the next start (R347, R352). -/
def railsOff (d : Dev) (keep30 : Bool) : Dev :=
  { d with pwr.rails := d.pwr.rails.map fun p =>
      (p.1, if p.1 = 31 ∨ (keep30 ∧ p.1 = 30) then p.2
            else if p.2.st = .up then { p.2 with st := .off, enabledAt := none } else { p.2 with enabledAt := none }) }

/-- A set that was being replayed holds on, and is replayed at the next start (Table PER-4). -/
def holdAgain (s : SumpSet) : SumpSet := if s.state = .replaying then { s with state := .holding } else s

/-- A start that ends without a flush (R138): the device stops accepting, sequences down, and HOLDUP_OK is low. -/
def abandonStart (d : Dev) : Dev :=
  railsOff { d with pwr.state := .halted, pwr.move := none, pwr.latched := none, reqs := [],
                    per.sump := d.per.sump.map fun p => (p.1, holdAgain p.2.1, holdAgain p.2.2) } false

/-- A running operation of the Vault suspended: its pulse is cut and does not count (R143, R399). -/
def vaultCut (o : VaultOp) : VaultOp := { o with suspended := true, pulses := o.pulses - 1 }

/-- A request that a flush still carries out: a write or an atomic on its way to its home cells (R135). -/
def flushed (r : Req) : Bool := r.stage == .issued && (r.kind == .write || r.kind == .cas || r.kind == .faa || r.kind == .mirrorWrite || r.kind == .copy)

/-- Steps 1 and 2 of R135: ports stop, connections end, writes and atomics on their way are applied, merging buffers drain. -/
def lastWrites (d : Dev) : Dev :=
  let d := endConns (leaveProving d 5)
  let d := pump { d with reqs := d.reqs.filter flushed }
  forEach (d.tier.alc.map (·.1)) d drainCell

/-- The name under which a cipher engine knows the sump writes of its cell. -/
def sumpWork : Nat := 2 ^ 61

/-- Each live cell with dirty lines moves them through a buffer, for which the reserve is open (R27), and the encryption class of its cipher engine (R35). -/
def flushBuffers (d : Dev) : Dev :=
  forEach (allCells.filter fun c => flushCapable d c && decide (0 < dirtyCount d c)) d fun d c =>
    match takeBufs d c 16384 0x1004 true with
    | some x => submitCipher x.1 c 1 { id := sumpWork, slot := mediaKey, segments := ceilDiv (dirtyCount d c) 8, buf := some x.2 }
    | none => d

/-- A SerDes rail is switched off as the ports stop (R352). -/
def serDesOff (d : Dev) (n : Nat) : Dev := if (getRail d n).st = .up then setRail d n { getRail d n with st := .off, mv := 0, mw := 0 } else d

/-- Entering FLUSHING (R135, R143): the last writes are applied, everything else that waits is dropped, a Vault operation is suspended, media work and promotions are dropped, and each live
cell opens its armed sump set. -/
def beginFlush (d : Dev) (kind : FlushKind) : Dev :=
  let d := lastWrites { d with per.falling := none }
  let d := { d with reqs := [], tier.promos := [], tier.frames := keepFrames d.tier.frames, hbm := nmap d.hbm wakeHbm, med := nmap d.med (stopMedia d.now),
                    res.bufs := d.res.bufs.filter fun b => b.2.leaked, res.waits := [], res.eng := [], vlt.op := d.vlt.op.map vaultCut, vlt.inner := d.vlt.inner.map vaultCut,
                    snap.holds := [], snap.paused := [], bulk := {}, act.run := none, act.relays := [], act.ready := [], tier.verifs := [], pwr.state := .flushing, pwr.move := none, pwr.latched := none, pwr.maint := false, pwr.down := 0, pwr.downAt := d.now, pwr.downFail := 0 }
  let counts := allCells.map (dirtyCount d)
  let d := { d with per.flush := some { kind := kind, fall := fedTime d, began := d.now, dirtyLines := counts.foldl (· + ·) 0,
                                        maxCell := counts.foldl max 0 },
                    log.jrn.flushDropped := 0 }
  flushBuffers (forEach allCells (forEach [16, 17, 18, 19] d serDesOff) openSump)

/-- A flush that a fault asked for begins (R366). -/
def fallNow (d : Dev) : Dev :=
  match d.per.falling with
  | some k => if inService3 d then beginFlush d k else { d with per.falling := none }
  | none => d

/-- What a recognised power failure does in each state (R138). -/
def powerFail (d : Dev) (kind : FlushKind) : Dev :=
  match d.pwr.state with
  | .service | .quiet | .dormant => beginFlush d kind
  | .starting => abandonStart d
  | .flushing | .halted | .off => d

/-- POWER_FAIL_N_FALL (R135, R138). -/
def powerFailNFall (d : Dev) : Dev := powerFail { d with pwr.powerFailN := false } .powerFail

/-- INPUT_UNDERVOLTAGE (R134, R350): counted; without a prior fall of POWER_FAIL_N a C3 fault, and then as a power failure with cause 2. -/
def inputUndervoltage (d : Dev) (mv10 : Nat) : Dev :=
  if d.pwr.state = .off then d
  else
    let d := bump { d with pwr.inputMv := mv10 * 10, pwr.inputGood := false } .PWR_CNT 0 7
    if d.pwr.powerFailN then powerFail (raise d { cls := 3, cause := 0x03, unit := uHub 7, addr := mv10 } .stay) .undervoltage else d

/-! ### Dirty credits (R129) -/

/-- A whole credit in lines. -/
def creditLines : Nat := 16 * 8192

/-- The credits granted to all cells, in lines. -/
def grantedLines (d : Dev) : Nat := d.per.dirtyCredit.foldl (fun n p => n + p.2) 0

/-- Writes waiting for dirty space or staging at a cell are tried again. -/
def wakeDirty (d : Dev) (c : Nat) : Dev :=
  pump (requeue d fun _ p => p.cell == c && (match p.st with
    | .waitDirty _ => true
    | .waitStaging _ => true
    | _ => false))

/-- DIRTY_CREDIT_REQUEST: the cell asks the hub for a credit when its unused credit is below 4 MiB, once. -/
def dirtyCreditRequest (d : Dev) (c : Nat) : Dev := if inService3 d then askDirty d c else d

/-- DIRTY_CREDIT_GRANT: the hub serves the oldest request: a whole credit, or the part that brings the cell to exactly CELL_MIB, while the credits
granted stay within DEV_GIB. A cell at CELL_MIB gets none. -/
def dirtyCreditGrant (d : Dev) : Dev :=
  match d.per.creditAsks with
  | [] => d
  | c :: rest =>
    let have0 := dirtyCreditOf d c
    let n := min creditLines (cellMib d * 8192 - have0)
    if n = 0 then { d with per.creditAsks := rest }
    else if devGib d * 1024 * 8192 < grantedLines d + n then d
    else wakeDirty { d with per.creditAsks := rest, per.dirtyCredit := nset d.per.dirtyCredit c (have0 + n) } c

/-- DIRTY_CREDIT_RETURN: a cell whose unused credit exceeds 20 MiB returns one, a part credit first. -/
def dirtyCreditReturn (d : Dev) (c : Nat) : Dev :=
  let have0 := dirtyCreditOf d c
  if dirtyCount d c + 20 * 8192 < have0 then
    let n := if have0 % creditLines = 0 then creditLines else have0 % creditLines
    { d with per.dirtyCredit := nset d.per.dirtyCredit c (have0 - n) }
  else d

/-! ### Waits (R130, R131) -/

/-- A part's wait for dirty space or staging has run out; those of the twin never do. -/
def dirtyWaitOver (d : Dev) (c : Nat) (r : Req) (p : Part) : Bool :=
  p.cell == c && !fromTwin r.kind && (match p.st with
    | .waitDirty t => due d t
    | .waitStaging t => due d t
    | _ => false)

/-- DIRTY_WAIT_EXPIRY: each write or atomic at the cell whose wait has run out completes BUSY with nothing changed, counted in CELL_FLUSH_CNT[3]. -/
def dirtyWaitExpiry (d : Dev) (c : Nat) : Dev :=
  let n := (d.reqs.filter fun r => r.parts.any (dirtyWaitOver d c r)).length
  let overOf (r : Req) (p : Part) : Part := if dirtyWaitOver d c r p then { p with st := .failed stBusy } else p
  pump (bumpBy { d with reqs := d.reqs.map fun r => { r with parts := r.parts.map (overOf r) } } .CELL_FLUSH_CNT c 3 n)

/-- A change at the custodian whose mirror has not been acknowledged within STALL_MS of its application (R131). -/
def mirrorLate (d : Dev) (p : Part) : Bool :=
  match p.st with
  | .mirrored _ => decide (p.since + stallMs d ≤ d.now)
  | _ => false

/-- MIRROR_ACK_STALL_EXPIRY: in a pair without a witness such requests complete UNAVAILABLE; they stay applied, and the mirror frame stays outstanding. -/
def mirrorAckStallExpiry (d : Dev) : Dev :=
  if d.cus.witness.isSome then d
  else
    pump { d with reqs := d.reqs.map fun r =>
      if r.parts.any (mirrorLate d) && (match r.stage with
        | .over _ => false
        | _ => true) then { r with stage := .over stUnavailable } else r }

/-! ### Replay (R141, R142, R146, R147) -/

/-- A closed set of the flush that a start looks for. -/
def closedFor (owed : Nat) (s : SumpSet) : Bool := s.state == .holding && s.closed && !s.disregarded && s.startCount == owed

/-- A cell without a close record of the last flush is incomplete, unless R140 covers it. -/
def incompleteCell (d : Dev) (c : Nat) : Bool :=
  match d.per.owed with
  | none => false
  | some n => !d.per.railCells.contains c && !closedFor n (getSump d c).1 && !closedFor n (getSump d c).2

/-- The set a cell replays: the holding one with the higher start count (R146, Table PER-4); true names set 1. -/
def replaySet (p : SumpSet × SumpSet) : Option Bool :=
  let h0 := p.1.state == .holding
  let h1 := p.2.state == .holding
  if h0 && h1 then some (decide (p.1.startCount < p.2.startCount)) else if h0 then some false else if h1 then some true else none

/-- The sets of a cell as the replay begins: one REPLAYING, another holding one ERASING; sets that R140 disregards are erased. -/
def startReplay (p : SumpSet × SumpSet) : SumpSet × SumpSet :=
  let f (mine : Bool) (s : SumpSet) : SumpSet :=
    if s.state = .holding then { s with state := if replaySet p = some mine ∧ s.disregarded = false then .replaying else .erasing } else s
  (f false p.1, f true p.2)

/-- The set being replayed. -/
def replaying (p : SumpSet × SumpSet) : Option SumpSet :=
  if p.1.state = .replaying then some p.1 else if p.2.state = .replaying then some p.2 else none

/-- A replayed line is in T1 and dirty again (R146). -/
def restoreLine (d : Dev) (l : Nat) : Dev :=
  let k := l / 128
  let f := match getFrame d k with
    | some f => some f
    | none => (freeSlot d (homeOf k)).map fun s => { slot := s, st := .modified }
  match f with
  | none => d
  | some f =>
    setFrame { d with cured := if blanketed d k = true ∧ ¬ d.poison.contains l then sinsert d.cured l else d.cured } k (modifyFrame f d.now [l % 128])

/-- The bytes of a line become free values: the spec gives no contents for them until a resync has replaced them (R141, R147). -/
def freeLine (d : Dev) (l : Nat) : Dev :=
  let n := freeVal d
  freeStep { d with mem := memWrite d.mem (lineAddr l) ((List.range 128).map fun i => BitVec.ofNat 8 (n >>> (8 * i))) }

/-- The pull list takes a page: resync takes the twin's copy whatever divergence says (R147, R248). No entry is made for a region marked in the device's
own region bits, and a list of 32,768 entries gives way to the whole-cell flag. -/
def pullPage (d : Dev) (k : Nat) : Dev :=
  let key := regionKey k
  if nhas d.cus.marks key then d
  else if !nhas d.cus.pull key && decide (32768 ≤ (d.cus.pull.filter fun p => p.1 / 2 ^ 40 == homeOf k).length) then
    { d with cus.wholePull := sinsert d.cus.wholePull (homeOf k) }
  else { d with cus.pull := nset d.cus.pull key (sinsert (ngetD d.cus.pull key []) k) }

/-- A line reads POISONED after a loss until a write covers it, whatever its T2 copy says (R89, R147): what a promotion brings, and what eviction leaves, is as poisoned as the line. -/
def markLost (d : Dev) (l : Nat) : Dev := setPoison { d with tier.t2p := sinsert d.tier.t2p l } l

/-- A lost line (R147): poisoned, and in a Mirrored chamber entered in the pull list, so that resync takes the twin's copy (R248). -/
def loseLine (d : Dev) (l : Nat) : Dev :=
  match classOfPage d (l / 128) with
  | .mirrored => pullPage (markLost d l) (l / 128)
  | .localC => markLost d l
  | _ => d

/-- Chambers of a class. -/
def chambersOf (d : Dev) (f : ChmClass → Bool) : List Nat := (d.chm.chambers.filter fun p => f p.2.cls).map (·.1)

/-- What an incomplete cell costs (R126, R141): every Mirrored page of the cell is pulled from the twin, every line of Local and Reference chambers, and of Mirrored ones that this twin ran
Solo, that is not restored reads POISONED, and a C4 names the cell with the dirty count of its opening record. -/
def loseCell (d : Dev) (c : Nat) : Dev :=
  let p := getSump d c
  let lost := d.per.atLoss.filter fun l => homeOf (l / 128) == c && classOfPage d (l / 128) == .mirrored && !p.1.lines.contains l && !p.2.lines.contains l
  let opening := [p.1, p.2].find? fun s => s.opened && d.per.owed == some s.startCount
  let d := forEach lost d freeLine
  let ks := (chambersOf d fun x => x == .localC || x == .reference || (x == .mirrored && d.cus.solo)).map fun n => c * 2 ^ 16 + n
  let d := { d with blanket := ks.foldl (fun m n => nset m n (((nget d.chm.chambers (n % 2 ^ 16)).map (·.pages)).getD 0)) d.blanket, cured := d.cured.filter fun l => homeOf (l / 128) != c,
                    cus.wholePull := sinsert d.cus.wholePull c }
  let n := (opening.map (·.dirtyCount)).getD 0
  raise d { cls := 4, cause := 0x17, unit := uCell c, addr := n, detail := [n] }

/-- The credits granted at the end of the replay, in two passes (R146). -/
def replayCredits (d : Dev) : Dev :=
  let d := forEach allCells d fun d c =>
    let n := ceilDiv (dirtyCount d c) creditLines * creditLines
    if n = 0 then d else { d with per.dirtyCredit := nset d.per.dirtyCredit c n }
  forEach allCells d fun d c =>
    let have0 := dirtyCreditOf d c
    let n := min creditLines (cellMib d * 8192 - have0)
    if have0 < dirtyCount d c + 4 * 8192 ∧ grantedLines d + n ≤ devGib d * 1024 * 8192 ∧ n ≠ 0 then
      { d with per.dirtyCredit := nset d.per.dirtyCredit c (have0 + n) }
    else d

/-- Replay and poison of one cell (R146, R147). `bad` are the lines of sump pages that could not be decoded. Metadata lines are dirty again too. -/
def replayCell (d : Dev) (bad : List Nat) (c : Nat) : Dev :=
  let p := startReplay (getSump d c)
  let d := setSump d c p
  match replaying p with
  | none => d
  | some s =>
    let ok := s.lines.filter fun l => !bad.contains l
    let d := { forEach ok d restoreLine with per.metaDirty := nset d.per.metaDirty c s.metaLines }
    let lost := s.lines.filter fun l => bad.contains l
    let d := forEach lost d loseLine
    let d := forEach s.refPages d fun d k => forEach (pageLines k) d markLost
    let n := lost.length + 128 * s.refPages.length
    setReg (setReg d .CELL_FLUSH_CNT c 0 (word ok.length)) .CELL_FLUSH_CNT c 1 (word n)

/-- The lost-line records of a flush that the sump sets hold (R140). -/
def lostRecords (d : Dev) : List Nat :=
  (d.per.sump.map fun p => ([p.2.1, p.2.2].map fun s => if s.state == .replaying then s.received else []).flatten).flatten

/-- Lines lost through a carrier rail (R140, R147), counted at their home cells. -/
def replayRailLost (d : Dev) : Dev :=
  forEach (lostRecords d) d fun d l => bump (loseLine d l) .CELL_FLUSH_CNT (homeOf (l / 128)) 1

/-- The lines of a staging frame that the replayed set of its cell holds (R124, Table PER-1). -/
def stagedHeld (d : Dev) (act k : Nat) : Nat :=
  match replaying (getSump d (homeOf k)) with
  | some s => ((s.staged.find? fun x => x.1 == act && x.2.1 == k).map (·.2.2)).getD 0
  | none => 0

/-- A page of a snapshot in a staging frame after a power loss: restored as far as its sump set holds it, poisoned beyond; a frame of which nothing is left holds nothing (Table PER-1). -/
def restoreStaged (d : Dev) (act k : Nat) (p : SnapPage) : SnapPage :=
  if p.staging = false then p
  else
    let n := stagedHeld d act k
    { p with staging := decide (n ≠ 0), poison := (((List.range 128).filter fun i => decide (n ≤ i)).foldl sinsert p.poison) }

def replayStaged (d : Dev) : Dev :=
  { d with snap.snaps := d.snap.snaps.map fun s => (s.1, { s.2 with pages := s.2.pages.map fun p => (p.1, restoreStaged d s.1 p.1 p.2) }) }

/-- What T1 lost of its poison: only what T2 holds as poisoned and what the sump holds of dirty lines is left of the data area's (R124). -/
def lossPoison (d : Dev) : Dev := { d with poison := d.poison.filter fun l => d.tier.t2p.contains l || d.per.atLoss.contains l }

/-- One S3 record for each cell with poisoned lines (R147). -/
def replayRecords (d : Dev) : Dev :=
  forEach allCells d fun d c =>
    let n := (reg d .CELL_FLUSH_CNT c 1).toNat
    if n = 0 then d else logEvent d 3 (uCell c) [n]

/-- The outcome of the last flush (PWR_FLUSH_STATUS.LAST_RESULT). -/
def flushResult (d : Dev) (inc : List Nat) : Nat :=
  if d.per.owed = none then 0
  else if inc ≠ [] then 3
  else if d.per.recordFailed then 5
  else if d.per.railCells ≠ [] then 2
  else 1

/-- Volatile chambers read as zero after a power loss (Table PER-1): their bytes, poison, map entries and charges go. -/
def dropVolatile (d : Dev) : Dev :=
  let keep (k : Nat) : Bool := classOfPage d k != .volatileC
  let d' := forEach (chambersOf d (· == .volatileC)) d fun d n => { d with mem := memClear d.mem (chmAddr n 0) (2 ^ 50) }
  { d' with poison := d.poison.filter fun l => keep (l / 128), tier.map := d.tier.map.filter fun p => keep p.1, tier.t2p := d.tier.t2p.filter fun l => keep (l / 128),
            tier.charge := d.tier.charge.filter fun p => keep p.1 }

/-- A recovery agent moves data through a buffer of a cell, for which the reserve is open (R27). -/
def throughReserve (d : Dev) (c requester : Nat) (go : Dev → Dev) : Dev :=
  match takeBufs d c 16384 requester true with
  | some x => dropRef (go x.1) x.2
  | none => go d

/-- The whole replay. Answers the device and whether the start goes on; a cell whose metadata cannot be read halts it (R142). Volatile chambers
read as zero (Table PER-1). A cell that R140 covers has its metadata in others. -/
def replayAll (d : Dev) (metaBad bad : List Nat) : Dev × Bool :=
  match metaBad.filter fun c => !d.per.railCells.contains c with
  | c :: cs =>
    let d := forEach (c :: cs) d fun d c => raise d { cls := 4, cause := 0x18, unit := uCell c }
    (abandonStart { d with per.lastResult := 4 }, false)
  | [] =>
    let inc := allCells.filter (incompleteCell d)
    let d := { d with per.lastResult := flushResult d inc }
    let d := forEach inc (dropVolatile (lossPoison d)) loseCell
    let d := forEach allCells d fun d c => throughReserve d c 0x1005 fun d => replayCell d bad c
    let d := replayStaged (replayRailLost d)
    let d := replayRecords d
    let d := if d.per.recordFailed then logEvent d 2 (uHub 7) [] else d
    (replayCredits { d with per.recordFailed := false }, true)

end Sys2Proof.Machine
end

