-- ==== Sys2Proof/Machine/Tiers.lean ====
section
/-!
DEFINITION. The tiers: promotions and their outcomes, eviction, the merging buffer's hold, T2 credit, and stream plans (spec/08_tiers.md R148 to R173,
spec/10_dram_tier.md R216, R217).
-/
namespace Sys2Proof.Machine
open Sys2Proof

/-! ### Promotions (R151, R152, R172) -/

/-- Parts that wait for a page's promotion. -/
def waitsFor (k : Nat) (r : Req) (p : Part) : Bool := p.st == .waitPromo && pageKey r.chamber p.page == k

/-- A plan's entry turns FAILED with a cause; it keeps its first one (R172). -/
def failEntry (d : Dev) (n slot cause : Nat) : Dev :=
  let p := getPlan d n
  match slotAt p.entries 0 slot with
  | none => d
  | some (i, _, page) =>
    let mark (j : Nat) (e : PlanEnt) : PlanEnt :=
      if j = i ∧ e.failed = none then { e with failed := some cause, failedPage := page } else e
    setPlan d n { p with entries := p.entries.mapIdx mark, tried := sinsert p.tried slot }

/-- Every plan slot that pins a page takes the failure of its promotion; the pins are dropped for causes other than 4 (R172). -/
def planFailure (d : Dev) (k cause : Nat) : Dev :=
  forEach (((getFrame d k).map (·.pins)).getD []) d fun d pin =>
    let d := failEntry d (pin / 2 ^ 32) (pin % 2 ^ 32) cause
    if cause = 4 then d else unpin d (pin / 2 ^ 32) (pin % 2 ^ 32)

/-- The buffer of a promotion goes back, and no request for one is left (R26). -/
def freePromo (d : Dev) (k : Nat) : Dev :=
  let d := { d with res.waits := d.res.waits.filter fun w => w.use != .promotion k }
  dropBuf d ((nget d.tier.promos k).bind (·.buf))

/-- A page of the list of the plan that is being created. -/
def listPages (d : Dev) (p : Plan) : List Nat :=
  let e := ngetD d.chm.keys (p.key / 256) {}
  (pageParts (e.base * 4096 + p.va) (p.count * 16)).map fun q => pageKey e.chamber q.1

/-- The creation of a plan ends without one (Table TIR-8). -/
def listFails (d : Dev) (n st : Nat) : Dev :=
  { d with tier.plans := ndel d.tier.plans n, tier.planRun := none, tier.planResult := 5, tier.planDetail := st }

/-- A promotion that the list of a plan waits for has failed: the command completes LIST_FAIL with TIER_FAIL (R166). -/
def listPromoFails (d : Dev) (k : Nat) : Dev :=
  match d.tier.planRun with
  | some n => if (listPages d (getPlan d n)).contains k then listFails d n stTierFail else d
  | none => d

/-- A promotion fails (R152): the frame is FREE, each waiting request completes TIER_FAIL, and those of the twin start it again (R131). -/
def promoFails (d : Dev) (k cause : Nat) : Dev :=
  let c := homeOf k
  let d := listPromoFails (freePromo (planFailure d k cause) k) k
  let d := bump { d with tier.promos := ndel d.tier.promos k, tier.frames := ndel d.tier.frames k } .CELL_TIER_CNT c 3
  let d := if cause = 2 then bump d .MED_CNT c 15 else d
  let n := d.reqs.foldl (fun n r => n + (r.parts.filter fun p => waitsFor k r p && !fromTwin r.kind).length) 0
  let set (r : Req) (p : Part) : Part :=
    if waitsFor k r p then { p with st := if fromTwin r.kind then .queued else .failed stTierFail } else p
  pump (bumpBy { d with reqs := d.reqs.map fun r => { r with parts := r.parts.map (set r) } } .CELL_TIER_CNT c 5 n)

/-- The lines poisoned when a page's sectors are lost: 32 a sector for a raw page, all of a compressed one (R152). -/
def lostLines (raw : Bool) (lost : List Nat) : List Nat :=
  if lost = [] then [] else if raw then (lost.map fun s => (List.range 32).map fun i => 32 * s + i).flatten else List.range 128

/-! ### Retirement of a data frame (R149, R226) -/

/-- The result of the retire interface of a channel. -/
def retireDone (d : Dev) (c result : Nat) : Dev := setHbm d c { getHbm d c with busy := false, result := result, moving := none, byPolicy := false }

/-- The 4 rows that a 4 KiB frame fills (Table DRM-1). -/
def frameRows (f : Nat) : List (Nat × Nat) :=
  (List.range 4).map fun k => (Nat.xor ((f % 16) * 4 + k) (f / 16 % 64), f / 16)

/-- A row is queued for repair, at most 64 a channel, while its bank has a spare row left (R228): HBM_RETIRE_STATUS.RESULT is 0 OK, 3 FULL or 6 NO_SPARE. -/
def queuePpr (d : Dev) (c bank row : Nat) : Dev × Nat :=
  let h := getHbm d c
  if h.ppr.contains (bank, row) then (d, 0)
  else if Config.spareRows ≤ ngetD h.spares bank 0 then (d, 6)
  else if 64 ≤ h.ppr.length then (d, 3)
  else (setHbm d c { h with ppr := h.ppr ++ [(bank, row)] }, 0)

/-- A 4 KiB frame enters the retire table, whose size HBM_RETIRE_COUNT shows (R227); the firmware queues the rows of a frame that it has retired for repair, where PPR_AUTO is 1 (R225). -/
def retireEnter (d : Dev) (c f : Nat) (persist : Bool) : Dev :=
  let h := getHbm d c
  let r := nset h.retired f persist
  let d := setReg (setHbm d c { h with retired := r, byPolicy := false }) .HBM_RETIRE_COUNT c 0 (word (at_ (fld (reg d .HBM_RETIRE_COUNT c 0) 31 16) 16 + r.length))
  if h.byPolicy && fbit (reg d .HBM_POLICY_CFG c 0) 29 then forEach (frameRows f) d fun d x => (queuePpr d c x.1 x.2).1 else d

/-- The data slot that holds a 4 KiB frame, and the 16 KiB frame of T1 that a slot is. -/
def slotOfFrame (d : Dev) (f : Nat) : Nat := (f * 4096 - dataBase d) / 16384
def frameOfSlot (d : Dev) (s : Nat) : Nat := dataBase d / 16384 + s

/-- The page of a data frame moves to a free one once it is not in LOADING; the slot leaves the data area (R149, R226). -/
def moveData (d : Dev) (c f : Nat) (persist : Bool) : Dev :=
  let s := slotOfFrame d f
  let out (d : Dev) : Dev := retireDone (retireEnter { d with tier.gone := nset d.tier.gone (c * 2 ^ 18 + frameOfSlot d s) 0 } c f persist) c 0
  match (cellFrames d c).find? fun p => p.2.slot == s with
  | none => out d
  | some (k, fr) =>
    if fr.st = .loading then d
    else
      match freeSlot d c with
      | some t => out (setFrame (alcDropFrame d c s) k { fr with slot := t })
      | none => d

/-- The lines of a staging frame move to a free one (R226). -/
def moveStaged (d : Dev) (c f : Nat) (persist : Bool) : Dev :=
  match stagedAt d c ((f * 4096 - stagingBase) / 16384) with
  | none => retireDone (retireEnter d c f persist) c 0
  | some (act, k) =>
    match stagingSlot d c with
    | some t => retireDone (retireEnter (modSnapPage d act k fun p => { p with slot := t }) c f persist) c 0
    | none => d

/-- A frame move that waits is carried out as soon as it can be (R226). -/
def tryMove (d : Dev) (c : Nat) : Dev :=
  match (getHbm d c).moving with
  | none => d
  | some (f, persist, _) => if t1Area d (f * 4096) = 3 then moveStaged d c f persist else moveData d c f persist

/-- A promoted page is in its frame (R150, R151): its poison is what T2 held, what the lost sectors add and what a replay has left of it (R147); waiting requests go on. -/
def installPage (d : Dev) (k : Nat) (lost : List Nat) (modified : Bool) : Dev :=
  match getFrame d k with
  | none => d
  | some f =>
    let raw := match nget d.tier.map k with
      | some (.stored _ raw _ _) => raw
      | _ => true
    let c := homeOf k
    let d := if lost = [] then d else planFailure (bump d .CELL_TIER_CNT c 4) k 4
    let d := if raw then d else bump d .CMP_CNT c 5
    let f := (getFrame d k).getD f
    let pois := (d.tier.t2p.filter fun l => l / 128 == k) ++ (lostLines raw lost).map fun i => k * 128 + i
    let d := freePromo d k
    let d := writePageT1 { d with poison := pois.foldl sinsert d.poison, tier.promos := ndel d.tier.promos k } k ⟨0x1001, c, 6⟩
    let f := { f with st := .clean, ref := true }
    let d := tryMove (setFrame d k (if modified then modifyFrame f d.now (List.range 128) else f)) c
    pump (requeue d fun r p => waitsFor k r p)

/-- Cause 4 with every line poisoned: the seal is unrecoverable (R217). -/
def sealLost (d : Dev) (k : Nat) : Dev :=
  let d := installPage d k [0, 1, 2, 3] false
  { d with poison := (pageLines k).foldl sinsert d.poison }

/-- The T2 copy of a page has been checked: the VERIFY pieces that wait for it go on. A bad one is queued for a rewrite from a CLEAN frame. -/
def verified (d : Dev) (k : Nat) (ok : Bool) : Dev :=
  let d : Dev := { d with tier.verifs := ndel d.tier.verifs k }
  let d : Dev := if ok = false ∧ (getFrame d k).any (fun f => f.st == .clean) = true ∧ ¬ d.tier.reseal.contains k then { d with tier.reseal := d.tier.reseal ++ [k] } else d
  let overOf (r : Req) (p : Part) : Part :=
    if p.st = .waitVerify ∧ pageKey r.chamber p.page = k then { p with st := if ok then .done else .failed stTierFail } else p
  pump { d with reqs := d.reqs.map fun r => { r with parts := r.parts.map (overOf r) } }

/-- PROMOTION_COMPLETE for a T2 copy that a VERIFY reads (R295): a bad copy counts, and a CLEAN page is written again from T1, which holds it whole (DESIGN CHOICE). -/
def verifyComplete (d : Dev) (k : Nat) (sealOk : Bool) : Dev :=
  match nget d.tier.verifs k with
  | some { readDone := some lost, compared := c, .. } => if lost = [] ∧ (sealOk = true ∨ c = false) then verified d k true else verified d k false
  | _ => d

/-- PROMOTION_COMPLETE (R151, R152, R216, R217): the media read of the page is done, it has passed the engines through a buffer, its agent is not throttled (R223), and its seal has been compared. A mismatch asks the twin's copy
of a Mirrored page of a Joined pair, unless the twin asks for this page itself, and is otherwise unrecoverable. -/
def promotionComplete (d : Dev) (k : Nat) (sealOk : Bool) : Dev :=
  match nget d.tier.promos k with
  | none => verifyComplete d k sealOk
  | some p =>
    match p.readDone with
    | none => d
    | some lost =>
      if nhas d.repairs (2 ^ 64 + k) || p.buf.isNone || agentThrottled d k ⟨0x1001, homeOf k, 6⟩ then d
      else if lost ≠ [] ∨ sealOk ∨ p.compared = false then installPage d k lost false
      else
        let c := homeOf k
        let d := bump d .HBM_CNT c 13
        let asked := d.reqs.any fun r => r.kind == .read && (getConn d r.conn).service == .mirror && r.parts.any (waitsFor k r)
        if classOfPage d k = .mirrored ∧ joined d ∧ asked = false then
          sendMirror { d with repairs := nset d.repairs (2 ^ 64 + k) ⟨true, false, d.now + ms 10, true⟩ } c (pageAddr k)
            (.pageReq (keyChamber k) (keyPage k)) false false 0 [] []
        else sealLost d k

/-- PROMOTION_TIMEOUT: a promotion not installed within PROMO_MS fails with cause 3 (Table TIR-4). -/
def promotionTimeout (d : Dev) (k : Nat) : Dev :=
  match nget d.tier.promos k with
  | none => d
  | some p => if due d p.deadline then promoFails { d with repairs := ndel d.repairs (2 ^ 64 + k) } k 3 else d

/-- Every promotion of a cell fails at once: its channel is OFFLINE (R203). -/
def promosOffline (d : Dev) (c : Nat) : Dev :=
  let d := forEach ((d.tier.verifs.map (·.1)).filter fun k => homeOf k == c) d fun d k => verified d k false
  forEach ((d.tier.promos.map (·.1)).filter fun k => homeOf k == c) d fun d k => promoFails d k 1

/-! ### Merging buffer (R164) -/

def mbHold (d : Dev) (c : Nat) : Nat := 100 * clampTo 1 10 (cfld d .ALC_CFG c 23 16)

/-- MERGING_BUFFER_HOLD_EXPIRY: entries open for MB_HOLD drain to T1. -/
def mergingBufferHoldExpiry (d : Dev) (c : Nat) : Dev :=
  forEach ((getAlc d c).mb.filter fun e => decide (e.opened + mbHold d c ≤ d.now)) d fun d e => drainRead d c e

/-! ### Eviction (R154, R173) -/

/-- Tenant t's quota words. -/
def quotaWord (d : Dev) (t i : Nat) : Word := reg d .TIER_QUOTA_WORD 0 (2 * t + i)

/-- The tenant to whom a frame counts (Table TIR-9): that of its oldest pin, else the chamber's owner. -/
def frameTenant (d : Dev) (k : Nat) (f : Frame) : Nat :=
  match f.pins with
  | pin :: _ => (getPlan d (pin / 2 ^ 32)).tenant
  | [] => ownerOf d k

/-- Frames of a cell that count to a tenant. -/
def tenantFrames (d : Dev) (c t : Nat) : Nat := ((cellFrames d c).filter fun p => frameTenant d p.1 p.2 == t).length

/-- A tenant exceeds its T1 share / 256 in a cell: 64 MiB units are 16 frames a cell. -/
def overShare (d : Dev) (c t : Nat) : Bool :=
  let s := fld (quotaWord d t 0) 31 19
  s != 0x1FFF && decide (s * 16 < tenantFrames d c t)

/-- FREE_LOW and FREE_HIGH of R154. A FREE_LOW above its range acts as 100 (DESIGN CHOICE: the manual says only that 0 acts as 1; log entry 'FREE_LOW above its range'). -/
def freeLow (d : Dev) : Nat := zeroAs 1 (min 100 (hfld d .TIER_T1_CFG 15 8))
def freeHigh (d : Dev) : Nat :=
  let h := hfld d .TIER_T1_CFG 7 0
  if h ≤ freeLow d then freeLow d + 10 else h

/-- A frame that eviction may take. -/
def evictable (f : Frame) : Bool := f.st == .clean && f.pins == [] && f.destaging.isNone

/-- The frames of a cell in clock order: by slot from the hand on. -/
def clockOrder (d : Dev) (c : Nat) : List (Nat × Nat) :=
  let m := (cellFrames d c).foldl (fun m p => nset m p.2.slot p.1) ([] : NMap Nat)
  let h := ngetD d.tier.hand c 0
  (m.filter fun p => decide (h ≤ p.1)) ++ m.filter fun p => decide (p.1 < h)

/-- A frame leaves T1: its Alcove lines are invalidated (R162), and of its poison only that of the T2 copy is left. -/
def evictFrame (d : Dev) (c k slot : Nat) : Dev :=
  let d := { d with poison := d.poison.filter fun l => l / 128 != k || d.tier.t2p.contains l }
  bump { delFrame (alcDropFrame d c slot) k with tier.hand := nset d.tier.hand c (slot + 1) } .CELL_TIER_CNT c 6

/-- The sweep over the frames that a predicate admits: a set reference bit is cleared, the first clear one is taken; unsaved Volatile frames met are
queued for destage. -/
def sweep (want : Dev → Nat → Frame → Bool) (c : Nat) : List (Nat × Nat) → Dev → Dev × Bool
  | [], d => (d, false)
  | (slot, k) :: t, d =>
    match getFrame d k with
    | none => sweep want c t d
    | some f =>
      if f.st = .modified ∧ classOfPage d k = .volatileC then
        sweep want c t { d with tier.volQ := if d.tier.volQ.contains k then d.tier.volQ else d.tier.volQ ++ [k] }
      else if evictable f && want d k f then
        if f.ref then sweep want c t (setFrame d k { f with ref := false }) else (evictFrame d c k slot, true)
      else sweep want c t d

/-- One victim of a cell: first among frames of tenants over their share, then among all; two turns of the clock at most. -/
def evictOne (d : Dev) (c : Nat) : Dev × Bool :=
  let overOf (d : Dev) (k : Nat) (f : Frame) : Bool := overShare d c (frameTenant d k f)
  let l := clockOrder d c
  match sweep overOf c (l ++ l) d with
  | (d, true) => (d, true)
  | (d, false) => sweep (fun _ _ _ => true) c (l ++ l) d

/-- Victims until the free frames reach FREE_HIGH or none is left. -/
def evictUntil : Nat → Dev → Nat → Dev
  | 0, d, _ => d
  | n + 1, d, c =>
    if freeHigh d * liveFrames d c / 1000 ≤ freeFrames d c then d
    else
      match evictOne d c with
      | (d, true) => evictUntil n d c
      | (d, false) => d

/-- Free frames of a cell go to what waits for them (R154): demand promotions, requests for pages that T2 does not hold, then promotions of the other classes. -/
def wakeFrame (d : Dev) (c : Nat) : Dev :=
  let n := d.tier.promos.length
  let d := placePromos n d c fun p => p.cls == .demand
  let d := pump (requeue d fun _ p => p.cell == c && p.st == .waitFrame)
  placePromos n d c fun _ => true

/-- The cells with a free frame that something waits for. -/
def wantsFrame (d : Dev) : List Nat :=
  let ps := (d.tier.promos.filter fun p => !placed d p.1).map fun p => homeOf p.1
  let qs := (d.reqs.map fun r => (r.parts.filter fun p => p.st == .waitFrame).map (·.cell)).flatten
  (ps ++ qs).eraseDups.filter fun c => (freeSlot d c).isSome

/-- Frames that have become free go on. -/
def frameTurn (d : Dev) : Dev := forEach (wantsFrame d) d wakeFrame

/-- EVICTION_SWEEP: a cell below its free-frame level evicts (R154). -/
def evictionSweep (d : Dev) (c : Nat) : Dev :=
  if freeFrames d c < freeLow d * liveFrames d c / 1000 then wakeFrame (tryMove (evictUntil (cellFrames d c).length d c) c) c else d

/-! ### T2 credit (R159) -/

/-- Sectors of a tenant that are charged or held as credit. -/
def t2Used (d : Dev) (t : Nat) : Nat :=
  (d.snap.snaps.foldl (fun n s => s.2.pages.foldl (fun n p => if ownerOf d p.1 = t then n + (p.2.held.map (·.1)).getD 0 else n) n) 0) +
  (d.tier.charge.filter fun p => ownerOf d p.1 == t).foldl (fun n p => n + p.2) 0 +
    (d.tier.credit.filter fun p => p.1 / 256 == t).foldl (fun n p => n + p.2) 0

/-- Sectors of a tenant's quota that are unallocated; none for no limit. -/
def t2Left (d : Dev) (t : Nat) : Option Nat :=
  let q := fld (quotaWord d t 0) 18 0
  if q = 0x7FFFF then none else some (q * 4194304 - t2Used d t)

/-- Unused credit of a tenant is recalled from every cell. -/
def recallCredit (d : Dev) (t : Nat) : Dev := { d with tier.credit := d.tier.credit.filter fun p => p.1 / 256 != t }

/-- Writes of a tenant waiting for T2 credit at a cell. -/
def waitsCredit (d : Dev) (t c : Nat) (r : Req) (p : Part) : Bool :=
  p.cell == c && ownerOf d (pageKey r.chamber p.page) == t && (match p.st with
    | .waitCredit _ => true
    | _ => false)

/-- Waiting writes complete QUOTA, counted in CELL_TIER_CNT[10] (R159). -/
def quotaFails (d : Dev) (c : Nat) (f : Req → Part → Bool) : Dev :=
  let n := (d.reqs.filter fun r => r.parts.any (f r)).length
  let set (r : Req) (p : Part) : Part := if f r p then { p with st := .failed stQuota } else p
  pump (bumpBy { d with reqs := d.reqs.map fun r => { r with parts := r.parts.map (set r) } } .CELL_TIER_CNT c 10 n)

/-- T2_CREDIT_GRANT: the hub serves the oldest request: a unit, the remainder as a part unit, or a refusal after the recall. -/
def t2CreditGrant (d : Dev) : Dev :=
  match d.tier.asks with
  | [] => d
  | a :: rest =>
    let d := { d with tier.asks := rest }
    let d := if t2Left d a.tenant = some 0 then recallCredit d a.tenant else d
    let n := match t2Left d a.tenant with
      | none => 256
      | some n => min n 256
    if n = 0 then quotaFails d a.cell (waitsCredit d a.tenant a.cell)
    else
      let key := creditKey a.tenant a.cell
      pump (requeue { d with tier.credit := nset d.tier.credit key (ngetD d.tier.credit key 0 + n) } (waitsCredit d a.tenant a.cell))

/-- T2_CREDIT_RETURN: a cell whose credit for a tenant exceeds 2 MiB returns a unit. -/
def t2CreditReturn (d : Dev) (t c : Nat) : Dev :=
  let key := creditKey t c
  let n := ngetD d.tier.credit key 0
  if 512 < n then { d with tier.credit := nset d.tier.credit key (n - 256) } else d

/-- T2_CREDIT_WAIT_EXPIRY: writes that have waited 20 µs for a grant at a cell complete QUOTA. -/
def t2CreditWaitExpiry (d : Dev) (c : Nat) : Dev :=
  quotaFails d c fun _ p => p.cell == c && (match p.st with
    | .waitCredit t => due d t
    | _ => false)

/-! ### Plan commands (R166 to R172, Table TIR-10) -/

/-- Results of TIER_PLAN_STATUS. -/
inductive PlanResult where
  | ok | busy | badArg | noPlan | notFound | listFail
deriving DecidableEq, Repr

def parg (d : Dev) (i : Nat) : Nat := (reg d .TIER_PLAN_ARG 0 i).toNat

/-- A plan command completes with its result; its return words are given only by OK. -/
def planDone (d : Dev) (r : PlanResult) (detail : Nat) (rets : List (Nat × Nat)) : Dev :=
  let d := { d with tier.planRun := none, tier.planResult := r.ctorIdx, tier.planDetail := detail }
  if r = .ok then forEach rets d fun d p => setReg d .TIER_PLAN_RET 0 p.1 (word p.2) else d

/-- A write of TIER_PLAN_CMD: denied to I3C and tenants other than 0; ignored while a command runs, which sets OVERRUN. -/
def planCommand (d : Dev) (w : Writer) (op : Nat) (go : Dev → Dev) : Dev :=
  command d w .TIER_PLAN_CMD 0 0 (operator d w) fun d =>
    if d.tier.planRun.isSome then { d with tier.planOverrun := true } else go { d with tier.planLastOp := op }

/-- PLAN_CREATE: a plan number is taken and the list load begins. NO_PLAN says that every number is taken (DESIGN CHOICE: the manual lists the codes only; log entry 'NO_PLAN and
NOT_FOUND'). -/
def planCreate (d : Dev) (w : Writer) : Dev := planCommand d w 1 fun d =>
  let count := parg d 1 % 2 ^ 17
  if count = 0 ∨ 65536 < count ∨ parg d 5 < 16 then planDone d .badArg 0 []
  else
    match nfreeFrom (d.tier.plans.filter fun p => p.2.state != .free) 0 1024 with
    | none => planDone d .noPlan 0 []
    | some n =>
      let p : Plan := { state := .loading, tenant := fld (reg d .TIER_PLAN_ARG 0 0) 27 16, count := count, key := parg d 2,
                        va := parg d 3 + 2 ^ 32 * parg d 4, look := parg d 5 }
      { setPlan d n p with tier.planRun := some n }

/-- An entry of a list, 16 bytes little-endian, with cause 5 when it is invalid (R167, Table TIR-7). -/
def planEntry (d : Dev) (b : List Byte) : PlanEnt :=
  let c := leNat (b.take 2)
  let rsv := leNat ((b.drop 2).take 2)
  let len := leNat ((b.drop 4).take 4)
  let off := leNat ((b.drop 8).take 8)
  let ok := rsv == 0 && len != 0 && (match nget d.chm.chambers c with
    | some ch => ch.state == .active && decide (off + len ≤ ch.pages * 16384)
    | none => false)
  { chamber := c, off := off, len := if ok then len else 0, failed := if ok then none else some 5, failedPage := off / 16384 }

/-- The check of the list read (R166): that of a read by a connection of the plan tenant (Table CHM-6). None while custody makes it wait. -/
def listCheck (d : Dev) (p : Plan) : Option Nat :=
  let e := ngetD d.chm.keys (p.key / 256) {}
  let len := p.count * 16
  match keyClass d p.key with
  | some st => some st
  | none =>
    if !bindingOk e p.tenant (ordinal d) (2 ^ 24) then some stRights
    else
      match nget d.chm.chambers e.chamber with
      | none => some stUnavailable
      | some ch =>
        if ch.state ≠ .active then some stUnavailable
        else
          match custodyGate d e.chamber ch true with
          | .refuse st => some st
          | .wait => none
          | .open_ =>
            if !boundsOk e .read p.va len then some stBounds
            else if !rightsOk e .read false then some stRights
            else if (pageParts (e.base * 4096 + p.va) len).any fun q => cellFenced d (homeCell e.chamber q.1) then some stUnavailable
            else if (linesOf (chmAddr e.chamber (e.base * 4096 + p.va)) len).any (poisoned d) then some stPoisoned
            else some stOk

/-- The requester that a read of a plan's list counts as: the hub's plan engine has no number in Table FLT-4, and the read counts as that of the promotion agent (DESIGN CHOICE). -/
def listReader (c : Nat) : Requester := ⟨0x1001, c, 1⟩

/-- The pages of a list are brought to T1: those in T2 by demand promotions (R151). Answers whether all are there; none when one cannot be. -/
def bringList : List Nat → Dev → Dev × Option Bool
  | [], d => (d, some true)
  | k :: t, d =>
    match bringPage d k with
    | (d, .here) => bringList t d
    | (d, .failed) => (d, none)
    | (d, _) => ((bringList t d).1, ((bringList t d).2).map fun _ => false)

/-- PLAN_LIST_LOADED: the list has been read and checked; the plan runs, or the command completes LIST_FAIL with the status (Table TIR-8). The list's lines are read like any others; while
a page of it is on its way from T2 the plan stays LOADING. -/
def planListLoaded (d : Dev) : Dev :=
  match d.tier.planRun with
  | none => d
  | some n =>
    let p := getPlan d n
    match listCheck d p with
    | none => d
    | some 0 =>
      match bringList (listPages d p) d with
      | (d, none) => listFails d n stTierFail
      | (d, some false) => d
      | (d, some true) =>
        let e := ngetD d.chm.keys (p.key / 256) {}
        let addr := chmAddr e.chamber (e.base * 4096 + p.va)
        let d := readSpan d addr (p.count * 16) (lineOfAddr addr) [] false (listReader (homeCell e.chamber ((e.base * 4096 + p.va) / 16384)))
        if (linesOf addr (p.count * 16)).any (poisoned d) then listFails d n stPoisoned
        else
          let bytes := memRead d.mem addr (p.count * 16)
          let es := (List.range p.count).map fun i => planEntry d ((bytes.drop (16 * i)).take 16)
          planDone (setPlan d n { p with state := .running, entries := es }) .ok 0 [(0, n)]
    | some st => listFails d n st

/-- The plan a command names, when it stands; NOT_FOUND answers for one that is FREE, and for an entry past the count (DESIGN CHOICE; log entry 'NO_PLAN and NOT_FOUND'). -/
def namedPlan (d : Dev) : Option (Nat × Plan) :=
  let n := fld (reg d .TIER_PLAN_ARG 0 0) 9 0
  let p := getPlan d n
  if p.state = .free then none else some (n, p)

/-- The first slot of an entry. -/
def firstSlot (l : List PlanEnt) (i : Nat) : Nat := (l.take i).foldl (fun n e => n + entrySlots e) 0

/-- Slots of the lookahead (R169). -/
def windowSlots (p : Plan) : Nat := p.look / 16

/-- A cursor set by command: forward it passes slots, backward the slots from the new place on count as neither consumed nor passed (R168). -/
def setCursor (d : Dev) (n c : Nat) : Dev :=
  let p := getPlan d n
  if p.cursor ≤ c then moveCursor d n c
  else
    let d := setPlan d n { p with cursor := c, consumed := p.consumed.filter (· < c), tried := p.tried.filter (· < c) }
    forEach ((getPlan d n).pinned.reverse.filter fun s => decide (c + windowSlots p ≤ s)) d fun d s => unpin d n s

/-- PLAN_CURSOR: the cursor moves to the first slot of the named entry; a DONE plan runs again. -/
def planCursor (d : Dev) (w : Writer) : Dev := planCommand d w 2 fun d =>
  match namedPlan d with
  | none => planDone d .notFound 0 []
  | some (n, p) =>
    let e := parg d 1 % 65536
    if p.count ≤ e then planDone d .notFound 0 []
    else planDone (setCursor (setPlan d n { p with state := .running }) n (firstSlot p.entries e)) .ok 0 []

/-- PLAN_LOOKAHEAD: L changes; slots that leave the window are unpinned, the highest first (R170). -/
def planLookahead (d : Dev) (w : Writer) : Dev := planCommand d w 3 fun d =>
  if parg d 5 < 16 then planDone d .badArg 0 []
  else
    match namedPlan d with
    | none => planDone d .notFound 0 []
    | some (n, p) =>
      let d := setPlan d n { p with look := parg d 5 }
      planDone (forEach (p.pinned.reverse.filter fun s => decide (p.cursor + parg d 5 / 16 ≤ s)) d fun d s => unpin d n s) .ok 0 []

/-- PLAN_RELEASE: every pin is dropped and the plan is FREE. -/
def planRelease (d : Dev) (w : Writer) : Dev := planCommand d w 4 fun d =>
  match namedPlan d with
  | none => planDone d .notFound 0 []
  | some (n, p) =>
    let d := forEach p.pinned d fun d s => unpin d n s
    planDone { d with tier.plans := ndel d.tier.plans n } .ok 0 []

def planStateCode : PlanState → Nat
  | .free => 0
  | .loading => 1
  | .running => 2
  | .done => 3

/-- The first FAILED entry with its cause. -/
def firstFailed : List PlanEnt → Nat → Option (Nat × Nat)
  | [], _ => none
  | e :: t, i => match e.failed with
    | some c => some (i, c)
    | none => firstFailed t (i + 1)

/-- PLAN_QUERY: state, tenant, entries; entry of C and FAILED entries; pinned KiB; the first FAILED entry. A FREE plan is shown as such. The entry of a C past the last slot is the entry
count, at most 65,535 (DESIGN CHOICE: the manual does not say; log entry 'PLAN_QUERY of a finished plan'). -/
def planQuery (d : Dev) (w : Writer) : Dev := planCommand d w 5 fun d =>
  let p := getPlan d (fld (reg d .TIER_PLAN_ARG 0 0) 9 0)
  let ent := match slotAt p.entries 0 p.cursor with
    | some (i, _, _) => i
    | none => p.count
  let bad := (p.entries.filter fun e => e.failed.isSome).length
  let first := match firstFailed p.entries 0 with
    | some (i, c) => bit_ true 31 + at_ c 16 + i
    | none => 0
  planDone d .ok 0 [(0, at_ (planStateCode p.state) 29 + at_ p.tenant 17 + p.count), (1, at_ (sat ent 65535) 16 + sat bad 65535),
    (2, 16 * p.pinned.length), (3, first)]

/-- The state of an entry (R172): FAILED, ACTIVE, DONE or PENDING. -/
def entryState (p : Plan) (i : Nat) (e : PlanEnt) : Nat :=
  let lo := firstSlot p.entries i
  let hi := lo + entrySlots e
  if e.failed.isSome then 3
  else if p.state = .done ∨ hi ≤ p.cursor ∨ (List.range (hi - lo)).all (fun j => decide (lo + j < p.cursor) || p.consumed.contains (lo + j)) then 2
  else if lo < p.cursor + windowSlots p then 1 else 0

/-- ENTRY_QUERY: an entry's state and cause, and the page of its first failed slot. -/
def entryQuery (d : Dev) (w : Writer) : Dev := planCommand d w 6 fun d =>
  match namedPlan d with
  | none => planDone d .notFound 0 []
  | some (_, p) =>
    let i := parg d 1 % 65536
    match p.entries[i]? with
    | none => planDone d .notFound 0 []
    | some e => planDone d .ok 0 [(0, at_ (entryState p i e) 30 + at_ (e.failed.getD 0) 16), (1, if e.failed.isSome then e.failedPage else 0)]

/-- PLAN_CMD_RESERVED: codes 0x0 and 0x7 to 0xF complete BAD_ARG. -/
def planCmdReserved (d : Dev) (w : Writer) (op : Nat) : Dev := planCommand d w op fun d => planDone d .badArg 0 []

/-! ### The plan engine (R169) -/

/-- Pins a slot may take: the plan's lookahead, the tenant's quota, the cell's share of pinned frames. -/
def pinAllowed (d : Dev) (p : Plan) (k : Nat) : Bool :=
  let q := fld (quotaWord d p.tenant 1) 31 19
  let mine := d.tier.plans.foldl (fun n x => if x.2.tenant = p.tenant then n + x.2.pinned.length else n) 0
  let pct := clampTo 1 90 (hfld d .TIER_T1_CFG 31 24)
  let c := homeOf k
  let add := if ((getFrame d k).map (·.pins)).getD [] = [] then 1 else 0
  decide (16 * p.pinned.length + 16 ≤ p.look) && (q == 0x1FFF || decide (16 * mine + 16 ≤ q * 65536)) &&
    decide ((pinnedFrames d c + add) * 100 ≤ pct * liveFrames d c)

/-- A pin is put on a slot's frame. -/
def addPin (d : Dev) (n slot k : Nat) : Dev :=
  match getFrame d k with
  | none => d
  | some f =>
    let p := getPlan d n
    bump (setPlan (setFrame d k { f with pins := f.pins ++ [n * 2 ^ 32 + slot] }) n { p with pinned := sinsert p.pinned slot }) .TIER_PLAN_CNT 0 0

/-- The slot is not tried again for its page. -/
def triedSlot (d : Dev) (n slot : Nat) : Dev := setPlan d n { getPlan d n with tried := sinsert (getPlan d n).tried slot }

/-- One slot is pinned: the page is promoted in the plan class when it is absent (R169). -/
def pinSlot (d : Dev) (n slot : Nat) (e : PlanEnt) (k : Nat) : Dev :=
  match nget d.chm.chambers e.chamber with
  | none => failEntry d n slot 6
  | some ch =>
    if ch.state ≠ .active then failEntry d n slot 6
    else if !pinAllowed d (getPlan d n) k then d
    else
      match getFrame d k with
      | some f => if 255 ≤ f.pins.length then bump (triedSlot d n slot) .TIER_PLAN_CNT 0 3 else addPin d n slot k
      | none =>
        match nget d.tier.map k with
        | some (.stored _ _ _ _) =>
          match startPromo d k .plan with
          | (d, .started) => addPin d n slot k
          | (d, .failed) => failEntry d n slot (if mediaOn d (homeOf k) then 2 else 1)
        | _ =>
          match bringPage d k with
          | (d, .here) => addPin d n slot k
          | (d, _) => d

/-- A window slot need not wait (R169): its page is in T1 or in T2, or there is a free frame for it, and no limit stands against its pin; one whose chamber is not ACTIVE is met at once
(R172). -/
def slotReady (d : Dev) (p : Plan) (s : Nat) : Bool :=
  match slotAt p.entries 0 s with
  | none => true
  | some (_, e, page) =>
    let k := pageKey e.chamber page
    !((nget d.chm.chambers e.chamber).any fun ch => ch.state == .active) || (pinAllowed d p k && ((getFrame d k).isSome || (match nget d.tier.map k with
      | some (.stored _ _ _ _) => true
      | _ => false) || (freeSlot d (homeOf k)).isSome))

/-- The lowest window slot of a plan that has no pin, was not given up and need not wait (R169). -/
def nextSlot (d : Dev) (p : Plan) : Option Nat :=
  ((List.range (windowSlots p)).map (· + p.cursor)).find? fun s =>
    decide (s < planSlots p) && !p.pinned.contains s && !p.tried.contains s && !p.consumed.contains s && slotReady d p s

/-- PLAN_ENGINE_TURN: the next running plan in the round pins one slot. -/
def planEngineTurn (d : Dev) : Dev :=
  let run := (d.tier.plans.filter fun p => p.2.state == .running).map (·.1)
  match (run.filter fun n => decide (d.tier.planTurn ≤ n)) ++ run with
  | [] => d
  | n :: _ =>
    let d := { d with tier.planTurn := n + 1 }
    let p := getPlan d n
    match nextSlot d p with
    | none => d
    | some s =>
      match slotAt p.entries 0 s with
      | none => d
      | some (_, e, page) => pinSlot d n s e (pageKey e.chamber page)

end Sys2Proof.Machine
end

