-- ==== Sys2Proof/Machine/Blocks.lean ====
section
/-!
DEFINITION. The blocks of a media channel: superblocks and locations, valid sectors, spares, capacity and wear, and the streams that fill superblocks
(spec/09_media.md R174 to R176, R185, R187 to R189, R192, R194, R199, R204).
-/
namespace Sys2Proof.Machine
open Sys2Proof

/-! ### Superblocks and locations (R175, R181, R187) -/

/-- A superblock as format assigns it when nothing else is listed: the sump, data and map, the spare pool (R175); one that the format has still to erase is not FREE (R179, R187). -/
def sbDefault (m : Media) (i : Nat) : Superblock :=
  { st := if i = 0 then .sump else if 2016 ≤ i then .spare else if m.formatLeft.contains i then .erasing else .free }
def getSb (m : Media) (i : Nat) : Superblock := (nget m.sbs i).getD (sbDefault m i)
def setSb (m : Media) (i : Nat) (s : Superblock) : Media := { m with sbs := nset m.sbs i s }

/-- A location is a number of its own × 2,048 plus its superblock. -/
def sbOf (loc : Nat) : Nat := loc % 2048
def newLoc (m : Media) (sb : Nat) : Media × Nat := ({ m with serial := m.serial + 1 }, m.serial * 2048 + sb)

/-- Key of a block or slot. -/
def blockKey (die plane idx : Nat) : Nat := (die * 4 + plane) * 2048 + idx

/-- A die is in a mask. -/
def dieIn (mask die : Nat) : Bool := (mask >>> die) % 2 == 1

/-- The dies of a mask. -/
def diesIn (mask : Nat) : List Nat := (List.range 16).filter (dieIn mask)

/-- The dies of a superblock that are in service. -/
def sbDies (m : Media) (i : Nat) : List Nat := (diesIn (getSb m i).dies).filter (dieIn m.diesIn)

/-- The physical block that backs a slot, as a key, and the superblock whose slot a physical block backs. -/
def physOf (m : Media) (slot : Nat) : Nat := slot / 2048 * 2048 + ngetD m.remap slot (slot % 2048)
def sbOfBlock (m : Media) (b : Nat) : Nat :=
  ((m.remap.find? fun r => r.1 / 2048 == b / 2048 && r.2 == b % 2048).map (·.1 % 2048)).getD (b % 2048)

/-- The slots of a superblock that hold blocks. -/
def sbSlots (m : Media) (i : Nat) : List Nat :=
  (((sbDies m i).map fun x => (List.range 4).map fun p => blockKey x p i).flatten).filter fun k => !nhas m.gone k

/-- The erase count of a physical block; one that `pe` does not list has that of the formats (R179). -/
def peOf (m : Media) (b : Nat) : Nat := ngetD m.pe b (if b % 2048 < 35 then m.peBase else 0)

/-- The highest erase count among the blocks of a superblock. -/
def sbPe (m : Media) (i : Nat) : Nat := (sbSlots m i).foldl (fun n k => max n (peOf m (physOf m k))) 0

/-- Superblocks in a state. -/
def sbsIn (m : Media) (f : SbState → Bool) : List Nat := (List.range 2048).filter fun i => f (getSb m i).st
def freeSbs (m : Media) : Nat := (sbsIn m (· == .free)).length

/-- The FREE superblock that a stream takes: the lowest highest erase count, the lower index on a tie (R187). -/
def takeSb (m : Media) : Option Nat :=
  ((sbsIn m (· == .free)).foldl (fun (b : Option (Nat × Nat)) i => match b with
    | none => some (i, sbPe m i)
    | some x => if sbPe m i < x.2 then some (i, sbPe m i) else b) none).map (·.1)

/-! ### Stripes (R185) -/

/-- The parity die of a superblock of given dies: die i mod 16, or the next of them above it, modulo 16. -/
def parityDie (dies i : Nat) : Nat := (((List.range 16).map fun j => (i + j) % 16).find? (dieIn dies)).getD 0

/-- The dies of a superblock that hold data: all but the parity die. -/
def dataDies (dies i : Nat) : List Nat := (diesIn dies).filter (· != parityDie dies i)

/-- The sectors that a stripe row holds (64 a data die), and those of a superblock (R188). -/
def rowCap (dies i : Nat) : Nat := 64 * (dataDies dies i).length
def sbCap (i : Nat) (s : Superblock) : Nat := 2048 * rowCap s.dies i

/-- The dies of a superblock that are out of service. -/
def missingDies (m : Media) (i : Nat) : Nat := ((diesIn (getSb m i).dies).filter fun x => !dieIn m.diesIn x).length

/-! ### Valid sectors (R192) -/

/-- The sectors at each location of a cell that a map entry, a retained snapshot or the map root names, each once. -/
def placesOf (d : Dev) (c : Nat) : NMap Nat :=
  let t := d.tier.map.foldl (fun (t : NMap Nat) p => match p.2 with
    | .stored s _ _ loc => if homeOf p.1 = c then nset t loc s else t
    | _ => t) []
  let t := (getMed d c).root.foldl (fun t p => nset t p.2 8) t
  d.snap.snaps.foldl (fun t s => s.2.pages.foldl (fun t p => match p.2.held with
    | some (n, loc) => if homeOf p.1 == c then nset t loc n else t
    | none => t) t) t

/-- Valid sectors of a superblock, and of a cell. -/
def sbValid (d : Dev) (c i : Nat) : Nat := (placesOf d c).foldl (fun n p => if sbOf p.1 = i then n + p.2 else n) 0
def cellValid (d : Dev) (c : Nat) : Nat := (placesOf d c).foldl (fun n p => n + p.2) 0

/-! ### Spares and retirement (R199) -/

/-- The spare blocks of a plane of a die: slots of spare or retired superblocks that still hold one. -/
def sparesOf (m : Media) (die plane : Nat) : List Nat :=
  (sbsIn m fun s => s == .spare || s == .retired).filter fun i => !nhas m.gone (blockKey die plane i)

/-- All spare blocks left (MED_WEAR[1].SPARES). -/
def spareCount (m : Media) : Nat :=
  (diesIn m.diesIn).foldl (fun n x => (List.range 4).foldl (fun n p => n + (sparesOf m x p).length) n) 0

/-- A spare of the same die and plane backs a slot from then on; the spare's own slot is absent. None where the plane has no spare left. -/
def replaceSlot (m : Media) (slot : Nat) : Option Media :=
  match sparesOf m (slot / 8192) (slot / 2048 % 4) with
  | s :: _ =>
    let own := blockKey (slot / 8192) (slot / 2048 % 4) s
    some { m with remap := nset m.remap slot (physOf m own % 2048), gone := nset m.gone own 0 }
  | [] => none

/-- A block is retired (R199): its slot is replaced; with no spare left the superblock is retired whole. -/
def retireBlock (d : Dev) (c slot : Nat) : Dev :=
  let m := getMed d c
  let die := slot / 8192
  let m := { m with retired := nset m.retired die (ngetD m.retired die 0 + 1), bad := m.bad.filter (· != physOf m slot) }
  let d := bump d .MED_CNT c 7
  match replaceSlot m slot with
  | some m => setMed d c m
  | none => setMed d c (setSb { m with gone := nset m.gone slot 1 } (slot % 2048) { getSb m (slot % 2048) with st := .retired })

/-- A factory bad block is replaced from the spare pool at format; a spare that is bad is absent (R176). -/
def factoryBad (m : Media) (slot : Nat) : Media :=
  if 2016 ≤ slot % 2048 then { m with gone := nset m.gone slot 0 } else (replaceSlot m slot).getD { m with gone := nset m.gone slot 1 }

/-- A sump block that has worn out or failed is replaced; with no spare left its set has a replacement pending, which is a C2 fault (R145). -/
def wornSump (d : Dev) (c slot : Nat) : Dev :=
  if (sparesOf (getMed d c) (slot / 8192) (slot / 2048 % 4)) ≠ [] then retireBlock d c slot
  else
    let p := getSump d c
    let more (s : SumpSet) : SumpSet := { s with pendingRepl := s.pendingRepl + 1 }
    raise (setSump d c (if slot / 2048 % 4 / 2 = 1 then (p.1, more p.2) else (more p.1, p.2))) { cls := 2, cause := 0x10, unit := uMedia c }

/-- The last error of a channel (MED_ERR_LAST): kind, die, plane, page and block. -/
def mediaErr (d : Dev) (c kind die plane page block : Nat) : Dev :=
  let m := getMed d c
  setMed d c { m with lastErr := (at_ kind 28 + at_ die 24 + at_ plane 22 + page, block) }

/-! ### Capacity and endurance (R194, R204) -/

/-- A cell whose valid sectors reach its usable capacity stops admitting, once reported; it resumes below 99 % (R194). -/
def fullCheck (d : Dev) (c : Nat) : Dev :=
  let m := getMed d c
  let v := cellValid d c * 4096
  let u := usableBytes m
  if m.full then (if v * 100 < u * 99 then setMed d c { m with full := false } else d)
  else if u ≤ v ∧ m.st ≠ .offline then
    raise (setMed d c { m with full := true }) { cls := 0, cause := 0x12, unit := uMedia c, addr := v / 2 ^ 20, sev := some 2 }
  else d

/-- Cells that have stopped admitting are looked at again after every command (R194). -/
def fullTurn (d : Dev) : Dev := forEach ((d.med.filter fun p => p.2.full).map (·.1)) d fullCheck

/-- QLC blocks in service that `pe` lists, with their counts, and how many it does not list. -/
def listedPe (m : Media) : NMap Nat := m.pe.filter fun p => p.1 % 2048 != 0 && dieIn m.diesIn (p.1 / 8192)
def unlistedPe (m : Media) : Nat := (goodBlocks m - 64) - (listedPe m).length

/-- QLC blocks of superblocks 1 to 34 that `pe` does not list: the formats' erases are all that they have. -/
def youngPe (m : Media) : Nat := 136 * diesOf m - ((listedPe m).filter fun p => p.1 % 2048 < 35).length

/-- The average, highest and lowest erase count of the QLC blocks in service. -/
def avgPe (m : Media) : Nat := ((listedPe m).foldl (fun n p => n + p.2) (m.peBase * youngPe m)) / max 1 (goodBlocks m - 64)
def maxPe (m : Media) : Nat := (listedPe m).foldl (fun n p => max n p.2) (if youngPe m = 0 then 0 else m.peBase)
def minPe (m : Media) : Nat := if unlistedPe m ≠ 0 then (if youngPe m < unlistedPe m then 0 else m.peBase) else (listedPe m).foldl (fun n p => min n p.2) (maxPe m)

/-- C0 when the average reaches 1,350, and again at 1,500 (R204). -/
def wearCheck (d : Dev) (c : Nat) : Dev :=
  let m := getMed d c
  let a := avgPe m
  if 1500 ≤ a ∧ m.wearTold < 2 then
    raise (setMed d c { m with wearTold := 2 }) { cls := 0, cause := 0x11, unit := uMedia c, addr := a, sev := some 2 }
  else if 1350 ≤ a ∧ m.wearTold = 0 then
    raise (setMed d c { m with wearTold := 1 }) { cls := 0, cause := 0x11, unit := uMedia c, addr := a, sev := some 1 }
  else d

/-! ### Streams (R187, R188) -/

def getStream (m : Media) (s : Nat) : Stream := ngetD m.streams s {}
def setStream (m : Media) (s : Nat) (v : Stream) : Media := { m with streams := nset m.streams s v }

/-- Sectors are appended to a stream. -/
def append (d : Dev) (c s : Nat) (e : StreamEnt) : Dev :=
  let m := getMed d c
  let v := getStream m s
  setMed d c (setStream m s { v with filling := v.filling ++ [{ e with since := d.now }] })

/-- The entries that fit in a stripe row. -/
def takeRow : Nat → List StreamEnt → List StreamEnt
  | _, [] => []
  | cap, e :: t => if e.sectors ≤ cap then e :: takeRow (cap - e.sectors) t else []

/-- The word line of a die's n-th pass, and whether it is a first pass: the first pass of word line w + 1 precedes the second of w (R188). -/
def passRow (n : Nat) : Nat := if n = 0 then 0 else if n % 2 = 1 then min 2047 ((n + 1) / 2) else (n - 2) / 2
def firstPass (n : Nat) : Bool := n == 0 || (n % 2 == 1 && n != 4095)

/-- The pass that a die makes next: where row r has been abandoned, its first pass is left out, so that row r − 1 can close (DESIGN CHOICE: log entry 'Rows before an abandoned one'). -/
def nextPass (v : Stream) (die : Nat) : Nat :=
  let n := ngetD v.passes die 0
  match v.ends with
  | some r => if n + 1 = 2 * r then n + 1 else n
  | none => n

/-- Word lines of a die whose passes are complete, by the passes made, and those that are closed, which its verify reads have checked too (R188). -/
def programmedRows (n : Nat) : Nat := if n = 4096 then 2048 else (n - 1) / 2
def closedRows (v : Stream) (die : Nat) : Nat := min (programmedRows (ngetD v.passes die 0)) (ngetD v.checked die 0)

/-- A stream has sectors to write or to release, and since when. -/
def hasWork (v : Stream) : Bool := v.filling != [] || v.rows.any (· != [])
def workSince (v : Stream) : Option Nat := ((v.rows.flatten ++ v.filling).head?).map (·.since)

/-- A pass of a stream can be granted to a die: its row stands or can be begun, with at most two rows unreleased. -/
def canProgram (m : Media) (s die : Nat) : Bool :=
  let v := getStream m s
  match v.sb with
  | none => v.filling != [] && (takeSb m).isSome
  | some i =>
    let n := nextPass v die
    let r := passRow n
    n < 4096 && dieIn (getSb m i).dies die && hasWork v && v.ends.all (fun e => decide (r < e)) &&
      (if firstPass n then decide (r < v.base + v.rows.length) || (v.rows.length < 2 && v.ends.isNone) else decide (v.base ≤ r))

/-- A verify read of a stream is due on a die: a word line stands programmed and unchecked (R188). -/
def canCheck (m : Media) (s die : Nat) : Bool :=
  let v := getStream m s
  v.sb.isSome && decide (ngetD v.checked die 0 < programmedRows (ngetD v.passes die 0))

/-- What a die can do for a stream: a verify read, else a pass. -/
def streamOp (m : Media) (s die : Nat) : Option MedOp :=
  if canCheck m s die then some (.readBack s) else if canProgram m s die then some (.program s) else none

/-- A pass is granted: a superblock is opened when none is, and a row begun when the pass is the first of a new one; a row takes what is appended by then. -/
def grantPass (m : Media) (s die : Nat) : Media :=
  let v := getStream m s
  let (m, v) := match v.sb with
    | some _ => (m, v)
    | none => match takeSb m with
      | some i => (setSb m i { getSb m i with st := .open_, dies := m.diesIn, refresh := false, waitMap := [] },
                   { v with sb := some i, passes := [], checked := [], ends := none, base := 0, rows := [] })
      | none => (m, v)
  let n := nextPass v die
  let v := if firstPass n && decide (v.base + v.rows.length ≤ passRow n) then
      let i := v.sb.getD 0
      let row := takeRow (rowCap (getSb m i).dies i) v.filling
      { v with rows := v.rows ++ [row], filling := v.filling.drop row.length }
    else v
  setStream { m with running := nset m.running die { op := .program s } } s v

end Sys2Proof.Machine
end

