-- ==== Sys2Proof/Machine/Media.lean ====
section
/-!
DEFINITION. The media channel at work: release, destage, reads, program passes, erases, grants to the dies, garbage collection, scrub and failures
(spec/09_media.md R177 to R204, spec/08_tiers.md R155 to R158, spec/07_persistence.md R144, R145).
-/
namespace Sys2Proof.Machine
open Sys2Proof

/-! ### Release (R125, R159, R183, R188) -/

/-- The charge of a page becomes a number of sectors; the difference goes back to its cell's credit. -/
def settleCharge (d : Dev) (k n : Nat) : Dev :=
  let key := creditKey (ownerOf d k) (homeOf k)
  let old := ngetD d.tier.charge k 0
  { d with tier.charge := nset d.tier.charge k n, tier.credit := nset d.tier.credit key (ngetD d.tier.credit key 0 + (old - n)) }

/-- Sectors take a location of their own in a superblock of a cell. -/
def place (d : Dev) (c sb : Nat) : Dev × Nat :=
  let x := newLoc (getMed d c) sb
  (setMed d c x.1, x.2)

/-- A destaged page is released: its entry moves, its lines destaged and not rewritten since are clean, its charge is final. -/
def releaseDestage (d : Dev) (c sb : Nat) (e : StreamEnt) : Dev :=
  match getFrame d e.key with
  | none => d
  | some f =>
    match f.destaging with
    | none => d
    | some (_, done) =>
      let left := f.lines.filter fun l => !done.contains l
      let f := { f with lines := left, destaging := none, st := if left = [] then .clean else .modified }
      let x := place d c sb
      let d := setMapEnt (setFrame x.1 e.key f) e.key (.stored e.sectors e.raw e.slot x.2)
      let d := { d with tier.t2p := (e.pois.map fun i => e.key * 128 + i).foldl sinsert (d.tier.t2p.filter fun l => l / 128 != e.key) }
      let d := if left = [] then settleCharge d e.key e.sectors else d
      wakeDestaged (bumpBy (bump d .CELL_TIER_CNT c 7) .CELL_TIER_CNT c 8 e.sectors) e.key

/-- A seal rewrite is released: the unchanged page has new sectors (R217). -/
def releaseReseal (d : Dev) (c sb : Nat) (e : StreamEnt) : Dev :=
  match nget d.tier.map e.key with
  | some (.stored _ _ _ _) =>
    let x := place d c sb
    bumpBy (setMapEnt x.1 e.key (.stored e.sectors e.raw e.slot x.2)) .CELL_TIER_CNT c 8 e.sectors
  | _ => d

/-- A relocated page is released, unless its entry has moved meanwhile (R183); its old superblock waits for the map page that the move has changed (R193). -/
def releaseReloc (d : Dev) (c sb old : Nat) (e : StreamEnt) : Dev :=
  match nget d.tier.map e.key with
  | some (.stored n raw _ at0) =>
    if at0 = old then
      let x := place d c sb
      let d := bumpBy (setMapEnt x.1 e.key (.stored n raw e.slot x.2)) .MED_CNT c 9 n
      let m := getMed d c
      let s := getSb m (sbOf old)
      setMed d c (setSb m (sbOf old) { s with waitMap := sinsert s.waitMap (mapPageOf e.key) })
    else d
  | _ => d

/-- The pieces of a root checkpoint: 16 MiB of root, written twice, as 16 runs of 512 sectors (R181, R182). -/
def rootPieces : List StreamEnt := (List.range 16).map fun i => { kind := .root (i == 15), key := i, sectors := 512 }

/-- A piece of a root checkpoint is encrypted under the internal media key (R316), as a management operation (R35). -/
def cryptRoot (d : Dev) (c : Nat) (e : StreamEnt) : Dev := submitCipher d c 2 { id := 2 ^ 62 + 2 ^ 60 + e.key, slot := mediaKey, segments := 4 * e.sectors }

/-- A root checkpoint enters the map stream (R182). -/
def checkpoint (d : Dev) (c : Nat) : Dev :=
  let m := getMed d c
  if rootAway m then d
  else forEach rootPieces (setMed d c { m with rootAt := d.now, mapWrites := 0, rootNew := [] }) fun d e => append (cryptRoot d c e) c 2 e

/-- Changed map lines of the map pages that a predicate names. -/
def changedLines (m : Media) (f : Nat → Bool) : Nat :=
  m.mapLines.foldl (fun n p => if f p.1 then n + ((List.range 128).filter p.2.testBit).length else n) 0

/-- The changed map lines not on their way to the media exceed 4 MiB (R182). -/
def overMaps (m : Media) : Bool := decide (32768 < changedLines m (nhas m.mapDirty))

/-- A map page is written (R182): the root names its new place, and after 4,096 of them a root checkpoint follows. -/
def mapWritten (d : Dev) (c sb mp : Nat) : Dev :=
  let x := place d c sb
  let m := getMed x.1 c
  let d := touchMeta (bump (setMed x.1 c { m with root := nset m.root mp x.2, mapWrites := m.mapWrites + 1 }) .MED_CNT c 14) c
  if 4096 ≤ m.mapWrites + 1 then checkpoint d c else d

/-- A changed map page is released: its lines are clean, and superblocks no longer wait for it (R193). -/
def releaseMap (d : Dev) (c sb : Nat) (e : StreamEnt) : Dev :=
  let m := getMed d c
  let m := { m with sbs := nmap m.sbs fun s => { s with waitMap := s.waitMap.filter (· != e.key) },
                    mapLines := if nhas m.mapDirty e.key then m.mapLines else ndel m.mapLines e.key }
  mapWritten (setMed d c m) c sb e.key

/-- A relocated map page is released, unless the root has moved meanwhile. -/
def releaseMapMove (d : Dev) (c sb old : Nat) (e : StreamEnt) : Dev :=
  if nget (getMed d c).root e.key = some old then bumpBy (mapWritten d c sb e.key) .MED_CNT c 9 8 else d

/-- A piece of a root checkpoint is written; with the last, the checkpoint is the newest, and with it go the position of the scrub and the read counts (R182, R196, R198). -/
def releaseRoot (d : Dev) (c sb : Nat) (last : Bool) : Dev :=
  let m := getMed d c
  let sbs := sinsert m.rootNew sb
  setMed d c (if last then { m with rootSbs := sbs, rootNew := [], ckScrub := m.scrub, ckStart := m.scrubStart, ckReads := m.reads, ckBase := m.readsBase } else { m with rootNew := sbs })

/-- A page of a snapshot has its sectors in a superblock: a staging frame is free from then on (R275). -/
def releaseSnap (d : Dev) (c sb act : Nat) (old : Option Nat) (e : StreamEnt) : Dev :=
  let x := place d c sb
  let move (p : SnapPage) : SnapPage :=
    if p.held.map (·.2) = old then { p with staging := false, moving := false, held := some (e.sectors, x.2), key := e.slot } else p
  let d := tryMove (modSnapPage x.1 act e.key move) c
  if old.isSome then bumpBy d .MED_CNT c 9 e.sectors else bumpBy (bump d .CELL_TIER_CNT c 7) .CELL_TIER_CNT c 8 e.sectors

/-- One entry of a closed stripe row is released. -/
def releaseEnt (d : Dev) (c sb : Nat) (e : StreamEnt) : Dev :=
  match e.kind with
  | .destage false => releaseDestage d c sb e
  | .destage true => releaseReseal d c sb e
  | .relocate old => releaseReloc d c sb old e
  | .map => releaseMap d c sb e
  | .mapMove old => releaseMapMove d c sb old e
  | .root last => releaseRoot d c sb last
  | .snap act old => releaseSnap d c sb act old e

/-- Closed superblocks without valid sectors are reclaimed: erased once their map pages are written and no promotion that read them is in progress (R193). One that holds the newest root
checkpoint stays. -/
def reclaim (d : Dev) (c : Nat) : Dev :=
  let m := getMed d c
  let inUse (i : Nat) : Bool := d.tier.promos.any (fun p => homeOf p.1 == c && p.2.loc.any fun l => sbOf l == i) || m.rootSbs.contains i || m.rootNew.contains i
  let closed := m.sbs.filter fun p => p.2.st == .closed && p.2.waitMap == [] && !inUse p.1
  let go := if closed = [] then [] else
    let used := (placesOf d c).map fun p => sbOf p.1
    closed.filter fun p => !used.contains p.1
  setMed d c (go.foldl (fun m p => setSb { m with move := if m.move = some p.1 then none else m.move } p.1 { p.2 with st := .erasing, since := d.now, erased := [] }) m)

/-- A stream's superblock is closed as it stands. -/
def closeStream (d : Dev) (c s : Nat) : Dev :=
  let m := getMed d c
  let v := getStream m s
  match v.sb with
  | none => d
  | some sb =>
    let m := { m with running := m.running.filter fun p => p.2.op != .program s && p.2.op != .readBack s }
    setMed d c (setStream (setSb m sb { getSb m sb with st := .closed, closedAt := d.now }) s
      { v with sb := none, passes := [], checked := [], ends := none, base := 0, rows := [] })

/-- The rows of a stream that are closed on every die are released in order; after its last row the superblock is closed. -/
def releaseRows : Nat → Dev → Nat → Nat → Dev
  | 0, d, _, _ => d
  | n + 1, d, c, s =>
    let m := getMed d c
    let v := getStream m s
    match v.sb, v.rows with
    | some sb, row :: rest =>
      if v.base < (sbDies m sb).foldl (fun b x => min b (closedRows v x)) 2048 then
        let d := setMed d c (setStream m s { v with base := v.base + 1, rows := rest })
        let d := forEach row d fun d e => releaseEnt d c sb e
        let d := if v.base + 1 = 2048 ∨ v.ends = some (v.base + 1) then closeStream d c s else d
        releaseRows n d c s
      else d
    | _, _ => d

/-- What follows a pass or a verify read: rows are released, superblocks reclaimed, and what waits for dirty space goes on. -/
def releaseStream (d : Dev) (c s : Nat) : Dev := wakeDirty (fullCheck (reclaim (releaseRows 2048 d c s) c) c) c

/-- What becomes of an entry of an abandoned row (R189): destaged lines stay dirty, relocated copies are discarded, map pages and root pieces are written again. Answers the entry where it goes
back to the stream. -/
def abandonEnt (d : Dev) (e : StreamEnt) : Dev × List StreamEnt :=
  match e.kind with
  | .destage false => ({ d with tier.frames := nmod d.tier.frames e.key stopDestage }, [])
  | .destage true => ({ d with tier.reseal := d.tier.reseal ++ [e.key] }, [])
  | .relocate _ => (d, [])
  | .map | .mapMove _ | .root _ => (d, [e])
  | .snap act _ => ({ d with snap.snaps := nmod d.snap.snaps act fun s => { s with pages := nmod s.pages e.key fun p => { p with moving := false } } }, [])

/-- A row of a stream and every later unreleased one are abandoned (R189); the superblock is closed once the earlier ones are released. -/
def abandonRows (d : Dev) (c s row : Nat) : Dev :=
  let m := getMed d c
  let v := getStream m s
  if v.sb.isNone then d
  else
    let keep := row - v.base
    let x := (v.rows.drop keep).flatten.foldl (fun (a : Dev × List StreamEnt) e => let y := abandonEnt a.1 e; (y.1, a.2 ++ y.2)) (d, [])
    let late (p : Nat × DieRun) : Bool := p.2.op == .program s && decide (row ≤ passRow (nextPass v p.1)) || p.2.op == .readBack s && decide (row ≤ ngetD v.checked p.1 0)
    let v := { v with rows := v.rows.take keep, ends := some (min row (v.ends.getD row)), filling := x.2 ++ v.filling }
    let m := getMed x.1 c
    let d := setMed x.1 c (setStream { m with running := m.running.filter fun p => !late p } s v)
    reclaim (if row ≤ v.base then closeStream d c s else d) c

/-- Every unreleased row of a stream is abandoned. -/
def abandonAll (d : Dev) (c s : Nat) : Dev := abandonRows d c s (getStream (getMed d c) s).base

/-! ### Destage (R155 to R158) -/

/-- The dirty level u of a cell in percent (R156). -/
def dirtyLevel (d : Dev) (c : Nat) : Nat := dirtyCount d c * 100 / (cellMib d * 8192)
def hiPct (d : Dev) : Nat := clampTo 1 100 (hfld d .TIER_DESTAGE_CFG 23 16)
def loPct (d : Dev) : Nat := min (hiPct d) (hfld d .TIER_DESTAGE_CFG 15 8)
def urgentShare (d : Dev) : Nat := max 2 (hfld d .TIER_DESTAGE_CFG 3 0)

def gcLow (d : Dev) (c : Nat) : Nat := max 4 (cfld d .MED_GC_CFG c 31 24)
def gcUrgent (d : Dev) (c : Nat) : Nat := clampTo 2 (gcLow d c) (cfld d .MED_GC_CFG c 23 16)

/-- Garbage collection can free a superblock: some closed one holds fewer valid sectors than it can. -/
def gcCan (d : Dev) (c : Nat) : Bool :=
  (getMed d c).sbs.any fun p => p.2.st == .closed && decide (sbValid d c p.1 < sbCap p.1 p.2)

/-- Destage at a cell has stopped (R131, R194, R203). -/
def destageStopped (d : Dev) (c : Nat) : Bool :=
  !mediaOn d c || (decide (freeSbs (getMed d c) < gcUrgent d c) && !gcCan d c)

/-- The oldest modified frame, by first modification, among those of a cell that a predicate admits. -/
def oldestModified (d : Dev) (c : Nat) (f : Nat → Bool) : Option (Nat × Nat) :=
  ((cellFrames d c).filter fun p => p.2.st == .modified && p.2.destaging.isNone && f p.1).foldl (fun (b : Option (Nat × Nat)) p => match b with
    | none => some (p.1, p.2.firstMod)
    | some x => if p.2.firstMod < x.2 then some (p.1, p.2.firstMod) else b) none

/-- Sectors, form and counter of a page by its compressed length (Table TIR-6, CMP_CNT). -/
def sectorsOf (comp : Bool) (n : Nat) : Nat × Bool × Nat :=
  if comp = false then (4, true, 4)
  else if n ≤ 4032 then (1, false, 0)
  else if n ≤ 8128 then (2, false, 1)
  else if n ≤ 12224 then (3, false, 2)
  else (4, true, 3)

/-- Bytes of a page go through a buffer, the compression engine where the chamber compresses, and the encryption class, and are appended to the destage stream. -/
def writeOut (d : Dev) (c k buf : Nat) (bytes : List Byte) (kind : EntKind) (pois : List Nat) : Dev :=
  match chmOf d k with
  | none => dropRef d buf
  | some ch =>
    let (s, raw, i) := sectorsOf ch.comp (Config.compressedLen bytes)
    let d := bump d .CMP_CNT c i
    let d := if ch.comp then submitComp d c 2 k else d
    let slot := chainEnd d 4096 ch.xts
    let d := submitCipher d c 1 { id := k, slot := slot, segments := 4 * s, buf := some buf }
    append d c 0 { kind := kind, key := k, sectors := s, raw := raw, slot := slot, pois := pois }

/-- A page is written from its frame: the merging buffer's entries drain, and T1 is read (R155). -/
def writePage (d : Dev) (c k buf : Nat) (reseal : Bool) : Dev :=
  let d := forEach ((getAlc d c).mb.filter fun e => e.line / 128 == k) d fun d e => drainRead d c e
  let d := readPageT1 d k ⟨0x1000, c, 5⟩
  writeOut d c k buf (memRead d.mem (pageAddr k) 16384) (.destage reseal) (pagePoison d k)

/-- The oldest page of a snapshot in a staging frame of a cell that is not on its way to T2: act, page and when it was preserved. -/
def stagedPage (d : Dev) (c : Nat) : Option (Nat × Nat × Nat) :=
  d.snap.snaps.foldl (fun b s => s.2.pages.foldl (fun (b : Option (Nat × Nat × Nat)) p =>
    if p.2.staging && !p.2.moving && homeOf p.1 == c then
      (match b with
        | none => some (s.1, p.1, p.2.at_)
        | some x => if p.2.at_ < x.2.2 then some (s.1, p.1, p.2.at_) else b)
    else b) b) none

/-- A staging frame is destaged as retained sectors (R275). -/
def writeStaged (d : Dev) (c act k buf : Nat) : Dev :=
  match (nget d.snap.snaps act).bind fun s => nget s.pages k with
  | some pg =>
    let mark (s : Snap) : Snap := { s with pages := nset s.pages k { pg with moving := true } }
    writeOut { d with snap.snaps := nmod d.snap.snaps act mark } c k buf ((List.range 16384).map fun i => ngetD pg.bytes i 0) (.snap act none) pg.poison
  | none => dropRef d buf

/-- A COMMIT, or the commit marker of one, waits for a page (R292). -/
def commitWants (d : Dev) (k : Nat) : Bool := d.reqs.any fun r => r.kind == .commitMark && r.parts.any fun p => p.st == .waitDestage && pageKey r.chamber p.page == k

/-- What a destage takes (R155, R217): a page to rewrite for its seal, a modified frame, or a staging frame. -/
inductive DestageWork where
  | reseal (key : Nat)
  | frame (key : Nat)
  | staged (act key : Nat)
deriving DecidableEq, Repr

/-- No other tier work is queued at a cell: no promotion, no check of a T2 copy, nothing in the destage stream. -/
def tierIdle (d : Dev) (c : Nat) : Bool :=
  !(d.tier.promos.any fun p => homeOf p.1 == c) && !(d.tier.verifs.any fun p => homeOf p.1 == c) && !hasWork (getStream (getMed d c) 0)

/-- The next destage of a cell: pages that a COMMIT waits for, seal rewrites, then dirty, Reference and staging frames oldest first, then Volatile frames that eviction has queued, then, when nothing else is queued, any. -/
def nextDestage (d : Dev) (c : Nat) : Option DestageWork :=
  let vol (k : Nat) : Bool := classOfPage d k == .volatileC
  match oldestModified d c (commitWants d), d.tier.reseal.find? fun k => homeOf k == c with
  | some x, _ => some (.frame x.1)
  | none, some k => some (.reseal k)
  | none, none =>
    match oldestModified d c (fun k => !vol k), stagedPage d c with
    | some (k, t), st => some (match st.filter fun x => decide (x.2.2 < t) with
      | some x => .staged x.1 x.2.1
      | none => .frame k)
    | none, some x => some (.staged x.1 x.2.1)
    | none, none =>
      ((oldestModified d c fun k => vol k && d.tier.volQ.contains k).orElse fun _ => if tierIdle d c then oldestModified d c vol else none).map fun x => .frame x.1

/-- A destage goes on with its buffer. -/
def startDestage (d : Dev) (c : Nat) (w : DestageWork) (buf : Nat) : Dev :=
  match w with
  | .reseal k => writePage { d with tier.reseal := d.tier.reseal.filter (· != k) } c k buf true
  | .staged act k => writeStaged d c act k buf
  | .frame k =>
    match getFrame d k with
    | none => dropRef d buf
    | some f => writePage (setFrame { d with tier.volQ := d.tier.volQ.filter (· != k) } k { f with destaging := some (d.nextReq, f.lines) }) c k buf false

/-- A destage from a page frame waits while its agent is throttled in one of the frame's banks (R223). -/
def workThrottled (d : Dev) (c : Nat) : DestageWork → Bool
  | .reseal k => agentThrottled d k ⟨0x1000, c, 5⟩
  | .frame k => agentThrottled d k ⟨0x1000, c, 5⟩
  | .staged _ _ => false

/-- DESTAGE_START (R155): a cell takes its next destage, for which it asks for a buffer; one that waits for a buffer has asked. -/
def destageStart (d : Dev) (c : Nat) : Dev :=
  if destageStopped d c || !(inService3 d) || d.res.waits.any fun w => w.cell == c && w.use == .destage then d
  else
    match nextDestage d c with
    | none => d
    | some w => if workThrottled d c w then d else withBuf d c 0x1000 16384 .destage fun d id => startDestage d c w id

/-! ### What a read brings (R151, R182, R185, R188, R196, R198, R202) -/

/-- The indexes of the lost codewords. -/
def lostWords (l : List CodeWord) : List Nat := (List.range l.length).filter fun i => ((l[i]?).map (·.level)).getD 0 ≥ 7

/-- The pages that a map page covers and that are stored turn unreadable; Mirrored ones are pulled from the twin (R182). -/
def mapUnreadable (d : Dev) (c mp : Nat) : Dev :=
  let ks := (d.tier.map.filter fun p => homeOf p.1 == c && mapPageOf p.1 == mp).map (·.1)
  let m := getMed d c
  let d := { setMed d c { m with root := ndel m.root mp } with tier.mapBad := ks.foldl sinsert d.tier.mapBad }
  forEach (ks.filter fun k => classOfPage d k == .mirrored) d fun d k => pullPage d k

/-- A map page has been loaded (R181, R182): it stands in the cache, or it is unreadable and every promotion of its pages fails. -/
def mapLoaded (d : Dev) (c mp : Nat) (bad : Bool) : Dev :=
  if bad = false then submitCipher (setMed d c (cacheMap (getMed d c) (goneCache d c) mp)) c 0 { id := 2 ^ 62 + mp, slot := mediaKey, segments := 32 }
  else
    let ks := (d.tier.promos.filter fun p => homeOf p.1 == c && mapPageOf p.1 == mp && !p.2.started).map (·.1)
    forEach ks (mapUnreadable d c mp) fun d k => promoFails d k 2

/-- The sectors of a page go through a buffer to decryption and decompression (R151). -/
def promoBuffered (d : Dev) (k buf : Nat) : Dev :=
  match nget d.tier.promos k, nget d.tier.map k with
  | some p, some (.stored s raw slot _) =>
    let c := homeOf k
    let d := { d with tier.promos := nset d.tier.promos k { p with buf := some buf } }
    let d := submitCipher d c 0 { id := k, slot := slot, segments := 4 * s }
    if raw then d else submitComp d c (if p.cls = .demand then 0 else 1) k
  | _, _ => dropRef d buf

/-- The sectors of a page for a promotion have been read, and ask for a buffer; sectors that a rebuild has lost are pulled from the twin (R202). -/
def promoRead (d : Dev) (c k : Nat) (ws : List CodeWord) : Dev :=
  match nget d.tier.promos k, nget d.tier.map k with
  | some p, some (.stored s _ _ _) =>
    let lost := (lostWords ws).filter (· < s)
    let d := { d with tier.promos := nset d.tier.promos k { p with readDone := some lost, compared := ws.all fun w => decide (w.level < 6) } }
    let d := if lost ≠ [] ∧ (getMed d c).rebuild.isSome ∧ classOfPage d k = .mirrored then pullPage d k else d
    withBuf d c 0x1001 (4096 * s) (.promotion k) fun d id => promoBuffered d k id
  | _, _ => d

/-- The slot under which a page is encrypted now: the end of the chain of links from the one its chamber names (R317, R318). -/
def slotNow (d : Dev) (k : Nat) : Nat := ((chmOf d k).map fun ch => chainEnd d 4096 ch.xts).getD 0

/-- The page, or map page, that a relocation has read, if it still lies where it was read: its stream, and what is appended. -/
def relocEnt (d : Dev) (c : Nat) : MedOp → Option (Nat × StreamEnt)
  | .relocate sb k => match nget d.tier.map k with
    | some (.stored s raw _ loc) => if sbOf loc = sb then some (1, { kind := .relocate loc, key := k, sectors := s, raw := raw, slot := slotNow d k }) else none
    | _ => none
  | .relocSnap sb act k => match ((nget d.snap.snaps act).bind fun s => nget s.pages k).bind (·.held) with
    | some (s, loc) => if sbOf loc = sb then some (1, { kind := .snap act (some loc), key := k, sectors := s, raw := s == 4, slot := slotNow d k }) else none
    | none => none
  | .relocMap sb mp => match nget (getMed d c).root mp with
    | some loc => if sbOf loc = sb then some (2, { kind := .mapMove loc, key := mp, sectors := 8, slot := mediaKey }) else none
    | none => none
  | _ => none

/-- What was lost of a page to relocate stays lost, as poison of its new copy (R152, R202). -/
def relocLost (d : Dev) (e : StreamEnt) (lost : List Nat) : Dev :=
  let is := lostLines e.raw (lost.filter (· < e.sectors))
  match e.kind with
  | .relocate _ =>
    let d := if is ≠ [] ∧ classOfPage d e.key = .mirrored then pullPage d e.key else d
    { d with tier.t2p := (is.map fun i => e.key * 128 + i).foldl sinsert d.tier.t2p }
  | .snap act _ => { d with snap.snaps := nmod d.snap.snaps act fun s => { s with pages := nmod s.pages e.key fun p => { p with poison := is.foldl sinsert p.poison } } }
  | _ => d

/-- The slot under which what a relocation has read is encrypted. -/
def relocSlot (d : Dev) : MedOp → Nat
  | .relocate _ k => match nget d.tier.map k with
    | some (.stored _ _ slot _) => slot
    | _ => mediaKey
  | .relocSnap _ act k => (((nget d.snap.snaps act).bind fun s => nget s.pages k).map (·.key)).getD mediaKey
  | _ => mediaKey

/-- Moved sectors are decrypted under their own pair and encrypted under the current end of its chain (R318), as operations of the management class (R35; DESIGN CHOICE; log entry
'Relocations in the cipher queue'). -/
def recrypt (d : Dev) (c old : Nat) (e : StreamEnt) : Dev :=
  submitCipher (submitCipher d c 2 { id := 2 ^ 61 + 2 * e.key + 1, slot := old, segments := 4 * e.sectors }) c 2 { id := 2 ^ 61 + 2 * e.key + 2, slot := e.slot, segments := 4 * e.sectors }

/-- A relocation goes on with its buffer: what it read is appended to its stream. -/
def relocBuffered (d : Dev) (c : Nat) (op : MedOp) (lost : List Nat) (buf : Nat) : Dev :=
  match relocEnt d c op with
  | some (s, e) => dropRef (append (recrypt (relocLost d e lost) c (relocSlot d op) e) c s e) buf
  | none => dropRef d buf

/-- The requester of a relocation's buffer (Table FLT-4): the die-rebuild agent while a rebuild runs, else the media controller. -/
def relocRequester (d : Dev) (c : Nat) : Nat := if (getMed d c).rebuild.isSome then 0x1006 else 0x1002

/-- A relocation has been read, and asks for a buffer. -/
def relocRead (d : Dev) (c : Nat) (op : MedOp) (ws : List CodeWord) : Dev :=
  match relocEnt d c op with
  | some (_, e) => withBuf d c (relocRequester d c) (4096 * min 4 e.sectors) (.relocation op (lostWords ws)) fun d id => relocBuffered d c op (lostWords ws) id
  | none => d

/-- A row fails on a die (R188, R189): the block of a plane is recorded for retirement and named in an S1 record, and the row is abandoned. -/
def rowFails (d : Dev) (c die s row plane page : Nat) : Dev :=
  let m := getMed d c
  let b := physOf m (blockKey die plane ((getStream m s).sb.getD 0))
  let d := mediaErr (bump (setMed d c { m with bad := sinsert m.bad b }) .MED_CNT c 5) c 2 die plane page (b % 2048)
  abandonRows (logEvent d 1 (uDie c die) [b]) c s row

/-- A verify read of the next word line of a die (R188): every codeword must decode at level 0 to 3. -/
def verifyRead (d : Dev) (c die s : Nat) (ws : List CodeWord) : Dev :=
  let m := getMed d c
  let v := getStream m s
  let row := ngetD v.checked die 0
  match ws.find? fun w => decide (4 ≤ w.level) with
  | some w => rowFails d c die s row (w.addr / 2 ^ 24 % 4) (w.addr % 8192)
  | none => releaseStream (setMed d c (setStream m s { v with checked := nset v.checked die (row + 1) })) c s

/-- A sump set of a cell is closed and kept. -/
def sumpHeld (d : Dev) (c : Nat) : Bool := (getSump d c).1.state == .holding || (getSump d c).2.state == .holding

/-- The first position of the patrol scrub from a superblock on: closed ones, and superblock 0 while a closed sump set is held (R196). -/
def scrubFrom (d : Dev) (c i : Nat) : Option Nat :=
  let m := getMed d c
  (((List.range 2048).filter (i ≤ ·)).find? fun j => (getSb m j).st == .closed || (j == 0 && sumpHeld d c)).map fun j => j * 2 ^ 17 + ((sbDies m j).head?.getD 0) * 2 ^ 13

/-- The pages of a block: 2,048 of a sump block in SLC mode, else 8,192. -/
def pagesOf (sb : Nat) : Nat := if sb = 0 then 2048 else 8192

/-- The position after one: the next page of the die's blocks, the next die, the next superblock; the pass ends after the last. -/
def scrubAfter (d : Dev) (c pos : Nat) : Option Nat :=
  let sb := pos / 2 ^ 17
  if pos % 2 ^ 13 + 1 < pagesOf sb then some (pos + 1)
  else match (sbDies (getMed d c) sb).find? fun x => decide (pos / 2 ^ 13 % 16 < x) with
    | some x => some (sb * 2 ^ 17 + x * 2 ^ 13)
    | none => scrubFrom d c (sb + 1)

/-- Where the scrub of a cell reads next: its position, unless that superblock is no longer to be read or its die is out of service. -/
def scrubAt (d : Dev) (c : Nat) : Option Nat :=
  let m := getMed d c
  m.scrub.bind fun pos =>
    let sb := pos / 2 ^ 17
    if (getSb m sb).st = .closed ∨ (sb = 0 ∧ sumpHeld d c = true) then
      (if (sbDies m sb).contains (pos / 2 ^ 13 % 16) then some pos else scrubAfter d c (pos ||| 8191))
    else scrubFrom d c (sb + 1)

/-- The compare marker of a page leaves in its custodian's order (R253): its digest, with the lines that its T2 copy has lost. -/
def sendMarker (d : Dev) (k : Nat) (lost : List Nat) : Dev :=
  let c := homeOf k
  let (d, ts) := mirrorStamp d c
  bump (sendMirror (stampSent d c ts) c (pageAddr k) (.marker (keyChamber k) (keyPage k)) false false ts (leBytes 8 (digestWith d k lost)) []) .CUS_CNT 0 13

/-- The T2 copy of a page has been read for a compare pass (R253), which goes on only in a Joined pair whose custodian this is. -/
def compareRead (d : Dev) (k : Nat) (lost : List Nat) : Dev :=
  let own := if (getFrame d k).isSome then [] else lost ++ (List.range 128).filter fun i => d.tier.t2p.contains (k * 128 + i)
  if joined d && isHolder d (keyChamber k) then sendMarker d k own else d

/-- Once the repairs of a compared page that the twin asked for are over, the page is compared again, once (R254). -/
def compareAgain (d : Dev) (k : Nat) : Dev :=
  if nget d.cus.again k = some 1 ∧ (d.repairs.any fun p => decide (p.1 < 2 ^ 64) && p.1 / 128 == k) = false then
    let d := { d with cus.again := ndel d.cus.again k }
    if joined d && isHolder d (keyChamber k) then sendMarker d k [] else d
  else d

/-- The read of an operation is complete: what its codewords bring. `mapBad` says that neither copy of a map page could be decoded. -/
def finishRead (d : Dev) (c die : Nat) (op : MedOp) (ws : List CodeWord) (mapBad : Bool) : Dev :=
  match op with
  | .promo k => promoRead d c k ws
  | .mapLoad mp => mapLoaded d c mp mapBad
  | .relocMap sb mp => if mapBad && !mapCached (getMed d c) mp then mapUnreadable d c mp else relocRead d c (.relocMap sb mp) ws
  | .relocate sb k => relocRead d c (.relocate sb k) ws
  | .relocSnap sb act k => relocRead d c (.relocSnap sb act k) ws
  | .readBack s => verifyRead d c die s ws
  | .scrub pos =>
    let d := bumpBy d .MED_CNT c 13 4
    setMed d c { getMed d c with scrub := scrubAfter d c pos }
  | .check b page =>
    let m := getMed d c
    if page = 8191 then bump (setMed d c { m with checks := ndel m.checks b }) .MED_CNT c 11
    else setMed d c { m with checks := nmod m.checks b fun x => (x.1, page + 1) }
  | .repair l =>
    let raw := match nget d.tier.map (l / 128) with
      | some (.stored _ r _ _) => r
      | _ => false
    compareAgain (applyRepair d l none ((lostLines raw (lostWords ws)).contains (l % 128) || d.tier.t2p.contains l ||
      (blanketed d (l / 128) && !d.cured.contains l))) (l / 128)
  | .compare k =>
    let raw := match nget d.tier.map k with
      | some (.stored _ r _ _) => r
      | _ => false
    compareRead d k (lostLines raw (lostWords ws))
  | .verify k =>
    let s := match nget d.tier.map k with
      | some (.stored s _ _ _) => s
      | _ => 0
    { d with tier.verifs := nmod d.tier.verifs k fun p =>
        { p with readDone := some ((lostWords ws).filter (· < s)), compared := ws.all fun w => decide (w.level < 6) } }
  | .program _ | .erase _ | .eraseSump _ => d

/-- The superblock that an operation reads, where its place is that of a location. -/
def opSb (d : Dev) (c : Nat) (op : MedOp) : Option Nat :=
  let ofPage (k : Nat) : Option Nat := match nget d.tier.map k with
    | some (.stored _ _ _ loc) => some (sbOf loc)
    | _ => none
  match op with
  | .promo k | .verify k | .compare k => ofPage k
  | .repair l => ofPage (l / 128)
  | .relocate sb _ | .relocSnap sb _ _ | .relocMap sb _ => some sb
  | .scrub pos => some (pos / 2 ^ 17)
  | .check b _ => some (sbOfBlock (getMed d c) b)
  | .mapLoad mp => (nget (getMed d c).root mp).map sbOf
  | .readBack s => (getStream (getMed d c) s).sb
  | _ => none

/-- The sectors that an operation reads, for a read that no die answers. -/
def opSectors (d : Dev) (c : Nat) (op : MedOp) : Nat :=
  match op with
  | .promo k | .verify k | .compare k => (match nget d.tier.map k with
    | some (.stored s _ _ _) => s
    | _ => 0)
  | .repair l => (match nget d.tier.map (l / 128) with
    | some (.stored s _ _ _) => s
    | _ => 0)
  | .relocate _ _ | .relocSnap _ _ _ => ((relocEnt d c op).map fun x => x.2.sectors).getD 0
  | .mapLoad _ | .relocMap _ _ => 4
  | .scrub _ | .check _ _ | .readBack _ => 16
  | _ => 0

/-- A read whose die does not answer is served from die parity, at level 6 (R185, R200, R201); with more dies of the superblock gone than one, what it needs is lost (R202). -/
def serveByParity (d : Dev) (c die : Nat) (op : MedOp) (gone : Nat) : Dev :=
  let n := opSectors d c op
  let lvl := if ((opSb d c op).map (missingDies (getMed d c))).getD 0 + gone ≤ 1 then 6 else 7
  finishRead (bumpBy d .MED_RETRY_CNT c lvl n) c die op ((List.range n).map fun _ => ⟨lvl, 0, 0⟩) (lvl == 7)

/-- The operation is a read. -/
def isRead : MedOp → Bool
  | .program _ | .erase _ | .eraseSump _ => false
  | _ => true

/-! ### Erases (R179, R193, R199) -/

/-- Blocks are erased: each counts an erase and forgets its reads. -/
def eraseBlocks (m : Media) (slots : List Nat) : Media :=
  slots.foldl (fun m k => let b := physOf m k; { m with pe := nset m.pe b (peOf m b + 1), reads := if m.readsBase = 0 then ndel m.reads b else nset m.reads b 0, level6 := ndel m.level6 b, checks := ndel m.checks b }) m

/-- A superblock that every die of it has erased is FREE, or a spare (R187, R193). -/
def finishErase (d : Dev) (c sb : Nat) : Dev :=
  let m := getMed d c
  let s := getSb m sb
  if s.erased = [] ∨ ((sbDies m sb).all fun x => s.erased.contains x) = false then d
  else
    let st := if s.st = .retired then .retired else if sb < 2016 then .free else .spare
    let left := m.formatLeft.filter (· != sb)
    let d := setMed d c { setSb m sb { st := st, dies := m.diesIn } with formatLeft := left, st := if m.st = .formatting ∧ left = [] then .online else m.st }
    let d := if m.formatLeft = left ∧ s.st = .erasing then bump d .MED_CNT c 8 else d
    if s.refresh then bump d .MED_CNT c 10 else d

/-- Dies that run an erase which has not been suspended. -/
def erasingDies (m : Media) (op : MedOp) : List Nat := (m.running.filter fun p => p.2.op == op && !p.2.suspended).map (·.1)

/-- Dies finish what they run. -/
def freeDies (m : Media) (l : List Nat) : Media :=
  { m with running := m.running.filter fun p => !l.contains p.1, timeouts := m.timeouts.filter fun p => !l.contains p.1 }

/-- ERASE_DONE (R193, R199): the dies that were erasing their blocks of a superblock are done with them. Blocks that failed the erase, and blocks recorded before, are retired; `failed` are the
blocks as die × 4 + plane. The superblock is FREE when all its dies have erased. -/
def eraseDone (d : Dev) (c sb : Nat) (failed : List Nat) : Dev :=
  let m := getMed d c
  let dies := erasingDies m (.erase sb)
  if dies = [] then d
  else
    let slots := (sbSlots m sb).filter fun k => dies.contains (k / 8192)
    let s := getSb m sb
    let m := setSb (freeDies (eraseBlocks m slots) dies) sb { s with erased := dies.foldl sinsert s.erased }
    let d := finishErase (bumpBy (setMed d c m) .MED_CNT c 3 slots.length) c sb
    let bad := slots.filter fun k => failed.contains (k / 2048) || m.bad.contains (physOf m k)
    let d := forEach bad d fun d k =>
      let d := if failed.contains (k / 2048) then mediaErr (bump d .MED_CNT c 6) c 3 (k / 8192) (k / 2048 % 4) 0 (physOf (getMed d c) k % 2048) else d
      retireBlock d c k
    fullCheck (wearCheck d c) c

/-- The sump blocks of a set: planes 0 and 1, or 2 and 3, of superblock 0 (R144). -/
def sumpSlots (m : Media) (set1 : Bool) : List Nat := (sbSlots m 0).filter fun k => (k / 2048 % 4 / 2 == 1) == set1

/-- A set of a cell, and a change of it. -/
def sumpSet (d : Dev) (c : Nat) (set1 : Bool) : SumpSet := if set1 then (getSump d c).2 else (getSump d c).1
def setSumpSet (d : Dev) (c : Nat) (set1 : Bool) (s : SumpSet) : Dev :=
  let p := getSump d c
  setSump d c (if set1 then (p.1, s) else (s, p.2))

/-- The highest erase count of a set's blocks. -/
def sumpPe (m : Media) (set1 : Bool) : Nat := (sumpSlots m set1).foldl (fun n k => max n (peOf m (physOf m k))) 0

/-- A set that every die has erased is ARMED (R144). -/
def finishSump (d : Dev) (c : Nat) (set1 : Bool) : Dev :=
  let m := getMed d c
  let s := sumpSet d c set1
  if s.state ≠ .erasing ∨ s.erased = [] ∨ ((sbDies m 0).all fun x => s.erased.contains x) = false then d
  else wakeDirty (setSumpSet d c set1 { state := .armed, maxPE := sumpPe m set1, pendingRepl := s.pendingRepl }) c

/-- SUMP_ERASE_DONE (R144, R145): the dies that were erasing a set have erased and blank-checked their blocks; blocks that failed, or reached 30,000 cycles, are replaced. The set is ARMED when
every block has been erased. -/
def sumpEraseDone (d : Dev) (c : Nat) (set1 : Bool) (failed : List Nat) : Dev :=
  let m := getMed d c
  let dies := erasingDies m (.eraseSump set1)
  if dies = [] then d
  else
    let slots := (sumpSlots m set1).filter fun k => dies.contains (k / 8192)
    let m := freeDies (eraseBlocks m slots) dies
    let d := bumpBy (setMed d c m) .MED_CNT c 3 slots.length
    let s := sumpSet d c set1
    let d := setSumpSet d c set1 { s with erased := dies.foldl sinsert s.erased }
    let bad := slots.filter fun k => failed.contains (k / 2048) || decide (30000 ≤ peOf m (physOf m k))
    finishSump (forEach bad d fun d k => wornSump d c k) c set1

/-! ### Failures of dies and channels (R200 to R203) -/

/-- The channel goes OFFLINE: its promotions fail at once, its work stops, its destage too (R203). -/
def mediaOffline (d : Dev) (c cause : Nat) : Dev :=
  let m := getMed d c
  if m.st = .offline then setMed d c { m with cause := if m.cause = 0 then cause else m.cause }
  else
    let fs := (cellFrames d c).map (·.1)
    let d := setMed d c { stopMedia d.now m with st := .offline, cause := cause }
    promosOffline { d with tier.frames := fs.foldl (fun t k => nmod t k stopDestage) d.tier.frames } c

/-- A die fails (R200 to R202): reads that it ran are served from parity, open superblocks are closed, C2 names the die, and the rebuild begins; below 12 dies the channel is OFFLINE. A new root
checkpoint is written, so that the old one does not hold its superblocks. -/
def dieFails (d : Dev) (c die : Nat) : Dev :=
  let m := getMed d c
  if !dieIn m.diesIn die || m.st == .offline then d
  else
    let mine := (m.running.filter fun p => p.1 % 16 == die).map (·.2.op)
    let d := setMed d c { m with diesIn := m.diesIn - 2 ^ die, running := ndel (ndel m.running die) (16 + die) }
    let d := forEach (mine.filter isRead) d fun d op => serveByParity d c die op 0
    let d := forEach [0, 1, 2] d fun d s => abandonAll d c s
    let d := raise { d with flt.dies := sinsert d.flt.dies (c * 16 + die) } { cls := 2, cause := 0x0E, unit := uDie c die, sev := some 2 }
    if diesOf (getMed d c) < 12 then mediaOffline d c 3
    else
      let d := setMed d c { getMed d c with st := .rebuilding, rebuild := some die, rebuildAt := d.now }
      let d := forEach ((getMed d c).sbs.filter fun p => p.2.erased != []) d fun d p => finishErase d c p.1
      let d := finishSump (finishSump d c false) c true
      fullCheck (if (getMed d c).rootSbs = [] then d else checkpoint d c) c

/-- Closed superblocks that hold a block of a die, and those that hold one of any die that is out of service. -/
def sbsWithDie (m : Media) (die : Nat) : List Nat := (m.sbs.filter fun p => p.2.st == .closed && dieIn p.2.dies die).map (·.1)
def sbsToRebuild (m : Media) : List Nat := (m.sbs.filter fun p => p.2.st == .closed && decide (0 < missingDies m p.1)).map (·.1)

/-- REBUILD_END: no superblock holds a block of the failed die (R201); one that another failed die's blocks still stand in goes on with that die (R202). -/
def rebuildEnd (d : Dev) (c : Nat) : Dev :=
  let m := getMed d c
  match m.rebuild with
  | none => d
  | some die =>
    let holds (x : Nat) : Bool := m.sbs.any fun p => (p.2.st == .closed || p.2.st == .erasing) && dieIn p.2.dies x
    if holds die then d
    else
      let d := logEvent d 2 (uDie c die) [1]
      match (List.range 16).find? fun x => !dieIn m.diesIn x && holds x with
      | some x => setMed d c { m with rebuild := some x }
      | none => setMed d c { m with st := if m.formatLeft = [] then .online else .formatting, rebuild := none }

/-- RETIRE_DIE: a client fails a die; ignored during a rebuild or when fewer than 12 would be left, which sets REJECTED (R200). One that names a die out of service already is ignored too, with
REJECTED (DESIGN CHOICE: the manual does not say; log entry 'RETIRE_DIE of a die out of service'). -/
def retireDie (d : Dev) (w : Writer) (c die : Nat) : Dev :=
  command d w .MED_CTRL c 0 (operator d w) fun d =>
    let m := getMed d c
    if m.rebuild.isSome ∨ diesOf m ≤ 12 ∨ dieIn m.diesIn die = false then setMed d c { m with rejected := true } else dieFails d c die

/-- The place under which a die's operation stands that can end: a read beside a suspended operation stands under 16 + die. -/
def runSlot (m : Media) (die : Nat) : Nat := if nhas m.running (16 + die) then 16 + die else die

/-- MEDIA_OPERATION_TIMEOUT (R200): a read is served at level 6, a failed pass ends its row, an erase is tried again; the third in a row fails the die. -/
def mediaOperationTimeout (d : Dev) (c die : Nat) : Dev :=
  let m := getMed d c
  match nget m.running (runSlot m die) with
  | none => d
  | some r =>
    let n := ngetD m.timeouts die 0 + 1
    let d := mediaErr (setMed d c { m with running := ndel m.running (runSlot m die), timeouts := nset m.timeouts die n }) c 4 die 0 0 0
    let d := match r.op with
      | .program s => let v := getStream m s; let row := passRow (nextPass v die); rowFails d c die s row 0 (4 * row)
      | op => if isRead op then serveByParity d c die op 1 else d
    if 3 ≤ n then dieFails d c die else d

/-! ### Queued work (R156, R186, R191, R192, R195, R201) -/

/-- An operation for a page is running, queued for a buffer, or has its sectors in a stream already. -/
def relocBusy (d : Dev) (c : Nat) (op : MedOp) (s : Nat) (mine : StreamEnt → Bool) : Bool :=
  let v := getStream (getMed d c) s
  (v.rows.flatten ++ v.filling).any mine || ((getMed d c).running.any fun p => p.2.op == op) || d.res.waits.any fun w => w.cell == c && (match w.use with
    | .relocation o _ => o == op
    | _ => false)

/-- The next page of a superblock to relocate: one whose entry names it and that is not already on its way. -/
def relocPage (d : Dev) (c sb : Nat) : Option MedOp :=
  (d.tier.map.find? fun p => homeOf p.1 == c && (match p.2 with
    | .stored _ _ _ loc => sbOf loc == sb && !relocBusy d c (.relocate sb p.1) 1 fun e => e.key == p.1 && e.kind == .relocate loc
    | _ => false)).map fun p => .relocate sb p.1

/-- The next page of a snapshot whose retained sectors a superblock holds. -/
def relocSnapOf (d : Dev) (c sb : Nat) : Option MedOp :=
  d.snap.snaps.findSome? fun s =>
    (s.2.pages.find? fun p => homeOf p.1 == c && (match p.2.held with
      | some (_, loc) => sbOf loc == sb && !relocBusy d c (.relocSnap sb s.1 p.1) 1 fun e => e.key == p.1 && e.kind == .snap s.1 (some loc)
      | none => false)).map fun p => .relocSnap sb s.1 p.1

/-- The next map page that a superblock holds. -/
def relocMapOf (d : Dev) (c sb : Nat) : Option MedOp :=
  ((getMed d c).root.find? fun p => sbOf p.2 == sb && !relocBusy d c (.relocMap sb p.1) 2 fun e => e.key == p.1 && e.kind == .mapMove p.2).map fun p => .relocMap sb p.1

/-- Seven days in ns. -/
def week : Nat := 7 * 86400 * 1000000000

/-- The score of R192, times capacity × 256 × 7 days of a common capacity. -/
def gcScore (d : Dev) (c : Nat) (i : Nat) (s : Superblock) : Int :=
  let bias := min 128 (cfld d .MED_GC_CFG c 15 8)
  ((sbValid d c i * 256 * week : Nat) : Int) - ((bias * min (d.now - s.closedAt) week * sbCap i s : Nat) : Int)

/-- The closed superblock with the lowest score, the lower index on a tie; scores are compared over their capacities. Those without valid sectors are reclaimed as they are (R193). -/
def gcVictim (d : Dev) (c : Nat) : Option (Nat × Superblock) :=
  ((getMed d c).sbs.filter fun p => p.2.st == .closed && decide (0 < sbValid d c p.1)).foldl
    (fun (b : Option (Nat × Superblock)) p => match b with
      | none => some p
      | some x => if gcScore d c p.1 p.2 * sbCap x.1 x.2 < gcScore d c x.1 x.2 * sbCap p.1 p.2 then some p else b) none

/-- Work with the time since when it is queued, and the oldest of some: the first on a tie. -/
def workIf {α : Type} (b : Bool) (o : Option α) : Option α := if b then o else none
def eldest (l : List (Option (Nat × MedOp))) : Option MedOp :=
  ((l.filterMap id).foldl (fun (b : Option (Nat × MedOp)) p => match b with
    | none => some p
    | some x => if p.1 < x.1 then some p else b) none).map (·.2)

/-- The work of a stream for a die. -/
def streamWork (d : Dev) (c s die : Nat) : Option (Nat × MedOp) :=
  let m := getMed d c
  (streamOp m s die).map fun o => ((workSince (getStream m s)).getD d.now, o)

/-- The work of relocating a superblock: the next page's read, or a verify read or a pass of the relocation stream. -/
def relocWork (d : Dev) (c die : Nat) (sb : Option (Nat × Nat)) : Option (Nat × MedOp) :=
  let m := getMed d c
  let v := getStream m 1
  let full := decide (15 * 64 ≤ v.filling.foldl (fun n e => n + e.sectors) 0) || v.rows != []
  sb.bind fun x =>
    let read := ((relocPage d c x.2).orElse fun _ => relocSnapOf d c x.2).orElse fun _ => relocMapOf d c x.2
    ((workIf (full || read.isNone || canCheck m 1 die) (streamOp m 1 die)).orElse fun _ => read).map fun o => (x.1, o)

/-- The media read of a promotion that waits for one, once it has its frame: the load of its map page first, when the map cache does not hold it (R181). -/
def promoOp (d : Dev) (c k : Nat) (p : Promo) : Option MedOp :=
  let m := getMed d c
  let mp := mapPageOf k
  if p.started || !placed d k then none
  else if nhas m.root mp && !mapCached m mp then workIf (!m.running.any fun r => r.2.op == .mapLoad mp) (some (.mapLoad mp))
  else some (.promo k)

/-- The oldest promotion of a cell that waits for its read, of the demand class or of the others. -/
def nextPromo (d : Dev) (c : Nat) (demand : Bool) : Option (Nat × MedOp) :=
  match oldestPromo d c fun k p => (p.cls == .demand) == demand && (promoOp d c k p).isSome with
  | some (k, p) => (promoOp d c k p).map fun o => (p.since, o)
  | none => none

/-- A line of a CLEAN frame whose repair from T2 no die is reading yet (R215). -/
def nextRepair (d : Dev) (c : Nat) : Option (Nat × MedOp) :=
  let busy (l : Nat) : Bool := (getMed d c).running.any fun p => p.2.op == .repair l
  (d.repairs.find? fun p => p.1 < 2 ^ 64 && homeOf (p.1 / 128) == c && !busy p.1 &&
    (getFrame d (p.1 / 128)).any fun f => f.st == .clean).map fun p => (p.2.deadline - ms 10, .repair p.1)

/-- The oldest T2 copy of a cell that waits to be verified, in the rank of a promotion of the plan class (R295). -/
def nextVerify (d : Dev) (c : Nat) : Option (Nat × MedOp) :=
  (d.tier.verifs.find? fun p => homeOf p.1 == c && !p.2.started).map fun p => (p.2.since, .verify p.1)

/-- Work of rank 1: demand promotions, the map pages that they need, and repairs (R181, R191, R215). -/
def urgentRead (d : Dev) (c : Nat) : Option MedOp := eldest [nextPromo d c true, nextRepair d c]

/-- Static wear levelling: the closed superblock whose highest erase count is lowest, when the blocks in service lie further apart than WL_DELTA × 10 (R195). -/
def wearMove (d : Dev) (c : Nat) : Option (Nat × Nat) :=
  let m := getMed d c
  let all := m.sbs.filter fun p => p.2.st == .closed
  let lo := all.foldl (fun (b : Option (Nat × Nat)) p => match b with
    | none => some (p.1, sbPe m p.1)
    | some x => if sbPe m p.1 < x.2 then some (p.1, sbPe m p.1) else b) none
  let i := m.move.orElse fun _ => lo.bind fun x => if minPe m + 10 * zeroAs 1 (cfld d .MED_GC_CFG c 7 0) < maxPe m then some x.1 else none
  i.map fun i => ((getSb m i).closedAt, i)

/-- A superblock that a die is still to erase. -/
def eraseNeeds (m : Media) (die sb : Nat) : Bool := (sbDies m sb).contains die && !(getSb m sb).erased.contains die

/-- The erase of the superblock reclaimed first that a die is still to erase, of a sump set, and of the superblocks that a format has left. -/
def eraseWork (d : Dev) (c die : Nat) : Option (Nat × MedOp) :=
  let m := getMed d c
  ((m.sbs.filter fun p => p.2.st == .erasing && !m.formatLeft.contains p.1 && eraseNeeds m die p.1).foldl (fun (b : Option (Nat × Nat)) p => match b with
    | none => some (p.2.since, p.1)
    | some x => if p.2.since < x.1 then some (p.2.since, p.1) else b) none).map fun x => (x.1, .erase x.2)

def sumpWork4 (d : Dev) (c die : Nat) : Option (Nat × MedOp) :=
  let due (set1 : Bool) : Bool := (sumpSet d c set1).state == .erasing && dieIn (getMed d c).diesIn die && !(sumpSet d c set1).erased.contains die
  ([false, true].find? due).map fun b => (d.ldr.trigger, .eraseSump b)

def formatWork (d : Dev) (c die : Nat) : Option (Nat × MedOp) := ((getMed d c).formatLeft.find? (eraseNeeds (getMed d c) die)).map fun i => (d.ldr.trigger, .erase i)

/-- The next read of a read-disturb check (R198), and of the patrol scrub at its die (R196). -/
def checkWork (d : Dev) (c die : Nat) : Option (Nat × MedOp) :=
  let m := getMed d c
  (m.checks.find? fun p => p.1 / 8192 == die && !m.running.any fun r => r.2.op == .check p.1 p.2.2).map fun p => (p.2.1, .check p.1 p.2.2)
def scrubWork (d : Dev) (c die : Nat) : Option (Nat × MedOp) := ((scrubAt d c).filter fun pos => pos / 2 ^ 13 % 16 == die).map fun pos => ((getMed d c).scrubStart, .scrub pos)

/-- The next read of a compare pass (R253). -/
def compareWork (d : Dev) (c : Nat) : Option (Nat × MedOp) := ((getMed d c).compares.head?).map fun p => (p.2, .compare p.1)

/-- The destage stream holds a page that is rewritten for its seal (R217). -/
def hasReseal (m : Media) : Bool :=
  let v := getStream m 0
  (v.rows.flatten ++ v.filling).any fun e => e.kind == .destage true

/-- The destage stream holds a page that a COMMIT waits for (R292). -/
def hasCommit (d : Dev) (m : Media) : Bool :=
  let v := getStream m 0
  (v.rows.flatten ++ v.filling).any fun e => e.kind == .destage false && commitWants d e.key

/-- The highest-ranked queued work for a die (Table MED-5), the oldest first within a rank. -/
def nextWork (d : Dev) (c die : Nat) : Option MedOp :=
  let m := getMed d c
  let u := dirtyLevel d c
  let free := freeSbs m
  let low := decide (free < gcLow d c)
  let strm (s : Nat) := streamWork d c s die
  let gc := (eraseWork d c die).orElse fun _ => relocWork d c die ((gcVictim d c).map fun x => (x.2.closedAt, x.1))
  let rebuild := relocWork d c die ((sbsToRebuild m).head?.map fun i => (m.rebuildAt, i))
  let refresh := relocWork d c die ((m.sbs.find? fun p => p.2.st == .closed && p.2.refresh && decide (0 < sbValid d c p.1)).map fun p => (p.2.since, p.1))
  let urgent := decide (hiPct d ≤ u)
  let due0 := urgent && decide (urgentShare d ≤ ngetD d.tier.urgent c 0 + 1)
  let inWindow := d.cal.scrubEnd.any fun t => decide (fedTime d < t)
  let ranks : List (Option MedOp) :=
    [eldest [workIf due0 (strm 0)],
     urgentRead d c,
     eldest [workIf (decide (free < gcUrgent d c)) gc],
     eldest [workIf (urgent || hasCommit d m) (strm 0), workIf (urgent || decide (32768 < changedLines m fun _ => true)) (strm 2)],
     eldest [rebuild, refresh, checkWork d c die, sumpWork4 d c die, workIf inWindow (scrubWork d c die), workIf inWindow (compareWork d c), workIf (hasReseal m) (strm 0)],
     eldest [nextPromo d c false, nextVerify d c],
     eldest [workIf (decide (loPct d ≤ u) && low && m.gcTurn) gc],
     eldest [workIf (decide (loPct d ≤ u)) (strm 0), workIf (decide (loPct d ≤ u)) (strm 2)],
     eldest [strm 0, strm 2, workIf low gc, eraseWork d c die, scrubWork d c die, compareWork d c, relocWork d c die (wearMove d c), strm 1, formatWork d c die]]
  ranks.findSome? id

/-! ### Grants (R186, R191) -/

/-- The operation serves the destage stream. -/
def isDestage (op : MedOp) : Bool := op == .program 0 || op == .readBack 0

/-- A die takes an operation. -/
def grantOp (d : Dev) (c slot : Nat) (op : MedOp) : Dev :=
  let m := getMed d c
  let run (m : Media) : Media := { m with running := nset m.running slot { op := op } }
  let d := match op with
    | .promo k =>
      let loc := match nget d.tier.map k with
        | some (.stored _ _ _ l) => some l
        | _ => none
      setMed { d with tier.promos := nmod d.tier.promos k fun p => { p with started := true, loc := loc } } c (run (if mapCached m (mapPageOf k) then cacheMap m (goneCache d c) (mapPageOf k) else m))
    | .program s => setMed d c (grantPass m s slot)
    | .relocate sb _ =>
      let first := m.move = none ∧ (wearMove d c).any (fun x => x.2 == sb) = true ∧ (gcVictim d c).any (fun x => x.1 == sb) = false ∧ missingDies m sb = 0 ∧ (getSb m sb).refresh = false
      let m := if first then { m with move := some sb } else m
      let d := setMed d c { run m with gcTurn := false }
      if first then bump d .MED_CNT c 12 else d
    | .relocSnap _ _ _ | .relocMap _ _ | .erase _ => setMed d c { run m with gcTurn := false }
    | .compare k => setMed d c { run m with compares := ndel m.compares k }
    | .verify k => setMed { d with tier.verifs := nmod d.tier.verifs k fun p => { p with started := true } } c (run m)
    | _ => setMed d c (run m)
  let urgent := decide (hiPct d ≤ dirtyLevel d c)
  if isDestage op then
    let d := { setMed d c { getMed d c with gcTurn := true } with tier.urgent := nset d.tier.urgent c 0 }
    if urgent then bump d .CELL_TIER_CNT c 11 else d
  else if urgent then { d with tier.urgent := nset d.tier.urgent c (ngetD d.tier.urgent c 0 + 1) }
  else d

/-- How often an operation may be suspended; reads are not (R186). -/
def suspLimit (d : Dev) (c : Nat) : MedOp → Nat
  | .program _ => cfld d .MED_CFG c 7 4
  | .erase _ | .eraseSump _ => cfld d .MED_CFG c 15 8
  | _ => 0

/-- A read of rank 1 suspends what its die runs, or finds it suspended (R186). The read then runs beside it, under 16 + die. A destage that is due comes first (R156). -/
def suspendFor (d : Dev) (c die : Nat) (r : DieRun) : Dev :=
  let m := getMed d c
  let due0 := decide (hiPct d ≤ dirtyLevel d c) && decide (urgentShare d ≤ ngetD d.tier.urgent c 0 + 1) && hasWork (getStream m 0)
  match urgentRead d c with
  | none => d
  | some op =>
    if isRead r.op || nhas m.running (16 + die) || due0 then d
    else if r.suspended then grantOp d c (16 + die) op
    else if fbit (reg d .MED_CFG c 0) 0 && decide (r.suspends < suspLimit d c r.op) then
      grantOp (bump (setMed d c { m with running := nset m.running die { r with suspended := true, suspends := r.suspends + 1 } }) .MED_CNT c 4) c (16 + die) op
    else d

/-- MEDIA_GRANT (R191): a free die takes the highest-ranked work, but for a device that enters DORMANT (R356); during a start only sump sets are erased. Which die holds a page's sectors is not disclosed: the die is the command's. -/
def mediaGrant (d : Dev) (c die : Nat) : Dev :=
  let m := getMed d c
  if !mediaOn d c || !dieIn m.diesIn die || (d.pwr.move.any fun x => x.entry && x.target == .dormant) then d
  else match d.pwr.state, nget m.running die with
    | .service, none | .quiet, none => (match nextWork d c die with
      | some op => grantOp d c die op
      | none => d)
    | .service, some r | .quiet, some r => suspendFor d c die r
    | .starting, none => (match sumpWork4 d c die with
      | some (_, op) => grantOp d c die op
      | none => d)
    | _, _ => d

/-! ### Codewords (R184, R185, R197, R198, R202) -/

/-- A block rebuilt at level 6 in two reads within 30 days is recorded for retirement; 32 such blocks of a die within 24 hours fail it (R199, R200). -/
def noteLevel6 (d : Dev) (c die block : Nat) : Dev :=
  let m := getMed d c
  let key := die * 8192 + block
  let old := (ngetD m.level6 key []).filter fun t => decide (d.now < t + 30 * 86400 * 1000000000)
  let m := { m with level6 := nset m.level6 key (old ++ [d.now]), bad := if old = [] then m.bad else sinsert m.bad key }
  let d := setMed d c m
  let hot := (m.level6.filter fun p => p.1 / 8192 == die && p.2.any fun t => decide (d.now < t + 86400 * 1000000000)).length
  if 32 ≤ hot then dieFails d c die else d

/-- One read more of a block; at each RD_LIMIT × 10,000 reads a check is queued (R198). -/
def noteRead (d : Dev) (c die block : Nat) : Dev :=
  let m := getMed d c
  let key := die * 8192 + block
  let n := ngetD m.reads key m.readsBase + 1
  let m := { m with reads := nset m.reads key n }
  setMed d c (if n % (zeroAs 1 (cfld d .MED_SCRUB_CFG c 23 16) * 10000) = 0 ∧ nhas m.checks key = false then { m with checks := nset m.checks key (d.now, 0) } else m)

/-- A superblock is marked for refresh; one already marked absorbs the mark (R197). -/
def markRefresh (d : Dev) (c sb : Nat) : Dev :=
  let m := getMed d c
  let s := getSb m sb
  if (s.st = .closed ∨ s.st = .open_) ∧ s.refresh = false then setMed d c (setSb m sb { s with refresh := true, since := d.now }) else d

/-- The level that a codeword is served at: with two dies of its superblock gone, die parity rebuilds nothing (R185, R202). -/
def levelOf (m : Media) (sb : Option Nat) (w : CodeWord) : CodeWord :=
  if w.level = 6 ∧ 2 ≤ (sb.map (missingDies m)).getD 0 then { w with level := 7 } else w

/-- MED_SCRUB_CFG.REFRESH_BITS: corrected bits at level 0 above which a superblock is marked (R197). -/
def refreshBits (d : Dev) (c : Nat) : Nat := max 16 (cfld d .MED_SCRUB_CFG c 31 24)

/-- A codeword is counted, reported and drawn on for refresh and retirement (R184, R197). A lost one is of kind 5 where a second die of its superblock is missing (R202). -/
def readWord (d : Dev) (c die acc : Nat) (sb : Option Nat) (w : CodeWord) : Dev :=
  let d := noteRead (bump d .MED_RETRY_CNT c (min 7 w.level)) c die (w.addr / 8192 % 8192)
  let d := if 1 ≤ w.level ∧ w.level ≤ 6 then corrected d 0x22 (uDie c die) w.addr acc else d
  let d := if 4 ≤ w.level ∨ (w.level = 0 ∧ refreshBits d c < w.bits.toNat) then (match sb with
    | some i => markRefresh d c i
    | none => d) else d
  if w.level = 6 then noteLevel6 d c die (w.addr / 8192 % 8192)
  else if 7 ≤ w.level then
    let two := decide (2 ≤ (sb.map (missingDies (getMed d c))).getD 0)
    mediaErr d c (if two then 5 else 1) die (w.addr / 2 ^ 24 % 4) (w.addr % 8192) (w.addr / 8192 % 2048)
  else d

/-- MEDIA_READ_DONE (R184): the read of a die completes with its codewords; `mapBad` says that neither copy of a map page could be decoded. A suspended operation resumes once no read of rank 1
is queued (R186). -/
def mediaReadDone (d : Dev) (c die : Nat) (ws : List CodeWord) (mapBad : Bool) : Dev :=
  let m := getMed d c
  let slot := runSlot m die
  match nget m.running slot with
  | none => d
  | some r =>
    if !isRead r.op then d
    else
      let sb := opSb d c r.op
      let ws := ws.map (levelOf m sb)
      let acc := match r.op with
        | .scrub _ => 8
        | _ => 5
      let d := setMed d c { m with running := ndel m.running slot, timeouts := ndel m.timeouts die }
      let d := if slot = 16 + die ∧ (urgentRead d c).isNone = true then setMed d c { getMed d c with running := nmod (getMed d c).running die fun x => { x with suspended := false } } else d
      let d := bumpBy d .MED_CNT c 0 (match r.op with
        | .scrub _ | .check _ _ | .readBack _ => 4
        | _ => 1)
      finishRead (forEach ws d fun d w => readWord d c die acc sb w) c die r.op ws mapBad

/-! ### Program passes (R188, R189) -/

/-- PROGRAM_PASS_DONE: a pass of a die completes. A failed one ends the stripe row, and its block (a plane of the die) is recorded for retirement. -/
def programPassDone (d : Dev) (c die : Nat) (ok : Bool) (plane : Nat) : Dev :=
  let m := getMed d c
  match nget m.running die with
  | some { op := .program s, suspended := false, .. } =>
    let v := getStream m s
    let n := nextPass v die
    let m := freeDies m [die]
    if ok then
      let d := setMed d c (setStream m s { v with passes := nset v.passes die (n + 1) })
      releaseStream (if firstPass n then d else bumpBy d .MED_CNT c 1 16) c s
    else releaseStream (rowFails (setMed d c m) c die s (passRow n) plane (4 * passRow n)) c s
  | _ => d

/-! ### Timers, scrub and temperature (R182, R196) -/

/-- The oldest changed map pages leave while the changed map lines exceed 4 MiB (R182). -/
def dropEarly : Nat → Media → Media
  | 0, m => m
  | n + 1, m =>
    if !overMaps m then m
    else match m.mapDirty.foldl (fun (b : Option (Nat × Nat)) p => match b with
        | none => some p
        | some x => if p.2 < x.2 then some p else b) none with
      | some p => dropEarly n { m with mapDirty := ndel m.mapDirty p.1 }
      | none => m

/-- A changed map page is written back (R182): encrypted under the media key in the management class, and appended to the map stream for both its copies. -/
def writeMap (d : Dev) (c mp : Nat) : Dev := append (submitCipher d c 2 { id := 2 ^ 62 + mp, slot := mediaKey, segments := 32 }) c 2 { kind := .map, key := mp, sectors := 8 }

/-- MAP_WRITEBACK_TIMER: map pages changed at least 1 s ago are written back; earlier ones, oldest first, while the changed lines exceed 4 MiB. -/
def mapWritebackTimer (d : Dev) (c : Nat) : Dev :=
  if !mediaOn d c then d
  else
    let m := getMed d c
    let young := m.mapDirty.filter fun p => !decide (p.2 + 1000000000 ≤ d.now)
    let m' := dropEarly young.length { m with mapDirty := young }
    let old := m.mapDirty.filter fun p => !nhas m'.mapDirty p.1
    forEach old (setMed d c m') fun d p => writeMap d c p.1

/-- The newest root checkpoint lies in a superblock that is to be emptied. -/
def rootStale (m : Media) : Bool := m.rootSbs.any fun i => (getSb m i).refresh || decide (0 < missingDies m i)

/-- ROOT_CHECKPOINT_TIMER: at least every 10 s while map pages have been written. -/
def rootCheckpointTimer (d : Dev) (c : Nat) : Dev :=
  let m := getMed d c
  if (m.mapWrites ≠ 0 ∨ rootStale m = true) ∧ m.rootAt + 10000000000 ≤ d.now then checkpoint d c else d

/-- A full patrol pass begins. -/
def startScrub (d : Dev) (c : Nat) : Dev := setMed d c { getMed d c with scrub := scrubFrom d c 0, scrubStart := d.now }

/-- The highest die temperature averaged over the last hour, rounded down. -/
def dieTemp (m : Media) : Nat := if m.temps = [] then 0 else m.temps.foldl (fun n p => n + p.2) 0 / m.temps.length

/-- The scrub interval has elapsed (R196): the power of two is compared by tenth powers. -/
def scrubDue (d : Dev) (c : Nat) : Bool :=
  let m := getMed d c
  let day := 86400 * 1000000000
  let s := zeroAs 1 (cfld d .MED_SCRUB_CFG c 7 4)
  let lo := clampTo 1 s (cfld d .MED_SCRUB_CFG c 3 0)
  let e := d.now - m.scrubStart
  let t := dieTemp m
  decide (lo * day ≤ e) && (decide (s * day ≤ e) || (decide (40 < t) && decide ((s * day) ^ 10 ≤ e ^ 10 * 2 ^ (t - 40))))

/-- MEDIA_SCRUB_PASS_START. -/
def mediaScrubPassStart (d : Dev) (c : Nat) : Dev := if mediaOn d c && scrubDue d c then startScrub d c else d

/-- SCRUB_NOW. -/
def scrubNow (d : Dev) (w : Writer) (c : Nat) : Dev := command d w .MED_CTRL c 0 (operator d w) fun d => startScrub d c

/-- DIE_TEMPERATURE_READ: the highest die temperature of the channel in °C. -/
def dieTemperatureRead (d : Dev) (c t : Nat) : Dev :=
  let m := getMed d c
  setMed d c { m with temps := (m.temps.filter fun p => decide (d.now < p.1 + 3600 * 1000000000)) ++ [(d.now, t)] }

/-! ### Format (R176, R179, R203, R345) -/

/-- A channel as a format leaves it: superblocks 0 to 34 erased, the others erased in the background. Fresh dies have erase counts and retired blocks of their own; those of dies that stay are
kept. -/
def formatted (m : Media) (identity : Nat) (fresh : Bool) (bad : List Nat) : Media :=
  let old : Media := if fresh then {} else
    { diesIn := m.diesIn, remap := m.remap, gone := m.gone, retired := m.retired, retired0 := m.retired.foldl (fun n p => n + p.2) 0, peBase := m.peBase,
      pe := m.pe.map fun p => (p.1, if p.1 % 2048 < 35 then p.2 + 1 else p.2), wearTold := m.wearTold }
  bad.foldl factoryBad { old with st := .formatting, identity := identity, vaultId := identity, formatLeft := (List.range 2048).drop 35, peBase := old.peBase + 1, serial := m.serial, rejected := m.rejected }

/-- The pages of snapshots whose sectors lay in a channel that is replaced are lost (R179). -/
def loseSnaps (c : Nat) (s : Snap) : Snap :=
  { s with pages := s.pages.map fun p => if homeOf p.1 = c ∧ p.2.held.isSome = true then (p.1, { p.2 with held := none, moving := false, poison := List.range 128 }) else p }

/-- The contents of a channel that is replaced, or formatted, go: map entries of Mirrored pages go, their bytes free until resync, those of Local and Reference pages are LOST where `keepLost`
says so, Volatile ones read zero; the sump sets are empty. -/
def forgetChannel (d : Dev) (c : Nat) (keepLost : Bool) : Dev :=
  let m := getMed d c
  let ks := d.tier.map.filter fun p => homeOf p.1 == c
  let d := forEach ks d fun d p =>
    match classOfPage d p.1 with
    | .mirrored => (forEach (pageLines p.1) { d with tier.map := ndel d.tier.map p.1 } freeLine)
    | .volatileC => { d with tier.map := ndel d.tier.map p.1, mem := memClear d.mem (pageAddr p.1) 16384 }
    | _ => if keepLost then { d with tier.map := nset d.tier.map p.1 .lost } else { d with tier.map := ndel d.tier.map p.1 }
  setSump { d with snap.snaps := nmap d.snap.snaps (loseSnaps c) } c ({ maxPE := sumpPe m false }, { maxPE := sumpPe m true })

/-- A channel that has been replaced, or is formatted: every superblock is empty. -/
def formatChannel (d : Dev) (c identity : Nat) (keepLost fresh : Bool) (bad : List Nat) : Dev :=
  let m := formatted (getMed d c) identity fresh bad
  forgetChannel (bumpBy (setMed d c m) .MED_CNT c 3 (140 * diesOf m)) c keepLost

/-- A die has more factory bad blocks in a plane than Table MED-1 allows (R178). -/
def tooManyBad (bad : List Nat) : Bool := (List.range 64).any fun i => decide (16 < (bad.filter fun b => b / 2048 == i).length)

end Sys2Proof.Machine
end

