-- ==== Sys2Proof/Machine/Custody.lean ====
section
/-!
DEFINITION. Custody of a pair: heartbeats, suspicion, leases, requests to the witness and their effects, drains and failback, resync and compare passes, and cold start
(spec/11_pair_custody.md R230 to R255).
-/
namespace Sys2Proof.Machine
open Sys2Proof

/-! ### Settings and states -/

/-- The heartbeat interval (CUS_CFG.HB_10US). -/
def hbNs (d : Dev) : Nat := clampTo 5 100 (hfld d .CUS_CFG 31 24) * 10000
def missCount (d : Dev) : Nat := clampTo 4 32 (hfld d .CUS_CFG 23 16)

/-- LEASE (R239). -/
def leaseNs (d : Dev) : Nat := (missCount d - 2) * hbNs d

/-- Silence after which a peer is suspected (R238). -/
def suspectNs (d : Dev) : Nat := missCount d * hbNs d

/-- The device takes part in custody: it has a twin and has reached start step 6. -/
def custodyOn (d : Dev) : Bool := !standalone d && decide (6 ≤ d.ldr.step) && !isDown d

/-- The impairment of the device (R244): cells that cannot serve their home pages. -/
def impaired (d : Dev) (c : Nat) : Bool := cellFenced d c || (getHbm d c).st == .failed || (getMed d c).st == .offline
def impairment (d : Dev) : Nat := (allCells.filter (impaired d)).length
def healthMax (d : Dev) : Nat := min 256 (hfld d .CUS_HEALTH_CFG 8 0)
def twinImpairment (d : Dev) : Nat := (d.cus.twin.map (·.impairment)).getD 0

/-- This device holds marks, pull entries or whole-cell flags. -/
def ownWork (d : Dev) : Bool := d.cus.marks != [] || d.cus.pull != [] || d.cus.wholePull != []

/-- Something is left to copy on either twin (R249). -/
def resyncWork (d : Dev) : Bool := ownWork d || (d.cus.twin.map (·.marks)).getD false

/-- The pair state (R235, R247, R249, R250, R255, Table CHM-8). -/
def pairStateNow (d : Dev) : PairState :=
  if standalone d then .joined
  else if !d.cus.settled || d.cus.lost then .awaiting
  else if d.cus.stale then (if d.cus.twinSuspect then .awaiting else .resync)
  else if d.cus.solo then (if d.cus.twinSuspect then .solo else .resync)
  else if d.cus.twinSuspect then .awaiting
  else if resyncWork d then .resync else .joined

/-! ### Messages -/

def pairCode : PairState → Nat
  | .joined => 0
  | .solo => 1
  | .resync => 2
  | .awaiting => 3

/-- STATUS to the twin and the witness (R238, Table PAI-3). -/
def sendStatusMsg (d : Dev) : Dev :=
  let f := tagged d (statusBytes (pairNo d) (pairCode d.cus.state) d.cus.stale d.cus.yieldedAt.isSome (impairment d) d.cus.pairClaim (ordinal d) (ownWork d))
  let d := { sendClaimed d 0xE6 (twinOrd d) d.cus.pairClaim f with cus.nextStatus := d.now + ms 1 }
  match d.cus.witness with
  | some w => sendClaimed d 0xE6 w d.cus.pairClaim f
  | none => d

def kindCode : ClaimKind → Nat
  | .takeover => 1
  | .failback => 2
  | .reclaim => 3
  | .join => 4
  | .yield => 5
  | .query => 6
  | .drain => 7

/-- A CLAIM REQUEST leaves, counted (Table PAI-2). -/
def putClaim (d : Dev) (dest kind scope chamber number : Nat) : Dev :=
  bump (sendClaimed d 0xE4 dest d.cus.pairClaim (tagged d (claimReqBytes (ordinal d) kind scope chamber d.cus.pairClaim number))) .CUS_CNT 0 3

/-- A new request to the witness replaces the one outstanding (R242). -/
def askWitness (d : Dev) (kind : ClaimKind) (scope chamber : Nat) : Dev :=
  match d.cus.witness with
  | none => d
  | some w =>
    let n := d.cus.nextNumber
    putClaim { d with cus.nextNumber := (n + 1) % 2 ^ 16, cus.out := some ⟨kind, scope, chamber, n, d.now + ms 1, false⟩ } w (kindCode kind) scope chamber n

/-- YIELD to the witness and to the twin (R131, R244). -/
def sendYield (d : Dev) : Dev :=
  if d.cus.witness.isNone || d.cus.yieldedAt.isSome then d
  else
    let n := d.cus.nextNumber
    let d := askWitness (bump { d with cus.yieldedAt := some d.now, cus.lapsed := some (impairment d, twinImpairment d) } .CUS_CNT 0 10) .yield 0 0
    sendStatusMsg (putClaim d (twinOrd d) 5 0 0 n)

/-! ### Parts that wait for their mirror -/

/-- Unacknowledged changes at the custodian by the record now known (R233, R245, R247): sent again, marked and acknowledged in Solo, or NOT_CUSTODIAN. -/
def settlePart (d : Dev) (r : Req) (p : Part) (ts : Nat) (again : Bool) : Dev × PartState :=
  if !isHolder d r.chamber then (d, .failed stNotCustodian)
  else if d.cus.state = .solo then (markRegion d (pageKey r.chamber p.page), .done)
  else if again then (resendPart d r p ts, .mirrored ts)
  else (d, p.st)

/-- A part of a request gets a state. -/
def setPart (d : Dev) (id page : Nat) (st : PartState) : Dev :=
  { d with reqs := d.reqs.map fun r => if r.id = id then { r with parts := r.parts.map fun p => if p.page = page then { p with st := st } else p } else r }

/-- Every such part is settled. -/
def settleParts (d : Dev) : Dev :=
  forEach d.reqs d fun d r =>
    if fromTwin r.kind then d
    else forEach r.parts d fun d p =>
      match p.st with
      | .mirrored ts => let (d, st) := settlePart d r p ts false; setPart d r.id p.page st
      | .refused _ => let (d, st) := settlePart d r p p.ts true; setPart d r.id p.page st
      | _ => d

/-! ### The turn of custody -/

/-- The metadata that Solo marked goes to the twin (R245). -/
def sendMeta (d : Dev) : Dev :=
  let d := forEach d.cus.metaChm d fun d n =>
    match nget d.chm.chambers n with
    | some c => sendCtrl d msgChamber (twinOrd d) (chmWords n c)
    | none => sendCtrl d msgChamber (twinOrd d) [n]
  let d := forEach (d.chm.keys.filter fun p => d.cus.metaKeys.contains (p.1 / 256)) d fun d p =>
    sendCtrl d msgKey (twinOrd d) (keyWords p.1 p.2)
  { d with cus.metaChm := [], cus.metaKeys := [] }

/-- The pair state follows its causes; a change aborts a running create, settles parts in Solo, and is told at once (R238, R245, R250). -/
def setPairState (d : Dev) : Dev :=
  let st := pairStateNow d
  if st = d.cus.state then d
  else
    let d := if d.cus.state = .joined then createAbort d else d
    let d := { d with cus.state := st, cus.joinedSince := if st = .joined then d.now else d.cus.joinedSince,
                      cus.copying := if st = .resync then d.cus.copying else [], cus.sent := if st = .resync then 0 else d.cus.sent }
    let d := if st = .solo then settleParts d else d
    let d := if st = .resync ∧ d.cus.stale = false then sendMeta d else d
    sendStatusMsg d

/-- The device wants every chamber of the pair (R131, R243): it suspects its twin, or the twin has yielded. At a start it does once COLD_S has passed with the witness alone in reach
(Table PAI-6). -/
def wantTakeover (d : Dev) : Bool :=
  d.cus.witness.isSome && !d.cus.stale && d.cus.takeover.isNone &&
    (if d.cus.settled then (!d.cus.solo && d.cus.twinSuspect) || (match d.cus.twinYield with
        | some t => decide (d.now < t + ms 10)
        | none => false)
      else d.cus.coldOver && d.cus.twinSuspect && !d.cus.witSuspect && !d.cus.witnessBad)

/-- The device wants to end Solo (R249). -/
def wantJoin (d : Dev) : Bool := d.cus.witness.isSome && d.cus.solo && !d.cus.stale && !d.cus.twinSuspect && d.cus.twin.isSome && !resyncWork d

/-- The cause of a request persists (R242). -/
def causePersists (d : Dev) (k : ClaimKind) : Bool :=
  match k with
  | .takeover => wantTakeover d
  | .failback => d.cus.failback.isSome
  | .reclaim => d.cus.drain.any fun x => x.reached.isSome
  | .join => wantJoin d
  | .yield => d.cus.yieldedAt.isSome
  | .query => d.cus.halted.isSome
  | .drain => false

/-- The request that custody needs now and has not outstanding; it replaces another, but for QUERY, which waits (R239, R242, R243, R249). -/
def claimTurn (d : Dev) : Dev :=
  let kind := d.cus.out.map (·.kind)
  if kind ≠ some .takeover ∧ wantTakeover d = true then askWitness d .takeover 0 0
  else if kind ≠ some .takeover ∧ kind ≠ some .join ∧ wantJoin d = true then askWitness d .join 0 0
  else if kind = none ∧ d.cus.halted.isSome = true then askWitness d .query 0 0
  else d

/-- After anything that custody depends on: state, requests to the witness, waiting requests. -/
def custodyTurn (d : Dev) : Dev := if custodyOn d then pumpCustody (claimTurn (setPairState d)) else d

/-- The record has been learned: admission is no longer halted and every refused part is settled (R233, R239, R247). -/
def recordLearned (d : Dev) : Dev := custodyTurn (settleParts (setPairState { d with cus.halted := none }))

/-! ### Effects of grants (R241, R242, Table PAI-5) -/

/-- Mirrored chambers that a predicate names change hands. -/
def handOver (d : Dev) (dst claim : Nat) (f : Nat → Chamber → Bool) : Dev :=
  { d with chm.chambers := d.chm.chambers.map fun p => (p.1, if p.2.cls = .mirrored ∧ f p.1 p.2 = true then { p.2 with holder := dst, claim := claim } else p.2) }

/-- Mirror writes that a follower holds are discarded when it becomes stale (R131). -/
def dropHeld (d : Dev) : Dev :=
  forEach (d.reqs.filter fun r => fromTwin r.kind && (match r.stage with
    | .over _ => false
    | _ => true)) d fun d r => delReq (dropBuf d r.buf) r.id

/-- A grant takes effect in the records of either twin; a change of the stale flag is told (R238). -/
def applyGrant (d : Dev) (kind scope chamber claim grantee : Nat) : Dev :=
  let mine := grantee == ordinal d
  let before := d
  let d := { d with cus.settled := true }
  let d := match kind with
    | 1 =>
      let d := handOver d grantee claim fun _ _ => true
      let d := { d with cus.solo := mine, cus.stale := !mine, cus.takeover := none, cus.twinYield := none, cus.yieldedAt := none, cus.drain := none, cus.failback := none }
      if mine then d else dropHeld d
    | 2 =>
      let d := handOver d grantee claim (inScope scope chamber grantee)
      if mine then bump { d with cus.failback := none } .CUS_CNT 0 15 else { d with cus.drain := none }
    | 3 => if mine then { d with cus.drain := none } else { d with cus.failback := none }
    | 4 => { d with cus.solo := false, cus.stale := false }
    | _ => d
  let d := recordLearned d
  let d := if d.cus.stale ≠ before.cus.stale ∧ d.cus.state = before.cus.state then sendStatusMsg d else d
  if mine then announce d else d

/-! ### Heartbeats (R237 to R239) -/

/-- The paths to a peer: TWIN links and LOCAL links whose declared far end it is (R237). -/
def pathsTo (d : Dev) (o : Nat) : List Nat :=
  allCells.filter fun p => portUp d p && ((portRole d p == 2 && o == twinOrd d) || (portRole d p == 3 && (farEnd d (ordinal d) p).any fun x => x.1 == o))

/-- The devices this one heartbeats with, and the claim it tells each (Table PAI-1). -/
def beatPeers (d : Dev) : List (Nat × Nat) :=
  [(twinOrd d, d.cus.pairClaim)] ++ (match d.cus.witness with
    | some w => [(w, d.cus.pairClaim)]
    | none => []) ++ (d.watch.map fun p => [(2 * p.1, p.2.cw), (2 * p.1 + 1, p.2.cw)]).flatten

/-- One more yield on the device's own judgement (R244); after a lapse, once an impairment has changed. -/
def selfDiagnose (d : Dev) : Dev :=
  let imp := impairment d
  let d := if imp = d.cus.lastImp then d else sendStatusMsg { d with cus.lastImp := imp }
  if fbit (hreg d .CUS_HEALTH_CFG) 31 && d.cus.state == .joined && decide (healthMax d < imp) && decide (twinImpairment d < imp) && !d.cus.witSuspect &&
      d.cus.witness.isSome && d.cus.lapsed != some (imp, twinImpairment d) then custodyTurn (sendYield d) else d

/-- HEARTBEAT_TIMER: HEARTBEAT with AckReq on every path to every peer (R237); the impairment is judged at the same time (R244). -/
def heartbeatTimer (d : Dev) : Dev :=
  if !custodyOn d || !due d d.cus.nextBeat then d
  else
    let d := { d with cus.nextBeat := d.now + hbNs d }
    selfDiagnose (forEach (beatPeers d) d fun d b => forEach (pathsTo d b.1) d fun d p => bump (sendClaimed d 0xE3 p b.2 []) .CUS_CNT 0 0)

/-- A peer of custody. -/
def isPeer (d : Dev) (o : Nat) : Bool := o == twinOrd d || d.cus.witness == some o || nhas d.watch (o / 2)

/-- Something has arrived from a peer: suspicion ends (R238). -/
def heard (d : Dev) (o : Nat) : Dev :=
  let d := if o = twinOrd d then { d with cus.heardTwin := d.now, cus.twinSuspect := false } else d
  let d := if d.cus.witness = some o then { d with cus.heardWitness := d.now, cus.witSuspect := false } else d
  { d with watch := nmod d.watch (o / 2) fun w => if o % 2 = 0 then { w with heardEven := d.now, suspEven := false } else { w with heardOdd := d.now, suspOdd := false } }

/-- A frame of the twin or the witness carries a claim above the pair claim: the lease ends and the record must be learned (R239). -/
def claimSeen (d : Dev) (o claim : Nat) : Dev :=
  if (o = twinOrd d ∨ d.cus.witness = some o) ∧ d.cus.pairClaim < claim ∧ d.cus.witness.isSome = true then
    { d with cus.leaseEnd := min d.cus.leaseEnd d.now, cus.leaseLive := false, cus.halted := some (d.cus.halted.getD d.now) }
  else d

/-- HEARTBEAT: acknowledged at once with this device's claim (R237, Table PAI-1). -/
def heartbeat (d : Dev) (o port claim sentAt : Nat) : Dev :=
  if !custodyOn d || !isPeer d o then d
  else
    let mine := match nget d.watch (o / 2) with
      | some w => w.cw
      | none => d.cus.pairClaim
    custodyTurn (claimSeen (heard (sendClaimed d msgBeatAck port mine [o, sentAt]) o) o claim)

/-- HEARTBEAT_ACKNOWLEDGE: a claim equal to the pair claim renews the lease from the send time (R239). -/
def heartbeatAcknowledge (d : Dev) (o claim sentAt : Nat) : Dev :=
  if !custodyOn d || !isPeer d o then d
  else
    let d := heard d o
    let d := if (o = twinOrd d ∨ d.cus.witness = some o) ∧ claim = d.cus.pairClaim ∧ d.cus.witness.isSome = true then
        let e := max d.cus.leaseEnd (min sentAt d.now + leaseNs d)
        { d with cus.leaseEnd := e, cus.leaseLive := d.cus.leaseLive || decide (d.now < e) }
      else d
    custodyTurn (claimSeen d o claim)

/-- STATUS_TIMER: STATUS every 1 ms (R238). -/
def statusTimer (d : Dev) : Dev := if custodyOn d && due d d.cus.nextStatus then selfDiagnose (sendStatusMsg d) else d

/-- LEASE_EXPIRY: the lease has run out; new requests wait (R239). -/
def leaseExpiry (d : Dev) : Dev :=
  if d.cus.leaseLive && due d d.cus.leaseEnd then bump { d with cus.leaseLive := false } .CUS_CNT 0 2 else d

/-- CUSTODY_WAIT_EXPIRY: requests that have waited STALL_MS for custody, and changes whose mirror was refused that long ago, complete UNAVAILABLE (R233, R239, R242,
R255); a piece of a bulk command ends NOT_CUSTODIAN (R291). -/
def custodyWaitExpiry (d : Dev) : Dev :=
  let late (r : Req) : Bool := !fromTwin r.kind && ((match r.stage with
    | .waitCustody t => due d t
    | _ => false) || r.parts.any fun p => match p.st with
      | .refused t => due d (t + stallMs d)
      | _ => false)
  let fin (p : Part) : Part := match p.st with
    | .refused _ => { p with st := .failed stUnavailable }
    | _ => p
  let d := forEach (d.reqs.filter late) d fun d r => failReq d r true 2 stUnavailable
  pump { d with reqs := d.reqs.map fun r => if late r then { r with stage := .over (if r.bulk.isSome then stNotCustodian else stUnavailable), parts := r.parts.map fin } else r }

/-- CLAIM_LEARN_TIMEOUT: mirror frames held for 1 ms without the record are refused (R233). -/
def claimLearnTimeout (d : Dev) : Dev :=
  pump (forEach (d.reqs.filter fun r => fromTwin r.kind && (match r.stage with
    | .waitCustody t => due d t
    | _ => false)) d refuseMirror)

/-- Drain at its end: admission resumes (R251, R252). -/
def endDrain (d : Dev) : Dev := { d with cus.drain := none }

/-- The peers of R238 that this device suspects from now on, with what follows: a drain ends when the twin is suspected (R252), and the turn of custody. -/
def suspectTwin (d : Dev) : Dev := custodyTurn (endDrain (sendStatusMsg (bump { d with cus.twinSuspect := true } .CUS_CNT 0 1)))
def suspectWitness (d : Dev) : Dev := custodyTurn (sendStatusMsg (bump { d with cus.witSuspect := true } .CUS_CNT 0 1))

/-! ### Grants and answers (R242) -/

/-- A GRANT or ANSWER verifies and names this pair (R240). -/
def ansOk (d : Dev) (m : ClaimAns) : Bool :=
  tagOk d (claimAnsBytes m.pair.toNat m.kind.toNat m.scope.toNat m.solo m.stale.toNat m.reason.toNat m.chamber.toNat m.claim.toNat m.grantee.val m.number.toNat) m.tag && m.pair.toNat == pairNo d

/-- CLAIM_GRANT: accepted when it names this pair, answers the outstanding request and raises the claim; a TAKEOVER takes effect after LEASE. -/
def claimGrant (d : Dev) (m : ClaimAns) : Dev :=
  if !custodyOn d then d
  else if !ansOk d m then bump d .CUS_CNT 0 8
  else
    let d := bump d .CUS_CNT 0 4
    match d.cus.out with
    | none => d
    | some o =>
      if o.number = m.number.toNat ∧ kindCode o.kind = m.kind.toNat ∧ d.cus.pairClaim < m.claim.toNat then
        let c := m.claim.toNat
        let d := { d with cus.pairClaim := c, cus.ownClaim := c, cus.out := none }
        if o.kind = .takeover then { d with cus.takeover := some ⟨c, d.now + leaseNs d⟩ }
        else applyGrant d (kindCode o.kind) o.scope o.chamber c (ordinal d)
      else d

/-- The kind of the last grant that an ANSWER names, which it does not carry (DEDUCED): that of the request answered when it was granted, TAKEOVER when the record is
Solo with a stale twin, JOIN when this twin's record is not Joined, and else the outcome of the drain. -/
def lastKind (d : Dev) (m : ClaimAns) : Nat :=
  if m.reason = 0 ∧ 1 ≤ m.kind.toNat ∧ m.kind.toNat ≤ 4 then m.kind.toNat
  else if m.solo then 1
  else if d.cus.solo || d.cus.stale then 4
  else if (d.cus.drain.isSome && m.grantee.val == ordinal d) || (d.cus.failback.isSome && m.grantee.val != ordinal d) then 3
  else 2

/-- An answer of the witness ends or renews the outstanding request (R242, R252). -/
def answerOut (d : Dev) (m : ClaimAns) : Dev :=
  match d.cus.out with
  | none => d
  | some o =>
    if o.number ≠ m.number.toNat then d
    else match o.kind with
      | .query => { d with cus.out := none, cus.halted := none }
      | .yield => { d with cus.out := none }
      | .failback => { d with cus.out := none, cus.failback := none }
      | _ => { d with cus.out := some { o with answered := true, next := d.now + ms 1 } }

/-- The answer of the twin to DRAIN (R251): FAILBACK with the same scope, or nothing. An answer that no DRAIN asked for is that of a HANDOVER, scope 0. -/
def drainAnswer (d : Dev) (m : ClaimAns) : Dev :=
  let scope := match d.cus.drainOut with
    | some (s, n) => if n = m.number.toNat then s else 0
    | none => 0
  let d := { d with cus.drainOut := none }
  if m.reason = 0 then askWitness { d with cus.failback := some scope } .failback scope 0 else d

/-- CLAIM_ANSWER: from the twin the answer to DRAIN; from the witness the record, whose last grant is applied when it is the next one (R242). -/
def claimAnswer (d : Dev) (m : ClaimAns) : Dev :=
  if !custodyOn d then d
  else if !ansOk d m then bump d .CUS_CNT 0 8
  else
    let d := bump d .CUS_CNT 0 5
    if m.kind = 7 then drainAnswer d m
    else
      let c := m.claim.toNat
      let before := d.cus.pairClaim
      let granted := m.grantee.val == ordinal d && (d.cus.out.any fun o => o.number == m.number.toNat)
      if c ≤ before then custodyTurn (let d := answerOut d m; if c = before then recordLearned d else d)
      else
        let d := { d with cus.pairClaim := c }
        let d := if granted then { d with cus.out := none, cus.ownClaim := c } else answerOut d m
        if c = before + 1 then
          let k := lastKind d m
          if k = 1 ∧ m.grantee.val = ordinal d then { d with cus.takeover := some ⟨c, d.now + leaseNs d⟩ }
          else applyGrant d k m.scope.toNat m.chamber.toNat c m.grantee.val
        else recordLearned { d with cus.lost := true }

/-- TAKEOVER_LEASE_WAIT_END: LEASE after the grant, every Mirrored chamber is held in Solo (R242). -/
def takeoverLeaseWaitEnd (d : Dev) : Dev :=
  match d.cus.takeover with
  | some t => if due d t.applyAt then applyGrant d 1 0 0 t.claim (ordinal d) else d
  | none => d

/-- CLAIM_REQUEST_RESEND: 1 ms without an answer sends the request again; 1 ms after an answer without a grant a new one leaves; either only while its cause
persists (R242). -/
def claimRequestResend (d : Dev) : Dev :=
  match d.cus.out, d.cus.witness with
  | some o, some w =>
    if !due d o.next then d
    else if !causePersists d o.kind then custodyTurn { d with cus.out := none }
    else if o.answered then askWitness d o.kind o.scope o.chamber
    else putClaim { d with cus.out := some { o with next := d.now + ms 1 } } w (kindCode o.kind) o.scope o.chamber o.number
  | _, _ => d

/-- YIELD_LAPSE: a yield without a grant lapses after 10 ms; waiting requests are admitted in order (R244). -/
def yieldLapse (d : Dev) : Dev :=
  match d.cus.yieldedAt with
  | some t =>
    if due d (t + ms 10) then
      let d := { d with cus.yieldedAt := none, cus.out := if d.cus.out.any (fun o => o.kind == .yield) then none else d.cus.out }
      custodyTurn (sendStatusMsg d)
    else d
  | none => d

/-! ### Formation (R234, R254, R255) -/

/-- Chambers left in CREATING return to FREE at a formation (R426). -/
def dropCreating (d : Dev) : Dev :=
  { d with chm.chambers := d.chm.chambers.filter (fun p => p.2.state != .creating), chm.releases := [] }

/-- The twin's records are the ones kept (Table PAI-6): it has the higher claim, or the lower ordinal on a tie. -/
def takesTwins (d : Dev) (t : TwinStatus) : Bool :=
  decide (d.cus.pairClaim < t.claim) || (d.cus.pairClaim == t.claim && decide (twinOrd d < ordinal d)) || d.cus.lost

/-- Custody settles with the twin reachable (Table PAI-6): the records of one twin are kept, and both compare theirs (R254). -/
def settleWithTwin (d : Dev) (t : TwinStatus) : Dev :=
  let takes := takesTwins d t
  let d := if takes then { d with cus.pairClaim := max d.cus.pairClaim t.claim, cus.lost := false } else d
  sendRecords { dropCreating d with cus.settled := true, cus.keeps := !takes }

/-- COLD_START_EXPIRY: COLD_S after formation began without an outcome, the other chambers open; a pair without a witness serves its reads (R235, R255). -/
def coldStartExpiry (d : Dev) : Dev :=
  if custodyOn d && !d.cus.settled && due d (d.cus.formStart + sec (max 10 (hfld d .CUS_CFG 7 0))) then
    let d := if !d.cus.twinSuspect && due d (d.cus.heardTwin + suspectNs d) then suspectTwin d else d
    custodyTurn { d with cus.coldOver := true, cus.settled := d.cus.witness.isNone && !d.cus.witnessBad }
  else d

/-! ### Drain and failback (R251, R252) -/

/-- The custodian's ANSWER to a DRAIN (Table PAI-3). -/
def answerDrain (d : Dev) (number reason : Nat) : Dev :=
  sendClaimed d 0xE6 (twinOrd d) d.cus.pairClaim
    (tagged d (claimAnsBytes (pairNo d) 7 0 d.cus.solo (if d.cus.stale then 1 + ordinal d % 2 else 0) reason 0 d.cus.pairClaim 0 number))

/-- A drain begins: admission to the scope stops. -/
def beginDrain (d : Dev) (scope chamber : Nat) (number : Option Nat) : Dev := { d with cus.drain := some ⟨scope, chamber, number, d.now, none⟩ }

/-- An admitted request to a chamber of the drained scope has not been answered. -/
def drainBusy (d : Dev) (x : Drain) : Bool :=
  d.reqs.any fun r => !fromTwin r.kind && (match r.stage with
    | .waitCustody _ => false
    | _ => true) && (match nget d.chm.chambers r.chamber with
      | some ch => ch.cls == .mirrored && ch.holder == ordinal d && inScope x.scope x.chamber (twinOrd d) r.chamber ch
      | none => false)

/-- DRAIN_POINT_REACHED: every admitted request of the scope has been answered; DRAIN is answered with reason 0. -/
def drainPointReached (d : Dev) : Dev :=
  match d.cus.drain with
  | some x => if x.reached = none ∧ drainBusy d x = false then answerDrain { d with cus.drain := some { x with reached := some d.now } } (x.number.getD 0) 0 else d
  | none => d

/-- DRAIN_TIMEOUT: the point was not reached within DRAIN_MS; NOT_DRAINED, and admission resumes. -/
def drainTimeout (d : Dev) : Dev :=
  match d.cus.drain with
  | some x =>
    if x.reached = none ∧ due d (x.began + ms (clampTo 1 50 (hfld d .CUS_CFG2 23 16))) = true then custodyTurn (endDrain (answerDrain d (x.number.getD 0) 7)) else d
  | none => d

/-- RECLAIM_TIMER: 5 ms after the drain point without the witness's ANSWER (R252). -/
def reclaimTimer (d : Dev) : Dev :=
  match d.cus.drain with
  | some x =>
    if (x.reached.any fun t => due d (t + ms 5)) = true ∧ (d.cus.out.any fun o => o.kind == .reclaim) = false then askWitness d .reclaim x.scope x.chamber else d
  | none => d

/-- The device may ask for its chambers (R251). -/
def mayFailback (d : Dev) : Bool :=
  custodyOn d && d.cus.witness.isSome && !d.cus.stale && decide (impairment d ≤ healthMax d) && decide (impairment d ≤ twinImpairment d)

/-- DRAIN with scope 1 leaves for the twin. -/
def sendDrain (d : Dev) : Dev :=
  let n := d.cus.nextNumber
  putClaim { d with cus.nextNumber := (n + 1) % 2 ^ 16, cus.drainOut := some (1, n) } (twinOrd d) 7 1 0 n

/-- The twin holds chambers that prefer this device. -/
def preferredAway (d : Dev) : Bool := d.chm.chambers.any fun p => p.2.cls == .mirrored && p.2.holder == twinOrd d && p.2.pref == 1 + ordinal d % 2

/-- FAILBACK_TIMER: Joined for FAILBACK_S without a break (R251). -/
def failbackTimer (d : Dev) : Dev :=
  let s := hfld d .CUS_CFG2 31 24
  if s ≠ 0 ∧ mayFailback d = true ∧ d.cus.state = .joined ∧ preferredAway d = true ∧ d.cus.drainOut = none ∧ d.cus.failback = none ∧
      due d (d.cus.joinedSince + sec s) = true then sendDrain d else d

/-- FAILBACK_NOW: the same without the wait; ignored in a pair without a witness (R235, R251). -/
def failbackNow (d : Dev) (w : Writer) : Dev := command d w .CUS_CTRL 0 0 (operator d w) fun d => if mayFailback d then sendDrain d else d

/-- HANDOVER: every chamber held is drained, as for DRAIN with scope 0; ignored in a pair without a witness (R235, R251). -/
def handover (d : Dev) (w : Writer) : Dev := command d w .CUS_CTRL 0 0 (operator d w) fun d =>
  if custodyOn d && d.cus.witness.isSome then beginDrain d 0 0 none else d

/-- DRAIN at the custodian (R251); at a device that is only the witness of the sender's pair it is misdirected. -/
def drainRequest (d : Dev) (m : ClaimReq) : Dev :=
  if d.cus.witness.isNone then answerDrain d m.number.toNat 7 else beginDrain d m.scope.toNat m.chamber.toNat (some m.number.toNat)

/-! ### Resync (R249, R250) -/

/-- Pages of a region at its home cell within the chamber's size (R246). -/
def regionPages (d : Dev) (c chamber region : Nat) : List Nat :=
  match nget d.chm.chambers chamber with
  | none => []
  | some ch => ((List.range 16384).map fun i => region * 16384 + i).filter fun p => decide (p < ch.pages) && homeCell chamber p == c

/-- How long a resync copy takes of its share of the live twin links (R249, CUS_CFG2.RESYNC_PCT). -/
def copyTime (d : Dev) (bytes : Nat) : Nat :=
  let gbps := ((twinPorts d).filter (portUp d)).foldl (fun n p => n + (getPort d p).rateGbps) 0
  ceilDiv (bytes * 800) (gbps * clampTo 1 100 (hfld d .CUS_CFG2 15 8))

/-- A page of a region leaves as a resync copy, which holds its buffer until it is acknowledged; a page never written or trimmed is sent as zeros. -/
def sendCopy (d : Dev) (c chamber region p id : Nat) : Dev :=
  let k := pageKey chamber p
  let (d, ts) := mirrorStamp { d with cus.nextCopy := max d.now d.cus.nextCopy + copyTime d 16384 } c
  sendMirror (stampSent d c ts) c (pageAddr k) (.copy chamber region) false false ts (memRead d.mem (pageAddr k) 16384) ((pagePoison d k).map (k * 128 + ·)) (some id)

/-- The pages of a region leave in order, each with a buffer for which the reserve is open (R27); where one finds none, the rest waits by the back-off of R30. -/
def sendPages (c chamber region : Nat) : List Nat → Dev → Dev
  | [], d => d
  | p :: t, d =>
    match takeBufs d c 16384 0x1007 true with
    | some (d, id) => sendPages c chamber region t (sendCopy d c chamber region p id)
    | none => addWait d c 0x1007 16384 (.resync chamber region p)

/-- A region is copied page by page. -/
def sendRegion (d : Dev) (c chamber region : Nat) : Dev :=
  let key := c * 2 ^ 40 + chamber * 2 ^ 22 + region
  sendPages c chamber region (regionPages d c chamber region) { d with cus.copying := nset d.cus.copying key 0, cus.sent := d.cus.sent + 1 }

/-- A region's copy goes on from a page on, while the pair is still in RESYNC. -/
def resumeCopy (d : Dev) (c chamber region p : Nat) : Dev :=
  if d.cus.state != .resync || !nhas d.cus.copying (c * 2 ^ 40 + chamber * 2 ^ 22 + region) then d
  else sendPages c chamber region ((regionPages d c chamber region).filter fun q => decide (p ≤ q)) d

/-- Pages of a region that T1 does not hold and T2 does. -/
def absentPages (d : Dev) (c chamber region : Nat) : List Nat :=
  ((regionPages d c chamber region).map (pageKey chamber)).filter fun k =>
    (match getFrame d k with
      | some f => f.st == .loading
      | none => match nget d.tier.map k with
        | some (.stored _ _ _ _) => true
        | _ => false)

/-- RESYNC_COPY: the next marked region of a cell, or a region of the twin's pull list, is copied once the share of the twin links allows it; pages absent
from T1 are promoted first, in the plan class. -/
def resyncCopy (d : Dev) (c : Nat) (pulled : Option (Nat × Nat)) : Dev :=
  if !custodyOn d || d.cus.state != .resync || !due d d.cus.nextCopy then d
  else
    let next : Option (Nat × Nat) := match pulled with
      | some x => some x
      | none => if d.cus.stale then none
        else (d.cus.marks.find? fun p => p.1 / 2 ^ 40 == c && !nhas d.cus.copying p.1).map fun p => (p.1 / 2 ^ 22 % 2 ^ 16, p.1 % 2 ^ 22)
    match next with
    | none => d
    | some (n, r) =>
      match absentPages d c n r with
      | [] => sendRegion d c n r
      | ks => forEach ks d fun d k => (startPromo d k .plan).1

/-- A copy of a region is still on its way. -/
def copyOut (d : Dev) (chamber region c : Nat) : Bool :=
  (d.conns.any fun p => p.2.service == .mirror && connIdx p.1 == 1 + c && p.2.sent.any fun s => s.kind == .copy chamber region) ||
    d.res.waits.any fun w => w.cell == c && (match w.use with
      | .resync n r _ => n == chamber && r == region
      | _ => false)

/-- The acknowledgement of the last page of a region's copy clears its mark (R249). -/
def copyAcked (d : Dev) (k chamber region : Nat) : Dev :=
  let c := connIdx k - 1
  let key := c * 2 ^ 40 + chamber * 2 ^ 22 + region
  if nhas d.cus.copying key && !copyOut d chamber region c then
    custodyTurn (bump { d with cus.copying := ndel d.cus.copying key, cus.marks := ndel d.cus.marks key } .CUS_CNT 0 12)
  else d

/-- Regions of every Mirrored chamber. -/
def allRegions (d : Dev) : Nat := d.chm.chambers.foldl (fun n p => if p.2.cls = .mirrored then n + ceilDiv p.2.pages 16384 else n) 0

/-- A whole-cell flag ends once every region of the cell, but for those marked here, has been copied (R248, R249). -/
def wholeDone (d : Dev) : Dev :=
  let overOf (c : Nat) : Bool := decide (allRegions d ≤ (ngetD d.cus.wholeGot c []).length + (d.cus.marks.filter fun p => p.1 / 2 ^ 40 == c).length)
  { d with cus.wholePull := d.cus.wholePull.filter fun c => !overOf c, cus.wholeGot := d.cus.wholeGot.filter fun p => !overOf p.1 }

/-! ### Compare passes (R253) -/

/-- A page of a Mirrored chamber that this device holds is compared: its marker leaves, after a read of its T2 copy at rank 7 where T1 does not hold it (R253). Poisoned lines of a page in T1
make it one to compare again (R254). -/
def comparePage (d : Dev) (k : Nat) : Dev :=
  let c := homeOf k
  let stored := match nget d.tier.map k with
    | some (.stored _ _ _ _) => true
    | _ => false
  if (getFrame d k).isSome then sendMarker (if pagePoison d k = [] then d else { d with cus.again := nset d.cus.again k 0 }) k []
  else if stored then setMed d c { getMed d c with compares := nset (getMed d c).compares k d.now }
  else sendMarker d k []

/-- The first page from a key on, in ascending order, of a Mirrored chamber that this device holds. -/
def nextCompare (d : Dev) (k : Nat) : Option Nat :=
  (d.chm.chambers.find? fun p => isHolder d p.1 && p.2.state == .active && decide (k < pageKey p.1 p.2.pages)).map fun p => max k (pageKey p.1 0)

/-- A pass goes on by one page. -/
def compareStep (d : Dev) : Dev :=
  match d.cus.comparing with
  | none => d
  | some k =>
    match nextCompare d k with
    | none => { d with cus.comparing := none }
    | some j => comparePage { d with cus.comparing := some (j + 1) } j

/-- COMPARE_NOW (R253). -/
def compareNow (d : Dev) (w : Writer) : Dev := command d w .CUS_CTRL 0 0 (operator d w) fun d =>
  if custodyOn d && d.cus.state == .joined then compareStep { d with cus.comparing := some 0 } else d

/-- COMPARE_PASS_TIMER: a pass starts every COMPARE_DAYS while the pair is Joined; each turn of a running pass compares one page. -/
def comparePassTimer (d : Dev) : Dev :=
  let days := hfld d .CUS_CFG2 7 0
  if !custodyOn d || d.cus.state != .joined then d
  else if d.cus.comparing.isSome then compareStep d
  else if days ≠ 0 ∧ due d d.cus.nextCompare = true then
    compareStep { d with cus.comparing := some 0, cus.nextCompare := d.now + sec (days * 86400) }
  else d

end Sys2Proof.Machine
end

