-- ==== Sys2Proof/Machine/Calendar.lean ====
section
/-!
DEFINITION. The calendar: posts, cancels and the firing of its entries; snapshots beyond their cut; the mode query (spec/12_time_and_global_ops.md R264 to R268, R274 to R278,
R281 to R283).
-/
namespace Sys2Proof.Machine
open Sys2Proof

/-- The device takes part in time-scheduled acts (R265). -/
def participates (d : Dev) : Bool := inService3 d && decide (uncertainty d ≤ epsilon d)

/-- GRACE_MS in ns (R281). -/
def graceNs (d : Dev) : Nat := ms (zeroAs 1 (hfld d .TIME_ACT_CFG 15 8))

/-! ### Snapshots after their cut (R276, R277, R297) -/

/-- Writes held around the cut of an act are applied in their order of arrival, with OXH HOLD set on their mirrors (R276). -/
def endHold (d : Dev) (act : Nat) : Dev :=
  let d := { d with snap.holds := ndel d.snap.holds act }
  let free (r : Req) : Req :=
    let go (p : Part) : Bool := p.st == .waitHold && !inHold d r.chamber p.ts
    if r.parts.any go then { r with hold := true, parts := r.parts.map fun p => if go p then { p with st := .queued } else p } else r
  pump { d with reqs := d.reqs.map free }

/-- A snapshot is given up or released: it is RELEASING until its sectors and staging frames are returned (R277, R297). -/
def releaseSnapshot (d : Dev) (act : Nat) : Dev :=
  { d with snap.snaps := nmod d.snap.snaps act fun s => { s with state := .releasing } }

/-- A PENDING snapshot is RETAINED (R277). -/
def retainSnapshot (d : Dev) (act : Nat) : Dev :=
  { d with snap.snaps := nmod d.snap.snaps act fun s => if s.state = .pending then { s with state := .retained } else s }

/-! ### Posts and cancels (R265, R268) -/

/-- The arguments that a kind allows (Table TIM-4, R317, R339). -/
def calArgOk (d : Dev) (kind arg : Nat) : Bool :=
  match kind with
  | 1 => arg / 4 % 2 ^ 30 == 0
  | 2 => decide (1 ≤ arg) && decide (arg ≤ 255)
  | 3 => decide (arg < 2 ^ 16)
  | 4 => decide (arg < 2 ^ 32)
  | 5 => decide (arg < 2 ^ 24) && rotationOk d (arg % 4096) (arg / 4096)
  | 6 => decide (arg < 2 ^ 32)
  | 7 => decide (arg ≤ 63)
  | _ => false

/-- POSTED entries. -/
def postedEnts (d : Dev) : NMap CalEnt := d.cal.ents.filter fun p => p.2.state == .posted

/-- The first code of Table TIM-5 that applies to a post; 0 when none does. -/
def postCode (d : Dev) (kind time arg : Nat) (wellFormed : Bool) : Nat :=
  if kind = 2 ∧ participates d = false then 1
  else if kind = 1 ∧ 1000000 < uncertainty d then 1
  else if time < fedTime d + 2 * epsilon d + 20 then 2
  else if 64 ≤ (postedEnts d).length then 3
  else if !inService3 d then 4
  else if kind = 1 ∧ (modePosted d = true ∨ inGrace d = true) then 5
  else if !wellFormed || !calArgOk d kind arg then 6
  else 0

/-- The entry that an accepted post takes: a FREE one, else the oldest FIRED or CANCELLED. -/
def calSlot (d : Dev) : Nat :=
  match nfreeFrom d.cal.ents 0 64 with
  | some i => i
  | none => ((d.cal.ents.filter fun p => p.2.state != .posted).foldl (fun (b : Option (Nat × Nat)) p => match b with
      | none => some (p.1, p.2.order)
      | some x => if p.2.order < x.2 then some (p.1, p.2.order) else b) none).map (·.1) |>.getD 0

/-- A post is accepted or refused; a refused one changes nothing (R268). A SNAPSHOT_CUT opens its hold window with it (R276). -/
def calPost (d : Dev) (kind flags act time arg : Nat) (wellFormed : Bool) : Dev × Nat :=
  match postCode d kind time arg wellFormed with
  | 0 =>
    let e : CalEnt := { state := .posted, kind := kind, flags := flags, act := act, time := time, arg := arg, order := d.cal.orders }
    let d := { d with cal.ents := nset d.cal.ents (calSlot d) e, cal.orders := d.cal.orders + 1 }
    (if kind = 2 then { d with snap.holds := nset d.snap.holds act (arg, time) } else d, 0)
  | n => (d, n)

/-- CANCEL (R268): every POSTED entry of the act is CANCELLED; a snapshot that the act has already cut is given up (R277). -/
def calCancel (d : Dev) (act : Nat) : Dev :=
  let off (e : CalEnt) : CalEnt := if e.act = act ∧ e.state = .posted then { e with state := .cancelled } else e
  let d := { d with cal.ents := nmap d.cal.ents off }
  let d := if nhas d.snap.holds act then endHold d act else d
  if (nget d.snap.snaps act).any fun s => s.state == .pending then releaseSnapshot d act else d

/-- The six words of a local post (CAL_POST). -/
def calWord (d : Dev) (i : Nat) : Nat := (reg d .CAL_POST 0 i).toNat

/-- A write of CAL_CMD: 1 posts, 2 cancels. -/
def calPostLocal (d : Dev) (w : Writer) : Dev := command d w .CAL_CMD 0 0 (operator d w) fun d =>
  let w0 := reg d .CAL_POST 0 0
  let (d, n) := calPost d (fld w0 7 4) (fld w0 3 0) (calWord d 1) (calWord d 2 * 2 ^ 32 + calWord d 3) (calWord d 4 * 2 ^ 32 + calWord d 5) (fld w0 31 8 == 0)
  { d with cal.result := n }

/-- CAL_CANCEL_LOCAL. -/
def calCancelLocal (d : Dev) (w : Writer) : Dev := command d w .CAL_CMD 0 0 (operator d w) fun d => calCancel d (calWord d 1)

/-- A control message of the tree or the calendar is heard: the port carries control traffic and its tag verifies (R268, TIME_CNT[5]). -/
def treeHeard (d : Dev) (p : Nat) (s : SecTag) (m : List Byte) (tag : BitVec 128) : Dev × Bool :=
  match ctrlHeard d p s with
  | (d, false) => (d, false)
  | (d, true) => if tagOk d m tag then (d, true) else (bump d .TIME_CNT 0 5, false)

/-- CALENDAR POST leaves a port (Table TIM-6). -/
def sendCalPost (d : Dev) (p act op result : Nat) (entry : List Byte) : Dev := sendCtrl d 0xE9 p (tagged d (calPostBytes act op result entry))

/-- A CALENDAR POST with an entry is heard (R268). -/
def calHeard (d : Dev) (m : CalPostMsg) (op : Nat) : Dev × Bool :=
  treeHeard d m.port.val m.sec (calPostBytes m.act.toNat op m.result.toNat (wireEntry m.act.toNat m.entry)) m.tag

/-- A mode query (op 3), or its answer (op 4), is heard (R283). -/
def modeHeard (d : Dev) (m : ModeMsg) (op : Nat) : Dev × Bool :=
  treeHeard d m.port.val m.sec (calPostBytes 0 op 0 (if op = 3 then noEntry else modeEntry m.generation.toNat m.epoch.toNat)) m.tag

/-- CALENDAR_POST_POST: answered with its result. -/
def calendarPostPost (d : Dev) (m : CalPostMsg) : Dev :=
  match calHeard d m 0 with
  | (d, false) => d
  | (d, true) =>
    let (d, n) := calPost d m.entry.kind.toNat m.entry.flags.toNat m.act.toNat m.entry.time.toNat m.entry.arg.toNat (m.entry.rsv == 0)
    sendCalPost d m.port.val m.act.toNat 2 n noEntry

/-- CALENDAR_POST_CANCEL: answered ACCEPT. -/
def calendarPostCancel (d : Dev) (m : CalPostMsg) : Dev :=
  match calHeard d m 1 with
  | (d, false) => d
  | (d, true) => sendCalPost (calCancel d m.act.toNat) m.port.val m.act.toNat 2 0 noEntry

/-- CALENDAR_POST_ANSWER: the result of a post that this device sent to a neighbour. The device itself posts through the tree only, so it has nothing to do. -/
def calendarPostAnswer (d : Dev) (m : CalPostMsg) : Dev := (calHeard d m 2).1

/-! ### The mode query (R283) -/

/-- LOCAL neighbours whose ports carry control traffic. -/
def localPorts (d : Dev) : List Nat := allCells.filter fun p => portRole d p == 3 && portUp d p

/-- QUERY_MODE goes to the LOCAL neighbours; earlier answers no longer count. -/
def queryMode (d : Dev) : Dev := forEach (localPorts d) { d with mode.answers := [] } fun d p => sendCalPost d p 0 3 0 noEntry

/-- QUERY_MODE is answered with generation and epoch. -/
def queryModeReceived (d : Dev) (m : ModeMsg) : Dev :=
  match modeHeard d m 3 with
  | (d, false) => d
  | (d, true) => sendCalPost d m.port.val 0 4 0 (modeEntry d.mode.gen d.mode.epoch)

/-- MODE_ANSWER: when the majority of the answers names a higher generation, the device is BEHIND. -/
def modeAnswer (d : Dev) (m : ModeMsg) : Dev :=
  match modeHeard d m 4 with
  | (d, false) => d
  | (d, true) =>
    let l := nset d.mode.answers m.port.val (m.generation.toNat, m.epoch.toNat)
    let above := (l.filter fun p => decide (d.mode.gen < p.2.1)).length
    { d with mode.answers := l, mode.behind := d.mode.behind || decide (l.length < 2 * above) }

/-- TIME_MODE_ADOPT: the write of word 1 arms the adoption for the next commit. -/
def timeModeAdopt (d : Dev) (w : Writer) (v : Word) : Dev := command d w .TIME_MODE_ADOPT 0 1 (operator d w) fun d =>
  { d with mode.adopt := some ((reg d .TIME_MODE_ADOPT 0 0).toNat, fld v 1 0) }

/-! ### Firing (R264, R267, Table TIM-4) -/

/-- One entry fires before another: T, kind code, posting order. -/
def firesFirst (a b : CalEnt) : Bool :=
  decide (a.time < b.time) || (a.time == b.time && (decide (a.kind < b.kind) || (a.kind == b.kind && decide (a.order < b.order))))

/-- The entry that fires next: the first in order of those whose T local time has reached. -/
def nextFiring (d : Dev) : Option (Nat × CalEnt) :=
  ((postedEnts d).filter fun p => decide (p.2.time ≤ fedTime d)).foldl (fun (b : Option (Nat × CalEnt)) p => match b with
    | none => some p
    | some x => if firesFirst p.2 x.2 then some p else b) none

/-- The next entry fires if it is of a kind. -/
def fire (d : Dev) (kind : Nat) (go : Dev → CalEnt → Dev) : Dev :=
  match nextFiring d with
  | some (i, e) => if e.kind = kind ∧ d.pwr.state ≠ .off then go { d with cal.ents := nset d.cal.ents i { e with state := .fired } } e else d
  | none => d

/-- MODE_COMMIT: the shadows, the epoch and the generation change in one tick, and the grace window opens (R281). -/
def modeCommit (d : Dev) : Dev := fire d 1 fun d e =>
  if isDown d then d
  else
    let old := d.mode.epoch
    let d := commitAll d
    { d with mode.oldEpoch := old, mode.epoch := e.arg % 4, mode.gen := e.arg / 2 ^ 32, mode.graceEnd := some (e.time + epsilon d + graceNs d) }

/-- GRACE_WINDOW_END: the previous epoch is refused from then on (R281). -/
def graceWindowEnd (d : Dev) : Dev :=
  if d.mode.graceEnd.any fun t => decide (t ≤ fedTime d) then { d with mode.graceEnd := none } else d

/-- SNAPSHOT_CUT: a device that takes part starts copy-on-write (R265, R275). -/
def snapshotCut (d : Dev) : Dev := fire d 2 fun d e => if participates d then openCut d e.act e.arg e.time false else d

/-- COORD_RESTART: the flush, then the delay and the start order (R338). -/
def coordRestart (d : Dev) : Dev := fire d 3 fun d e =>
  if inService3 d then beginFlush { d with ldr.restartMs := e.arg } .restart else d

/-- SCRUB_WINDOW: scrub and compare passes run at rank 4 for the duration (Table TIM-4). -/
def scrubWindow (d : Dev) : Dev := fire d 4 fun d e =>
  let d := { d with cal.scrubEnd := some (e.time + e.arg * 1000000000) }
  let d := forEach (allCells.filter fun c => mediaOn d c && (getMed d c).scrub.isNone) d startScrub
  if custodyOn d && d.cus.state == .joined && d.cus.comparing.isNone then compareStep { d with cus.comparing := some 0 } else d

/-- SCRUB_WINDOW_END. -/
def scrubWindowEnd (d : Dev) : Dev := if d.cal.scrubEnd.any fun t => decide (t ≤ fedTime d) then { d with cal.scrubEnd := none } else d

/-- KEY_ROTATION (R317). -/
def keyRotation (d : Dev) : Dev := fire d 5 fun d e => rotate d (e.arg % 4096) (e.arg / 4096) (e.time + epsilon d + graceNs d)

/-- DOZE_WINDOW (R359). -/
def dozeWindow (d : Dev) : Dev := fire d 6 fun d e => { d with cal.dozeEnd := some (e.time + e.arg * 1000000) }

/-- DOZE_WINDOW_END. -/
def dozeWindowEnd (d : Dev) : Dev := if d.cal.dozeEnd.any fun t => decide (t ≤ fedTime d) then { d with cal.dozeEnd := none } else d

/-- START_SLOT: the stagger slot of the next start (R339). -/
def startSlot (d : Dev) : Dev := fire d 7 fun d e => { d with ldr.posted := some e.arg }

/-- KEY_DESTROY: a slot that a POSTED KEY_ROTATION entry names is in use (R310, R311). -/
def keyDestroy (d : Dev) (w : Writer) : Dev :=
  keyDestroyWith d w fun k => (postedEnts d).any fun p => p.2.kind == 5 && (p.2.arg % 4096 == k || p.2.arg / 4096 == k)

/-- HOLD_WINDOW_END: local time has passed T + ε of an act (R276). -/
def holdWindowEnd (d : Dev) (act : Nat) : Dev :=
  match nget d.snap.holds act with
  | some (_, t) => if t + epsilon d < fedTime d then endHold d act else d
  | none => d

end Sys2Proof.Machine
end

