-- ==== Sys2Proof/Machine/Tree.lean ====
section
/-!
DEFINITION. The broadcast and gather tree, acts, and the completion of bulk commands that an act or a gather ends (spec/12_time_and_global_ops.md R269 to R273, R277, R278,
spec/13_bulk_queue.md R290, R296, R297).
-/
namespace Sys2Proof.Machine
open Sys2Proof

/-! ### Completion of a bulk command (R290) -/

/-- Command code (Table BLK-2). -/
def bulkCode (k : BulkKind) : Nat := k.ctorIdx + 1

/-- Range commands. -/
def isRange : BulkKind → Bool
  | .snapshot => false
  | .release => false
  | .barrier => false
  | _ => true

/-- The chamber that a command names by its target key, none for a command without a range. -/
def bulkChm (d : Dev) (kind : BulkKind) (pl : BulkPayload) : Option Nat :=
  if isRange kind then some (ngetD d.chm.keys (pl.dstKey.toNat / 256) {}).chamber else none

/-- The payload of a BULK COMPLETION: tag, code, status, ABORT_REPLY and OUTCOME, detail, two reserved bytes, DONE, RESULT, RESULT2 (Table BLK-3). -/
def completionBytes (r : BulkRec) (outcome : Nat) (abort : Bool) : List Byte :=
  beBytes 2 r.tag ++ beBytes 1 r.code ++ beBytes 1 r.status ++ beBytes 1 (bit_ abort 7 + outcome) ++ beBytes 1 r.detail ++ beBytes 2 0 ++ beBytes 8 r.done ++ beBytes 8 r.result ++ beBytes 8 r.result2

/-- A BULK COMPLETION leaves with the PSN of the command that it completes (R290). `chm` and `persist` are what its OXH tells of that command (R70). -/
def sendCompletion (d : Dev) (conn : Nat) (chm : Option Nat) (persist : Bool) (r : BulkRec) (outcome : Nat) (abort : Bool) : Dev :=
  respond d conn 32 false fun w => .completion (respHdr d conn 0xD8 ⟨r.psn, chm, persist⟩ false w) (completionBytes r outcome abort)

/-- RESULT and RESULT2 of a command (Table BLK-3). -/
def bulkResults (c : BulkCmd) : Nat × Nat :=
  match c.kind with
  | .verify => (c.bad * 2 ^ 32 + c.failed, c.firstBad.getD (2 ^ 64 - 1))
  | .load => (c.failed, 0)
  | _ => (c.result, c.result2)

/-- A command ends: its tag stops being outstanding, its record is kept among the last 256, and its one completion leaves (R290, R299). Of a command whose connection has ended nothing is
told (R302). -/
def bulkFinish (d : Dev) (c : BulkCmd) (status detail : Nat) (outcome : Nat := 0) (abort : Bool := false) : Dev :=
  let rs := bulkResults c
  let r : BulkRec := ⟨c.psn, c.pl.tag.toNat, bulkCode c.kind, status, detail, c.done, rs.1, rs.2⟩
  let d := { d with bulk.cmds := d.bulk.cmds.filter fun x => x.id != c.id, res.waits := d.res.waits.filter fun w => w.use != .piece c.id }
  if c.mute then d
  else
    let d := { d with bulk.recs := nset d.bulk.recs c.conn ((r :: ngetD d.bulk.recs c.conn []).take 256) }
    sendCompletion (bump d .BLK_CNT 0 (if status = stOk then 1 else 2)) c.conn (bulkChm d c.kind c.pl) c.persist r outcome abort

/-- The command of a number. -/
def getBulk (d : Dev) (id : Nat) : Option BulkCmd := d.bulk.cmds.find? fun c => c.id == id
def setBulk (d : Dev) (c : BulkCmd) : Dev := { d with bulk.cmds := d.bulk.cmds.map fun x => if x.id = c.id then c else x }

/-- The SNAPSHOT or BARRIER command that started an act ends with it. -/
def bulkAct (d : Dev) (b : Option Nat) (status detail result result2 : Nat) : Dev :=
  match b.bind (getBulk d) with
  | some c => bulkFinish d { c with result := result, result2 := result2 } status detail
  | none => d

/-! ### The shape of the tree (R269) -/

/-- Members of a group, and the groups. -/
def members (d : Dev) (g : Nat) : List Nat := (List.range ((d.fab.topo.groups[g]?).getD 0)).map fun i => 64 * g + i
def allGroups (d : Dev) : List Nat := List.range d.fab.topo.groups.length

/-- A LOCAL link between two devices is up. -/
def localUp (d : Dev) (a b : Nat) : Bool := (upLinks d a 3).any fun l => l.2 == b

/-- The number of a GLOBAL port among its member's, in ascending port order. -/
def globalIndex (d : Dev) (x p : Nat) : Nat :=
  (d.fab.topo.links.filter fun l => l.role == 4 && ((l.a == x && decide (l.ap < p)) || (l.b == x && decide (l.bp < p)))).length

/-- The lowest-numbered usable GLOBAL link from one group toward another, by its slot: sender, port, far device (R269). -/
def globalLink (d : Dev) (g h : Nat) : Option (Nat × Nat × Nat) :=
  let n := (members d g).length
  let all := ((members d g).map fun x => ((upLinks d x 4).filter fun l => groupOf l.2 == h).map fun l => (globalIndex d x l.1 * n + x % 64, x, l.1, l.2)).flatten
  (all.foldl (fun (b : Option (Nat × Nat × Nat × Nat)) e => match b with
    | none => some e
    | some x => if e.1 < x.1 then some e else b) none).map fun e => e.2

/-- The GLOBAL link on which a group takes its copy: from the root's group, else through the lowest intermediate group that leads there. -/
def groupFeed (d : Dev) (gr h : Nat) : Option (Nat × Nat × Nat) :=
  match globalLink d gr h with
  | some l => some l
  | none => (allGroups d).findSome? fun i => if i ≠ gr ∧ i ≠ h ∧ (globalLink d gr i).isSome = true then globalLink d i h else none

/-- The device of a group from which its members take their copies: the root, or the group's entry. -/
def hubOf (d : Dev) (root g : Nat) : Option Nat := if g = groupOf root then some root else (groupFeed d (groupOf root) g).map fun l => l.2.2

/-- The LOCAL link of a device to another. -/
def localPort (d : Dev) (x m : Nat) : Nat := (((upLinks d x 3).find? fun l => l.2 == m).map (·.1)).getD 0

/-- The children of a device in the tree of a root, with its ports to them (R269): members of its group, directly or for one whose link to the hub is down, then groups
it feeds. -/
def treeKids (d : Dev) (root x : Nat) : List (Nat × Nat) :=
  let g := groupOf x
  let near := match hubOf d root g with
    | none => []
    | some hub =>
      let relays (m : Nat) : Bool :=
        if x = hub then localUp d hub m
        else !localUp d hub m && ((members d g).find? fun y => y != m && y != hub && localUp d hub y && localUp d y m) == some x
      ((members d g).filter fun m => m != x && m != hub && relays m).map fun m => (m, localPort d x m)
  let far := (allGroups d).filterMap fun h =>
    if h = groupOf root then none
    else match groupFeed d (groupOf root) h with
      | some (s, p, e) => if s = x then some (e, p) else none
      | none => none
  near ++ far

/-- The devices of the subtree of one; a path has at most six devices. -/
def treeMembers (d : Dev) (root : Nat) : Nat → Nat → List Nat
  | 0, x => [x]
  | n + 1, x => x :: ((treeKids d root x).map fun k => treeMembers d root n k.1).flatten

/-- t_bcast of R271 in ns. -/
def tBcast (d : Dev) : Nat :=
  let gr := groupNo d
  let n := (members d gr).length
  if d.fab.topo.groups.length ≤ 1 then 600 + (n - 1) * 20
  else
    let copies (x : Nat) : Nat := ((allGroups d).filter fun h => h != gr && (globalLink d gr h).any fun l => l.1 == x).length
    let l := (members d gr).foldl (fun b x => max b (copies x)) 0
    let nm := (allGroups d).foldl (fun b g => if g = gr then b else max b (members d g).length) 0
    1800 + ((n - 1) + l + (nm - 1)) * 20

/-- The lead of R272. -/
def leadNs (d : Dev) : Nat := max (us (max 10 (hfld d .TIME_ACT_CFG 31 16))) (3 * tBcast d + 2 * epsilon d)

/-! ### Broadcast and gather (R269, R270) -/

/-- What a broadcast carries: kind, flags, T, argument. -/
structure TreeEntry where
  kind : Nat := 0
  flags : Nat := 0
  time : Nat := 0
  arg : Nat := 0
  rsv : Nat := 0
deriving DecidableEq, Repr

def treePost : Nat := 0
def treeCancelOp : Nat := 1
def treeConfirmOp : Nat := 2
def treeDiscardOp : Nat := 3
def treePauseOp : Nat := 4
def treeResumeOp : Nat := 5
def treeBarrierOp : Nat := 6

/-- Two sums of gathers together. -/
def addGather (a b : Gather) : Gather :=
  { acc := a.acc + b.acc, refd := a.refd + b.refd, mask := a.mask ||| b.mask, maxU := max a.maxU b.maxU,
    first := match a.first, b.first with
      | some x, some y => some (min x y)
      | some x, none => some x
      | none, y => y }

/-- The answer of this device alone: a code of Table TIM-5 and its u. -/
def ownGather (d : Dev) (code : Nat) : Gather :=
  let u := sat (uncertainty d) 0xFFFF
  if code = 0 then { acc := 1, maxU := u } else { refd := 1, mask := 2 ^ code, maxU := u, first := some (ordinal d) }

/-- A relay whose own part and children are all in is answered: to its parent, or, at the root, handed to the coordinator. -/
def relayCheck (d : Dev) (key : Nat) : Dev :=
  match nget d.act.relays key with
  | none => d
  | some r =>
    if !r.own || r.kids != [] then d
    else
      let d := { d with act.relays := ndel d.act.relays key }
      match r.parent with
      | some p => sendCtrl d 0xE8 p (tagged d (gatherBytes (key / 8) (key % 8) r.sum.mask r.sum.acc r.sum.refd r.sum.maxU (r.sum.first.getD 0)))
      | none => { d with act.ready := d.act.ready ++ [(key / 8, key % 8, r.sum)] }

/-- An answer is added to a relay. -/
def addToRelay (d : Dev) (key : Nat) (f : Relay → Relay) : Dev := relayCheck { d with act.relays := nmod d.act.relays key f } key

/-- This device's own part of a relay is handled. -/
def ownPart (d : Dev) (key code : Nat) : Dev := addToRelay d key fun r => { r with own := true, sum := addGather r.sum (ownGather d code) }

/-- The admitted changes of the chambers of a set have reached their acknowledgement points (R278). -/
def setDrained (d : Dev) (set : Nat) : Bool :=
  d.reqs.all fun r => !isChange r.kind || !((nget d.chm.chambers r.chamber).any fun c => c.set == set) || (match r.stage with
    | .waitPause => true
    | .waitCustody _ => true
    | .issued => false
    | .over _ => r.parts.all fun p => partOver p.st)

/-- MESSAGE_CUT_DRAINED: the cut is taken and the gather answered (R278). -/
def messageCutDrained (d : Dev) (act : Nat) : Dev :=
  match d.snap.paused.find? fun p => p.2 == act with
  | none => d
  | some (set, _) =>
    if !setDrained d set || nhas d.snap.snaps act then d
    else
      let d := openCut d act set (fedTime d) true
      ownPart d (act * 8 + treePauseOp) (if nhas d.snap.snaps act then 0 else 3)

/-- Requests that waited for a message cut of a set are admitted in order of arrival (R278). -/
def resumeSet (d : Dev) (set : Nat) : Dev :=
  let d := { d with snap.paused := ndel d.snap.paused set }
  pumpCustody { d with reqs := d.reqs.map fun r => if r.stage = .waitPause then { r with stage := .waitCustody (d.now + stallMs d) } else r }

/-- What an operation of the tree does at this device, and its code of Table TIM-5; none while a message cut drains. A BARRIER that carries a SNAPSHOT_CUT entry gathers the
result of its cut (R277). -/
def treeLocal (d : Dev) (act op : Nat) (e : TreeEntry) : Dev × Option Nat :=
  if op = treePost then
    match calPost d e.kind (e.flags ||| 1) act e.time e.arg (e.rsv == 0) with
    | (d, n) => (d, some n)
  else if op = treeCancelOp then (calCancel d act, some 0)
  else if op = treeConfirmOp then (retainSnapshot d act, some 0)
  else if op = treeDiscardOp then (releaseSnapshot d act, some 0)
  else if op = treePauseOp then
    (if inService3 d then ({ d with snap.paused := nset d.snap.paused e.arg act }, none) else (d, some 4))
  else if op = treeResumeOp then (resumeSet d e.arg, some 0)
  else if e.kind = 2 then
    (d, some (if nhas d.snap.snaps act then 0 else if !inService3 d then 4 else if !participates d then 1 else if 256 ≤ d.snap.snaps.length then 3 else 2))
  else (d, some 0)

/-- TREE_US in ns (R270). -/
def treeNs (d : Dev) : Nat := us (zeroAs 1 (hfld d .TIME_ACT_CFG 7 0))

/-- The entry that a broadcast carries, or 0 (Table TIM-7). -/
def treeEntryBytes (act : Nat) (e : TreeEntry) : List Byte := if e.kind = 0 then noEntry else entryBytes e.time e.kind e.flags e.rsv act e.arg

/-- A broadcast starts here, or is relayed: copies to the children, then this device's own part (R269, R270). -/
def treeOpen (d : Dev) (act op root : Nat) (parent : Option Nat) (e : TreeEntry) : Dev :=
  let key := act * 8 + op
  if nhas d.act.relays key then d
  else
    let kids := treeKids d root (ordinal d)
    let d := forEach kids d fun d k => sendCtrl d 0xE7 k.2 (tagged d (treeBytes act op root (treeEntryBytes act e)))
    let d := { d with act.relays := nset d.act.relays key { parent := parent, root := root, kids := kids.map (·.1), deadline := d.now + treeNs d } }
    match treeLocal d act op e with
    | (d, some code) => ownPart d key code
    | (d, none) => messageCutDrained d act

/-! ### Acts (R273, R277, R278) -/

/-- An act ends with its result. -/
def actDone (d : Dev) (result : Nat) : Dev := { d with act.run := none, act.result := result }

/-- The act ends and its bulk command with it. -/
def actEnd (d : Dev) (r : ActRun) (result status detail res res2 : Nat) : Dev := bulkAct (actDone d result) r.bulk status detail res res2

/-- Bits of a refusal mask that an act tolerates. -/
def onlyCodes (mask : Nat) (codes : List Nat) : Bool := (List.range 8).all fun i => (mask >>> i) % 2 == 0 || codes.contains i

/-- The snapshot's entry as the tree carries it. -/
def runEntry (r : ActRun) : TreeEntry := { kind := r.kind, flags := 1, time := r.time, arg := r.arg }

/-- A gather is complete at this root: the act goes on as Table TIM-9, R277 and R278 say. -/
def actStep (d : Dev) (act op : Nat) (g : Gather) : Dev :=
  match d.act.run with
  | none => d
  | some r =>
    if r.id ≠ act then d
    else
      let me := ordinal d
      let sum (d : Dev) : Dev := { d with act.sum := g }
      match r.phase with
      | .barrier => if op = treeBarrierOp then actEnd (sum d) r 0 stOk 0 (g.refd * 2 ^ 16 + g.acc) 0 else d
      | .post =>
        if op ≠ treePost then d
        else
          let d := sum d
          let cancel (d : Dev) : Dev := treeOpen d act treeCancelOp me none {}
          if onlyCodes g.mask (if r.op = 3 then [1, 4, 7] else [4, 7]) then
            (if r.op = 2 then { d with act.run := some { r with phase := .wait } } else actEnd d r 0 stOk 0 act 0)
          else if r.op = 2 ∧ onlyCodes g.mask [1, 4, 7] = true then
            treeOpen (cancel { d with act.run := some { r with phase := .pause } }) act treePauseOp me none (runEntry r)
          else
            let d := cancel d
            let d := if r.op = 2 ∧ r.time ≤ fedTime d then treeOpen d act treeDiscardOp me none {} else d
            actEnd d r 3 stUnavailable 5 act r.time
      | .wait => d
      | .cut =>
        if op ≠ treeBarrierOp then d
        else if onlyCodes g.mask [4, 7] then actEnd (treeOpen (sum d) act treeConfirmOp me none {}) r 0 stOk 0 act r.time
        else actEnd (treeOpen (sum d) act treeDiscardOp me none {}) r 5 stUnavailable 6 act r.time
      | .pause =>
        if op ≠ treePauseOp then d
        else
          let t := ((nget d.snap.snaps act).map (·.time)).getD 0
          let d := treeOpen (sum d) act treeResumeOp me none (runEntry r)
          if g.mask = 0 then actEnd (treeOpen d act treeConfirmOp me none {}) r 4 stOk 7 act t
          else actEnd (treeOpen d act treeDiscardOp me none {}) r 5 stUnavailable 6 act t

/-- A RELEASE with SCOPE 1 ends once the gather of its DISCARD has arrived (R297). -/
def releaseGathered (d : Dev) (act op : Nat) : Dev :=
  match d.bulk.cmds.find? fun c => c.kind == .release && c.state == .acting && c.pl.snap.toNat == act with
  | some c => if op = treeDiscardOp ∧ c.pl.scope = 1 then bulkFinish d c stOk 0 else d
  | none => d

/-- The gathers complete at this root are acted on, one after the other; each can complete further ones at once. -/
def actTurn : Nat → Dev → Dev
  | 0, d => d
  | n + 1, d =>
    match d.act.ready with
    | [] => d
    | (act, op, g) :: rest => actTurn n (releaseGathered (actStep { d with act.ready := rest } act op g) act op)

/-- How many gathers one command can complete at a root. -/
def actFuel : Nat := 16

/-- An act starts with this device as coordinator (R273): 1 BARRIER, 2 SNAPSHOT, 3 MODE_COMMIT, 4 RESTART, 5 POST. T of 0 means now plus the lead. -/
def startAct (d : Dev) (op kind time arg : Nat) (bulk : Option Nat) : Dev :=
  let id := ordinal d * 2 ^ 18 + d.act.seq % 2 ^ 18
  let t := if op = 1 then 0 else if time = 0 then fedTime d + leadNs d else time
  let r : ActRun := { op := op, id := id, kind := kind, time := t, arg := arg, phase := if op = 1 then .barrier else .post, bulk := bulk }
  let d := { d with act.run := some r, act.seq := d.act.seq + 1, act.lastOp := op, act.result := 0, act.id := id, act.sum := {} }
  actTurn actFuel (if op = 1 then treeOpen d id treeBarrierOp (ordinal d) none {} else treeOpen d id treePost (ordinal d) none (runEntry r))

/-- The words of TIME_ACT_ARG: T and argument. -/
def actTime (d : Dev) : Nat := (reg d .TIME_ACT_ARG 0 0).toNat * 2 ^ 32 + (reg d .TIME_ACT_ARG 0 1).toNat
def actArg (d : Dev) : Nat := (reg d .TIME_ACT_ARG 0 2).toNat * 2 ^ 32 + (reg d .TIME_ACT_ARG 0 3).toNat

/-- A write of TIME_ACT_CMD (R273): denied to I3C and other tenants; ignored while an act runs, which sets OVERRUN. -/
def actCommand (d : Dev) (w : Writer) (go : Dev → Dev) : Dev := command d w .TIME_ACT_CMD 0 0 (operator d w) fun d =>
  if d.act.run.isSome then { d with act.overrun := true } else go d

/-- An act is refused with BAD_ARG. -/
def actBad (d : Dev) (op : Nat) : Dev := { d with act.lastOp := op, act.result := 2 }

/-- ACT_BARRIER: no word of the argument is used. -/
def actBarrier (d : Dev) (w : Writer) : Dev := actCommand d w fun d =>
  if actTime d ≠ 0 ∨ actArg d ≠ 0 then actBad d 1 else startAct d 1 0 0 0 none

/-- An act that posts an entry of a kind. -/
def actPosting (d : Dev) (w : Writer) (op kind : Nat) : Dev := actCommand d w fun d =>
  if calArgOk d kind (actArg d) then startAct d op kind (actTime d) (actArg d) none else actBad d op

/-- ACT_SNAPSHOT, ACT_MODE_COMMIT, ACT_RESTART. -/
def actSnapshot (d : Dev) (w : Writer) : Dev := actPosting d w 2 2
def actModeCommit (d : Dev) (w : Writer) : Dev := actPosting d w 3 1
def actRestart (d : Dev) (w : Writer) : Dev := actPosting d w 4 3

/-- ACT_POST: the kind is that of CAL_POST word 0 (DESIGN CHOICE: the act's words name none). -/
def actPost (d : Dev) (w : Writer) : Dev := actPosting d w 5 (fld (reg d .CAL_POST 0 0) 7 4)

/-- ACT_CMD_RESERVED: BAD_ARG. -/
def actCmdReserved (d : Dev) (w : Writer) (op : Nat) : Dev := actCommand d w fun d => actBad d op

/-- CUT_RESULT_GATHER_START: the coordinator's time has passed T + 2ε (R277). -/
def cutResultGatherStart (d : Dev) : Dev :=
  match d.act.run with
  | some r =>
    if r.phase = .wait ∧ r.time + 2 * epsilon d < fedTime d then
      actTurn actFuel (treeOpen { d with act.run := some { r with phase := .cut } } r.id treeBarrierOp (ordinal d) none (runEntry r))
    else d
  | none => d

/-! ### Received tree messages -/

/-- The entry of a received TREE BROADCAST; of kind 0 it is the 24 zero bytes. -/
def wireBroadcast (m : TreeMsg) : List Byte := if m.entry.kind = 0 then noEntry else wireEntry m.act.toNat m.entry

/-- A TREE BROADCAST of an operation is heard (R268). -/
def broadcastHeard (d : Dev) (m : TreeMsg) (op : Nat) : Dev × Bool := treeHeard d m.port.val m.sec (treeBytes m.act.toNat op m.root.val (wireBroadcast m)) m.tag

/-- A TREE GATHER is heard (R268). -/
def gatherHeard (d : Dev) (m : GatherMsg) : Dev × Bool :=
  treeHeard d m.port.val m.sec (gatherBytes m.act.toNat m.op.val m.mask.toNat m.accepted.toNat m.refused.toNat m.maxUnc.toNat m.firstRefuser.val) m.tag

/-- A TREE BROADCAST is handled and relayed (R269). -/
def treeReceived (d : Dev) (m : TreeMsg) (op : Nat) : Dev :=
  match broadcastHeard d m op with
  | (d, false) => d
  | (d, true) =>
    if m.root.val = ordinal d then d
    else treeOpen d m.act.toNat op m.root.val (some m.port.val)
      { kind := m.entry.kind.toNat, flags := m.entry.flags.toNat, time := m.entry.time.toNat, arg := m.entry.arg.toNat, rsv := m.entry.rsv.toNat }

/-- TREE_GATHER: added to the relay it answers; one that comes after the answer is late (R270, TIME_CNT[7]). -/
def treeGather (d : Dev) (m : GatherMsg) : Dev :=
  match gatherHeard d m with
  | (d, false) => d
  | (d, true) =>
    let key := m.act.toNat * 8 + m.op.val
    let from_ := (farEnd d (ordinal d) m.port.val).map (·.1)
    match nget d.act.relays key with
    | some r =>
      if r.kids.any fun k => some k == from_ then
        let g : Gather := { acc := m.accepted.toNat, refd := m.refused.toNat, mask := m.mask.toNat, maxU := m.maxUnc.toNat,
                            first := if m.refused = 0 then none else some m.firstRefuser.val }
        actTurn actFuel (addToRelay d key fun r => { r with kids := r.kids.filter fun k => some k != from_, sum := addGather r.sum g })
      else bump d .TIME_CNT 0 7
    | none => bump d .TIME_CNT 0 7

/-- TREE_GATHER_TIMEOUT: children that are silent count as refused with NO_REPLY, with every device of their subtrees (R270). -/
def treeGatherTimeout (d : Dev) (act op : Nat) : Dev :=
  let key := act * 8 + op
  match nget d.act.relays key with
  | some r =>
    if due d r.deadline then
      let silent := (r.kids.map fun k => treeMembers d r.root 6 k).flatten
      let g : Gather := { refd := silent.length, mask := if silent = [] then 0 else 2 ^ 7, first := silent.foldl (fun b x => some (min x (b.getD x))) none }
      actTurn actFuel (addToRelay d key fun r => { r with kids := [], sum := addGather r.sum g })
    else d
  | none => d

/-- MESSAGE_CUT_DRAINED as a command. -/
def messageCut (d : Dev) (act : Nat) : Dev := actTurn actFuel (messageCutDrained d act)

end Sys2Proof.Machine
end

