-- ==== Sys2Proof/Machine/Bulk.lean ====
section
/-!
DEFINITION. The bulk command queue: acceptance, start, pieces, aborts (spec/13_bulk_queue.md R284 to R302).
-/
namespace Sys2Proof.Machine
open Sys2Proof

/-! ### Acceptance (R285, R287) -/

/-- A payload keeps the rules of R285: reserved bits 0, every field that the command does not use 0, LENGTH at most 2^40. -/
def payloadOk (k : BulkKind) (b : BulkPayload) : Bool :=
  b.wellFormed && (!b.media || k == .verify) && (!b.fromSnap || k == .copy) && decide (b.scope.toNat < 2) && (b.scope == 0 || k == .barrier || k == .release) &&
  (isRange k || (b.dstKey == 0 && b.dstVa == 0 && b.len == 0)) && (k == .copy || (b.srcKey == 0 && b.srcVa == 0)) &&
  (b.snap == 0 || (k == .copy && b.fromSnap) || k == .release) && decide (b.len.toNat ≤ 2 ^ 40) && (b.arg == 0 || k == .fill || k == .snapshot) && (b.set == 0 || k == .snapshot)

/-- A command's acknowledgement leaves in its turn: its point is the end of this handling (R287). -/
def bulkAck (d : Dev) (p : Pkt) (k : Nat) (chm : Option Nat) : Dev :=
  let d := modConn d k fun c => advanceTo c (psnMod (p.psn.toNat + 1))
  pump (addReq d { id := d.nextReq, conn := k, psn := p.psn.toNat, pkts := 1, kind := .load, ackReq := p.ackReq, persist := p.oxh.any (·.persist), keyIdx := 0, va := 0,
                   chamber := chm.getD (2 ^ 16), off := 0, len := 0, data := [], mark := [], arg := (0, 0), errs := [], stage := .over stOk, parts := [], at_ := d.now, ts := 0 })

/-- The device is entering QUIET or DORMANT (R301). -/
def enteringLow (d : Dev) : Bool := d.pwr.move.any fun m => m.entry

/-- Answered BUSY as a memory request in QUIET and DORMANT is (R87, R301), with the wait. -/
def bulkBusy (d : Dev) : Option Nat := if d.pwr.state = .service ∨ enteringLow d = true then none else some ((busyWait d).getD 0)

/-- Outstanding commands of a connection. -/
def bulkMine (d : Dev) (k : Nat) : List BulkCmd := d.bulk.cmds.filter fun x => x.conn == k && !x.mute

/-- What an opcode of the bulk queue meets at the expected PSN: a malformed one is refused (R86), QUIET and DORMANT answer BUSY (R301), and so does a cell that finds no buffer for it
(R30). -/
def bulkTaken (d : Dev) (p : Pkt) (k : Nat) (a : About) (good : Bool) (go : Dev → Dev) : Dev :=
  if !good then fatalNak (bump d .OMT_CNT (connCell k) 15) k a synInvalid
  else
    match bulkBusy d with
    | some w => sendBusy d k a w
    | none => hostBuf d p k a go

/-- A BULK COMMAND (R284, R285, R287). -/
def bulkCommand (d : Dev) (p : Pkt) (kind : BulkKind) (b : BulkPayload) : Dev :=
  let chm := bulkChm d kind b
  receive d p chm .bulk false (fun _ => 1) (fun d _ => d) fun d k =>
    let mine := bulkMine d k
    let persist := p.oxh.any (·.persist)
    let good := (getConn d k).service == .data && payloadOk kind b && !(mine.any fun x => x.pl.tag == b.tag) && decide (mine.length < 256)
    bulkTaken d p k ⟨p.psn.toNat, chm, persist⟩ good fun d =>
      let cmd : BulkCmd := { id := d.bulk.next, conn := k, psn := p.psn.toNat, kind := kind, pl := b, persist := persist, before := d.nextReq }
      if 8192 ≤ d.bulk.cmds.length then
        let r : BulkRec := ⟨cmd.psn, b.tag.toNat, bulkCode kind, stBusy, 8, 0, 0, 0⟩
        bulkAck (sendCompletion { bump d .BLK_CNT 0 3 with bulk.recs := nset d.bulk.recs k ((r :: ngetD d.bulk.recs k []).take 256) } k chm persist r 0 false) p k chm
      else
        let d := { d with bulk.next := d.bulk.next + 1, bulk.cmds := d.bulk.cmds ++ [cmd], bulk.lastTag := nset d.bulk.lastTag k b.tag.toNat }
        let d := bump d .BLK_CNT 0 0
        let d := if enteringLow d then { bump d .BLK_CNT 0 9 with pwr.latched := some .service } else d
        let d := bulkAck d p k chm
        if isRange kind && b.len == 0 then bulkFinish d cmd stOk 0 else d

/-! ### Pieces (R288, R291 to R295) -/

/-- BLK_CFG. -/
def piecesMax (d : Dev) : Nat := clampTo 1 64 (hfld d .BLK_CFG 23 16)
def activeMax (d : Dev) : Nat := clampTo 1 1024 (hfld d .BLK_CFG 10 0)

/-- The operation whose rights the target key of a command needs (Table BLK-2). -/
def targetOp : BulkKind → ReqKind
  | .commit => .commit
  | .load => .load
  | .verify => .verify
  | .trim => .trim
  | _ => .write

/-- Checks 1 to 5 of Table CHM-6 on one key of a command: the entry's chamber and offset, the status of the first that fails, or to wait for custody. -/
inductive BulkCheck where
  | ok (chamber off : Nat)
  | wait
  | fail (status : Nat)
deriving DecidableEq, Repr

def bulkKey (d : Dev) (c : BulkCmd) (key va : Nat) (op : ReqKind) (persist : Bool) : BulkCheck :=
  let e := ngetD d.chm.keys (key / 256) {}
  match keyClass d key with
  | some st => .fail st
  | none =>
    if !bindingOk e (getConn d c.conn).tenant (ordinal d) (qpnOf (getConn d c.conn).gen c.conn) then .fail stRights
    else match nget d.chm.chambers e.chamber with
      | none => .fail stUnavailable
      | some ch =>
        if ch.state ≠ .active then .fail stUnavailable
        else match custodyGate d e.chamber ch (!isChange op) with
          | .refuse st => .fail st
          | .wait => .wait
          | .open_ =>
            if !boundsOk e op va c.pl.len.toNat then .fail stBounds
            else if !rightsOk e op persist then .fail stRights
            else .ok e.chamber (e.base * 4096 + va)

/-- The target key of a command, and the source key of a COPY. -/
def targetCheck (d : Dev) (c : BulkCmd) : BulkCheck := bulkKey d c c.pl.dstKey.toNat c.pl.dstVa.toNat (targetOp c.kind) c.persist
def sourceCheck (d : Dev) (c : BulkCmd) : BulkCheck := bulkKey d c c.pl.srcKey.toNat c.pl.srcVa.toNat .read false

/-- The detail that goes with a status: custody that moved away (R291). -/
def custodyDetail (status : Nat) : Nat := if status = stNotCustodian then 9 else 0

/-- The status of what a command has done: its first failure, else that of the pages that a LOAD or VERIFY has counted (R291, R299). -/
def bulkStatus (c : BulkCmd) : Nat := if c.status ≠ 0 then c.status else if c.failed ≠ 0 then stTierFail else if c.bad ≠ 0 then stPoisoned else stOk

/-- A command completes once it issues nothing more and no piece is in flight (R291, R299). -/
def bulkSettle (d : Dev) (id : Nat) : Dev :=
  match getBulk d id with
  | none => d
  | some c =>
    if c.state ≠ .running ∨ c.flight ≠ [] ∨ (c.stop = false ∧ c.issued < c.pl.len.toNat) then d
    else
      if c.abort then bulkFinish d c (bulkStatus c) c.detail 2 true else bulkFinish d c (bulkStatus c) c.detail

/-- A piece fails: the command issues no more and keeps the first failure (R291). -/
def pieceFails (c : BulkCmd) (lo status : Nat) : BulkCmd :=
  { c with stop := true, flight := c.flight.filter (· != lo), status := if c.status = 0 then status else c.status,
           detail := if c.status = 0 then custodyDetail status else c.detail }

/-- A piece goes to its home cell as a request of its own under the command's keys (R288), unless its set is paused for a message cut (R278) or its chamber waits for custody
(R239, R251). It holds the buffer of its data. -/
def sendPiece (d : Dev) (c : BulkCmd) (kind : ReqKind) (key va chamber off len lo phase : Nat) (data : List Byte) (marks : List Nat) (buf : Option Nat) : Dev :=
  let r : Req :=
    { id := d.nextReq, conn := c.conn, psn := c.psn, pkts := 1, kind := kind, ackReq := false, persist := kind == .verify && c.pl.media, keyIdx := key / 256, va := va,
      chamber := chamber, off := off, len := len, data := data, mark := marks, arg := (0, 0), errs := [], stage := .issued, parts := [], at_ := d.now, ts := fedTime d, buf := buf,
      silent := true, bulk := some (c.id, lo, phase) }
  let d := addReq d r
  if pausedFor d r then setReq d { r with stage := .waitPause }
  else
    match (nget d.chm.chambers chamber).map fun ch => custodyGate d chamber ch (!isChange kind) with
    | some .wait => setReq d { r with stage := .waitCustody (d.now + stallMs d) }
    | some (.refuse st) => setReq d { r with stage := .over st }
    | _ => setReq d { r with parts := makeParts d r }

/-- The bytes that a FILL writes at an offset of its range (R294). -/
def fillBytes (pattern lo n : Nat) : List Byte := (List.range n).map fun i => BitVec.ofNat 8 (pattern / 2 ^ (8 * (7 - (lo + i) % 8)))

/-- The length of the piece at an offset of the range: what lies in one page of the target (R288). -/
def pieceLen (c : BulkCmd) (lo : Nat) : Nat := min (c.pl.len.toNat - lo) (16384 - (c.off + lo) % 16384)

/-- The first request of a piece. -/
def openPiece (d : Dev) (c : BulkCmd) (lo n : Nat) (buf : Option Nat) : Dev :=
  let key := c.pl.dstKey.toNat
  let va := c.pl.dstVa.toNat + lo
  let at_ (k : ReqKind) (data : List Byte) : Dev := sendPiece d c k key va c.chamber (c.off + lo) n lo 1 data [] buf
  match c.kind with
  | .copy => sendPiece d c .read c.pl.srcKey.toNat (c.pl.srcVa.toNat + lo) c.srcChamber (c.srcOff + lo) n lo 0 [] [] buf
  | .fill => at_ .write (fillBytes c.pl.arg.toNat lo n)
  | .trim => if n = 16384 then at_ .trim [] else at_ .write (List.replicate n 0)
  | .commit => at_ .commitMark []
  | .verify => at_ .verify []
  | _ => at_ .load []

/-- The pieces of a command carry data, for which each takes a buffer at its home cell (R26, R30). -/
def carriesData : BulkKind → Bool
  | .copy => true
  | .fill => true
  | .trim => true
  | _ => false

/-- The command waits for the buffer of its next piece (R30). -/
def pieceWaits (d : Dev) (id : Nat) : Bool := d.res.waits.any fun w => w.use == .piece id

/-- The next piece of a command is issued. -/
def issuePiece (d : Dev) (c : BulkCmd) (buf : Option Nat) : Dev :=
  let lo := c.issued
  let n := pieceLen c lo
  let c := { c with issued := lo + n, flight := c.flight ++ [lo] }
  openPiece (bump (setBulk d c) .BLK_CNT 0 10) c lo n buf

/-- Checks 1, 3 and 6 at the issue of a piece; dirty space and quota are the home cell's (check 7). -/
def pieceCheck (d : Dev) (c : BulkCmd) (lo n : Nat) : Option Nat :=
  let status (b : BulkCheck) : Option Nat := match b with
    | .fail st => some st
    | _ => none
  let fenced (chamber off : Nat) : Bool := (pageParts off n).any fun q => cellFenced d (homeCell chamber q.1)
  match status (targetCheck d c), c.kind == .copy with
  | some st, _ => some st
  | none, true =>
    match status (sourceCheck d c) with
    | some st => some st
    | none => if fenced c.chamber (c.off + lo) || fenced c.srcChamber (c.srcOff + lo) then some stUnavailable else none
  | none, false => if fenced c.chamber (c.off + lo) then some stUnavailable else none

/-- A running command has a piece to issue now. -/
def mayIssue (d : Dev) (c : BulkCmd) : Bool :=
  d.pwr.state == .service && d.pwr.move.isNone && c.state == .running && !c.stop && decide (c.issued < c.pl.len.toNat) && decide (c.flight.length < piecesMax d) && !pieceWaits d c.id

/-- One turn of a running command: it issues its next piece, in ascending offset, within PIECES. -/
def bulkTurn (d : Dev) (id : Nat) : Dev :=
  match getBulk d id with
  | none => d
  | some c =>
    if !mayIssue d c then d
    else
      let n := pieceLen c c.issued
      match pieceCheck d c c.issued n with
      | some st => bulkSettle (setBulk d (pieceFails c c.issued st)) id
      | none =>
        if carriesData c.kind then withBuf d (homeCell c.chamber ((c.off + c.issued) / 16384)) 0x1008 n (.piece id) fun d b => issuePiece d c (some b)
        else issuePiece d c none

/-- Round robin, one piece per running command per turn (R288). -/
def bulkIssue : Nat → Dev → Dev
  | 0, d => pump d
  | n + 1, d => if d.bulk.cmds.any (mayIssue d) then bulkIssue n (forEach (d.bulk.cmds.map (·.id)) d bulkTurn) else pump d

/-! ### Start (R288, R289, R293, R296 to R298, R301) -/

/-- A command may start: the device serves, earlier commands of its connection have started, none behind a BARRIER, a BARRIER has none before it, and earlier writes of the
connection are applied at their home cells. -/
def startable (d : Dev) (c : BulkCmd) : Bool :=
  let mine := (bulkMine d c.conn).filter fun x => decide (x.id < c.id)
  c.state == .waiting && d.pwr.state == .service && d.pwr.move.isNone && !(mine.any fun x => x.state == .waiting || x.kind == .barrier) && (c.kind != .barrier || mine.isEmpty) &&
  decide ((d.bulk.cmds.filter fun x => x.state != .waiting).length < activeMax d) &&
  d.reqs.all fun r => r.conn != c.conn || r.bulk.isSome || decide (c.before ≤ r.id) || !isChange r.kind || (match r.stage with
    | .waitCustody _ => false
    | .waitPause => false
    | _ => r.parts.all fun p => !pendingPart p.st)

/-- Two ranges of one chamber overlap. -/
def overlaps (c : BulkCmd) : Bool :=
  c.chamber == c.srcChamber && decide (c.off < c.srcOff + c.pl.len.toNat) && decide (c.srcOff < c.off + c.pl.len.toNat)

/-- A COPY beyond its keys: overlap, and the snapshot it reads (R293). Answers status and detail of a failure. -/
def copyBar (d : Dev) (c : BulkCmd) : Option (Nat × Nat) :=
  if c.kind ≠ .copy then none
  else if !c.pl.fromSnap && overlaps c then some (stBounds, 1)
  else if c.pl.fromSnap then
    match nget d.snap.snaps c.pl.snap.toNat with
    | some s => if s.state ≠ .retained then some (stUnavailable, 2) else if s.chambers.contains c.srcChamber then none else some (stUnavailable, 3)
    | none => some (stUnavailable, 2)
  else none

/-- The command of a tag on a connection. -/
def findTag (d : Dev) (k tag : Nat) : Option BulkCmd := (bulkMine d k).find? fun c => c.pl.tag.toNat == tag

/-- A range command that waits for custody at its start goes on waiting until its lease has been over for STALL_MS (R291). -/
def startWaits (d : Dev) (c : BulkCmd) : Dev :=
  if d.cus.witness.isSome && due d (d.cus.leaseEnd + stallMs d) then bulkFinish d c stNotCustodian 9 else d

/-- A range command starts. -/
def startRange (d : Dev) (c : BulkCmd) : Dev :=
  match targetCheck d c with
  | .fail st => bulkFinish d c st (custodyDetail st)
  | .wait => startWaits d c
  | .ok ch off =>
    let go (c : BulkCmd) : Dev := match copyBar d c with
      | some (st, detail) => bulkFinish d c st detail
      | none => bulkIssue 64 (setBulk d { c with state := .running })
    let c := { c with chamber := ch, off := off }
    if c.kind ≠ .copy then go c
    else match sourceCheck d c with
      | .fail st => bulkFinish d c st (custodyDetail st)
      | .wait => startWaits d c
      | .ok sch soff => go { c with srcChamber := sch, srcOff := soff }

/-- RELEASE starts (R297). -/
def startRelease (d : Dev) (c : BulkCmd) : Dev :=
  let act := c.pl.snap.toNat
  match nget d.snap.snaps act with
  | none => bulkFinish d c stUnavailable 2
  | some s =>
    if s.state = .pending then bulkFinish d c stBusy 4
    else
      let d := setBulk (releaseSnapshot d act) { c with state := .acting }
      if c.pl.scope = 1 then actTurn actFuel (treeOpen d act treeDiscardOp (ordinal d) none {}) else d

/-- BULK_COMMAND_START: the first command in order of acceptance that may start, if it is the one named. -/
def bulkCommandStart (d : Dev) (k tag : Nat) : Dev :=
  match findTag d k tag with
  | none => d
  | some c =>
    if (d.bulk.cmds.find? (startable d)).map (·.id) ≠ some c.id then d
    else
      let needsOp := c.kind = .snapshot ∨ c.kind = .release ∨ (c.kind = .barrier ∧ c.pl.scope = 1)
      if needsOp ∧ (getConn d k).tenant ≠ 0 then bulkFinish d c stRights 0
      else match c.kind with
        | .snapshot =>
          if d.act.run.isSome then bulkFinish d c stBusy 0x0A
          else startAct (setBulk d { c with state := .acting }) 2 2 c.pl.arg.toNat c.pl.set.toNat (some c.id)
        | .release => startRelease d c
        | .barrier =>
          if c.pl.scope = 0 then bulkFinish d c stOk 0
          else if d.act.run.isSome then bulkFinish d c stBusy 0x0A
          else startAct (setBulk d { c with state := .acting }) 1 0 0 0 (some c.id)
        | _ => startRange d c

/-! ### The end of a piece (R290, R291, R293, R295) -/

/-- The bytes and poisoned lines that a COPY read: for a page that the snapshot preserved, those of the snapshot (R293). -/
def copyData (d : Dev) (c : BulkCmd) (r : Req) : List Byte × List Nat :=
  let part (p : Part) : List Byte × List Nat :=
    let k := pageKey r.chamber p.page
    match (if c.pl.fromSnap then (nget d.snap.snaps c.pl.snap.toNat).bind fun s => nget s.pages k else none) with
    | none => (p.got, p.bad)
    | some pg =>
      let base := r.off + p.lo - p.page * 16384
      ((List.range p.n).map fun i => ngetD pg.bytes (base + i) 0,
       ((pg.poison.map fun i => if i < 128 then k * 128 + i else i).filter fun l => (linesOf (chmAddr r.chamber (r.off + p.lo)) p.n).contains l))
  ((r.parts.map fun p => (part p).1).flatten, (r.parts.map fun p => (part p).2).flatten)

/-- The lines of the target, as line keys, that poisoned source lines make poisoned (Table DRM-2). -/
def copyMarks (c : BulkCmd) (lo n : Nat) (r : Req) (bad : List Nat) : List Nat :=
  let src := chmAddr r.chamber r.off
  let dst := chmAddr c.chamber (c.off + lo)
  let hit (l : Nat) : List Nat :=
    let a := max src (l * 128) - src
    let b := min (src + n) (l * 128 + 128) - src
    linesOf (dst + a) (b - a)
  ((bad.map hit).flatten).eraseDups

/-- A commit marker for a page of a command is unacknowledged (R292). -/
def markerOut (d : Dev) (id chamber page : Nat) : Bool :=
  d.conns.any fun c => c.2.sent.any fun s => s.kind == .commitMarker id chamber page

/-- A piece has completed: it counts in DONE, and the command goes on or completes. -/
def pieceOk (d : Dev) (c : BulkCmd) (lo n : Nat) : Dev :=
  let d := setBulk d { c with flight := c.flight.filter (· != lo), done := c.done + n }
  bulkIssue 64 (bulkSettle d c.id)

/-- A LOAD or VERIFY counts a page that failed and goes on. -/
def pieceBad (d : Dev) (c : BulkCmd) (lo : Nat) : Dev :=
  let d := setBulk d { c with flight := c.flight.filter (· != lo), failed := c.failed + 1 }
  bulkIssue 64 (bulkSettle d c.id)

/-- A VERIFY adds up the poisoned lines of a piece. -/
def countBad (c : BulkCmd) (r : Req) : BulkCmd :=
  let bad := (r.parts.map (·.bad)).flatten
  let first := bad.foldl (fun (b : Option Nat) l => let o := l * 128 - chmAddr c.chamber c.off; some (min o (b.getD o))) c.firstBad
  { c with bad := c.bad + bad.length, firstBad := first }

/-- The request of a piece, by its offset in the range, of a command of a tag on a connection: the command may be one whose connection has ended since (R302). -/
def pieceOf (d : Dev) (k tag lo : Nat) : Option (BulkCmd × Req) :=
  (d.bulk.cmds.filter fun c => c.conn == k && c.pl.tag.toNat == tag).findSome? fun c =>
    (d.reqs.find? fun r => (match r.bulk with
      | some (i, l, _) => i == c.id && l == lo
      | none => false)).map fun r => (c, r)

/-- BULK_PIECE_DONE: the request of a piece is over at its home cell. -/
def bulkPieceDone (d : Dev) (k tag lo : Nat) : Dev :=
  match pieceOf d k tag lo with
  | none => d
  | some (c, r) =>
      let n := pieceLen c lo
      let phase := (r.bulk.map fun b => b.2.2).getD 1
      match r.stage with
      | .over st =>
        let waits := r.kind = .commitMark ∧ markerOut d c.id c.chamber ((c.off + lo) / 16384) = true
        if waits ∨ (r.parts.all fun p => partOver p.st) = false then d
        else
          let c := if r.kind = .verify then countBad c r else c
          let d := delReq (setBulk d c) r.id
          if st ≠ stOk then
            let d := dropBuf d r.buf
            (if (c.kind = .load ∨ c.kind = .verify) ∧ st = stTierFail then pieceBad d c lo
             else
               let gone (n : Nat) : Bool := !isHolder d n && classOfPage d (pageKey n 0) == .mirrored
               let moved := gone c.chamber || (c.kind == .copy && gone c.srcChamber)
               bulkSettle (setBulk d (pieceFails c lo (if moved then stNotCustodian else st))) c.id)
          else if phase = 0 then
            let (data, bad) := copyData d c r
            pump (sendPiece d c .write c.pl.dstKey.toNat (c.pl.dstVa.toNat + lo) c.chamber (c.off + lo) n lo 1 data (copyMarks c lo n r bad) r.buf)
          else if phase = 1 ∧ c.kind = .copy ∧ c.persist = true then
            pump (sendPiece (dropBuf d r.buf) c .commitMark c.pl.dstKey.toNat (c.pl.dstVa.toNat + lo) c.chamber (c.off + lo) n lo 2 [] [] none)
          else pieceOk (dropBuf d r.buf) c lo n
      | _ => d

/-- The cells whose staging frames a snapshot gives back: what waits for them goes on (R148, R226, R275). -/
def stagingFreed (d : Dev) (s : Snap) : Dev :=
  let cs := (s.pages.filter fun p => p.2.staging).foldl (fun l p => sinsert l (homeOf p.1)) []
  forEach cs d fun d c => wakeDirty (tryMove d c) c

/-- SNAPSHOT_RELEASE_DONE: a RELEASING snapshot is FREE, and the RELEASE command of this device completes (R297). -/
def snapshotReleaseDone (d : Dev) (act : Nat) : Dev :=
  match nget d.snap.snaps act with
  | some s =>
    if s.state ≠ .releasing then d
    else
      let d := stagingFreed (settleKeys { d with snap.snaps := ndel d.snap.snaps act }) s
      match d.bulk.cmds.find? fun c => c.kind == .release && c.state == .acting && c.pl.snap.toNat == act && c.pl.scope == 0 with
      | some c => bulkFinish d c stOk 0
      | none => d
  | none => d

/-! ### Abort (R299, R300) -/

/-- A command that only waits is dropped with its requests. -/
def dropPieces (d : Dev) (id : Nat) : Dev :=
  let mine (r : Req) : Bool := match r.bulk with
    | some (i, _, _) => i == id
    | none => false
  forEach (d.reqs.filter mine) { d with reqs := d.reqs.filter fun r => !mine r } fun d r => dropBuf d r.buf

/-- The act that a command started is given up: CANCEL leaves, a crossed cut is discarded, a paused set goes on (Table BLK-6, R277). -/
def abandonAct (d : Dev) (c : BulkCmd) : Dev :=
  match d.act.run with
  | some r =>
    if r.bulk ≠ some c.id then d
    else
      let d := actDone d 3
      if r.op = 1 then d
      else
        let me := ordinal d
        let d := if r.phase = .pause then treeOpen d r.id treeResumeOp me none (runEntry r) else treeOpen d r.id treeCancelOp me none {}
        actTurn actFuel (if r.phase = .post then d else treeOpen d r.id treeDiscardOp me none {})
  | none => d

/-- The effect of an abort on a command that is outstanding (Table BLK-6). -/
def abortCmd (d : Dev) (c : BulkCmd) : Dev :=
  let caught (d : Dev) : Dev := bulkFinish (bump d .BLK_CNT 0 5) { c with done := 0 } stOk 0 1 true
  let partial_ (d : Dev) : Dev := bulkFinish (bump d .BLK_CNT 0 6) c (bulkStatus c) c.detail 2 true
  match c.state with
  | .waiting => caught d
  | .acting => if c.kind = .release then partial_ d else caught (abandonAct d c)
  | .running =>
    if c.issued = 0 then caught d
    else if c.kind = .commit ∨ c.kind = .load ∨ c.kind = .verify then partial_ (dropPieces d c.id)
    else bulkSettle (setBulk (bump d .BLK_CNT 0 6) { c with stop := true, abort := true }) c.id

/-- BULK_ABORT: acknowledged at once and answered by a completion with ABORT_REPLY. -/
def bulkAbort (d : Dev) (p : Pkt) (tag : Nat) (wellFormed : Bool) : Dev :=
  receive d p none .bulkAbort false (fun _ => 1) (fun d _ => d) fun d k =>
    let persist := p.oxh.any (·.persist)
    bulkTaken d p k ⟨p.psn.toNat, none, persist⟩ ((getConn d k).service == .data && wellFormed) fun d =>
      let d := bump (bulkAck d p k none) .BLK_CNT 0 4
      match findTag d k tag with
      | some c => abortCmd d c
      | none =>
        match (ngetD d.bulk.recs k []).find? fun r => r.tag == tag with
        | some r => sendCompletion (bump d .BLK_CNT 0 7) k none persist r 3 true
        | none => sendCompletion (bump d .BLK_CNT 0 8) k none persist ⟨p.psn.toNat, tag, 0, stOk, 0, 0, 0, 0⟩ 4 true

end Sys2Proof.Machine
end

