-- ==== Sys2Proof/Machine/Dram.lean ====
section
/-!
DEFINITION. T1: scrub, temperature, row-disturbance windows, self-refresh, retirement and repair of rows, correctable errors (spec/10_dram_tier.md R205 to R229).
-/
namespace Sys2Proof.Machine
open Sys2Proof

/-! ### Uncorrectable lines outside the data area (R214) -/

/-- The page of entry j of map page k of a chamber in a cell (R180). -/
def pageOfEntry (c chamber k j : Nat) : Nat :=
  let run := k * 2048 + j
  let b (n i : Nat) := (n >>> (8 * i)) % 256
  run * 256 + [b run 0, b run 1, b run 2, (run >>> 24) % 16, b chamber 0, b chamber 1].foldl Nat.xor c

/-- The area whose lines hold a content (R206): the system area, or the plan area. -/
def contentArea : T1Content → Nat
  | .plan _ => 1
  | _ => 0

/-- An uncorrectable line of the map root loses nothing: its 16 entries are rebuilt. One of the map cache: a map page without changed entries is dropped; of one with changed entries the 16 of
the line become LOST, and Mirrored pages are marked for resync (Table DRM-3). -/
def loseMapLine (d : Dev) (c a : Nat) : Dev :=
  let m := getMed d c
  if a < cacheBase then d
  else match nget m.cache ((a - cacheBase) / 16384) with
    | none => d
    | some (mp, _) =>
      if nhas m.mapLines mp then
        forEach (List.range 16) d fun d i =>
          let key := pageKey (mp / 2 ^ 17) (pageOfEntry c (mp / 2 ^ 17) (mp % 2 ^ 17) ((a - cacheBase) % 16384 / 128 * 16 + i))
          let d := setMapEnt d key .lost
          if classOfPage d key = .mirrored then pullPage d key else d
      else setMed d c { m with cache := ndel m.cache ((a - cacheBase) / 16384) }

/-- An uncorrectable line of a staging frame is poisoned (Table DRM-3). -/
def loseStagedLine (d : Dev) (c a : Nat) : Dev :=
  match stagedAt d c ((a - stagingBase) / 16384) with
  | some (act, k) => modSnapPage d act k fun p => { p with poison := sinsert p.poison ((a - stagingBase) % 16384 / 128) }
  | none => d

/-- A T1 line of a staging frame is poisoned. -/
def stagedPoison (d : Dev) (c a : Nat) : Bool :=
  t1Area d a == 3 && ((stagedAt d c ((a - stagingBase) / 16384)).bind fun x => (nget d.snap.snaps x.1).bind fun s => nget s.pages x.2).any fun p => p.poison.contains ((a - stagingBase) % 16384 / 128)

/-- The handling of an uncorrectable line of the system and plan areas by its content (Table DRM-3). -/
def loseContent (d : Dev) (c : Nat) : T1Content → Dev
  | .keys first =>
    let d := forEach (List.range 4) d fun d i =>
      { d with chm.keys := nset d.chm.keys (first + i) { ngetD d.chm.keys (first + i) {} with state := .quarantine, inval := false, qEnd := none },
               chm.kcache := nmap d.chm.kcache fun l => l.filter (· != first + i) }
    logEvent d 2 (uCell c) [first, first + 1, first + 2, first + 3]
  | .conn index => connError d (connKey c index)
  | .chambersClean => d
  | .chambersChanged numbers => raise d { cls := 3, cause := 0x1A, unit := uHbm c, detail := numbers }
  | .bitmap chamber region =>
    forEach (List.range 1024) d fun d i =>
      let key := c * 2 ^ 40 + chamber * 2 ^ 22 + region + i
      if nhas d.cus.marks key then d else bump { d with cus.marks := nset d.cus.marks key 0 } .CUS_CNT 0 11
  | .ring slot => { d with log.held := ndel (ndel d.log.held (c + 256 * (2 * slot))) (c + 256 * (2 * slot + 1)) }
  | .errorTables ces frames =>
    let h := getHbm d c
    setHbm d c { h with ce := h.ce.filter fun p => !ces.contains p.1,
                        retired := h.retired.filter fun p => p.2 || !frames.contains p.1 }
  | .plan number =>
    let p := getPlan d number
    let d := forEach p.pinned d fun d s => unpin d number s
    logEvent { d with tier.plans := ndel d.tier.plans number } 2 (uCell c) [number]

/-! ### Scrub (R218) -/

/-- The interval of the patrol scrub: all 2^24 lines in SCRUB_HOURS (R218). -/
def scrubStep (d : Dev) (c : Nat) : Nat := zeroAs 1 (cfld d .HBM_CFG c 7 0) * (3600 * 1000000000) / 2 ^ 24

/-- When the patrol scrub of a channel reads its next line. -/
def patrolTime (d : Dev) (c : Nat) : Option Nat := if (getHbm d c).st = .online then some (getHbm d c).scrubNext else none

/-- An uncorrectable line outside the data area, by its area (Table DRM-3). -/
def loseLineAt (d : Dev) (c a : Nat) (what : T1Content) : Dev :=
  match t1Area d a with
  | 2 => loseMapLine d c a
  | 3 => loseStagedLine d c a
  | 4 => d
  | n => if contentArea what = n then loseContent d c what else d

/-- The patrol scrub reads one line of a channel with the symbols in error of its two codewords. -/
def patrolRead (d : Dev) (c a : Nat) (lanes : List Nat × List Nat) (what : T1Content) : Dev :=
  let r : Requester := ⟨0xFFFF, c, 8⟩
  let l := latentOf d c a
  let d := bump d .HBM_CNT c 5
  match pageAtT1 d c a with
  | some (k, i) => fetchT1 d c a (k * 128 + i) (l.1 ++ lanes.1, l.2 ++ lanes.2) r
  | none =>
    let x := decodeLine (activate d c a r) c a lanes r
    if x.2 then loseLineAt x.1 c a what else x.1

/-- HBM_SCRUB_READ (R218): the next line in ascending order is read at the scrub's steady rate; a poisoned one is skipped. -/
def hbmScrubRead (d : Dev) (c : Nat) (lanes : List Nat × List Nat) (what : T1Content) : Dev :=
  let h := getHbm d c
  if h.st ≠ .online || !due d h.scrubNext then d
  else
    let a := h.scrubPos
    let d := setHbm d c { h with scrubPos := (a + 128) % 2 ^ 31, scrubNext := h.scrubNext + scrubStep d c }
    if ((pageAtT1 d c a).any fun x => poisoned d (x.1 * 128 + x.2)) || stagedPoison d c a then d else patrolRead d c a lanes what

/-! ### Temperature, windows and self-refresh (R219 to R224) -/

/-- HBM_STACK_FAULT: the stack reports a fault of a channel. -/
def hbmStackFault (d : Dev) (c : Nat) : Dev := failChannel d c 4

def hotC (d : Dev) (c : Nat) : Nat := clampTo 70 95 (cfld d .HBM_REFRESH_CFG c 15 8)
def hystC (d : Dev) (c : Nat) : Nat := zeroAs 1 (cfld d .HBM_REFRESH_CFG c 3 0)

/-- STACK_TEMPERATURE_READ: each channel of the stack doubles or restores its refresh rate; an unreadable temperature counts as hot and raises C0 (R220). -/
def stackTemperatureRead (d : Dev) (s : Nat) (t : Option Nat) : Dev :=
  forEach ((List.range 32).map (32 * s + ·)) d fun d c =>
    let h := getHbm d c
    let hot := match t with
      | none => true
      | some t => decide (hotC d c < t)
    let cool := match t with
      | none => false
      | some t => decide (t + hystC d c ≤ hotC d c)
    let h := { h with temp := t.getD h.temp, tempBad := t.isNone }
    let h := if hot then { h with refresh2x := true, coolSince := none }
      else if cool then
        match h.coolSince with
        | none => { h with coolSince := some d.now }
        | some x => if x + ms 100 ≤ d.now then { h with refresh2x := false } else h
      else { h with coolSince := none }
    let d := setHbm d c h
    if t.isNone then raise d { cls := 0, cause := 0x0D, unit := uHbm c } else d

/-- ROW_DISTURB_WINDOW_END: a 32 ms window ends: trackers and throttles restart empty, waiting accesses are issued (R221, R223). -/
def rowDisturbWindowEnd (d : Dev) (c : Nat) : Dev :=
  let h := getHbm d c
  if due d h.windowEnd then
    let d := setHbm d c { h with trk := [], throttles := [], windowEnd := d.now + ms 32 }
    pump (requeue d fun _ p => p.cell == c && (match p.st with
      | .waitThrottle _ => true
      | _ => false))
  else d

/-- THROTTLE_INTERVAL_END: the next waiting access of a throttled requester is issued (R223). -/
def throttleIntervalEnd (d : Dev) (c : Nat) : Dev :=
  pump (requeue d fun _ p => p.cell == c && (match p.st with
    | .waitThrottle t => due d t
    | _ => false))

/-- SELF_REFRESH_EXIT: every channel is ONLINE with its trackers empty; one whose lane check fails enters FAILED with cause 2 (R224). -/
def selfRefreshExit (d : Dev) (failed : List Nat) : Dev :=
  let wake (h : Hbm) : Hbm := if h.st = .selfRefresh then { h with st := .online, trk := [], throttles := [], scrubNext := max h.scrubNext d.now } else h
  let was := (d.hbm.filter fun p => p.2.st == .selfRefresh).map (·.1)
  let d := { d with hbm := nmap d.hbm wake }
  pump (forEach (failed.filter was.contains) d fun d c => failChannel d c 2)

/-! ### Retirement and repair (R225 to R229) -/

/-- Results of HBM_RETIRE_STATUS. -/
def rOk : Nat := 0
def rBusy : Nat := 1
def rBadArg : Nat := 2
def rFull : Nat := 3
def rRefused : Nat := 4
def rNotFound : Nat := 5
def rNoSpare : Nat := 6

/-- A write of HBM_RETIRE_CMD (R229). -/
def retireCommand (d : Dev) (w : Writer) (c op : Nat) (go : Dev → Dev) : Dev :=
  command d w .HBM_RETIRE_CMD c 0 (operator d w) fun d =>
    let h := getHbm d c
    if h.busy then setHbm d c { h with overrun := true } else go (setHbm d c { h with lastOp := op })

/-- Target and PERSIST of a retire command. -/
def retireTarget (d : Dev) (c : Nat) : Nat := cfld d .HBM_RETIRE_ARG c 20 0

/-- A frame of the map cache leaves use: its map page is written back if its entries have changed, then dropped (R226). A frame of the map root holds no map page (DESIGN CHOICE: log entry
'A retired frame of the map root'). -/
def retireCached (d : Dev) (c f : Nat) (persist : Bool) : Dev :=
  let m := getMed d c
  let s := (f * 4096 - cacheBase) / 16384
  let d := match (if f * 4096 < cacheBase then none else nget m.cache s) with
    | none => d
    | some (mp, _) =>
      let d := setMed d c { m with cache := ndel m.cache s, mapDirty := ndel m.mapDirty mp }
      if nhas m.mapDirty mp then writeMap d c mp else d
  retireDone (retireEnter d c f persist) c rOk

/-- RETIRE_FRAME on a frame (R226, R227): by the area of the frame. -/
def retireFrameAt (d : Dev) (c f : Nat) (persist : Bool) : Dev :=
  let h := getHbm d c
  if 2 ^ 19 ≤ f then retireDone d c rBadArg
  else if t1Area d (f * 4096) ≤ 1 then retireDone d c rRefused
  else if 4096 ≤ h.retired.length ∧ nhas h.retired f = false then retireDone d c rFull
  else if t1Area d (f * 4096) = 2 then retireCached d c f persist
  else
    let d := setHbm d c { h with busy := true, moving := some (f, persist, d.now + ms 10) }
    let d := if t1Area d (f * 4096) = 4 ∧ freeSlot d c = none then (evictOne d c).1 else d
    tryMove d c

/-- RETIRE_FRAME. -/
def retireFrame (d : Dev) (w : Writer) (c : Nat) : Dev :=
  retireCommand d w c 1 fun d => retireFrameAt d c (retireTarget d c) (fbit (reg d .HBM_RETIRE_ARG c 0) 31)

/-- RELEASE_FRAME: the frame leaves the retire table; the page frame that held it stays out of the data area until power-on (R149). -/
def releaseFrame (d : Dev) (w : Writer) (c : Nat) : Dev :=
  retireCommand d w c 2 fun d =>
    let h := getHbm d c
    let f := retireTarget d c
    if 2 ^ 19 ≤ f then retireDone d c rBadArg
    else if nhas h.retired f then
      let h := { h with retired := ndel h.retired f }
      retireDone (setReg (setHbm d c h) .HBM_RETIRE_COUNT c 0 (word (at_ (fld (reg d .HBM_RETIRE_COUNT c 0) 31 16) 16 + h.retired.length))) c rOk
    else retireDone d c rNotFound

/-- QUERY_FRAME. -/
def queryFrame (d : Dev) (w : Writer) (c : Nat) : Dev :=
  retireCommand d w c 3 fun d =>
    let f := retireTarget d c
    retireDone d c (if 2 ^ 19 ≤ f then rBadArg else if nhas (getHbm d c).retired f then rOk else rNotFound)

/-- PPR_ROW. -/
def pprRow (d : Dev) (w : Writer) (c : Nat) : Dev :=
  retireCommand d w c 4 fun d =>
    let (d, r) := queuePpr d c (retireTarget d c / 2 ^ 15) (retireTarget d c % 2 ^ 15)
    retireDone d c r

/-- CANCEL_PPR. -/
def cancelPpr (d : Dev) (w : Writer) (c : Nat) : Dev :=
  retireCommand d w c 5 fun d =>
    let h := getHbm d c
    let x := (retireTarget d c / 2 ^ 15, retireTarget d c % 2 ^ 15)
    if h.ppr.contains x then retireDone (setHbm d c { h with ppr := h.ppr.filter (· != x) }) c rOk else retireDone d c rNotFound

/-- RETIRE_CMD_RESERVED: opcodes 0x0 and 0x6 to 0xF complete BAD_ARG. -/
def retireCmdReserved (d : Dev) (w : Writer) (c op : Nat) : Dev := retireCommand d w c op fun d => retireDone d c rBadArg

/-- FRAME_MOVE_TIMEOUT: a move without a free frame within 10 ms completes BUSY and nothing is retired (R226). -/
def frameMoveTimeout (d : Dev) (c : Nat) : Dev :=
  match (getHbm d c).moving with
  | some (_, _, t) => if due d t then retireDone d c rBusy else d
  | none => d

/-- A frame qualifies for retirement by the policy (R225). -/
def policyQualifies (d : Dev) (c f : Nat) : Bool :=
  let h := getHbm d c
  let lim := cfld d .HBM_POLICY_CFG c 23 16
  (lim != 0 && h.ce.any fun p => p.2.la / 32 == f && decide (lim ≤ p.2.count) && decide (p.2.last < p.2.first + 86400 * 1000000000)) ||
    (fbit (reg d .HBM_POLICY_CFG c 0) 30 && ((h.ue.any fun u => u.2.1 / 32 == f) || d.log.held.any fun r => r.2.cause == 0x0B && r.2.unit == uHbm c && r.2.addr / 4096 == f))

/-- POLICY_RETIRE_DECISION: the firmware retires a qualifying frame with PERSIST, whose rows it queues for repair once it is retired, and records its decision (R225). -/
def policyRetireDecision (d : Dev) (c f : Nat) : Dev :=
  if fbit (reg d .HBM_POLICY_CFG c 0) 31 && policyQualifies d c f && !(getHbm d c).busy && !nhas (getHbm d c).retired f then
    logEvent (retireFrameAt (setHbm d c { getHbm d c with lastOp := 1, byPolicy := true }) c f true) 1 (uHbm c) [f]
  else d

/-- CE_CLEAR_ALL and CE_CLEAR_ONE: entries of the correctable-error table are cleared (R209, R229). -/
def ceClearAll (d : Dev) (w : Writer) (c : Nat) : Dev :=
  command d w .HBM_CE_CLEAR c 0 (operator d w) fun d => setHbm d c { getHbm d c with ce := [] }

def ceClearOne (d : Dev) (w : Writer) (c i : Nat) : Dev :=
  command d w .HBM_CE_CLEAR c 0 (operator d w) fun d =>
    let h := getHbm d c
    setHbm d c { h with ce := ndel h.ce i }

end Sys2Proof.Machine
end

