-- ==== Sys2Proof/Machine/Witness.lean ====
section
/-!
DEFINITION. The witness of a pair: its record, the conditions of a grant, held takeovers and answers; suspicion and STATUS of every peer
(spec/11_pair_custody.md R236, R238, R240 to R242, Table PAI-5).
-/
namespace Sys2Proof.Machine
open Sys2Proof

def setWatch (d : Dev) (w : Watch) : Dev := { d with watch := nset d.watch w.pair w }

/-- Code of the stale twin: 0 none, 1 even, 2 odd. -/
def staleCode (o : Nat) : Nat := 1 + o % 2

/-- The payload of a GRANT or ANSWER of the witness (Table PAI-3). -/
def recordFields (d : Dev) (w : Watch) (kind reason number : Nat) : List Nat :=
  tagged d (claimAnsBytes w.pair kind w.last.scope w.solo w.stale reason w.last.chamber w.cw w.last.grantee number)

/-- An ANSWER of the witness, counted. -/
def answerReq (d : Dev) (w : Watch) (dst kind number reason : Nat) : Dev := bump (sendClaimed d 0xE6 dst w.cw (recordFields d w kind reason number)) .CUS_CNT 0 7

/-- A GRANT of the witness, counted. -/
def sendGrant (d : Dev) (w : Watch) : Dev := bump (sendClaimed d 0xE5 w.last.grantee w.cw (recordFields d w w.last.kind 0 w.last.number)) .CUS_CNT 0 6

/-- The witness suspects a twin of a pair it watches. -/
def suspects (w : Watch) (o : Nat) : Bool := if o % 2 = 0 then w.suspEven else w.suspOdd

/-- A twin has yielded within the last 10 ms. -/
def yielded (d : Dev) (w : Watch) (o : Nat) : Bool :=
  match if o % 2 = 0 then w.yieldEven else w.yieldOdd with
  | some t => decide (d.now < t + ms 10)
  | none => false

/-- The other twin of a pair. -/
def otherOf (o : Nat) : Nat := Nat.xor o 1

/-- A grant (R241, Table PAI-5): the claim rises by one, the record takes it, the GRANT goes to the requester and an ANSWER to the other twin. -/
def grantReq (d : Dev) (w : Watch) (kind scope chamber requester number : Nat) : Dev :=
  let w := { w with cw := w.cw + 1, last := ⟨kind, scope, chamber, requester, number⟩ }
  let w := match kind with
    | 1 => { w with solo := true, stale := staleCode (otherOf requester) }
    | 4 => { w with solo := false, stale := 0 }
    | _ => w
  let d := sendGrant (setWatch d w) w
  answerReq d w (otherOf requester) kind number 0

/-- The conditions of a TAKEOVER hold (Table PAI-5). -/
def takeoverOk (d : Dev) (w : Watch) (requester : Nat) : Bool :=
  w.stale != staleCode requester && (suspects w (otherOf requester) || yielded d w (otherOf requester))

/-- The held TAKEOVER of a pair is examined again (R241). -/
def examineHeld (d : Dev) (pair : Nat) : Dev :=
  match nget d.watch pair with
  | none => d
  | some w =>
    match w.held with
    | none => d
    | some h =>
      if h.cSeen ≠ w.cw then answerReq (setWatch d { w with held := none }) w h.requester 1 h.number 1
      else if takeoverOk d w h.requester then grantReq d { w with held := none } 1 0 0 h.requester h.number
      else d

/-- A BAD_KIND answer of a device that is not the witness of the requester's pair: the record it shows is its own (DEDUCED). -/
def badKindTwin (d : Dev) (m : ClaimReq) (kind : Nat) : Dev :=
  sendClaimed d 0xE6 m.requester.val d.cus.pairClaim
    (tagged d (claimAnsBytes (pairNo d) kind 0 d.cus.solo (if d.cus.stale then staleCode (ordinal d) else 0) 6 0 d.cus.pairClaim 0 m.number.toNat))

/-- The TAG of a CLAIM REQUEST of a kind verifies (R240). -/
def reqTagOk (d : Dev) (m : ClaimReq) (kind : Nat) : Bool := tagOk d (claimReqBytes m.requester.val kind m.scope.toNat m.chamber.toNat m.cSeen.toNat m.number.toNat) m.tag

/-- A CLAIM REQUEST arrives: discarded and counted when its tag fails or its requester fits neither the pair nor a watched pair (R240); a request sent to the wrong
receiver is answered BAD_KIND. `atTwin` and `atWitness` are the handling at the two receivers. -/
def claimRequest (d : Dev) (m : ClaimReq) (kind : Nat) (atTwin : Option (Dev → Dev)) (atWitness : Option (Dev → Watch → Dev)) : Dev :=
  let o := m.requester.val
  if isDown d then d
  else if !reqTagOk d m kind then bump d .CUS_CNT 0 8
  else
    match nget d.watch (o / 2) with
    | some w =>
      match atWitness with
      | some f => examineHeld (f d w) (o / 2)
      | none => answerReq d w o kind m.number.toNat 6
    | none =>
      if o = twinOrd d ∧ standalone d = false then
        let d := claimSeen d o m.cSeen.toNat
        match atTwin with
        | some f => f d
        | none => badKindTwin d m kind
      else bump d .CUS_CNT 0 8

/-- The handling common to the kinds that can be granted: NO_RECORD, the last grant again, CLAIM_MOVED, STALE (R236, R241). The held TAKEOVER of the same requester is
dropped. -/
def witnessed (d : Dev) (w : Watch) (m : ClaimReq) (kind : Nat) (go : Dev → Watch → Dev) : Dev :=
  let o := m.requester.val
  if !w.valid then answerReq d w o kind m.number.toNat 5
  else if w.last.grantee = o ∧ w.last.number = m.number.toNat ∧ w.last.kind ≠ 0 then sendGrant d w
  else if m.cSeen.toNat ≠ w.cw then answerReq d w o kind m.number.toNat 1
  else if w.stale = staleCode o ∧ kind ≠ 3 then answerReq d w o kind m.number.toNat 2
  else go d w

/-- A request of a kind other than TAKEOVER replaces the requester's held TAKEOVER (R241). -/
def dropOwnHeld (w : Watch) (o : Nat) : Watch := if w.held.any fun h => h.requester == o then { w with held := none } else w

/-- A kind other than TAKEOVER at the witness, once the requester's held TAKEOVER has been dropped. -/
def otherKind (d : Dev) (w : Watch) (m : ClaimReq) (kind : Nat) (ok : Watch → Bool) : Dev :=
  let w := dropOwnHeld w m.requester.val
  witnessed (setWatch d w) w m kind fun d w =>
    if ok w then grantReq d w kind m.scope.toNat m.chamber.toNat m.requester.val m.number.toNat
    else answerReq d w m.requester.val kind m.number.toNat 4

/-- The TAKEOVER that the other twin has in the hold. -/
def heldByOther (w : Watch) (o : Nat) : Option HeldTakeover := w.held.filter fun h => h.requester != o

/-- TAKEOVER at the witness (R241): granted, held for up to 2 ms, or refused. A TAKEOVER of the other twin during the hold grants the held one, and is answered CLAIM_MOVED; one of the same
twin takes the place of the held one, with its time. -/
def takeoverAt (d : Dev) (w : Watch) (m : ClaimReq) : Dev :=
  let o := m.requester.val
  witnessed d w m 1 fun d w =>
    match heldByOther w o with
    | some h =>
      let d := grantReq d { w with held := none } 1 0 0 h.requester h.number
      answerReq d (ngetD d.watch w.pair w) o 1 m.number.toNat 1
    | none =>
      if takeoverOk d w o then grantReq d { w with held := none } 1 0 0 o m.number.toNat
      else setWatch d { w with held := some ⟨o, m.number.toNat, (w.held.map (·.since)).getD d.now, m.cSeen.toNat⟩ }

/-- TAKEOVER. -/
def takeoverRequest (d : Dev) (m : ClaimReq) : Dev := claimRequest d m 1 none (some fun d w => takeoverAt d w m)

/-- FAILBACK: granted while the record is Joined and the requester is not stale. -/
def failbackRequest (d : Dev) (m : ClaimReq) : Dev := claimRequest d m 2 none (some fun d w => otherKind d w m 2 fun w => !w.solo)

/-- RECLAIM: granted while the record is Joined. -/
def reclaimRequest (d : Dev) (m : ClaimReq) : Dev := claimRequest d m 3 none (some fun d w => otherKind d w m 3 fun w => !w.solo)

/-- JOIN: granted while the record is Solo, to the twin that is not stale. -/
def joinRequest (d : Dev) (m : ClaimReq) : Dev := claimRequest d m 4 none (some fun d w => otherKind d w m 4 fun w => w.solo)

/-- YIELD: at the witness the yield flag of the requester is set for 10 ms; at the twin a TAKEOVER is sent at once (R131, R241, R243). -/
def yieldRequest (d : Dev) (m : ClaimReq) : Dev :=
  let o := m.requester.val
  claimRequest d m 5 (some fun d => custodyTurn { d with cus.twinYield := some d.now })
    (some fun d w =>
      let w := dropOwnHeld w o
      let w := if o % 2 = 0 then { w with yieldEven := some d.now } else { w with yieldOdd := some d.now }
      answerReq (setWatch d w) w o 5 m.number.toNat (if w.valid then 0 else 5))

/-- QUERY: answered with the record, never granted. -/
def queryRequest (d : Dev) (m : ClaimReq) : Dev :=
  claimRequest d m 6 none (some fun d w =>
    let w := dropOwnHeld w m.requester.val
    answerReq (setWatch d w) w m.requester.val 6 m.number.toNat (if w.valid then 0 else 5))

/-- DRAIN, for the twin (R251). -/
def drainCommand (d : Dev) (m : ClaimReq) : Dev := claimRequest d m 7 (some fun d => drainRequest d m) none

/-- CLAIM_RESERVED_KIND: answered BAD_KIND (R240). -/
def claimReservedKind (d : Dev) (m : ClaimReq) (kind : Nat) : Dev := claimRequest d m kind none none

/-- TAKEOVER_HOLD_EXPIRY: held for 2 ms without its conditions: TWIN_ALIVE (R241). -/
def takeoverHoldExpiry (d : Dev) (pair : Nat) : Dev :=
  let d := examineHeld d pair
  match nget d.watch pair with
  | none => d
  | some w =>
    match w.held with
    | some h => if due d (h.since + ms 2) then answerReq (setWatch d { w with held := none }) w h.requester 1 h.number 3 else d
    | none => d

/-- WITNESS_YIELD_FLAG_EXPIRY: a yield flag ends 10 ms after it was set (Table PAI-5). -/
def witnessYieldFlagExpiry (d : Dev) (pair : Nat) : Dev :=
  match nget d.watch pair with
  | none => d
  | some w =>
    let old (t : Option Nat) : Option Nat := match t with
      | some x => if due d (x + ms 10) then none else t
      | none => none
    setWatch d { w with yieldEven := old w.yieldEven, yieldOdd := old w.yieldOdd }

/-- The record of a pair is created from the STATUS of both twins (R236). -/
def createRecord (w : Watch) : Watch :=
  match w.valid, w.statEven, w.statOdd with
  | false, some e, some o =>
    let evenChosen := decide (o.claim ≤ e.claim)
    let ch := if evenChosen then e else o
    let other := if evenChosen then 2 else 1
    let (solo, stale) := if e.stale && o.stale then (true, other)
      else if e.stale then (true, 1)
      else if o.stale then (true, 2)
      else if ch.state = 1 then (true, other)
      else (false, 0)
    { w with valid := true, cw := ch.claim, solo := solo, stale := stale }
  | _, _, _ => w

/-- What a STATUS says. -/
def statusOf (m : StatusAns) : TwinStatus := ⟨m.state.toNat, m.stale, m.yielded, m.impairment.toNat, m.claim.toNat, m.marks⟩

/-- The twin stands in a formation, which it alone has begun again: numbers in CREATING return to FREE here too (R426), and the records are compared (R254). -/
def twinForms (d : Dev) (before : Option TwinStatus) (s : TwinStatus) : Dev :=
  if s.state ≠ 3 then d
  else
    let d := dropCreating (createAbort d)
    if before.any fun b => b.state == 3 then d else sendRecords { d with cus.keeps := !takesTwins d s }

/-- STATUS of the twin: it settles custody at a formation, unless the twin names another witness (R234, R255). -/
def twinStatusSeen (d : Dev) (m : StatusAns) (named : Option Nat) : Dev :=
  let s := statusOf m
  let before := d.cus.twin
  let d := { d with cus.twin := some s }
  if d.cus.settled then custodyTurn (wholeDone (claimSeen (twinForms d before s) (twinOrd d) s.claim))
  else if named ≠ d.cus.witness then
    if d.cus.witnessBad then d
    else
      let d := { d with cus.witnessBad := true }
      logEvent (raise d { cls := 2, cause := 0x1D, unit := uHub 3, addr := (named.map (· + 1)).getD 0 }) 2 (uHub 3) [(named.map (· + 1)).getD 0]
  else recordLearned (settleWithTwin { d with cus.witnessBad := false } s)

/-- The TAG of a STATUS verifies (R240). -/
def statusTagOk (d : Dev) (m : StatusAns) : Bool :=
  tagOk d (statusBytes m.pair.toNat m.state.toNat m.stale m.yielded m.impairment.toNat m.claim.toNat m.sender.val m.marks) m.tag

/-- CLAIM_STATUS: what a twin says of itself, at its twin and at its witness (R236, R238). `named` is the witness that the twin's identity names, as the formation
exchanges it. -/
def claimStatus (d : Dev) (m : StatusAns) (named : Option Nat) : Dev :=
  let o := m.sender.val
  if isDown d then d
  else if !statusTagOk d m || m.pair.toNat != o / 2 || !(o == twinOrd d && !standalone d || nhas d.watch (o / 2)) then bump d .CUS_CNT 0 8
  else if o = twinOrd d ∧ standalone d = false then (if custodyOn d then twinStatusSeen d m named else d)
  else
    match nget d.watch (o / 2) with
    | some w =>
      let w := if o % 2 = 0 then { w with statEven := some (statusOf m) } else { w with statOdd := some (statusOf m) }
      examineHeld (setWatch d (createRecord w)) (o / 2)
    | none => d

/-- PEER_SUSPICION: no HEARTBEAT and no acknowledgement of a peer for MISS intervals; each suspicion is counted (R238). -/
def peerSuspicion (d : Dev) (o : Nat) : Dev :=
  if !custodyOn d then d
  else if o = twinOrd d ∧ d.cus.twinSuspect = false ∧ due d (d.cus.heardTwin + suspectNs d) = true then suspectTwin d
  else if d.cus.witness = some o ∧ d.cus.witSuspect = false ∧ due d (d.cus.heardWitness + suspectNs d) = true then suspectWitness d
  else
    match nget d.watch (o / 2) with
    | some w =>
      if o % 2 = 0 then
        (if w.suspEven = false ∧ due d (w.heardEven + suspectNs d) = true then examineHeld (bump (setWatch d { w with suspEven := true }) .CUS_CNT 0 1) (o / 2) else d)
      else (if w.suspOdd = false ∧ due d (w.heardOdd + suspectNs d) = true then examineHeld (bump (setWatch d { w with suspOdd := true }) .CUS_CNT 0 1) (o / 2) else d)
    | none => d

end Sys2Proof.Machine
end

