-- ==== Sys2Proof/Machine/Mirror.lean ====
section
/-!
DEFINITION. Mirror traffic: what arrives from the twin on a mirror connection, what its acknowledgements and answers do, and the responses to this device's own requests
(spec/04_olisar_transport.md R78, R79, R82, R86; spec/11_pair_custody.md R131, R233, R249, R253, R254; spec/10_dram_tier.md R215, R217).
-/
namespace Sys2Proof.Machine
open Sys2Proof

/-! ### Frames of the twin (R78, R79, R233) -/

/-- A mirror frame has been applied already: its timestamp is at or below the last one of its home cell (R78). -/
def mirrorSeen (d : Dev) (c ts : Nat) : Bool := decide (ts ≤ ngetD d.cus.appliedTs c 0)

/-- A frame of the twin joins the requests of its connection. It takes buffers, from the reserve for a resync copy (R27); one that finds none is discarded, counted, and comes again by go-back-N
(R104). -/
def takeMirror (d : Dev) (p : Pkt) (k : Nat) (kind : ReqKind) (chamber off len : Nat) (data : List Byte) (digest : Nat) (dup : Bool) : Dev :=
  let c := getConn d k
  let psn := p.psn.toNat
  let x := p.oxh
  let pkts := if kind = .mirrorWrite ∨ kind = .copy ∨ kind = .read then packetsOf len c.pmtu else 1
  let ts := (x.map fun x => x.timestamp).getD 0
  let claim := (x.map fun x => x.claim).getD 0
  match takeBufs d (connCell k) (messageBytes p data.length c.pmtu) (0x400 + (connIdx k - 1)) (kind == .copy) with
  | none => bump d .PORT_CNG_CNT p.port 6
  | some (d, buf) =>
    let d := if dup then d else modConn d k fun c => advanceTo c (psnMod (psn + pkts))
    let r : Req :=
      { id := d.nextReq, conn := k, psn := psn, pkts := pkts, kind := kind, ackReq := p.ackReq, persist := x.any (·.persist), keyIdx := 0, va := 0, chamber := chamber,
        off := off, len := len, data := data, mark := msgMarks (chmAddr chamber off) data.length c.pmtu p.pmh, arg := (claim, digest), errs := [], hold := x.any (·.hold),
        stage := .issued, parts := [], at_ := d.now, ts := ts, buf := some buf, dup := dup }
    let writes := kind = .mirrorWrite ∨ kind = .copy
    let old := d.reqs.find? fun q => writes && fromTwin q.kind && q.ts == ts && q.chamber == chamber && q.off == off
    match old with
    | some q => pump (dropBuf (setReq d { q with conn := k, psn := psn, pkts := pkts, silent := false }) (some buf))
    | none =>
      let d := addReq (if r.hold ∧ kind = .mirrorWrite ∧ dup = false then bump d .TIME_CNT 0 4 else d) r
      let home := homeCell chamber (off / 16384)
      let d :=
        if !nhas d.chm.chambers chamber then setReq d { r with stage := .over (if writes ∨ kind = .marker then stNotCustodian else stUnavailable) }
        else if writes ∧ mirrorSeen d home ts = true then setReq d { r with stage := .over stOk }
        else if kind = .mirrorWrite ∧ nhas d.cus.dropPages (pageKey chamber (off / 16384)) = true then setReq d { r with stage := .over stOk, silent := true }
        else if writes ∨ kind = .marker then
          (match mirrorGate d r with
            | .wait => claimTurn (claimSeen (setReq d { r with stage := .waitCustody (d.now + ms 1) }) (twinOrd d) claim)
            | _ => retryMirror d r)
        else setReq d { r with parts := makeParts d r }
      pump d

/-- A frame of the twin passes the receive checks; it belongs on a mirror connection of a TWIN port (R75, R78). A malformed one is an invalid request (R79, R86). -/
def mirrorFrame (d : Dev) (p : Pkt) (op : OpKind) (kind : ReqKind) (chamber off len : Nat) (data : List Byte) (digest : Nat) (fits : Bool := true) : Dev :=
  if portRole d p.port.val != 2 then d
  else
    receive d p (some chamber) op (data != []) (fun k => if op = .read ∨ kind = .mirrorWrite ∨ kind = .copy then packetsOf len (getConn d k).pmtu else 1)
      (fun d k => if (getConn d k).service = .mirror then takeMirror d p k kind chamber off len data digest true else d)
      (fun d k =>
        if (getConn d k).service = .mirror ∧ fits = true then takeMirror d p k kind chamber off len data digest false
        else fatalNak d k ⟨p.psn.toNat, some chamber, p.oxh.any (·.persist)⟩ synInvalid)

/-- MIRROR_WRITE: a mirror write or, with `copy`, a page of a resync copy (R78, R233, R249). -/
def mirrorWrite (d : Dev) (p : Pkt) (a : ChmAddr) (data : List Byte) (copy : Bool) : Dev :=
  wholeDone (mirrorFrame d p .write (if copy then .copy else .mirrorWrite) a.chamber.toNat a.off.toNat data.length data 0 (data != []))

/-- A promotion hint (R153): a plan-class promotion starts when T2 holds the page and T1 does not; the hint is acknowledged. -/
def promotionHint (d : Dev) (p : Pkt) (chamber page : Nat) : Dev :=
  let before := d.nextReq
  let d := mirrorFrame d p .writeImm .commitMark chamber (page * 16384) 0 [] 0
  let k := pageKey chamber page
  let stored := match nget d.tier.map k with
    | some (.stored _ _ _ _) => true
    | _ => false
  if d.nextReq ≠ before ∧ stored = true ∧ (getFrame d k).isNone = true then (startPromo d k .hint).1 else d

/-- An RDMA WRITE with immediate on a mirror connection (R79): the immediate names a compare marker of 8 bytes (R253), a commit marker (R292) or a promotion hint, both empty (R153), for the page
that the RETH names. Any other immediate is reserved, and that or another length is malformed. -/
def mirrorImm (d : Dev) (p : Pkt) (imm : Nat) (a : ChmAddr) (data : List Byte) : Dev :=
  let ch := a.chamber.toNat
  let page := a.off.toNat / 16384
  if imm = 1 ∧ data.length = 8 then mirrorFrame d p .writeImm .marker ch (page * 16384) 8 data (leNat data)
  else if imm = 2 ∧ data = [] then mirrorFrame d p .writeImm .commitMark ch (page * 16384) 8 [] 0
  else if imm = 3 ∧ data = [] then promotionHint d p ch page
  else mirrorFrame d p .writeImm .marker ch a.off.toNat data.length data 0 false

/-- The twin asks for a page whose compare found a difference: the lines that this custodian holds poisoned are first asked of the twin as repairs (R254). -/
def takeBack (d : Dev) (k : Nat) : Dev :=
  if nget d.cus.again k = some 0 then
    compareAgain (forEach (pagePoison d k) { d with cus.again := nset d.cus.again k 1 } fun d i => askRepair d (k * 128 + i)) k
  else d

/-- LINE_REPAIR_REQUEST: a READ of a line or a whole page on a mirror connection, answered with its marks (R79, R215, R217, R254). -/
def lineRepairRequest (d : Dev) (p : Pkt) (chamber page : Nat) (line : Option Nat) : Dev :=
  match line with
  | some i => mirrorFrame d p .read .read chamber (page * 16384 + i * 128) 128 [] 0
  | none =>
    let x := mirrorFrame d p .read .read chamber (page * 16384) 16384 [] 0
    if x.nextReq ≠ d.nextReq then takeBack x (pageKey chamber page) else x

/-! ### Stalled mirror writes (R131) -/

/-- A mirror write of a cell that has waited STALL_MS for dirty space at a stopped destage, or for a promotion. -/
def mirrorStalled (d : Dev) (c : Nat) (r : Req) (p : Part) : Bool :=
  (r.kind == .mirrorWrite || r.kind == .copy) && p.cell == c && decide (p.since + stallMs d ≤ d.now) && (match p.st with
    | .waitDirty _ => destageStopped d c
    | .waitPromo => true
    | _ => false)

/-- MIRROR_STALL_EXPIRY: YIELD to the witness and the custodian; in a pair without a witness a write that waits for its promotion is discarded with every later one
to its page until a resync copy has replaced the page, which the pull list names. -/
def mirrorStallExpiry (d : Dev) (c : Nat) : Dev :=
  if !(d.reqs.any fun r => r.parts.any (mirrorStalled d c r)) then d
  else if d.cus.witness.isSome then sendYield d
  else
    let late := d.reqs.filter fun r => r.parts.any fun p => mirrorStalled d c r p && p.st == .waitPromo
    let drop1 (d : Dev) (r : Req) : Dev :=
      let d := forEach (r.parts.filter fun p => p.st == .waitPromo) d fun d p =>
        let k := pageKey r.chamber p.page
        pullPage { d with cus.dropPages := nset d.cus.dropPages k 0 } k
      delReq (dropBuf d r.buf) r.id
    let d := forEach late d drop1
    let later := d.reqs.filter fun r => r.kind == .mirrorWrite && r.parts.any fun p => pendingPart p.st && nhas d.cus.dropPages (pageKey r.chamber p.page)
    pump (custodyTurn (forEach later d fun d r => delReq (dropBuf d r.buf) r.id))

/-! ### Acknowledgements of this device's requests (R59, R82, R249) -/

/-- What the acknowledgement of a request's last packet means: a mirrored part has its point, and a region's copy may be complete. -/
def ackedOne (d : Dev) (k : Nat) (s : Sent) : Dev :=
  if !s.last then d
  else match s.kind with
  | .part req page =>
    (match (getReq d req).bind fun r => r.parts.find? fun p => p.page == page with
      | some p => (match p.st with
        | .mirrored _ => setPart d req page .done
        | _ => d)
      | none => d)
  | .copy chamber region => copyAcked d k chamber region
  | _ => d

/-- An acknowledgement up to a PSN on a connection. -/
def ackUpTo (d : Dev) (k psn : Nat) (by_ : Covering) : Dev :=
  let c := getConn d k
  if c.state = .ready ∨ c.state = .draining ∨ c.state = .error then
    let (d, l) := ackAdvance d k psn by_
    pump (forEach l d fun d s => ackedOne d k s)
  else d

/-- ACKNOWLEDGE (R82). -/
def acknowledge (d : Dev) (k psn hops : Nat) : Dev := if isDown d then d else ackUpTo d k psn (.ack hops)

/-- MIRROR_ACKNOWLEDGE: the twin has applied everything up to a PSN of a mirror connection, under its pair claim (R21, R59, Table PAI-1). -/
def mirrorAcknowledge (d : Dev) (k psn hops claim : Nat) : Dev :=
  if isDown d || (getConn d k).service != .mirror then d else custodyTurn (claimSeen (ackUpTo d k psn (.ack hops)) (twinOrd d) claim)

/-- RESYNC_COPY_ACK: the same acknowledgement for the pages of a copy; JOIN follows once nothing is left (R249). -/
def resyncCopyAck (d : Dev) (k psn hops claim : Nat) : Dev :=
  if isDown d || (getConn d k).service != .mirror then d else custodyTurn (claimSeen (ackUpTo d k psn (.ack hops)) (twinOrd d) claim)

/-- A wait that a partner asks for (R82): requests from its PSN on are sent again after it. -/
def rnrWait (d : Dev) (k wait : Nat) : Dev :=
  let c := getConn d k
  let lim := rnrLimit d (connCell k)
  if lim ≠ 7 ∧ lim ≤ c.rnrs then connError d k
  else dropSample (setConn d k { c with rnrs := c.rnrs + 1, rnrUntil := some (d.now + wait), timer := none }) k

/-- A sequence-error NAK: everything before its PSN is acknowledged, the rest is sent again while retries remain (R82). With the retry count at its limit it does nothing, and the next
expiry ends the connection (DESIGN CHOICE: the manual speaks of the next expiry only; log entry 'A sequence-error NAK at the retry limit'). -/
def seqNak (d : Dev) (k psn : Nat) : Dev :=
  let d := ackUpTo d k (psnMod (psn + 2 ^ 24 - 1)) .nak
  let c := getConn d k
  if c.sent = [] then d
  else if retryLimit d (connCell k) ≤ c.retries then d
  else
    let v := 2 * c.timerVal
    retransmit (setConn d k { c with retries := c.retries + 1, timerVal := v, timer := some (d.now + v) }) k

/-- NAK_RECEIVED: a sequence error, an RNR NAK with its timer code, or a fatal NAK (R82, Table OMT-11). -/
def nakReceived (d : Dev) (k syndrome psn : Nat) : Dev :=
  let c := getConn d k
  if isDown d = true ∨ ¬ (c.state = .ready ∨ c.state = .draining) then d
  else if syndrome = synSeqErr then seqNak d k psn
  else if 0x20 ≤ syndrome ∧ syndrome < 0x40 then rnrWait (ackUpTo d k (psnMod (psn + 2 ^ 24 - 1)) .nak) k (rnrTime (syndrome - 0x20))
  else connError d k

/-- A request that a status other than OK completed: a refused mirror frame stops admission until the record is learned (R233); a failed page request ends its seal check
(R217). -/
def refusedOne (d : Dev) (k : Nat) (s : Sent) (status : Nat) : Dev :=
  let halt (d : Dev) : Dev := if status = stNotCustodian then { d with cus.halted := some (d.cus.halted.getD d.now) } else d
  match s.kind with
  | .part req page => setPart (halt d) req page (if status = stNotCustodian then .refused d.now else .failed stUnavailable)
  | .copy chamber region =>
    halt { d with cus.copying := ndel d.cus.copying ((connIdx k - 1) * 2 ^ 40 + chamber * 2 ^ 22 + region) }
  | .marker _ _ => halt d
  | .pageReq chamber page =>
    let key := pageKey chamber page
    let sealed := (nget d.repairs (2 ^ 64 + key)).any (·.isSeal)
    let d := { d with repairs := ndel d.repairs (2 ^ 64 + key) }
    if sealed then sealLost d key else d
  | _ => d

/-- STATUS_NAK_RECEIVED: BUSY is a wait, EPOCH sends again, any other status completes the request it names; a reserved status acts as UNAVAILABLE (R8, R82, R86). -/
def statusNakReceived (d : Dev) (k psn status detail : Nat) : Dev :=
  let c := getConn d k
  if isDown d = true ∨ ¬ (c.state = .ready ∨ c.state = .draining) then d
  else
    let d := if 0x0B < status then bump d .OMT_CNT (connCell k) 8 else d
    let st := if 0x0B < status then stUnavailable else status
    if st = stBusy then rnrWait (ackUpTo d k (psnMod (psn + 2 ^ 24 - 1)) .nak) k (detail * 10000)
    else if st = stEpoch then retransmit (ackUpTo d k (psnMod (psn + 2 ^ 24 - 1)) .nak) k
    else
      match (getConn d k).sent.find? fun s => s.left && psnLe s.psn psn && psnLe psn (psnMod (s.psn + s.pkts + 2 ^ 24 - 1)) with
      | none => d
      | some s =>
        let e := ((getConn d k).sent.find? fun x => x.last && psnLe s.psn x.psn).getD s
        let (d, l) := ackAdvance d k (psnMod (e.psn + e.pkts + 2 ^ 24 - 1)) .nak
        let d := forEach (l.filter fun x => !psnLe s.psn x.psn) d fun d x => ackedOne d k x
        custodyTurn (pump (refusedOne d k s st))

/-- CONGESTION_NOTIFICATION_PACKET: removed and counted (R101). -/
def congestionNotification (d : Dev) (p : Nat) : Dev := if isDown d then d else bump d .PORT_CNG_CNT p 5

/-! ### Repairs and pages from the twin (R215, R217, R254) -/

/-- The bytes of line i in a page's data. -/
def lineBytes (data : List Byte) (i : Nat) : List Byte := (data.drop (128 * i)).take 128

/-- The whole page is asked of the twin (R217, R254). -/
def askPage (d : Dev) (k : Nat) (forSeal : Bool) : Dev :=
  sendMirror { d with repairs := nset d.repairs (2 ^ 64 + k) ⟨true, false, d.now + ms 10, forSeal⟩ } (homeOf k) (pageAddr k) (.pageReq (keyChamber k) (keyPage k)) false false 0 [] []

/-- A seal check is answered (R217): an identical page is installed CLEAN and queued for a rewrite, a different one is installed MODIFIED as the twin has it, once there is dirty space for
it (R128); a page whose every line the twin holds poisoned is unrecoverable. -/
def sealAnswer (d : Dev) (k : Nat) (data : List Byte) (marks : List Nat) : Dev :=
  let c := homeOf k
  let own := (List.range 128).filter fun i => d.tier.t2p.contains (k * 128 + i)
  let mine := memRead d.mem (pageAddr k) 16384
  if 128 ≤ marks.length then sealLost d k
  else if mine = data ∧ own = marks then bump (installPage { d with tier.reseal := sinsert d.tier.reseal k } k [] false) .HBM_CNT c 14
  else if countedClass (classOfPage d k) && !dirtyFits d c 128 then askPage (askDirty d c) k true
  else
    let d := { d with mem := memWrite d.mem (pageAddr k) data }
    let d := installPage d k [] true
    let d := { d with poison := (marks.map fun i => k * 128 + i).foldl sinsert (d.poison.filter fun l => l / 128 != k) }
    logEvent (bump d .HBM_CNT c 15) 2 (uHbm c) [keyChamber k, keyPage k % 2 ^ 32, keyPage k / 2 ^ 32]

/-- A divergence is resolved in favour of the custodian, but for lines that the custodian holds poisoned (R254), once there is dirty space for the lines (R128). -/
def resolvePage (d : Dev) (k : Nat) (data : List Byte) (marks : List Nat) : Dev :=
  let differs (i : Nat) : Bool := !marks.contains i && (poisoned d (k * 128 + i) || memRead d.mem (lineAddr (k * 128 + i)) 128 != lineBytes data i)
  match (List.range 128).filter differs with
  | [] => d
  | ls =>
    if (chmOf d k).all fun c => decide (c.pages ≤ keyPage k) then d
    else match bringPage d k .plan with
    | (d, .here) =>
      if !dirtyFits d (homeOf k) (ls.filter fun i => !(((getFrame d k).map (·.lines)).getD []).contains i).length then askPage (askDirty d (homeOf k)) k false
      else
        let d := forEach ls d fun d i => applyBytes d k (128 * i) (lineBytes data i) []
        logEvent (bump d .CUS_CNT 0 14) 2 (uCell (homeOf k)) [keyChamber k, keyPage k % 2 ^ 32, keyPage k / 2 ^ 32]
    | (d, .failed) => d
    | (d, _) => askPage d k false

/-- A whole page from the twin: for a seal check or a compare; a compare whose page has been written since asks again. -/
def pageAnswer (d : Dev) (k : Nat) (data : List Byte) (marks : List Nat) : Dev :=
  match nget d.repairs (2 ^ 64 + k) with
  | none => d
  | some r =>
    let d := { d with repairs := ndel d.repairs (2 ^ 64 + k) }
    if r.isSeal then sealAnswer d k data marks
    else if r.touched then askPage d k false
    else resolvePage d k data marks

/-- LINE_REPAIR_ANSWER: the read response that answers the request with this PSN, with its data and the PMHs of its packets (R88). -/
def lineRepairAnswer (d : Dev) (k psn : Nat) (data : List Byte) (pmh : List (Option (BitVec 64))) : Dev :=
  if isDown d then d
  else
    match (getConn d k).sent.find? fun s => s.left && s.psn == psn with
    | none => d
    | some s =>
      let mtu := (getConn d k).pmtu
      let d := ackUpTo d k (psnMod (s.psn + s.pkts + 2 ^ 24 - 1)) .data
      match s.kind with
      | .repair chamber page line =>
        let l := pageKey chamber page * 128 + line
        pump (compareAgain (applyRepair d l (some data) (msgMarks (lineAddr l) data.length mtu pmh != [])) (l / 128))
      | .pageReq chamber page =>
        let k := pageKey chamber page
        pump (pageAnswer d k data ((msgMarks (pageAddr k) data.length mtu pmh).map (· % 128)))
      | _ => d

/-- LINE_REPAIR_TIMEOUT: no answer within 10 ms: the line stays poisoned, a seal check fails (R215, R217). -/
def lineRepairTimeout (d : Dev) (chamber page : Nat) (line : Option Nat) : Dev :=
  let k := pageKey chamber page
  let key := match line with
    | some i => k * 128 + i
    | none => 2 ^ 64 + k
  match nget d.repairs key with
  | some r => if due d r.deadline then (if r.isSeal then sealLost { d with repairs := ndel d.repairs key } k else compareAgain { d with repairs := ndel d.repairs key } k) else d
  | none => d

end Sys2Proof.Machine
end

