-- ==== Sys2Proof/Machine/Loader.lean ====
section
/-!
DEFINITION. The configuration loader: the checks of the image copies, the choice between them, and what the chosen copy gives the device (spec/15_startup.md R326 to R337;
spec/06_federation_fabric.md Table FAB-2; spec/11_pair_custody.md R234; spec/14_security.md R309, R321, R322; spec/10_dram_tier.md R227, R228).
-/
namespace Sys2Proof.Machine
open Sys2Proof

/-! ### The checks of a copy (R334, Table STA-8) -/

/-- Bytes of a record of a section (Tables STA-3 to STA-7), 0 where the section has no records of one size. TOPOLOGY counts in units of 8 bytes, its 272 leading bytes included (DEDUCED; log
entry 'The directory of an image'). -/
def recordSize (version kind : Nat) : Nat :=
  match kind with
  | 1 => if version = 1 then 32 else 64
  | 2 => 8
  | 3 => 12
  | 5 => 128
  | _ => 0

/-- Bytes of the FIRMWARE blobs (Table STA-6). -/
def blobBytes (c : ImgCopy) : Nat := c.blobs.foldl (fun n b => n + 112 + b.body.toNat) 0

/-- A directory entry keeps to R328: a section of a known kind, from a multiple of 64 on, between the end of the directory and the signature, as long as its records. -/
def dirEntOk (c : ImgCopy) (e : DirEnt) : Bool :=
  decide (1 ≤ e.kind.toNat ∧ e.kind.toNat ≤ 5) && e.reservedZero && e.offset.toNat % 64 == 0 && decide (256 + 16 * c.sections.toNat ≤ e.offset.toNat) &&
    decide (e.offset.toNat + e.length.toNat ≤ c.len.toNat - 96) &&
    (if e.kind = 4 then e.length.toNat == blobBytes c else e.length.toNat == e.count.toNat * recordSize c.version.toNat e.kind.toNat)

/-- Two sections do not overlap. -/
def apart (x y : DirEnt) : Bool := decide (x.offset.toNat + x.length.toNat ≤ y.offset.toNat ∨ y.offset.toNat + y.length.toNat ≤ x.offset.toNat)

/-- How many sections of a kind the directory lists. -/
def kindCount (c : ImgCopy) (k : Nat) : Nat := (c.dir.filter fun e => e.kind.toNat == k).length

/-- L and the directory (R328, Table STA-1): IDENTITY, TOPOLOGY, REGISTER LIST and FIRMWARE once each, KEY WRAP at most once and only in a version 2 image. -/
def layoutOk (c : ImgCopy) : Bool :=
  decide (1024 ≤ c.len.toNat ∧ c.len.toNat ≤ 67108864) && decide (4 ≤ c.sections.toNat ∧ c.sections.toNat ≤ 5) && c.dir.length == c.sections.toNat && c.reservedZero &&
    ([1, 2, 3, 4].all fun k => kindCount c k == 1) && decide (kindCount c 5 ≤ if c.version = 2 then 1 else 0) && c.dir.all (dirEntOk c) &&
    decide (c.dir.Pairwise fun x y => apart x y = true)

/-- The magic of an image: 0x4B, 0x53, 0x54, 0x4E (Table STA-1). -/
def imageMagic : BitVec 32 := 0x4B53544E

/-- Checks 1 to 3: the module is readable, magic and format version, L and the directory (Table STA-8). -/
def headCheck (c : ImgCopy) : Nat :=
  if !c.readable then 1
  else if c.magic != imageMagic || (c.version != 1 && c.version != 2) then 2
  else if !layoutOk c then 3
  else 0

/-- The index of the programmed, non-revoked owner hash that a key hashes to (R321). -/
def imageOwner (d : Dev) (c : ImgCopy) : Option Nat := (d.sec.owners.find? fun p => p.2 == c.ownerHash && !d.sec.revoked.contains p.1).map (·.1)

/-- How many blobs are of a kind. -/
def blobCount (c : ImgCopy) (k : Nat) : Nat := (c.blobs.filter fun b => b.kind.toNat == k).length

/-- Check 6: every blob verifies under a vendor hash that is not revoked, kinds 1 and 2 appear once and kind 3 at most once (R322, R332). -/
def blobsOk (d : Dev) (c : ImgCopy) : Bool :=
  (c.blobs.all fun b => (b.vendor.any fun v => !d.sec.vendorRevoked.contains v.val) && b.body.toNat % 8 == 0) && blobCount c 1 == 1 && blobCount c 2 == 1 && decide (blobCount c 3 ≤ 1)

/-- Numbers that rise strictly. -/
def rising : List Nat → Bool
  | a :: b :: t => decide (a < b) && rising (b :: t)
  | _ => true

/-- The bits that a REGISTER LIST entry may set in a register: those of class SH, and the fields whose description names the list as their source (R331). -/
def listMask (r : RegId) (i : Nat) : Word :=
  match r with
  | .TST_PERMIT => 0xF
  | .PORT_MACSEC_STATUS => 0xFFFF
  | _ => if (regInfo r).cls = .sh then regMask r i else 0

/-- An entry of the REGISTER LIST is one that R331 allows. -/
def regEntOk (e : RegEnt) : Bool :=
  e.addr.toNat % 4 == 0 && (match placeOf e.addr.toNat with
    | some p => e.mask &&& ~~~(listMask (placeReg p) (placeWord p)) == 0
    | none => false)

/-- A KEY WRAP record is laid out as Table STA-7 says: a wrapped value is followed by zeros. -/
def wrapOk (w : WrapRec) : Bool :=
  w.reservedZero && decide (w.tenant.toNat < 4096) && ((w.op == 1 && w.dataLen == 96 && w.kek == 0) ||
    (w.op == 2 && (w.dataLen == 40 || w.dataLen == 72) && (w.words.drop (w.dataLen.toNat / 4)).all (· == 0)))

/-- An IDENTITY record is laid out as Table STA-3 says: in version 2, a witness ordinal of 14 bits or 0xFFFF, a start slot below 64 or 0xFF, and overrides with a role code of 4 bits or 0xFF. -/
def idOk (version : Nat) (r : IdRec) : Bool :=
  r.reservedZero && (version == 1 || ((r.witness == 0xFFFF || decide (r.witness.toNat < 2 ^ 14)) && (r.slot == 0xFF || decide (r.slot.toNat < 64)) &&
    r.overrides.all fun o => o.2 == 0xFF || decide (o.2.toNat < 16)))

/-- Every link that the TOPOLOGY section counts stands in it (Table STA-4). -/
def topoRecOk (t : TopoSec) : Bool := t.reservedZero && t.linkCount.toNat == t.links.length && decide (t.links.length ≤ 1048576)

/-- Check 7: record formats, reserved bytes and register list entries (R329, R331, Table STA-7). -/
def recordsOk (c : ImgCopy) : Bool :=
  rising (c.ids.map fun r => r.ordinal.toNat) && decide (c.ids.length ≤ 16384) && (c.ids.map (·.devId)).Nodup && (c.ids.all (idOk c.version.toNat)) && topoRecOk c.topo &&
    decide (c.regs.length ≤ 262144) && c.regs.all regEntOk && c.wraps.all wrapOk

/-- Checks 4 to 7: the first that fails, 0 for none. -/
def bodyCheck (d : Dev) (c : ImgCopy) : Nat :=
  if (imageOwner d c).isNone then 4 else if !c.sigOk then 5 else if !blobsOk d c then 6 else if !recordsOk c then 7 else 0

/-! ### The checks of the chosen copy (R336) -/

/-- The device ID (R329): its four words, word 0 first. -/
def ownId : Nat := (List.range 4).foldl (fun n i => n * 2 ^ 32 + Config.deviceId i % 2 ^ 32) 0

/-- The record that carries this device's ID. -/
def ownRec (c : ImgCopy) : Option IdRec := c.ids.find? fun r => r.devId.toNat == ownId

/-- Group sizes as numbers. -/
def groupSizes (c : ImgCopy) : List Nat := c.topo.groups.map (·.toNat)

/-- An ordinal is declared (Table FAB-2). -/
def declared (gs : List Nat) (o : Nat) : Bool := decide (o % 64 < gs.getD (o / 64) 0)

/-- A federation of one device. -/
def oneDevice (c : ImgCopy) : Bool := groupSizes c == [1] && c.topo.links == []

/-- Every ordinal that the topology declares. -/
def declaredAll (gs : List Nat) : List Nat := (((List.range gs.length).map fun g => (List.range (gs.getD g 0)).map fun m => 64 * g + m)).flatten

/-- A link as the fabric keeps it. -/
def linkOf (l : TopoLinkRec) : TopoLink := ⟨l.a.toNat, l.ap.toNat, l.b.toNat, l.bp.toNat, l.role.toNat⟩

/-- A link of a role joins two devices. -/
def joins (c : ImgCopy) (role : Nat) (x y : Nat → Bool) : Bool :=
  c.topo.links.any fun l => l.role.toNat == role && ((x l.a.toNat && y l.b.toNat) || (x l.b.toNat && y l.a.toNat))

/-- The TWIN links of the pair of an even ordinal, as its own port and the twin's. -/
def pairLinks (c : ImgCopy) (even : Nat) : List (Nat × Nat) :=
  c.topo.links.filterMap fun l =>
    if l.role.toNat = 2 ∧ l.a.toNat = even ∧ l.b.toNat = even + 1 then some (l.ap.toNat, l.bp.toNat)
    else if l.role.toNat = 2 ∧ l.b.toNat = even ∧ l.a.toNat = even + 1 then some (l.bp.toNat, l.ap.toNat) else none

/-- Twin link j of one twin is cabled to twin link j of the other (R20): ports rise together. -/
def cabledInOrder (l : List (Nat × Nat)) : Bool := l.all fun x => l.all fun y => decide (x.1 < y.1) == decide (x.2 < y.2)

/-- The TOPOLOGY section satisfies Table FAB-2 (R108, R330). -/
def topoOk (c : ImgCopy) : Bool :=
  let gs := groupSizes c
  let ends := c.topo.links.map (fun l => (l.a.toNat, l.ap.toNat)) ++ c.topo.links.map (fun l => (l.b.toNat, l.bp.toNat))
  if oneDevice c then true
  else
    decide (1 ≤ gs.length) && decide (gs.length ≤ 256) && (gs.all fun n => n % 2 == 0 && decide (2 ≤ n) && decide (n ≤ 64)) &&
      (c.topo.links.all fun l => (l.role == 2 || l.role == 3 || l.role == 4) && l.a != l.b && declared gs l.a.toNat && declared gs l.b.toNat) && decide ends.Nodup &&
      ((declaredAll gs).all fun o => o % 2 == 1 || (decide (2 ≤ (pairLinks c o).length) && cabledInOrder (pairLinks c o))) &&
      ((declaredAll gs).all fun o => (declaredAll gs).all fun q => decide (q ≤ o) || o / 64 != q / 64 || joins c 3 (· == o) (· == q)) &&
      ((List.range gs.length).all fun g => (List.range gs.length).all fun h => decide (h ≤ g) || joins c 4 (fun o => o / 64 == g) (fun o => o / 64 == h))

/-- The record of an ordinal. -/
def recOf (c : ImgCopy) (o : Nat) : Option IdRec := c.ids.find? fun r => r.ordinal.toNat == o

/-- The witness that an IDENTITY record names, in a version 2 image (Table STA-3). -/
def namedWitness (c : ImgCopy) (o : Nat) : Option Nat :=
  if c.version = 1 then none else (recOf c o).bind fun r => if r.witness = 0xFFFF then none else some (r.witness.toNat % 2 ^ 14)

/-- The witness of the pair of an ordinal (R234): the one named, else the lower device of the next pair of the group; none in a group of one pair or alone. -/
def witnessOf (c : ImgCopy) (o : Nat) : Option Nat :=
  let n := (groupSizes c).getD (o / 64) 0
  match namedWitness c o with
  | some w => some w
  | none =>
    if n ≤ 2 then none
    else
      let first := 32 * (o / 64)
      some (2 * (first + (o / 2 - first + 1) % (n / 2)))

/-- The witness rules (R234): in the same group, in another pair, and at most 16 pairs at one device. -/
def witnessRules (c : ImgCopy) : Bool :=
  let os := declaredAll (groupSizes c)
  (os.all fun o => (witnessOf c o).all fun w => w / 64 == o / 64 && w / 2 != o / 2 && declared (groupSizes c) w) &&
    os.all fun w => decide ((os.filter fun o => o % 2 == 0 && witnessOf c o == some w).length ≤ 16)

/-- Checks 8 to 11 of the chosen copy (R336): the first that fails, 0 for none. -/
def chosenCheck (c : ImgCopy) : Nat :=
  match ownRec c with
  | none => 8
  | some r =>
    if !declared (groupSizes c) r.ordinal.toNat then 9 else if !topoOk c then 10 else if !witnessRules c then 11 else 0

/-! ### The choice (R335) -/

/-- What the loader reads: of each copy the result, whether it was read in full, and which is chosen (true names B), with the divergence. -/
structure Choice where
  a : CopyInfo
  b : CopyInfo
  chosen : Option Bool
  divergent : Bool
deriving DecidableEq, Repr

/-- What is known of a copy whose body was read, or not. -/
def copyInfo (d : Dev) (c : ImgCopy) (read : Bool) : CopyInfo :=
  let h := headCheck c
  if h ≠ 0 then { cause := h }
  else if read then { read := true, cause := bodyCheck d c, valid := bodyCheck d c == 0, seq := c.seq.toNat } else { seq := c.seq.toNat }

/-- The copies are tried by sequence number, A first on a tie; the copy not chosen is checked too when its number is the same (R335). -/
def chooseCopy (d : Dev) (a b : ImgCopy) : Choice :=
  let ca := headCheck a == 0
  let cb := headCheck b == 0
  let ok (c : ImgCopy) : Bool := bodyCheck d c == 0
  let same := ca && cb && a.seq == b.seq
  let firstB := cb && (!ca || decide (a.seq.toNat < b.seq.toNat))
  if firstB then
    if ok b then ⟨copyInfo d a false, copyInfo d b true, some true, false⟩
    else ⟨copyInfo d a true, copyInfo d b true, if ca && ok a then some false else none, false⟩
  else if ca then
    if ok a then ⟨copyInfo d a true, copyInfo d b same, some false, same && ok b && a != b⟩
    else ⟨copyInfo d a true, copyInfo d b true, if cb && ok b then some true else none, false⟩
  else ⟨copyInfo d a false, copyInfo d b false, none, false⟩

/-! ### What the chosen copy gives (R331, R333, R337) -/

/-- The start is held in step 2, and the load is repeated after 10 s (R335, R336). A change of cause 8 to 11 raises C3 with an S3 record. -/
def holdStep2 (d : Dev) (cause : Nat) : Dev :=
  let told := d.ldr.cause
  let d := { d with ldr.cause := cause, ldr.retryAt := some (d.now + sec 10) }
  if cause < 12 ∧ told ≠ cause then raise d { cls := 3, cause := 0x1B, unit := uHub 1, addr := cause, sev := some 3 } .stay else d

/-- The material that a KEY WRAP record would put into its slot. -/
def wrapMat (d : Dev) (w : WrapRec) : Option Nat :=
  let ws := w.words.map (·.toNat)
  if w.op = 1 then (Config.agree (ws.take 24 ++ [ordinal d, w.slot.toNat])).map (· % 2 ^ 256)
  else (kekMat d w.kek.toNat).bind fun k => Config.unwrap k (ws.take (if w.usage = 1 then 18 else 10))

/-- One KEY WRAP record (R309, R333): a slot that is LIVE with the same usage and check value is passed over; one that cannot be filled writes an S2 record. -/
def applyWrap (d : Dev) (w : WrapRec) : Dev :=
  let k := w.slot.toNat
  let usage := if w.op = 1 then 5 else w.usage.toNat
  let skip := logEvent d 2 (uHub 8) [k, w.op.toNat, usage]
  match getSlot d k with
  | some s => if s.state = .live ∧ s.usage = usage ∧ ((wrapMat d w).map checkOf = some (checkOf s.mat)) then d else skip
  | none =>
    let r := if w.op = 1 then agreeInto d k ((w.words.take 24).map (·.toNat))
      else importInto d k usage ((w.dataLen == 72) == (usage == 1)) w.tenant.toNat w.kek.toNat ((w.words.take 18).map (·.toNat))
    if r.2.1 = .ok then r.1 else skip

/-- The KEY WRAP records of this ordinal in order; those after the 64th are passed over with an S2 record (R333). -/
def applyWraps (d : Dev) (l : List WrapRec) : Dev :=
  let mine := l.filter fun w => w.target.toNat == ordinal d
  forEach (mine.drop 64) (forEach (mine.take 64) d applyWrap) fun d w => logEvent d 2 (uHub 8) [w.slot.toNat, w.op.toNat]

/-- A value staged in a shadow under a mask (R331). -/
def stageMasked (d : Dev) (r : RegId) (c i : Nat) (m v : Word) : Dev :=
  { d with shadow := nset d.shadow (regKey r c i) ((shadowOf d r c i &&& ~~~m) ||| (v &&& m)) }

/-- One entry of the REGISTER LIST (R331). -/
def applyRegEnt (d : Dev) (e : RegEnt) : Dev :=
  match placeOf e.addr.toNat with
  | none => d
  | some p =>
    let r := placeReg p
    let i := placeWord p
    match r with
    | .TST_PERMIT => { d with tst.permit := ((word d.tst.permit &&& ~~~e.mask) ||| (e.value &&& e.mask)).toNat }
    | .PORT_MACSEC_STATUS => forEach (placeCells p) d fun d c => setReg d r c i ((reg d r c i &&& ~~~e.mask) ||| (e.value &&& e.mask))
    | _ => forEach (placeCells p) d fun d c => stageMasked d r c i e.mask e.value

/-- One role override of the identity record (R329); role 0xFF marks an unused pair. -/
def applyOverride (d : Dev) (o : BitVec 8 × BitVec 8) : Dev :=
  if o.2 = 0xFF then d
  else
    let p := o.1.toNat
    stageMasked d .FAB_PORT_ROLE 0 (p / 8) (word (at_ 0xF (4 * (p % 8)))) (word (at_ (o.2.toNat % 16) (4 * (p % 8))))

/-- The pairs that this device watches (R236): their records stand as the Vault kept them. -/
def watchPairs (d : Dev) (c : ImgCopy) : Dev :=
  let ps := ((declaredAll (groupSizes c)).filter fun o => o % 2 == 0 && witnessOf c o == some (ordinal d)).map (· / 2)
  { d with watch := ps.foldl (fun m p => nset m p (ngetD d.watch p { pair := p })) [] }

/-- Rows queued for repair are repaired, at most PPR_MAX of a channel (R228); one whose bank has no spare row left completes NO_SPARE in an S2 record. A frame whose rows are all
repaired is released and its correctable-error entries cleared, while the firmware acts. -/
def repairRows (d : Dev) (c : Nat) : Dev :=
  let n := min 8 (cfld d .HBM_POLICY_CFG c 3 0)
  let d := forEach ((getHbm d c).ppr.take n) d fun d x =>
    let h := getHbm d c
    let used := ngetD h.spares x.1 0
    let h := { h with ppr := h.ppr.filter (· != x) }
    if Config.spareRows ≤ used then logEvent (setHbm d c h) 2 (uHbm c) [rNoSpare, x.1 * 2 ^ 15 + x.2]
    else
      let old := reg d .HBM_RETIRE_COUNT c 0
      setReg (setHbm d c { h with spares := nset h.spares x.1 (used + 1), fixed := x :: h.fixed }) .HBM_RETIRE_COUNT c 0
        (word (at_ (sat (fld old 31 16 + 1) 0xFFFF) 16 + fld old 15 0))
  if fbit (reg d .HBM_POLICY_CFG c 0) 31 then
    let h := getHbm d c
    let free := (h.retired.map (·.1)).filter fun f => (frameRows f).all h.fixed.contains
    let h := { h with retired := h.retired.filter (fun p => !free.contains p.1), ce := h.ce.filter fun e => !free.contains (e.2.la / 32) }
    setReg (setHbm d c h) .HBM_RETIRE_COUNT c 0 (word (at_ (fld (reg d .HBM_RETIRE_COUNT c 0) 31 16) 16 + h.retired.length))
  else d

/-- The pages of snapshots in staging frames take their places anew, the lowest free ones; one for which a smaller staging area has none is lost (DESIGN CHOICE: log entry 'Staging frames at a
start'). -/
def restage (d : Dev) : Dev :=
  let l := d.snap.snaps.flatMap fun s => (s.2.pages.filter fun p => p.2.staging).map fun p => (s.1, p.1)
  forEach l (forEach l d fun d x => modSnapPage d x.1 x.2 fun p => { p with slot := noSlot }) fun d x =>
    match stagingSlot d (homeOf x.2) with
    | some t => modSnapPage d x.1 x.2 fun p => { p with slot := t }
    | none => modSnapPage d x.1 x.2 fun p => { p with staging := false, poison := List.range 128 }

/-- The layout of T1 for this start (R148, R149, R227): SNAP_GIB as committed, and the page frames that retired frames take out of the data area. -/
def layOutT1 (d : Dev) : Dev :=
  let d := restage { d with tier.snapGib := min 32 (hfld d .TIER_T1_CFG 21 16) }
  forEach (d.hbm.map (·.1)) d fun d c =>
    forEach ((getHbm d c).retired.map (·.1)) d fun d f =>
      if t1Area d (f * 4096) = 4 then { d with tier.gone := nset d.tier.gone (c * 2 ^ 18 + f / 4) 0 } else d

/-- The identity and topology of the image in use take effect (R10, R234, R329, R330, R339). -/
def takeIdentity (d : Dev) (c : ImgCopy) (r : IdRec) : Dev :=
  let o := r.ordinal.toNat
  let gs := groupSizes c
  { d with ldr.ident := ⟨o, witnessOf c o, gs.foldl (· + ·) 0, gs.getD (o / 64) 0⟩, cus.witness := witnessOf c o,
           fab.topo := ⟨gs, c.topo.links.map linkOf, c.topo.digest.toNat⟩,
           ldr.idSlot := if c.version = 1 ∨ r.slot = 0xFF then o % 16 else r.slot.toNat % 64,
           ldr.format := if c.version = 2 ∧ r.format = true ∧ r.token.toNat ≠ d.ldr.token then some r.token.toNat else none }

/-- What the loader remembers of the copy in use. -/
def takeImage (d : Dev) (c : ImgCopy) (useB : Bool) : Dev :=
  let ver (k : Nat) : Nat := ((c.blobs.find? fun b => b.kind.toNat == k).map (·.version.toNat)).getD 0
  { d with ldr.useB := useB, ldr.version := c.version.toNat, ldr.cause := 0, ldr.imageLoaded := true, ldr.fw := (ver 1, ver 2),
           ldr.revokes := ((c.blobs.find? fun b => b.kind.toNat == 3).map (·.revokes.val)), sec.active := (imageOwner d c).getD 0 }

/-- A blob of no kind that the device knows is ignored, with an S1 record (R332). -/
def otherBlobs (d : Dev) (c : ImgCopy) : Dev :=
  forEach (c.blobs.filter fun b => b.kind == 0 || decide (3 < b.kind.toNat)) d fun d b => logEvent d 1 (uHub 1) [b.kind.toNat, b.version.toNat]

/-- Step 2 with the chosen copy (R331, R333, R337): identity, start count, key store, KEY WRAP, register list, overrides and one commit, row repairs and the T1 layout. -/
def applyImage (d : Dev) (c : ImgCopy) (r : IdRec) (useB : Bool) : Dev :=
  let d := takeIdentity (otherBlobs (takeImage d c useB) c) c r
  let d := watchPairs { d with ldr.startCount := (d.ldr.startCount + 1) % 2 ^ 16, sec.cleared := false, ldr.rereadAt := d.now + sec 10 } c
  let d := applyWraps d c.wraps
  let d := forEach c.regs d applyRegEnt
  let d := if c.version = 1 then d else forEach r.overrides d applyOverride
  let d := commitAll d
  layOutT1 (forEach (d.hbm.map (·.1)) d repairRows)

end Sys2Proof.Machine
end

