-- ==== Sys2Proof/Machine/Rails.lean ====
section
/-!
DEFINITION. The supervised rails: power-up and power-down sequences, windows, failures and their consumers, clock domains (spec/16_power.md R346 to R353, spec/01_architecture.md
R12, R24, R25).
-/
namespace Sys2Proof.Machine
open Sys2Proof

/-! ### Rails and their consumers (Table PWR-1) -/

/-- Nominal voltage of a rail in mV (Table PWR-1). -/
def railNominal (n : Nat) : Nat :=
  if n < 16 ∨ n = 30 then 750 else if n < 20 then 900 else if n < 28 then 1050 else if n < 30 then 1200 else if n = 31 then 800 else if n % 2 = 0 then 2500 else 1200

/-- Carrier k's rails, and the rails whose failure takes it down: its course's core, its HBM stack and its media I/O (R348). -/
def carrierRails (k : Nat) : List Nat := [32 + 2 * k, 33 + 2 * k]
def carrierNeeds (k : Nat) : List Nat := [k, 20 + k / 2, 28 + k / 8]

/-- A carrier must not be up. -/
def carrierSkips (d : Dev) (k : Nat) : Bool := (carrierNeeds k).any fun n => (getRail d n).st == .failed

/-- A rail is switched on and rises (R351); a carrier rail whose supplies have failed is SKIPPED. -/
def enableRail (d : Dev) (n : Nat) : Dev :=
  let r := getRail d n
  if r.st = .failed then d
  else if 32 ≤ n ∧ (carrierSkips d ((n - 32) / 2) ∨ (getRail d (n - n % 2)).st = .failed) then setRail d n { r with st := .skipped, cause := 5, enabledAt := none }
  else setRail d n { r with st := .off, enabledAt := some d.now }

/-- The cells of a course. -/
def courseCells (k : Nat) : List Nat := (List.range 16).map (16 * k + ·)

/-- Carrier k is switched off because a supply of its course failed: its rails are SKIPPED and its media channels OFFLINE (R203, R348). -/
def skipCarrier (d : Dev) (k cause : Nat) : Dev :=
  let d := forEach (carrierRails k) d fun d n =>
    let r := getRail d n
    if r.st = .failed then d else setRail d n { r with st := .skipped, cause := 5, enabledAt := none }
  forEach (courseCells k) d fun d c => mediaOffline d c cause

/-- A port is fenced by another unit (PORT_FENCE.CAUSE 3). -/
def fenceByUnit (d : Dev) (p : Nat) : Dev := if (getPort d p).fence.isSome then d else fencePort d p 3 0

/-- The cells that take the records of R140: live cells of other courses whose carriers are up. -/
def takers (d : Dev) (f : Flush) (k : Nat) : List Nat :=
  allCells.filter fun c => c / 16 != k && !f.railCells.contains c && flushCapable d c && (carrierRails (c / 16)).all fun n => (getRail d n).st == .up

/-- The set that a cell is writing takes something more. -/
def moreInSet (d : Dev) (c : Nat) (f : SumpSet → SumpSet) : Dev :=
  let g (s : SumpSet) : SumpSet := if s.state = .writing then f s else s
  setSump d c (g (getSump d c).1, g (getSump d c).2)

/-- Things go round robin to cells (R140). -/
def roundRobin (cells : List Nat) (f : SumpSet → Nat → SumpSet) (d : Dev) (l : List Nat) : Dev :=
  ((List.range l.length).zip l).foldl (fun d x => match cells[x.1 % cells.length]? with
    | some c => moreInSet d c fun s => f s x.2
    | none => d) d

/-- A carrier rail fails while the device flushes (R140): the cells of the course stop writing to their sumps, whose sets are disregarded, and send the addresses of their dirty data
lines, those of staging frames included, and their metadata, of it the list of R61, to live cells of other courses. -/
def loseCarrier (d : Dev) (k : Nat) : Dev :=
  match d.per.flush with
  | none => d
  | some f =>
    let cs := (courseCells k).filter fun c => !f.railCells.contains c && flushCapable d c
    let lost := (cs.map (dirtyLines d)).flatten
    let refs := (cs.map (refPages d)).flatten
    let drop (s : SumpSet) : SumpSet := if s.state = .writing then { s with disregarded := true } else s
    let d := { d with per.sump := d.per.sump.map fun p => (p.1, if cs.contains p.1 then (drop p.2.1, drop p.2.2) else p.2) }
    let d := roundRobin (takers d f k) (fun s l => { s with received := s.received ++ [l] }) d lost
    let d := roundRobin (takers d f k) (fun s p => { s with refPages := s.refPages ++ [p] }) d refs
    let staged := (cs.map fun c => 128 * ((cellStaging d c).filter fun p => countedClass (classOfPage d p)).length).foldl (· + ·) 0
    { d with per.flush := some { f with railCells := f.railCells ++ cs, lost := f.lost + lost.length + staged } }

/-- What a FAILED rail does to its consumers (Table PWR-1, R348), but for the class of its fault. -/
def railConsumers (d : Dev) (n : Nat) : Dev :=
  if n < 16 then skipCarrier (fenceCourse d n 0x02) n 2
  else if n < 20 then forEach ((List.range 64).map (64 * (n - 16) + ·)) d fenceByUnit
  else if n < 28 then
    let s := n - 20
    let d := forEach ((List.range 32).map (32 * s + ·)) d fun d c => failChannel d c 4
    skipCarrier (skipCarrier d (2 * s) 2) (2 * s + 1) 2
  else if n < 30 then forEach ((List.range 8).map (8 * (n - 28) + ·)) d fun d k => skipCarrier d k 4
  else if n < 32 then d
  else
    let k := (n - 32) / 2
    let d := forEach ((carrierRails k).filter (· != n)) d fun d m => if (getRail d m).st = .up ∨ (getRail d m).st = .off then setRail d m { getRail d m with st := .off, enabledAt := none } else d
    if d.pwr.state = .flushing then loseCarrier d k else forEach (courseCells k) d fun d c => mediaOffline d c 2

/-- A set that was being written when power or clocks went is holding, without a close record (Table PER-4). -/
def cutWriting (s : SumpSet) : SumpSet := if s.state = .writing then { s with state := .holding, closed := false } else s

/-- Every clock stops (R25, R348, R367): the device is HALTED until power-on, and the bootstrap latch keeps cause and unit for the next start. -/
def clocksStop (d : Dev) (cause unit addr : Nat) : Dev :=
  let d := leaveProving d 5
  { d with pwr.state := .halted, pwr.move := none, pwr.latched := none, flt.grave := true, flt.latch := some (cause, unit, addr), reqs := [], per.flush := none,
           per.sump := d.per.sump.map fun p => (p.1, cutWriting (holdAgain p.2.1), cutWriting (holdAgain p.2.2)) }

/-- The hub core has failed: a flush under way ends where it stands, without its record (R348; DEDUCED: nothing conducts it any more). -/
def hubGone (d : Dev) : Dev :=
  if d.pwr.state = .flushing then
    { d with pwr.state := .halted, per.flush := none, per.sump := d.per.sump.map fun p => (p.1, cutWriting p.2.1, cutWriting p.2.2) }
  else d

/-- A rail is FAILED with a cause (R347, R348, R351): its consumers are fenced, and its class acts. -/
def railFails (d : Dev) (n cause mv : Nat) : Dev :=
  let d := setRail d n { getRail d n with st := .failed, cause := cause, mv := mv, enabledAt := none }
  let lost := match d.per.flush with
    | some f => f.lost
    | none => 0
  let d := railConsumers d n
  let now := match d.per.flush with
    | some f => f.lost
    | none => 0
  let e : FaultEvt := { cls := 2, cause := 0x02, unit := uRail n, addr := mv, detail := [n, cause, mv], sev := some 2 }
  if n = 31 then clocksStop d 0x02 (uRail 31) mv
  else if n = 30 then hubGone (raise d { e with cls := 3, sev := some 3 } .noFlush)
  else if 32 ≤ n ∧ d.pwr.state = .flushing then raise d { e with cls := 4, cause := 0x16, addr := now - lost, detail := [n, cause, mv, now - lost], sev := some 3 } .stay
  else raise d e

/-- Thresholds of a rail in mV and its filter in µs (PWR_RAIL_CFG). -/
def railOv (d : Dev) (n : Nat) : Nat := fld (reg d .PWR_RAIL_CFG 0 n) 31 22 * 5
def railUv (d : Dev) (n : Nat) : Nat := min (fld (reg d .PWR_RAIL_CFG 0 n) 21 12 * 5) (railOv d n - 5)
def railFilter (d : Dev) (n : Nat) : Nat := zeroAs 1 (fld (reg d .PWR_RAIL_CFG 0 n) 11 4)

/-- RAIL_WINDOW_VIOLATION: a rail that should be up crosses a threshold for a time in µs (R347). A crossing shorter than the filter is only counted. -/
def railWindowViolation (d : Dev) (n mv micros : Nat) : Dev :=
  let r := getRail d n
  if r.st ≠ .up ∨ ¬ (mv < railUv d n ∨ railOv d n < mv) then d
  else if micros < railFilter d n then bump (setRail d n { r with glitches := sat (r.glitches + 1) 0xFFFF, mv := mv }) .PWR_CNT 0 4
  else railFails (bump d .PWR_CNT 0 3) n (if mv < railUv d n then 2 else 3) mv

/-- RISE_MS and FALL_US of a rail (PWR_RAIL_TIME). -/
def riseNs (d : Dev) (n : Nat) : Nat := ms (clampTo 1 50 (fld (reg d .PWR_RAIL_TIME 0 n) 31 24))
def fallNs (d : Dev) (n : Nat) : Nat := us (clampTo 10 80 (fld (reg d .PWR_RAIL_TIME 0 n) 23 16))

/-- RAIL_RISEN: an enabled rail is in its window (R351). -/
def railRisen (d : Dev) (n mv mw : Nat) : Dev :=
  let r := getRail d n
  if r.enabledAt.isNone ∨ r.st ≠ .off then d else setRail d n { r with st := .up, cause := 0, mv := mv, mw := mw, enabledAt := none }

/-- RAIL_RISE_TIMEOUT: a rail has not risen within RISE_MS (R351). -/
def railRiseTimeout (d : Dev) (n mv : Nat) : Dev :=
  let r := getRail d n
  match r.enabledAt with
  | some t => if r.st = .off ∧ due d (t + riseNs d n) = true then railFails (bump d .PWR_CNT 0 2) n 1 mv else d
  | none => d

/-! ### Power-down (R352, R353, Timing PWR-2) -/

/-- The groups of Timing PWR-2 in order. -/
def downGroup (g : Nat) : List Nat :=
  match g with
  | 0 => (List.range 16).map fun k => 33 + 2 * k
  | 1 => (List.range 16).map fun k => 32 + 2 * k
  | 2 => (List.range 8).map (20 + ·)
  | 3 => List.range 16 ++ [28, 29]
  | 4 => [30]
  | _ => []

/-- A group is off. A FAILED or SKIPPED rail keeps its mark until the next start (R347). -/
def groupOff (d : Dev) (g : Nat) (keep30 : Bool) : Dev :=
  forEach ((downGroup g).filter fun n => !(keep30 && n == 30)) d fun d n =>
    let r := getRail d n
    if r.st = .up ∨ r.st = .off then setRail d n { r with st := .off, enabledAt := none, mv := 0, mw := 0 } else setRail d n { r with enabledAt := none }

/-- A power-down of R352 or R353 runs: the flush is over its lines, or a reset takes the rails down; a warm reset keeps rail[30]. -/
def downRuns (d : Dev) : Bool := d.pwr.state == .flushing
def downKeeps30 (d : Dev) : Bool := d.per.flush.any fun f => f.kind == .warmReset || f.kind == .restart

/-- RAIL_FALLEN: the group that is going down is below 10 % of nominal, and the next is switched off (R352). -/
def railFallen (d : Dev) : Dev :=
  if downRuns d ∧ d.pwr.down < 5 then { groupOff d d.pwr.down (downKeeps30 d) with pwr.down := d.pwr.down + 1, pwr.downAt := d.now } else d

/-- RAIL_FALL_TIMEOUT: a rail of the group has not fallen within FALL_US: it is marked with cause 4 and kept for the Vault's record, and the next group follows at once (R352). -/
def railFallTimeout (d : Dev) (n mv : Nat) : Dev :=
  if downRuns d ∧ due d (d.pwr.downAt + fallNs d n) = true ∧ (downGroup d.pwr.down).contains n = true ∧ ¬ (n = 30 ∧ downKeeps30 d = true) then
    let d := groupOff d d.pwr.down (downKeeps30 d)
    let d := bump (setRail d n { getRail d n with cause := 4, mv := mv }) .PWR_CNT 0 5
    { d with pwr.down := d.pwr.down + 1, pwr.downAt := d.now, pwr.downFail := if (d.pwr.downFail >>> n) % 2 = 1 then d.pwr.downFail else d.pwr.downFail + 2 ^ n }
  else d

/-! ### The input (R350) -/

/-- INPUT_OVERVOLTAGE: each episode above 61 V longer than the filter, in 10 mV and µs. -/
def inputOvervoltage (d : Dev) (mv10 micros : Nat) : Dev :=
  if d.pwr.state = .off then d
  else
    let d := { d with pwr.inputMv := mv10 * 10 }
    if 6100 < mv10 ∧ zeroAs 1 (hfld d .PWR_INPUT_CFG 7 0) < micros then raise d { cls := 0, cause := 0x04, unit := uHub 7, addr := mv10, sev := some 2 } else d

/-- Nothing has power any more (R350, R422): the device is OFF without a flush; a flush or replay under way ends where it stands (Table PER-4). -/
def powerGone (d : Dev) : Dev :=
  let d := leaveProving d 5
  let s (x : SumpSet) : SumpSet := cutWriting (holdAgain x)
  { d with pwr.state := .off, pwr.move := none, pwr.latched := none, pwr.maint := false, pwr.inputGood := false, pwr.upping := false, reqs := [], per.flush := none,
           per.sump := d.per.sump.map fun p => (p.1, s p.2.1, s p.2.2),
           pwr.rails := nmap d.pwr.rails fun r => { r with st := .off, enabledAt := none, mv := 0, mw := 0 } }

/-- INPUT_BELOW_36V: the bootstrap regulator stops (R350). -/
def inputBelow36V (d : Dev) (mv10 : Nat) : Dev := if d.pwr.state = .off then d else { powerGone d with pwr.inputMv := mv10 * 10 }

/-- THERMAL_TRIP: every converter is off (R422). -/
def thermalTrip (d : Dev) : Dev := if d.pwr.state = .off then d else powerGone d

/-! ### Clock domains and hub functions (R12, R24, R25) -/

/-- CLOCK_DOMAIN_LOSS: the fault of the domain's class (Table ARC-6, Table FLT-2). -/
def clockDomainLoss (d : Dev) (n : Nat) : Dev :=
  let e (cls unit : Nat) : FaultEvt := { cls := cls, cause := 0x01, unit := unit, addr := n }
  if d.pwr.state = .off ∨ 100 ≤ n then d else
  let d := { d with flt.unlocked := sinsert d.flt.unlocked n }
  if n < 16 then raise (fenceCourse d n 0x01) (e 2 (uCourse n))
  else if n < 32 then raise (forEach (courseCells (n - 16)) d fun d c => mediaOffline d c 4) (e 2 (uCourse (n - 16)))
  else if n < 48 then raise (fenceCourse d (n - 32) 0x01) (e 2 (uCourse (n - 32)))
  else if n < 56 then raise (forEach ((List.range 32).map (32 * (n - 48) + ·)) d fun d c => failChannel d c 1) (e 2 (uHbm (32 * (n - 48))))
  else if n < 88 then raise (forEach ((List.range 8).map (8 * (n - 56) + ·)) d fenceByUnit) (e 2 (uPort (8 * (n - 56))))
  else if n < 90 then raise d (e 3 (uHub 0)) .noFlush
  else if n = 92 then clocksStop d 0x01 (uHub 0) 92
  else if n = 90 ∨ n = 95 ∨ n = 96 ∨ n = 98 then raise d (e 2 (uHub 0))
  else raise d (e 3 (uHub 0))

/-- HUB_FUNCTION_FAILURE: C3 at the function (R12, Table FLT-2). -/
def hubFunctionFailure (d : Dev) (i : Nat) : Dev := if d.pwr.state = .off then d else raise { d with flt.hubFailed := sinsert d.flt.hubFailed i } { cls := 3, cause := 0x19, unit := uHub i }

end Sys2Proof.Machine
end

