-- ==== Sys2Proof/Machine/Start.lean ====
section
/-!
DEFINITION. Resets and the start order: what each kind of start keeps, the steps of Table STA-9, the opening of service, the group leader, and formatting a device
(spec/15_startup.md R335 to R345; spec/16_power.md R351, R358; spec/09_media.md R178, R179, R203; spec/11_pair_custody.md R255).
-/
namespace Sys2Proof.Machine
open Sys2Proof

/-! ### What a reset keeps (R338, Table PER-1) -/

/-- A local time as federation time: what a power loss records of the end of a quarantine (R55). -/
def recordedEnd (d : Dev) (t : Nat) : Nat := fedTime d + t - d.now

/-- A connection at a reset: its index stands in QUARANTINE, as the power loss left it or, where its clocks stopped before that, for Q from now; it keeps its generation, and the end of its
quarantine in federation time (R55, R76, R127). -/
def restConn (d : Dev) (c : Conn) : Conn :=
  { ({} : Conn) with state := if c.state = .free then .free else .quarantine, gen := c.gen,
                     deadline := if c.state = .free then 0 else recordedEnd d (if c.state = .quarantine then c.deadline else d.now + quarMs d) }

/-- A chamber at a reset: a DELETE under way goes on with its release; of a CREATE under way nothing is kept (Table CHM-3). -/
def restChamber (c : Chamber) : Chamber := if c.state = .draining then { c with state := .releasing } else c

/-- A key at a reset: an invalidation under way is complete, and its index is quarantined for Q from the opening of service; the end of any other quarantine is recorded in federation time (R53,
R55). -/
def restKey (d : Dev) (k : KeyEnt) : KeyEnt :=
  if k.inval then { k with inval := false, state := .quarantine, qEnd := some 0, qWhole := true }
  else if k.state = .quarantine then { k with qEnd := k.qEnd.map (recordedEnd d) } else k

/-- A watched pair's record is in the Vault; what was heard of its twins is not (R236). -/
def restWatch (w : Watch) : Watch := { ({ pair := w.pair } : Watch) with valid := w.valid, cw := w.cw, solo := w.solo, stale := w.stale, last := w.last }

/-- An HBM channel at a reset: retirements, FAILED and the entries of the correctable-error table (R209) survive a warm reset, retirements with PERSIST and queued repairs every start (R219, R227, R228). -/
def restHbm (warm : Bool) (h : Hbm) : Hbm :=
  { ({} : Hbm) with st := if warm ∧ h.st = .failed then .failed else .offline, cause := if warm ∧ h.st = .failed then h.cause else 0,
                    ce := if warm then h.ce else [], retired := if warm then h.retired else h.retired.filter (·.2), ppr := h.ppr, spares := h.spares, fixed := h.fixed }

/-- The Vault at a start (R399, R400): a program under way leaves its unit undefined, an erase its sector with the flag set, and every flagged sector waits for its re-erase. -/
def restVault (d : Dev) : VaultPart :=
  let cut : List VaultOp := d.vlt.op.toList ++ d.vlt.inner.toList
  let progs := cut.filter fun o => o.kind == 1
  { user := d.vlt.user, undef := progs.foldl (fun m o => nset m (o.off / 4) (8, d.free)) d.vlt.undef, flags := d.vlt.flags, reErase := d.vlt.flags }

/-- A disabled line array stays disabled until power-on (R165). -/
def restAlc (_ : Alcove) : Alcove := { disabled := true }

/-- A media channel at a reset: what its dies and the Vault hold (R174 to R201). -/
def restMedia (now : Nat) (m : Media) : Media :=
  let m := stopMedia now m
  { m with st := .offline, cause := 0, sbs := nmap m.sbs fun s => { s with erased := [] }, temps := [], checks := [], cache := [], hand := 0, lastErr := (0, 0), rejected := false, timeouts := [],
                         scrub := m.ckScrub, scrubStart := m.ckStart, reads := m.ckReads, readsBase := m.ckBase }

/-- After a start each block's read count is that of the checkpoint and RD_LIMIT × 2,500 (R198). -/
def resumeReads (d : Dev) (c : Nat) : Dev :=
  let m := getMed d c
  let n := zeroAs 1 (cfld d .MED_SCRUB_CFG c 23 16) * 2500
  setMed d c { m with reads := nmap m.reads (· + n), readsBase := m.readsBase + n }

/-- A snapshot at a reset: a PENDING one is released (R277); no page of it is on its way to T2. -/
def restSnap (s : Snap) : Snap :=
  { s with state := if s.state = .pending then .releasing else s.state, pages := nmap s.pages fun p => { p with moving := false } }

/-- The class bits of FLT_STATUS at a reset: C4 clears only at power-on, and C2 sets again while an HBM channel stays FAILED (R363). -/
def restBits (d : Dev) (warm : Bool) : BitVec 5 := if warm then d.flt.bits &&& 0b10000 else 0

/-- The lines that the power loss or warm reset found dirty, when the run that ends had opened service (R141). -/
def linesAtLoss (d : Dev) : List Nat := if d.ldr.step = 15 then (allCells.map (dirtyLines d)).flatten else d.per.atLoss

/-- A register is of class ST (R6). -/
def keepsReg (k : Nat) : Bool := (keyReg k).any fun r => (regInfo r).cls == .st

/-- The last tamper trip that the Vault journal holds (KEY_TAMPER_STATUS). -/
def lastTrip (d : Dev) : Nat := (((d.log.jrn.recs.filter fun r => r.cause == 0x15).getLast?).map (·.addr)).getD 0

/-- The device as a start finds it: power-on keeps the contents of the Vault, of T2 and of the fuses; a warm reset keeps also ST registers, the calendar and the frame retire table
(R338). -/
def freshDev (d : Dev) (warm : Bool) : Dev :=
  let hbm := nmap d.hbm (restHbm warm)
  let bad := (hbm.filter fun p => p.2.st == .failed).map (·.1)
  { now := d.now, free := d.free + 8, out := d.out,
    regs := if warm then d.regs.filter fun p => keepsReg p.1 else [],
    flt := { bits := restBits d warm ||| (if warm ∧ bad ≠ [] then 0b00100 else 0), halt := d.flt.halt, latch := d.flt.latch, fences := bad.foldl (fun m c => nset m c 0x0C) [] },
    log := { jrn := { recs := d.log.jrn.recs, programmed := d.log.jrn.programmed, erasing := d.log.jrn.erasing, nextErased := d.log.jrn.nextErased } },
    tst := { testMode := d.tst.testMode },
    chm := { chambers := nmap (d.chm.chambers.filter fun p => p.2.state != .creating) restChamber, keys := nmap d.chm.keys (restKey d) },
    conns := nmap d.conns (restConn d), nextReq := d.nextReq, mem := d.mem, poison := d.poison, blanket := d.blanket, cured := d.cured,
    tier := { alc := if warm then nmap (d.tier.alc.filter fun p => p.2.disabled) restAlc else [], map := d.tier.map, t2p := d.tier.t2p, mapBad := d.tier.mapBad, charge := d.tier.charge, gone := if warm then d.tier.gone else [], snapGib := d.tier.snapGib },
    per := { owed := d.per.owed, atLoss := linesAtLoss d, sump := d.per.sump.map fun p => (p.1, { p.2.1 with erased := [] }, { p.2.2 with erased := [] }), record := d.per.record, lastResult := d.per.lastResult,
             railCells := d.per.railCells, recordFailed := d.per.recordFailed },
    cus := { pairClaim := d.cus.pairClaim, ownClaim := d.cus.ownClaim, stale := d.cus.stale, solo := d.cus.solo, lost := d.cus.lost, nextNumber := d.cus.nextNumber,
             marks := d.cus.marks, pull := d.cus.pull, wholePull := d.cus.wholePull, metaChm := d.cus.metaChm, metaKeys := d.cus.metaKeys },
    watch := nmap d.watch restWatch,
    mode := { epoch := d.mode.epoch, gen := d.mode.gen },
    tim := { vaultTime := d.tim.vaultTime },
    cal := if warm then { ents := d.cal.ents, orders := d.cal.orders } else {},
    act := { seq := d.act.seq },
    snap := { snaps := nmap d.snap.snaps restSnap },
    ldr := { stepAt := d.now, trigger := d.now, posted := d.ldr.posted, startCount := d.ldr.startCount, token := d.ldr.token, vaultSlot := d.ldr.vaultSlot,
             vaultStagger := d.ldr.vaultStagger },
    pwr := { downFail := d.pwr.downFail, inputMv := d.pwr.inputMv, inputGood := d.pwr.inputGood, powerFailN := if warm then d.pwr.powerFailN else true, resetN := d.pwr.resetN, gated := allCells,
             rails := if warm then (d.pwr.rails.filter fun p => p.1 == 30 || p.1 == 31) else [] },
    sec := { seededAt := d.now, slots := d.sec.slots.filter fun p => decide (p.1 < 3584), cleared := d.sec.cleared, owners := d.sec.owners, revoked := d.sec.revoked,
             vendorRevoked := d.sec.vendorRevoked, mediaEpoch := d.sec.mediaEpoch, mediaErased := d.sec.mediaErased, tamper := if warm then d.sec.tamper else lastTrip d },
    vlt := restVault d, hbm := hbm, med := nmap d.med (restMedia d.now) }

/-! ### Power-up and stagger (R339, R351) -/

/-- The stagger slot of this start (R339): posted, else the one stored, else the low 4 bits of the last byte of the device ID. -/
def startSlotOf (d : Dev) : Nat :=
  match d.ldr.posted, d.ldr.vaultSlot with
  | some s, _ => s
  | none, some s => s
  | none, none => Config.deviceId 3 % 16

/-- STAGGER in ns, as the Vault holds it. -/
def staggerNs (d : Dev) : Nat := ms (10 * min 50 d.ldr.vaultStagger)

/-- The stagger begins: the slot posted for one start is used up (R339). -/
def beginStagger (d : Dev) (from_ : Nat) : Dev :=
  let s := startSlotOf d
  { d with ldr.slot := s, ldr.posted := none, ldr.staggerEnd := some (from_ + s * staggerNs d), pwr.upStep := 1 }

/-- The records that a start writes of what happened before it (R352, R367, R372). -/
def tellPast (d : Dev) : Dev :=
  let d := match d.flt.latch with
    | some (c, u, a) =>
      let d := raise { d with flt.latch := none } { cls := 4, cause := c, unit := u, addr := a, sev := some 3 } .stay
      { d with flt.halt := d.flt.first }
    | none => d
  if d.pwr.downFail = 0 then d
  else
    let n := ((List.range 64).find? fun i => (d.pwr.downFail >>> i) % 2 == 1).getD 0
    raise d { cls := 2, cause := 0x02, unit := uRail n, detail := [d.pwr.downFail % 2 ^ 32, d.pwr.downFail / 2 ^ 32], sev := some 2 }

/-- The start order begins: a power-on raises rail[31] first; after a warm reset hub and always-on rails are up and the stagger begins at once (R338, R339, R353). -/
def beginOrder (d : Dev) (warm : Bool) : Dev :=
  let d := { d with ldr.trigger := d.now, ldr.stepAt := d.now, pwr.upping := true, pwr.upFrom := d.now }
  if warm then
    let d := if (getRail d 30).st = .up then d else enableRail d 30
    tellPast (beginStagger d d.now)
  else enableRail { d with pwr.upStep := 0 } 31

/-- A start (R338, R418): while RESET_N is low the device holds at the beginning of step 1. -/
def beginStart (d : Dev) (warm : Bool) : Dev :=
  let d := { freshDev d warm with pwr.state := .starting }
  if d.pwr.resetN then beginOrder d warm else if warm then d else enableRail (enableRail d 31) 30

/-- POWER_GOOD: the input has been between 41 V and 60 V for 10 ms (R350, R351). -/
def powerGood (d : Dev) (mv10 : Nat) : Dev :=
  if d.pwr.state = .off ∨ (d.pwr.state = .starting ∧ d.pwr.inputGood = false) then
    beginStart { d with pwr.inputGood := true, pwr.inputMv := mv10 * 10 } false
  else { d with pwr.inputMv := mv10 * 10 }

/-- The groups of Timing PWR-1 after the stagger: time after X in ms, and the rails. -/
def upGroup (n : Nat) : Nat × List Nat :=
  match n with
  | 2 => (10, (List.range 8).map (20 + ·))
  | 3 => (20, [16, 17, 18, 19])
  | _ =>
    let j := (n - 4) / 2
    if n % 2 = 0 then (30 + 10 * j, (List.range 4).map fun i => 32 + 2 * (4 * j + i)) else (31 + 10 * j, (List.range 4).map fun i => 33 + 2 * (4 * j + i))

/-- POWER_UP_STEP: the next group of Timing PWR-1 is enabled at its time, whether or not the rails before it rose; 50 ms after power good the Vault has been read and the stagger
begins (R339, R351). -/
def powerUpStep (d : Dev) : Dev :=
  if d.pwr.state ≠ .starting ∨ d.pwr.upping = false then d
  else
    let n := d.pwr.upStep
    if n = 0 then
      if due d (d.pwr.upFrom + ms 50) then tellPast (beginStagger d (d.pwr.upFrom + ms 50))
      else if due d (d.pwr.upFrom + ms 5) ∧ (getRail d 30).enabledAt = none ∧ (getRail d 30).st = .off then enableRail d 30 else d
    else if 2 ≤ n ∧ n < 12 ∧ due d (d.pwr.upFrom + ms (upGroup n).1) = true then { forEach (upGroup n).2 d enableRail with pwr.upStep := n + 1 }
    else d

/-- STAGGER_END: the course cores and the media I/O rails are enabled (R339, Timing PWR-1 step 6). -/
def staggerEnd (d : Dev) : Dev :=
  match d.ldr.staggerEnd with
  | some t =>
    if d.pwr.state = .starting ∧ d.pwr.upping = true ∧ d.pwr.upStep = 1 ∧ due d t = true then
      { forEach (List.range 16 ++ [28, 29]) d enableRail with pwr.upStep := 2, pwr.upFrom := d.now, ldr.staggerEnd := none }
    else d
  | none => d

/-! ### Channels (R178, R179, R203, R219) -/

/-- The carrier of a cell is up, with what it needs. -/
def carrierUp (d : Dev) (c : Nat) : Bool := (carrierRails (c / 16)).all fun n => (getRail d n).st == .up

/-- A media channel with its map and data as they were (R203). -/
def mediaReturns (d : Dev) (c : Nat) : Dev :=
  let m := getMed d c
  if diesOf m < 12 then setMed d c { m with st := .offline, cause := 3 }
  else setMed d c { m with st := if m.rebuild.isSome then .rebuilding else if m.formatLeft = [] then .online else .formatting }

/-- The identity that a format writes: the spec gives no value. -/
def newIdentity (d : Dev) : Nat := freeVal d % 2 ^ 64

/-- The start of a media channel (R178, R179): OFFLINE, first format, as it was, or replaced. -/
def startMedia (d : Dev) (c : Nat) (f : MediaFound) : Dev :=
  let m := getMed d c
  if m.st ≠ .offline ∨ m.cause ≠ 0 then d
  else if !carrierUp d c then setMed d c { m with cause := if (getRail d (28 + c / 128)).st = .failed then 4 else 2 }
  else if !f.paramsOk || tooManyBad f.bad then setMed d c { m with cause := 1 }
  else if m.vaultId = 0 then formatChannel (freeStep d) c (newIdentity d) false true f.bad
  else if f.identity.any fun i => i.toNat == m.vaultId then mediaReturns d c
  else
    let d := formatChannel (freeStep d) c (newIdentity d) true true f.bad
    raise { d with cus.wholePull := sinsert d.cus.wholePull c }
      { cls := 4, cause := 0x0F, unit := uMedia c, addr := (f.identity.map (·.toNat)).getD 0, sev := some 3 } .stay

/-- The start of an HBM channel: training brings it ONLINE or fails it (R219); its stack must have power. -/
def startHbm (d : Dev) (c : Nat) (bad : Bool) : Dev :=
  let h := getHbm d c
  if h.st = .failed ∨ (getRail d (20 + c / 32)).st ≠ .up then d
  else if bad then failChannel d c 2 else setHbm d c { h with st := .online, windowEnd := d.now + ms 32, scrubPos := 0, scrubNext := d.now }

/-- What the start finds on a cell's channel: the dies as they were, unless the command says otherwise. -/
def foundOn (d : Dev) (l : List (Fin 256 × MediaFound)) (c : Nat) : MediaFound :=
  ((l.find? fun x => x.1.val == c).map (·.2)).getD
    ⟨true, if (getMed d c).identity = 0 then none else some (BitVec.ofNat 64 (getMed d c).identity), []⟩

/-- A step of the order begins; the end of the one before it is kept in ms after the trigger (LDR_STEP_TIME). -/
def enterStep (d : Dev) (n : Nat) : Dev :=
  { d with ldr.step := n, ldr.stepAt := d.now, ldr.stepEnds := nset d.ldr.stepEnds (n - 2) ((d.now - d.ldr.trigger) / 1000000) }

/-- CHANNEL_TRAINING_DONE: HBM and media channels are trained, and step 1 ends, once every rail is up or flagged and every cell has woken (R351, R358, Table STA-9). -/
def channelTrainingDone (d : Dev) (hbmBad : List (Fin 256)) (media : List (Fin 256 × MediaFound)) : Dev :=
  if d.pwr.state ≠ .starting ∨ d.ldr.step ≠ 1 ∨ d.pwr.upStep < 12 ∨ (d.pwr.gated.any fun c => !cellFenced d c) = true ∨ (d.pwr.rails.any fun p => p.2.enabledAt.isSome) = true then d
  else
    let d := forEach allCells d fun d c => startHbm d c (hbmBad.any fun b => b.val == c)
    let d := forEach allCells d fun d c => startMedia d c (foundOn d media c)
    enterStep { d with pwr.upping := false, pwr.gated := [] } 2

/-! ### Step 2 (R335 to R337) -/

/-- IMAGE_LOAD_COMPLETE: the copies have been read and checked (R334 to R337). -/
def imageLoadComplete (d : Dev) (a b : ImgCopy) : Dev :=
  if d.pwr.state ≠ .starting ∨ d.ldr.step ≠ 2 ∨ d.ldr.retryAt.isSome = true then d
  else
    let x := chooseCopy d a b
    let d := { d with ldr.copyA := x.a, ldr.copyB := x.b }
    match x.chosen with
    | none => holdStep2 d 12
    | some useB =>
      let c := if useB then b else a
      let d := if x.divergent then raise { d with ldr.divergent := true } { cls := 0, cause := 0x1C, unit := uHub 1, sev := some 1 } else d
      match chosenCheck c, ownRec c with
      | 0, some r => enterStep (applyImage d c r useB) 3
      | n, _ => holdStep2 d n

/-- IMAGE_RETRY_TIMER: the whole of step 2 is repeated (R335, R336). -/
def imageRetryTimer (d : Dev) : Dev := if d.ldr.retryAt.any fun t => due d t then { d with ldr.retryAt := none } else d

/-- MODULE_REREAD_TIMER: the header and signature of both copies are read again and compared (R327). -/
def moduleRereadTimer (d : Dev) (differs : Bool) : Dev :=
  if !d.ldr.imageLoaded || isDown d || !due d d.ldr.rereadAt then d
  else
    let d := { d with ldr.rereadAt := d.now + sec 10 }
    if differs ∧ d.ldr.moduleWritten = false then logEvent { d with ldr.moduleWritten := true } 1 (uHub 1) [] else d

/-! ### Step 5: replay and format (R142, R146, R345) -/

/-- A set is discarded: its blocks are erased. -/
def discardSet (s : SumpSet) : SumpSet := if s.state = .holding ∨ s.state = .writing then { ({} : SumpSet) with state := .erasing, maxPE := s.maxPE } else s

/-- A media channel that a format finds OFFLINE: its entries go as those of a replaced one, and its carrier is taken as another when it returns (R179, R345). -/
def formatAway (d : Dev) (c : Nat) : Dev := forgetChannel (freeStep (setMed d c { getMed d c with vaultId := newIdentity d })) c true

/-- A key of a chamber that a format has returned to FREE: its index is quarantined for Q from the opening of service, as after any invalidation (R49, R55). -/
def formatKey (gone : List Nat) (k : KeyEnt) : KeyEnt :=
  if gone.contains k.chamber ∧ (k.state = .live ∨ k.inval = true) then { k with inval := false, state := .quarantine, qEnd := some 0, qWhole := true } else k

/-- A snapshot keeps nothing of chambers that a format has returned to FREE. -/
def formatSnap (gone : List Nat) (s : Snap) : Snap :=
  { s with chambers := s.chambers.filter fun c => !gone.contains c, pages := s.pages.filter fun p => !gone.contains (keyChamber p.1) }

/-- A device formats itself (R345): sump sets discarded, every media channel handled as replaced, which sets every cell's whole-cell pull flag, non-Mirrored chambers FREE, the token stored. -/
def formatDevice (d : Dev) (token : Nat) : Dev :=
  let d := { d with per.sump := d.per.sump.map fun p => (p.1, discardSet p.2.1, discardSet p.2.2), per.owed := none, per.railCells := [] }
  let gone := (d.chm.chambers.filter fun p => p.2.cls != .mirrored).map (·.1)
  let d := forEach gone d fun d n => { d with mem := memClear d.mem (chmAddr n 0) (2 ^ 50) }
  let keep (k : Nat) : Bool := !gone.contains (keyChamber k)
  let d := { d with chm.chambers := d.chm.chambers.filter (fun p => p.2.cls == .mirrored), poison := d.poison.filter (fun l => keep (l / 128)),
                    chm.keys := nmap d.chm.keys (formatKey gone), snap.snaps := nmap d.snap.snaps (formatSnap gone),
                    tier.map := d.tier.map.filter (fun p => keep p.1), tier.t2p := d.tier.t2p.filter (fun l => keep (l / 128)),
                    tier.charge := d.tier.charge.filter fun p => keep p.1 }
  let d := forEach allCells d fun d c =>
    let d := if mediaOn d c then formatChannel (freeStep d) c (newIdentity d) true false [] else formatAway d c
    raise { d with cus.wholePull := sinsert d.cus.wholePull c } { cls := 4, cause := 0x0F, unit := uMedia c, addr := (getMed d c).identity, sev := some 3 } .stay
  settleKeys { d with ldr.token := token, ldr.formatted := true, ldr.replayed := true, blanket := d.blanket.filter (fun x => keep (pageKey (x.1 % 2 ^ 16) 0)) }

/-- REPLAY_COMPLETE: sump replay and map roots, or the format in their place (R142, R146, R147, R345). -/
def replayComplete (d : Dev) (metaBad : List (Fin 256)) (bad : List Nat) : Dev :=
  if d.pwr.state ≠ .starting ∨ d.ldr.step ≠ 5 ∨ d.ldr.replayed = true then d
  else
    match d.ldr.format with
    | some t => formatDevice d t
    | none =>
      match replayAll d (metaBad.map (·.val)) bad with
      | (d, true) => { forEach (allCells.filter (mediaOn d)) d resumeReads with ldr.replayed := true }
      | (d, false) => d

/-! ### Steps 3 to 10 (Table STA-9) -/

/-- A port whose link the start waits for. -/
def portWanted (d : Dev) (p : Nat) : Bool :=
  let r := portRole d p
  r != 0 && decide (r ≤ 4) && (getPort d p).fence.isNone && !cellFenced d p

/-- The pair forms (R255): claims, records, marks, pull lists and the stale flag are loaded, and STATUS leaves. A device that has formatted itself is stale, takes the records of its
twin whatever the claims, and yields (R345); without a witness it is not stale and yields nothing (R235). -/
def enterFormation (d : Dev) : Dev :=
  let alone := standalone d
  let d := { d with cus.settled := alone, cus.state := if alone then .joined else .awaiting, cus.twin := none, cus.heardTwin := d.now, cus.heardWitness := d.now,
                    cus.twinSuspect := false, cus.witSuspect := false, cus.formStart := d.now, cus.coldOver := false, cus.joinedSince := d.now, cus.nextBeat := d.now,
                    cus.nextCompare := d.now + sec (hfld d .CUS_CFG2 7 0 * 86400),
                    watch := nmap d.watch fun w => { w with heardEven := d.now, heardOdd := d.now } }
  if alone then dropCreating d
  else if d.ldr.formatted then sendYield (sendStatusMsg { d with cus.stale := d.cus.witness.isSome, cus.lost := true }) else sendStatusMsg d

/-- What the entry of a step does. -/
def atEntry (d : Dev) (n : Nat) : Dev :=
  match n with
  | 5 => originateLs (queryMode d)
  | 6 => enterFormation d
  | 8 => startElection d
  | 9 => { d with fab.convFrom := some d.now }
  | _ => d

/-- The device goes on to a step of the order. -/
def goStep (d : Dev) (n : Nat) : Dev := atEntry (enterStep d n) n

/-- The step in progress has ended by its own condition (Table STA-9). -/
def stepOver (d : Dev) : Bool :=
  match d.ldr.step with
  | 3 => allCells.all fun p => !portWanted d p || (getPort d p).link == .up
  | 4 => allCells.all fun p => !fabricPort d p || (getPort d p).link != .up || (getPort d p).passed || (getPort d p).fence.isSome
  | 5 => d.ldr.replayed
  | 6 => standalone d || pathsTo d (twinOrd d) == [] || d.cus.twin.isSome
  | 7 => true
  | 8 => rootKnown d
  | 9 => d.fab.converged
  | _ => false

/-- A cell that counts at the opening of service: not fenced, or fenced by a cause that spares its memories, and its media channel not OFFLINE (R135, R144, R203). -/
def liveCell (d : Dev) (c : Nat) : Bool := flushCapable d c && mediaOn d c

/-- The device may enter SERVICE (R342). -/
def mayOpen (d : Dev) : Bool :=
  d.ldr.step == 10 && (d.cus.settled || d.cus.coldOver) && !d.mode.behind && allCells.all fun c => !liveCell d c || hasArmed d c

/-- A set that was replayed is erased once service has opened (Table PER-4). -/
def eraseReplayed (s : SumpSet) : SumpSet := if s.state = .replaying then { s with state := .erasing, lines := [], staged := [], received := [], refPages := [], erased := [] } else s

/-- Quarantines run on from the opening of service: to their recorded end, and for 10 ms at least (R49, R55, R76). -/
def runsTo (d : Dev) (e : Nat) : Nat := d.now + max (ms 10) (e - fedTime d)
def requarantineKey (d : Dev) (k : KeyEnt) : KeyEnt :=
  if k.state = .quarantine then { k with qEnd := k.qEnd.map fun e => if k.qWhole then d.now + quarMs d else runsTo d e, qWhole := false } else k
def requarantineConn (d : Dev) (c : Conn) : Conn := if c.state = .quarantine then { c with deadline := runsTo d c.deadline } else c

/-- Service opens (R342): slot and STAGGER go to the Vault, the flush owed is that of this start, replayed sets are erased, a vendor revocation of the image blows its fuse (R322), and the
twin announces the pair route (R122). -/
def openService (d : Dev) : Dev :=
  let d := enterStep d 11
  let d := { d with ldr.step := 15, pwr.state := .service, ldr.vaultSlot := some d.ldr.idSlot, ldr.vaultStagger := hfld d .LDR_START_CFG 7 0,
                    per.owed := some d.ldr.startCount, per.railCells := [], per.sump := d.per.sump.map fun p => (p.1, eraseReplayed p.2.1, eraseReplayed p.2.2),
                    chm.keys := nmap d.chm.keys (requarantineKey d), conns := nmap d.conns (requarantineConn d),
                    sec.vendorRevoked := match d.ldr.revokes with
                      | some v => sinsert d.sec.vendorRevoked v
                      | none => d.sec.vendorRevoked }
  custodyTurn (announce d)

/-- The order goes on as far as its conditions let it (R338, R342). -/
def advance : Nat → Dev → Dev
  | 0, d => d
  | n + 1, d =>
    if d.pwr.state ≠ .starting then d
    else if mayOpen d then openService d
    else if 3 ≤ d.ldr.step ∧ d.ldr.step < 10 ∧ stepOver d = true then advance n (goStep d (d.ldr.step + 1))
    else d

def startProgress (d : Dev) : Dev := advance 9 d

/-- START_STEP_TIMEOUT: the bound of step 3, 4, 6 or 8 has passed (Table STA-9): untrained ports count as down, unchecked ports are fenced, the pair stays Awaiting, the time root is
elected from what is known. -/
def startStepTimeout (d : Dev) : Dev :=
  if d.pwr.state ≠ .starting then d
  else
    let past (n : Nat) : Bool := due d (d.ldr.stepAt + n)
    match d.ldr.step with
    | 3 => if past (ms 500) then goStep d 4 else d
    | 4 =>
      if past (ms 50) then
        goStep (forEach (allCells.filter fun p => fabricPort d p && (getPort d p).link == .up && !(getPort d p).passed && (getPort d p).fence.isNone) d
          fun d p => identityFails d p 4 0) 5
      else d
    | 6 => if past (ms 200) then goStep d 7 else d
    | 8 => if past (ms 100) then goStep (elect d) 9 else d
    | _ => d

/-! ### Group leader (R341) -/

/-- Declared members of the group that the database has no record of. -/
def absentMembers (d : Dev) : Nat := ((List.range d.ldr.ident.group).filter fun m => !nhas d.fab.db (64 * groupNo d + m)).length

/-- The lowest member of the group with a record, or this device when it is lower. -/
def groupLeader (d : Dev) : Nat := ((List.range 64).find? fun m => nhas d.fab.db (64 * groupNo d + m) || 64 * groupNo d + m == ordinal d).map (64 * groupNo d + ·) |>.getD (ordinal d)

/-- The device leads its group. -/
def isLeader (d : Dev) : Bool := decide (7 ≤ d.ldr.step) && groupLeader d == ordinal d

/-- Every declared member has a record, and every LOCAL link between members is up. -/
def groupComplete (d : Dev) : Bool :=
  absentMembers d == 0 && d.fab.topo.links.all fun l => l.role != 3 || l.a / 64 != groupNo d || linkUp d l

/-- The leader sets COMPLETE once, with an S0 record (R341). -/
def leaderCheck (d : Dev) : Dev :=
  if isLeader d && !d.ldr.complete && groupComplete d && !isDown d then logEvent { d with ldr.complete := true } 0 (uHub 1) [groupNo d] else d

/-- LEADER_WAIT_EXPIRY: 10 s after its step 9 a leader writes an S1 record with the number of members absent (R341). -/
def leaderWaitExpiry (d : Dev) : Dev :=
  match nget d.ldr.stepEnds 8 with
  | some t =>
    if isLeader d && !d.ldr.complete && !d.ldr.leaderTold && !isDown d && due d (d.ldr.trigger + ms t + sec 10) then
      logEvent { d with ldr.leaderTold := true } 1 (uHub 1) [absentMembers d]
    else d
  | none => d

end Sys2Proof.Machine
end

