-- ==== Sys2Proof/Machine/Power.lean ====
section
/-!
DEFINITION. The end of a flush and what follows it, resets by RESET_N, the power states, wake-ups and link doze (spec/07_persistence.md R135 to R140; spec/16_power.md R349,
R354 to R361; spec/15_startup.md R338; spec/20_electrical.md R418; spec/17_faults_and_events.md R366, R367, R372, R379).
-/
namespace Sys2Proof.Machine
open Sys2Proof

/-! ### The end of a flush (R135 step 5, R139) -/

/-- The dirty data lines of a cell in ascending T1 address (R136). -/
def linesByT1 (d : Dev) (c : Nat) : List Nat :=
  let m := (cellFrames d c).foldl (fun m p => if countedClass (classOfPage d p.1) && p.2.lines != [] then nset m p.2.slot p.1 else m) ([] : NMap Nat)
  (m.map fun p => (((getFrame d p.2).map (·.lines)).getD []).map fun i => p.2 * 128 + i).flatten

/-- The dirty staging frames of a cell, which lie below the data area (Table TIR-1), by act and page. -/
def stagedFrames (d : Dev) (c : Nat) : List (Nat × Nat) :=
  (d.snap.snaps.map fun s => ((s.2.pages.filter fun p => p.2.staging && homeOf p.1 == c && countedClass (classOfPage d p.1)).map fun p => (s.1, p.1))).flatten

/-- The lines that a set holds after its first n data lines: staging frames first, then frames, in ascending T1 address (R136). -/
def storedLines (d : Dev) (c n : Nat) : List (Nat × Nat × Nat) × List Nat :=
  let st := stagedFrames d c
  (st.mapIdx fun i x => (x.1, x.2, min 128 (n - 128 * i)), (linesByT1 d c).take (n - 128 * st.length))

/-- What a flush leaves in the set that a cell was writing: a close record after its last line; or none at a cell named as incomplete, which stored the lines given, at a cell fenced
meanwhile, whose media channel went OFFLINE, and at one that R140 disregards (R136, R140, R141). Metadata comes before the data lines. -/
def closeSet (d : Dev) (c : Nat) (short : Option Nat) (s : SumpSet) : SumpSet :=
  if s.state ≠ .writing then s
  else if s.disregarded ∨ flushCapable d c = false ∨ mediaOn d c = false then { s with state := .holding, closed := false }
  else
    let all := 128 * (stagedFrames d c).length + (linesByT1 d c).length
    let x := storedLines d c (short.getD all)
    { s with state := .holding, closed := short.isNone, staged := x.1.filter fun y => y.2.2 != 0, lines := x.2, refPages := s.refPages ++ refPages d c }

/-- A cell has closed its set of this flush. -/
def closedNow (d : Dev) (c : Nat) : Bool := closedFor d.ldr.startCount (getSump d c).1 || closedFor d.ldr.startCount (getSump d c).2

/-- The words of the flush record (PWR_FLUSH_RECORD). -/
def flushRecord (d : Dev) (f : Flush) (micros incomplete : Nat) : List Nat :=
  [f.fall / 2 ^ 32, f.fall % 2 ^ 32, micros,
   at_ d.ldr.startCount 16 + at_ (if f.kind = .undervoltage then 2 else 0) 8 + sat d.log.jrn.flushDropped 255,
   at_ f.railCells.length 16 + incomplete, linesMib f.dirtyLines, f.lost, linesMib f.maxCell]

/-- One record of the flush goes to the journal, or is dropped where no sector stands erased (R378, R379). -/
def flushJrn (d : Dev) (r : LogRec) : Dev :=
  if jrnReady d then jrnPut d r else bump { d with log.jrn.flushDropped := d.log.jrn.flushDropped + 1 } .LOG_CNT 0 6

/-- Step 9 of the flush programs the first 32 waiting S3 records into the journal (R379). -/
def flushJournal (d : Dev) : Dev :=
  let w := d.log.jrn.waiting.take 32
  let more := d.log.jrn.waiting.length - 32
  let d := bumpBy { d with log.jrn.flushDropped := d.log.jrn.flushDropped + more } .LOG_CNT 0 6 more
  { forEach w d flushJrn with log.jrn.waiting := [] }

/-- Everything that the flush leaves outside T1: sump sets, the flush record, the halt capture, the journal, and rails that are off. Sump blocks that failed a program verify, named as
die × 4 + plane of their cell, are replaced (R145). -/
def flushEnds (d : Dev) (f : Flush) (recordOk : Bool) (micros : Nat) (short worn : List (Fin 256 × Nat)) : Dev :=
  let of (c : Nat) : Option Nat := (short.find? fun x => x.1.val == c).map (·.2)
  let wrote := (d.per.sump.filter fun p => p.2.1.state == .writing || p.2.2.state == .writing).map (·.1)
  let d := { d with per.sump := d.per.sump.map fun p => (p.1, closeSet d p.1 (of p.1) p.2.1, closeSet d p.1 (of p.1) p.2.2) }
  let d := forEach wrote d fun d c => freeStep (bumpBy d .MED_CNT c 2 (freeVal d % 65536))
  let d := forEach worn d fun d x => wornSump d x.1.val (x.2 * 2048)
  let inc := (allCells.filter fun c => !closedNow d c && !f.railCells.contains c).length
  let d := flushJournal { d with per.record := if recordOk then flushRecord d f micros inc else d.per.record, per.recordFailed := !recordOk,
                                 per.railCells := f.railCells, sec.cleared := d.sec.cleared || d.sec.clearAtHalt, sec.clearAtHalt := false,
                                 sec.keyCache := if d.sec.clearAtHalt then [] else d.sec.keyCache, sec.fetching := if d.sec.clearAtHalt then [] else d.sec.fetching,
                                 flt.halt := if f.kind = .severe ∨ f.kind = .tamper ∨ f.kind = .undervoltage then d.flt.first else d.flt.halt }
  let d := forEach ((List.range 5).filter fun g => decide (d.pwr.down ≤ g)) d fun d g => groupOff d g (downKeeps30 d)
  { d with pwr.state := .halted, pwr.down := 0, per.flush := none }

/-- What follows the power-down: a warm reset, the delay of a COORD_RESTART, the automatic restart, or HALTED (R139, R338, R366, R418). -/
def afterFlush (d : Dev) (f : Flush) (pfHigh inputOk : Bool) : Dev :=
  let d := { d with pwr.powerFailN := pfHigh }
  let wanted := d.pwr.resetWanted && !d.flt.grave
  match f.kind with
  | .warmReset => beginStart d true
  | .restart => { d with ldr.delayUntil := some (d.now + ms d.ldr.restartMs) }
  | .powerFail | .undervoltage => if (pfHigh && inputOk && fbit (hreg d .PWR_HOLDUP_CFG) 31) || wanted then beginStart d true else d
  | .severe | .tamper => if wanted then beginStart d true else d

/-- FLUSH_COMPLETE: step 10 of Timing PER-1. The command says whether POWER_FAIL_N is high, whether the input has been in its range for 100 ms, whether the flush record could be
programmed, how long the flush took in µs, which cells left no close record, with the data lines that each had stored, and which sump blocks failed a program verify. -/
def flushComplete (d : Dev) (pfHigh inputOk recordOk : Bool) (micros : Nat) (short worn : List (Fin 256 × Nat)) : Dev :=
  match d.per.flush with
  | some f => if d.pwr.state = .flushing then afterFlush (flushEnds d f recordOk micros short worn) f pfHigh inputOk else d
  | none => d

/-- RESTART_DELAY_EXPIRY: the delay of a COORD_RESTART is over (R338). -/
def restartDelayExpiry (d : Dev) : Dev :=
  match d.ldr.delayUntil with
  | some t => if d.pwr.state = .halted ∧ due d t = true then beginStart d true else d
  | none => d

/-! ### RESET_N (R418) -/

/-- RESET_N_ASSERT: a recognised low, by the device's state. -/
def resetNAssert (d : Dev) : Dev :=
  let d := { d with pwr.resetN := false }
  match d.pwr.state with
  | .service | .quiet | .dormant => beginFlush d .warmReset
  | .flushing => { d with pwr.resetWanted := true }
  | .halted => if d.flt.grave then d else beginStart d true
  | .starting => if d.pwr.inputGood then beginStart (abandonStart d) true else d
  | .off => d

/-- RESET_N_RELEASE: a device held at the beginning of step 1 begins the start order and its stagger. -/
def resetNRelease (d : Dev) : Dev :=
  let held := d.pwr.state = .starting ∧ d.pwr.inputGood = true ∧ d.pwr.upping = false ∧ d.ldr.step = 1
  let d := { d with pwr.resetN := true }
  if held then beginOrder d true else d

/-! ### Power states (R354 to R358) -/

/-- An entry or exit begins. -/
def beginMove (d : Dev) (entry : Bool) (t : DevState) (ns : Nat) : Dev := { d with pwr.move := some ⟨entry, t, d.now, d.now + ns⟩ }

/-- The margin of a rail in steps of 0.5 %, between -10 and 10 (R349, PWR_MARGIN). -/
def marginStep (d : Dev) (n : Nat) : Int :=
  let s : Int := ((reg d .PWR_MARGIN 0 n).setWidth 5).toInt
  max (-10) (min 10 s)

/-- The target voltage of a rail in mV (R349). -/
def railTarget (d : Dev) (n : Nat) : Nat := railNominal n * (1000 + 5 * marginStep d n).toNat / 1000

/-- A rail that is up follows its target, which is what is measured of it (R349; DESIGN CHOICE; log entry 'Margined rails'). -/
def followTarget (d : Dev) (n : Nat) : Dev :=
  let r := getRail d n
  if r.st = .up then setRail d n { r with mv := railTarget d n } else d

/-- Rails whose margin is not 0. -/
def margined (d : Dev) : List Nat := (List.range 64).filter fun n => marginStep d n != 0

/-- How long the margins take to return to 0, at 0.5 % in 50 µs (R349). -/
def marginBack (d : Dev) : Nat := us (50 * (margined d).foldl (fun m n => max m (marginStep d n).natAbs) 0)

/-- Maintenance ends, and every margin returns to 0 (R349). -/
def endMaint (d : Dev) : Dev :=
  let ns := margined d
  forEach ns { d with pwr.maint := false, regs := d.regs.filter fun p => p.1 / (256 * 8192) != RegId.ctorIdx .PWR_MARGIN } followTarget

/-- A request acts in the state the device is in (Table PWR-2): DORMANT is entered through QUIET. Margins return to 0 before an exit from QUIET begins (R349). -/
def actOnRequest (d : Dev) (t : DevState) : Dev :=
  match d.pwr.state, t with
  | .service, .quiet => beginMove d true .quiet (promoMs d + ms 1)
  | .service, .dormant => { beginMove d true .quiet (promoMs d + ms 1) with pwr.latched := some .dormant }
  | .quiet, .service => beginMove (endMaint d) false .service (us 10 + marginBack d)
  | .quiet, .dormant => beginMove (endMaint d) true .dormant (ms 4 + marginBack d)
  | .dormant, .service => beginMove d false .service (us 850)
  | .dormant, .quiet => beginMove d false .quiet (us 820)
  | _, _ => d

/-- A power-state request: latched while an entry or exit runs, the later one replacing an earlier one (R354). -/
def requestState (d : Dev) (t : DevState) : Dev :=
  if !inService3 d then d else if d.pwr.move.isSome then { d with pwr.latched := some t } else actOnRequest d t

/-- The latched request is acted on. -/
def takeLatched (d : Dev) : Dev :=
  match d.pwr.latched with
  | some t => actOnRequest { d with pwr.latched := none } t
  | none => d

/-- The MAINT bit of a write of PWR_STATE_CTRL (R349). -/
def maintBit (d : Dev) (on : Bool) : Dev :=
  if !on then (if d.pwr.maint then endMaint d else d)
  else if (d.pwr.state = .quiet ∧ d.pwr.move = none) ∨ (d.pwr.move.any fun m => m.entry && m.target == .quiet) = true then { d with pwr.maint := true } else d

/-- A write of PWR_STATE_CTRL (R354, R362): GOTO, then MAINT. -/
def stateCtrl (d : Dev) (w : Writer) (t : Option DevState) (maint : Bool) : Dev :=
  command d w .PWR_STATE_CTRL 0 0 (operator d w) fun d =>
    maintBit (match t with
      | some t => requestState d t
      | none => d) maint

/-- GOTO_SERVICE, GOTO_QUIET, GOTO_DORMANT (R354), each with the MAINT bit of the write. -/
def gotoService (d : Dev) (w : Writer) (maint : Bool) : Dev := stateCtrl d w (some .service) maint
def gotoQuiet (d : Dev) (w : Writer) (maint : Bool) : Dev := stateCtrl d w (some .quiet) maint
def gotoDormant (d : Dev) (w : Writer) (maint : Bool) : Dev := stateCtrl d w (some .dormant) maint

/-- MAINT_ENTER and MAINT_END (R349). -/
def maintEnter (d : Dev) (w : Writer) : Dev := stateCtrl d w none true
def maintEnd (d : Dev) (w : Writer) : Dev := stateCtrl d w none false

/-- MARGIN_WRITE: a rail's target moves in maintenance; else DENIED (R349). -/
def marginWrite (d : Dev) (w : Writer) (n : Nat) (v : Word) : Dev :=
  command d w .PWR_MARGIN 0 n (operator d w && d.pwr.state == .quiet && d.pwr.maint) fun d => followTarget (setReg d .PWR_MARGIN 0 n (v &&& regMask .PWR_MARGIN n)) n

/-- Host requests and bulk pieces that are not answered. -/
def hostBusy (d : Dev) : Bool := d.reqs.any fun r => !fromTwin r.kind

/-- QUIET_ENTRY_DONE: every admitted request has been answered (R355). -/
def quietEntryDone (d : Dev) : Dev :=
  if d.pwr.state = .service ∧ (d.pwr.move.any fun m => m.entry && m.target == .quiet) = true ∧ hostBusy d = false then
    takeLatched (bump { d with pwr.state := .quiet, pwr.move := none } .PWR_CNT 0 0)
  else d

/-- QUIET_EXIT_DONE: the device is in SERVICE; suspended bulk commands resume (R354, R355). -/
def quietExitDone (d : Dev) : Dev :=
  if d.pwr.state = .quiet ∧ (d.pwr.move.any fun m => !m.entry && m.target == .service) = true then
    takeLatched (bulkIssue 64 { d with pwr.state := .service, pwr.move := none })
  else d

/-- A channel enters self-refresh; the patrol scrub stays at its position (R224). -/
def sleepHbm (h : Hbm) : Hbm := if h.st = .online then { h with st := .selfRefresh } else h

/-- Cells whose port has role HOST or OFF stop their clock (R356). -/
def gateable (d : Dev) : List Nat := allCells.filter fun c => !fabricPort d c

/-- A frame of the twin has reached a DORMANT device: it goes to QUIET, and the cells that such frames need wake first (R357). -/
def twinWake (d : Dev) : Dev :=
  if d.pwr.state ≠ .dormant then d
  else
    let cs := ((d.reqs.filter fun r => fromTwin r.kind || r.kind == .read).map fun r => (r.parts.filter fun p => !partOver p.st).map (·.cell)).flatten
    if cs = [] then d
    else
      let d := { d with pwr.wakeFirst := cs.foldl sinsert d.pwr.wakeFirst }
      if d.pwr.move.isSome then d else beginMove d false .quiet (us 820)

/-- A channel that becomes dormant suspends its erases, and one that wakes takes up those beside which no read runs (R356). -/
def isErase : MedOp → Bool
  | .erase _ | .eraseSump _ => true
  | _ => false
def restErases (m : Media) : Media := { m with running := nmap m.running fun r => if isErase r.op then { r with suspended := true } else r }
def resumeErases (m : Media) : Media :=
  { m with running := m.running.map fun p => (p.1, if isErase p.2.op ∧ nhas m.running (16 + p.1) = false then { p.2 with suspended := false } else p.2) }

/-- A channel still runs a program pass, or a read. -/
def passRuns (d : Dev) : Bool := d.med.any fun p => p.2.running.any fun r => !isErase r.2.op

/-- DORMANT_ENTRY_DONE: merging buffers drained, every program pass over and the erases suspended, HBM in self-refresh, host cells gated (R356). -/
def dormantEntryDone (d : Dev) : Dev :=
  if d.pwr.state = .quiet ∧ (d.pwr.move.any fun m => m.entry && m.target == .dormant) = true ∧ passRuns d = false then
    let d := forEach (d.tier.alc.map (·.1)) (leaveProving d 5) drainCell
    let d := forEach ((d.hbm.filter fun p => p.2.st == .online).map (·.1)) d fun d c => bump d .HBM_CNT c 6
    twinWake (takeLatched (bump { d with pwr.state := .dormant, pwr.move := none, hbm := nmap d.hbm sleepHbm, med := nmap d.med restErases, pwr.gated := gateable d, pwr.wakeFirst := [] } .PWR_CNT 0 1))
  else d

/-- No channel is in self-refresh. -/
def hbmAwake (d : Dev) : Bool := d.hbm.all fun p => p.2.st != .selfRefresh

/-- DORMANT_EXIT_DONE: every cell is clocked and every channel awake (R356, Timing PWR-3). -/
def dormantExitDone (d : Dev) : Dev :=
  match d.pwr.move with
  | some m =>
    if d.pwr.state = .dormant ∧ m.entry = false ∧ d.pwr.gated = [] ∧ hbmAwake d = true then
      takeLatched (bulkIssue 64 { d with pwr.state := m.target, pwr.move := none, pwr.wakeFirst := [], med := nmap d.med resumeErases })
    else d
  | none => d

/-- The cell of a course that wakes next: one with a waiting frame first, else the lowest slot (R358). -/
def wakeNext (d : Dev) (k : Nat) : Option Nat :=
  let mine := d.pwr.gated.filter fun c => c / 16 == k && !cellFenced d c
  match mine.find? fun c => d.pwr.wakeFirst.contains c with
  | some c => some c
  | none => mine.head?

/-- One course wakes a cell, 50 µs after its last (R358). -/
def wakeCourse (d : Dev) (k : Nat) : Dev :=
  match wakeNext d k with
  | some c =>
    if (nget d.pwr.lastWake k).all fun t => due d (t + us 50) then
      bump { d with pwr.gated := d.pwr.gated.filter (· != c), pwr.lastWake := nset d.pwr.lastWake k d.now } .PWR_CNT 0 6
    else d
  | none => d

/-- CELL_WAKE_SLOT: during power-up, once the carriers are enabled, and during an exit from DORMANT, each course wakes at most one cell (R351, R358). -/
def cellWakeSlot (d : Dev) : Dev :=
  let up := d.pwr.state == .starting && d.pwr.upping && decide (12 ≤ d.pwr.upStep)
  let out := d.pwr.state == .dormant && d.pwr.move.any fun m => !m.entry
  if up || out then pump (forEach (List.range 16) d wakeCourse) else d

/-! ### Link doze (R359 to R361) -/

/-- A port may doze (R359). -/
def mayDoze (d : Dev) (p : Nat) : Bool :=
  let cfg := reg d .PORT_DOZE_CFG p 0
  portUp d p && (d.pwr.state == .quiet || d.pwr.state == .dormant || (d.cal.dozeEnd.any fun t => decide (fedTime d < t)) ||
    (fbit cfg 31 && (portRole d p != 2 || d.pwr.state != .service || fbit cfg 30)))

/-- A frame of PCP 0 to 6 waits at the port. -/
def dataQueued (d : Dev) (p : Nat) : Bool := (getPort d p).queue.any fun e => e.pcp != 7

def modDoze (d : Dev) (p : Nat) (f : Doze → Doze) : Dev := modPort d p fun q => { q with doze := f q.doze }

/-- Doze is agreed at this end: the entry takes at most 1 µs, and a frame already waiting is a latched wake (R360, R361). -/
def enterDoze (d : Dev) (p : Nat) : Dev :=
  let late := dataQueued d p
  let d := bump (modDoze d p fun z => { z with st := .entering, deadline := d.now + us 1, latched := late }) .PORT_DOZE_CNT p 0
  if late then bump d .PORT_DOZE_CNT p 2 else d

/-- The requester stays awake and tries again after IDLE_US. -/
def stayAwake (d : Dev) (p : Nat) : Dev := modDoze d p fun z => { z with st := .active, idleSince := d.now }

/-- DOZE_IDLE_TIMER: DOZE_REQ after IDLE_US without a frame of PCP 0 to 6 (R360). -/
def dozeIdleTimer (d : Dev) (p : Nat) : Dev :=
  let z := (getPort d p).doze
  if z.st = .active ∧ mayDoze d p = true ∧ dataQueued d p = false ∧ due d (z.idleSince + us (max 5 (cfld d .PORT_DOZE_CFG p 7 0))) = true ∧ isDown d = false then
    let s := (z.seq + 1) % 256
    sendCtrl (modDoze d p fun z => { z with st := .requested, seq := s, deadline := d.now + us 10 }) 0xEA p (payload (dozeBytes s 0))
  else d

/-- DOZE_REQ: answered with an accepting or refusing DOZE_ACK; a request that crosses one of the same sequence is itself the acceptance (R360). -/
def dozeReq (d : Dev) (p : Nat) (t : SecTag) (seq : Nat) : Dev :=
  let (d, ok) := ctrlHeard d p t
  let z := (getPort d p).doze
  if !ok then d
  else if z.st = .requested ∧ z.seq = seq then enterDoze d p
  else if (z.st = .active ∨ z.st = .requested) ∧ mayDoze d p = true ∧ dataQueued d p = false then enterDoze (sendCtrl d 0xEB p (payload (dozeBytes seq 0))) p
  else bump (sendCtrl d 0xEB p (payload (dozeBytes seq 1))) .PORT_DOZE_CNT p 1

/-- DOZE_ACK: an accepting answer to the request out is the agreement, any other ends it (R360). -/
def dozeAck (d : Dev) (p : Nat) (t : SecTag) (seq result : Nat) : Dev :=
  let (d, ok) := ctrlHeard d p t
  let z := (getPort d p).doze
  if !ok || z.st != .requested || z.seq != seq then d
  else if result = 0 then enterDoze d p else bump (stayAwake d p) .PORT_DOZE_CNT p 1

/-- DOZE_REQ_TIMEOUT: 10 µs without an answer (R360). -/
def dozeReqTimeout (d : Dev) (p : Nat) : Dev :=
  let z := (getPort d p).doze
  if z.st = .requested ∧ due d z.deadline = true then stayAwake d p else d

/-- DOZE_WAKE: a queued frame, a wake pattern or a received frame ends doze within 1 µs; during the entry it is latched (R361). -/
def dozeWake (d : Dev) (p : Nat) : Dev :=
  let z := (getPort d p).doze
  match z.st with
  | .doze => bumpBy (modDoze d p fun z => { z with st := .exiting, deadline := d.now + us 1 }) .PORT_DOZE_CNT p 3 ((d.now - z.deadline) / 1000)
  | .entering => if z.latched then d else bump (modDoze d p fun z => { z with latched := true }) .PORT_DOZE_CNT p 2
  | _ => d

/-- A frame that waits at a dozed port, or has arrived there, wakes it (R361). -/
def dozeStir (d : Dev) (p : Nat) : Dev :=
  if (getPort d p).doze.woken || dataQueued d p then dozeWake (modDoze d p fun z => { z with woken := false }) p else d

/-- An entry or exit of doze ends by itself: a latched wake makes the port exit at once; an active link carries what waits (R361). -/
def dozeSettle (d : Dev) (p : Nat) : Dev :=
  let d := dozeStir d p
  let z := (getPort d p).doze
  if due d z.deadline = false then d
  else match z.st with
    | .entering =>
      if z.latched then modDoze d p fun z => { z with st := .exiting, latched := false, deadline := d.now + us 1 } else modDoze d p fun z => { z with st := .doze }
    | .exiting => drainPort (stayAwake d p) p
    | _ => d

/-- Every port's doze settles. -/
def dozeAll (d : Dev) : Dev := forEach (d.ports.map (·.1)) d dozeSettle

end Sys2Proof.Machine
end

