-- ==== Sys2Proof/Machine/Faults.lean ====
section
/-!
DEFINITION. Ends of fences, clears of the capture and of the class bits, fault injection and link proving (spec/17_faults_and_events.md R365, R371, R380 to R383).
-/
namespace Sys2Proof.Machine
open Sys2Proof

/-! ### Release of a fence (R365, Table FLT-3) -/

/-- A course's core or die-to-die domain is unlocked, or its core rail is FAILED. -/
def courseBars (d : Dev) (k : Nat) : Bool := d.flt.unlocked.contains k || d.flt.unlocked.contains (32 + k) || (getRail d k).st == .failed

/-- A cell has a cause of its own that has not gone: its T1 channel is FAILED, or its engine has stopped and its generator has still not been reseeded (R315). -/
def cellBars (d : Dev) (c : Nat) : Bool := (getHbm d c).st == .failed || (d.sec.engineStopped.contains c && due d (seededOf d c + ms 100))

/-- The domains of a course have relocked. -/
def relock (d : Dev) (k : Nat) : Dev := { d with flt.unlocked := d.flt.unlocked.filter fun n => n != k && n != 32 + k }

def unfenceRefused (d : Dev) (r : Nat) : Dev := { d with flt.unfenceResult := r }

/-- FLT_UNFENCE: the release of a cell or of a course begins, or is refused; `locked` says that the core and die-to-die domains of the course have lock again. -/
def fltUnfence (d : Dev) (w : Writer) (unit : Nat) (locked : Bool) : Dev :=
  command d w .FLT_UNFENCE 0 0 (operator d w) fun d =>
    if d.flt.unfencing.isSome then d
    else
      let i := unit % 4096
      if unit / 4096 = 1 ∧ i < 256 then
        let d := if locked then relock d (i / 16) else d
        if !cellFenced d i then unfenceRefused d 3
        else if nhas d.flt.courses (i / 16) || courseBars d (i / 16) || cellBars d i then unfenceRefused d 1
        else { d with flt.unfencing := some unit }
      else if unit / 4096 = 10 ∧ i < 16 then
        let d := if locked then relock d i else d
        if !nhas d.flt.courses i then unfenceRefused d 3
        else if courseBars d i then unfenceRefused d 1
        else { d with flt.unfencing := some unit }
      else unfenceRefused d 2

/-- The buffers and buffer waits of a cell that is reset are gone, and no request, packet or engine refers to one (R32). -/
def forgetBufs (d : Dev) (c : Nat) : Dev :=
  let keep (b : Option Nat) : Option Nat := b.filter fun id => bufCell id != c
  { d with res.bufs := d.res.bufs.filter fun b => bufCell b.1 != c, res.waits := d.res.waits.filter fun w => w.cell != c,
           reqs := d.reqs.map fun r => { r with buf := keep r.buf },
           conns := d.conns.map fun p => (p.1, { p.2 with sent := p.2.sent.map fun s => { s with buf := keep s.buf } }) }

/-- A released cell: it is reset, its pools are whole, and it takes the committed values that the hub kept for it (R32, R280, R365). -/
def releaseCell (d : Dev) (c : Nat) : Dev :=
  let d := drainCell d c
  let d := setEng (setAlc d c { disabled := (getAlc d c).disabled }) c {}
  let d := takeKept { forgetBufs d c with latent0 := d.latent0.filter fun p => p.1 / 2 ^ 24 != c } c
  pfcUpdate { d with flt.fences := ndel d.flt.fences c } c

/-- CELL_RELEASE_DONE: the reset and restore of the unit in release end. A cell of a released course with a cause of its own stays fenced. -/
def cellReleaseDone (d : Dev) : Dev :=
  match d.flt.unfencing with
  | none => d
  | some u =>
    let d := { d with flt.unfencing := none, flt.unfenceResult := 0 }
    if u / 4096 = 1 then pump (releaseCell d (u % 4096))
    else
      let k := u % 4096
      let d := { d with flt.courses := ndel d.flt.courses k }
      pump (forEach ((courseCells k).filter fun c => !cellBars d c) d releaseCell)

/-! ### Clears (R371) -/

/-- FLT_FIRST_CLEAR: the capture is emptied, before any error of the same cycle. -/
def fltFirstClear (d : Dev) (w : Writer) : Dev := command d w .FLT_FIRST 0 0 (operator d w) fun d => { d with flt.first := emptied d fun _ => true }

/-- The cell capture is emptied by a write of its VALID bit. -/
def cellFirstClear (d : Dev) (w : Writer) (c : Nat) (v : Word) : Dev :=
  command d w .FLT_CELL_FIRST c 0 (operator d w) fun d =>
    if fbit v 31 then
      match emptied d fun x => unitCell x.unit == some c with
      | some x => { d with flt.cellFirst := nset d.flt.cellFirst c x }
      | none => { d with flt.cellFirst := ndel d.flt.cellFirst c }
    else d

/-- A cell's fence is a condition of the class of its cause; incomplete and unreadable cells are C4, whose bit only power-on clears. -/
def fenceCond (cause : Nat) : Bool := cause != 0x17 && cause != 0x18

/-- A C2 condition remains: a fenced unit, a FAILED rail or an OFFLINE media channel. -/
def c2Remains (d : Dev) : Bool :=
  d.flt.courses != [] || (d.flt.fences.any fun p => fenceCond p.2) || (d.ports.any fun p => p.2.fence.isSome) || (d.hbm.any fun p => p.2.st == .failed) ||
  d.sec.engineStopped != [] || d.flt.dies != [] || (d.pwr.rails.any fun p => p.1 != 30 && p.1 != 31 && p.2.st == .failed) ||
  (d.med.any fun p => p.2.st == .offline && p.2.cause != 0)

/-- The class bits whose conditions remain. -/
def conditions (d : Dev) : BitVec 5 :=
  BitVec.ofNat 5 (bit_ (d.hbm.any fun p => p.2.tempBad) 0 + bit_ (c2Remains d) 2 + bit_ ((getRail d 30).st == .failed || (getRail d 31).st == .failed) 3)

/-- FLT_STATUS_CLEAR: the named bits of C0 to C3 clear, and set again in the next cycle while a condition remains. -/
def fltStatusClear (d : Dev) (w : Writer) (v : Word) : Dev :=
  command d w .FLT_STATUS 0 0 (operator d w) fun d =>
    let named := BitVec.ofNat 5 (fld v 3 0)
    { d with flt.bits := (d.flt.bits &&& ~~~named) ||| (conditions d &&& named) }

/-! ### Fault injection (R380) -/

/-- The flip that a write of TST_INJECT_CTRL names, none where its fields make the write ignored. -/
def flipOf (v addr : Word) : Option Injection :=
  let t := fld v 31 28
  let j : Injection := ⟨t, fld v 27 20, fld v 19 19, fld v 18 16, fld v 15 8, fld v 7 0, fld addr 30 0⟩
  if t = 1 then (if 1 ≤ j.symbols ∧ j.firstSym ≤ 71 then some j else none)
  else if t = 2 then some j
  else if 3 ≤ t ∧ t ≤ 5 then (if 1 ≤ j.bits ∧ j.bits ≤ 3 then some j else none)
  else none

/-- INJECT: a flip is armed; without TEST_MODE the access is DENIED. -/
def inject (d : Dev) (w : Writer) (v : Word) : Dev :=
  command d w .TST_INJECT_CTRL 0 0 (operator d w && d.tst.testMode) fun d =>
    match flipOf v (hreg d .TST_INJECT_ADDR) with
    | some j => { d with tst.inject := d.tst.inject ++ [j] }
    | none => d

/-! ### Link proving (R381 to R383) -/

/-- A port may enter PROVING (R381). -/
def mayProve (d : Dev) (p : Nat) : Bool :=
  let role := portRole d p
  1 ≤ role && role ≤ 4 && (d.tst.permit >>> (role - 1)) % 2 == 1 && (d.pwr.state == .service || d.pwr.state == .quiet) &&
    (match d.tst.proving with
      | some q => q == p
      | none => true)

/-- PROVE_ENTER: the port is in PROVING, or the write is ignored and REFUSED is set. LIMIT_S and SEED are read at entry. -/
def proveEnter (d : Dev) (w : Writer) (p : Nat) : Dev :=
  command d w .TST_PROVE_CTRL 0 0 (operator d w) fun d =>
    if mayProve d p then
      { d with tst.proving := some p, tst.lastPort := p, tst.entered := d.now, tst.draws := 0, tst.limitS := 16 * clampTo 1 225 (hfld d .TST_PROVE_CFG 31 20),
               tst.seed := zeroAs 1 (hfld d .TST_PROVE_CFG 15 0) }
    else { d with tst.refused := true }

/-- PROVE_EXIT: the port leaves PROVING; its held frames are released with the next turn of the device. -/
def proveExit (d : Dev) (w : Writer) : Dev := command d w .TST_PROVE_CTRL 0 0 (operator d w) fun d => leaveProving d 1

/-- PROVE_LIMIT_EXPIRY: LIMIT_S has passed since entry. -/
def proveLimitExpiry (d : Dev) : Dev := if d.tst.proving.isSome && due d (d.tst.entered + sec d.tst.limitS) then leaveProving d 2 else d

/-- The rate that selects a frame first: 0 drop, 1 corrupt, 2 reorder (R382). -/
def proveAction (d : Dev) : Option Nat :=
  (List.range 3).find? fun i => decide (Config.proveDraw d.tst.seed d.tst.draws i % 2 ^ 24 < fld (reg d .TST_PROVE_RATE 0 i) 23 0)

end Sys2Proof.Machine
end

