-- ==== Sys2Proof/Machine/Vault.lean ====
section
/-!
DEFINITION. The Vault: the journal of S3 records, and the program and erase of the user area (spec/17_faults_and_events.md R378, R379, spec/18_management.md R394 to R400).
-/
namespace Sys2Proof.Machine
open Sys2Proof

/-! ### The user area -/

/-- A word of the user area: what was programmed, a free value where a failed operation left it undefined, else erased (R395, R397). -/
def vaultWord (v : VaultPart) (i : Nat) : Word :=
  match nget v.user i with
  | some w => w
  | none =>
    match v.undef.find? fun p => decide (p.1 ≤ i) && decide (i < p.1 + p.2.1) with
    | some p => word (Config.freeValue (p.2.2 + (i - p.1)))
    | none => 0xFFFFFFFF

/-- The words of a range are erased, or left undefined. -/
def vaultErase (v : VaultPart) (i n : Nat) : VaultPart :=
  { v with user := v.user.filter fun p => !(decide (i ≤ p.1) && decide (p.1 < i + n)), undef := v.undef.filter fun p => !(decide (i ≤ p.1) && decide (p.1 < i + n)) }

def vaultUndef (d : Dev) (i n : Nat) : Dev :=
  let v := vaultErase d.vlt i n
  { d with vlt := { v with undef := nset v.undef i (n, d.free) }, free := d.free + n }

/-- Words programmed into an erased unit. -/
def vaultPut (m : NMap Word) (i : Nat) : List Word → NMap Word
  | [] => m
  | w :: t => vaultPut (if w = 0xFFFFFFFF then m else nset m i w) (i + 1) t

/-- The sector of bank 1 of a user offset (R395). -/
def vaultSector (off : Nat) : Nat := 96 + off / 65536

/-! ### Operations (R397 to R400) -/

/-- Bank 1 runs an internal operation: a start re-erase, or the erase of a journal sector of the bank. -/
def vaultInternal (d : Dev) : Bool := (d.vlt.op.any fun o => o.kind == 4) || (d.log.jrn.erasing && jrnBank d == 0)

def vaultMore (v : VaultPart) (o : VaultOp) : VaultPart := { v with lastOp := o.kind, lastPulses := o.pulses, lastSector := vaultSector o.off }

/-- The operation ends without success: FAIL is set. -/
def vaultFails (d : Dev) : Dev := bump { d with vlt.fail := true } .VLT_CNT 0 2

/-- A completed sequence starts its operation with its first pulse; a program whose unit is not erased fails without one (R397). -/
def vaultStart (d : Dev) (o : VaultOp) (inner : Bool) : Dev :=
  let d := bump d .VLT_CNT 0 (if o.kind = 1 then 0 else 1)
  let o := { o with pulses := 1 }
  if o.kind = 1 ∧ ((List.range 8).any fun i => vaultWord d.vlt (o.off / 4 + i) != 0xFFFFFFFF) = true then
    vaultFails { d with vlt := vaultMore d.vlt { o with pulses := 0 } }
  else
    let v := vaultMore d.vlt o
    let v := if o.kind = 2 then { v with flags := sinsert v.flags (o.off / 65536) } else v
    { d with vlt := if inner then { v with inner := some o } else { v with op := some o } }

/-- A sequence is complete (R396, R399). -/
def vaultComplete (d : Dev) (o : VaultOp) : Dev :=
  if vaultInternal d then (if d.vlt.waits.isSome then { d with vlt.overrun := true } else { d with vlt.waits := some o })
  else
    match d.vlt.op with
    | none => vaultStart d o false
    | some r =>
      if !r.suspended || d.vlt.inner.any (fun i => !i.suspended) then { d with vlt.overrun := true }
      else if r.kind = 2 ∧ o.kind = 1 ∧ vaultSector o.off ≠ vaultSector r.off ∧ d.vlt.inner.isNone then vaultStart d o true
      else { d with vlt.seqErr := true }

/-- A sequence that waited for an internal operation starts once none runs; the re-erase of the next flagged sector follows the last (R396, R400). -/
def vaultNext (d : Dev) : Dev :=
  if d.vlt.op.isSome || (d.log.jrn.erasing && jrnBank d == 0) then d
  else
    match d.vlt.reErase with
    | s :: _ => if 3 ≤ d.ldr.step ∧ isDown d = false then { d with vlt.op := some { kind := 4, off := s * 65536, pulses := 1 } } else d
    | [] =>
      match d.vlt.waits with
      | some o => vaultStart { d with vlt.waits := none } o false
      | none => d

/-- The last pulse of an operation has passed its verify. -/
def vaultPassed (d : Dev) (o : VaultOp) : Dev :=
  let v := vaultMore d.vlt o
  if o.kind = 1 then { d with vlt := { v with user := vaultPut v.user (o.off / 4) o.data } }
  else
    let s := o.off / 65536
    let v := vaultErase v (o.off / 65536 * 16384) 16384
    let d := { d with vlt := { v with flags := v.flags.filter (· != s), reErase := v.reErase.filter (· != s) } }
    if o.kind = 4 then bump d .VLT_CNT 0 4 else d

/-- The last allowed pulse has failed its verify: the contents are undefined (R397). -/
def vaultGaveUp (d : Dev) (o : VaultOp) : Dev :=
  let d := vaultFails { d with vlt := vaultMore d.vlt o }
  if o.kind = 1 then vaultUndef d (o.off / 4) 8
  else vaultUndef { d with vlt.reErase := d.vlt.reErase.filter (· != o.off / 65536) } (o.off / 65536 * 16384) 16384

/-- A verify ends: with it the operation, or another pulse begins. -/
def vaultVerify (d : Dev) (o : VaultOp) (ok : Bool) : Dev × Option VaultOp :=
  if ok then (vaultPassed d o, none)
  else if (if o.kind = 1 then 12 else 40) ≤ o.pulses then (vaultGaveUp d o, none)
  else ({ d with vlt := vaultMore d.vlt { o with pulses := o.pulses + 1 } }, some { o with pulses := o.pulses + 1 })

/-- VAULT_PULSE_DONE: a pulse and its verify end; `ok` says that the verify passes. -/
def vaultPulseDone (d : Dev) (ok : Bool) : Dev :=
  if isDown d then d
  else
    match d.vlt.inner with
    | some o =>
      if o.suspended then d
      else let (d, r) := vaultVerify d o ok; { d with vlt.inner := r }
    | none =>
      match d.vlt.op with
      | none => d
      | some o =>
        if o.suspended then d
        else let (d, r) := vaultVerify d o ok; vaultNext { d with vlt.op := r }

/-- A suspended operation goes on with a new pulse (R399). -/
def vaultAgain (o : VaultOp) : VaultOp := { o with suspended := false, pulses := o.pulses + 1 }

/-- VAULT_SUSPEND: SUSPEND stops the management operation that runs; a start re-erase is none. -/
def vaultSuspend (d : Dev) (w : Writer) : Dev :=
  command d w .VLT_CTRL 0 0 (operator d w) fun d =>
    match d.vlt.inner with
    | some o => if o.suspended then d else bump { d with vlt.inner := some (vaultCut o) } .VLT_CNT 0 3
    | none =>
      match d.vlt.op with
      | some o => if o.suspended || o.kind == 4 then d else bump { d with vlt.op := some (vaultCut o) } .VLT_CNT 0 3
      | none => d

/-- VAULT_RESUME: RESUME continues the suspended operation, a program that runs in an erase's suspension before the erase. -/
def vaultResume (d : Dev) (w : Writer) : Dev :=
  command d w .VLT_CTRL 0 0 (operator d w) fun d =>
    match d.vlt.inner with
    | some o => if o.suspended then { d with vlt.inner := some (vaultAgain o) } else d
    | none =>
      match d.vlt.op with
      | some o => if o.suspended then { d with vlt.op := some (vaultAgain o) } else d
      | none => d

/-! ### The sequence (R396) -/

/-- The connection of a writer as owner of a sequence. -/
def vaultOwner (w : Writer) : Nat := (writerConn w).getD 0

/-- A writer may write the sequence's registers: tenant 0, and no other connection has a sequence open. -/
def vaultMay (d : Dev) (w : Writer) : Bool :=
  operator d w && (match d.vlt.seq with
    | some s => s.owner == vaultOwner w
    | none => true)

/-- The sequence closes without effect. -/
def seqClose (d : Dev) : Dev := if d.vlt.seq.isSome then { d with vlt.seq := none, vlt.seqErr := true } else d

/-- The open sequence, when it stands at a stage. -/
def seqAt (d : Dev) (n : Nat) : Option VaultSeq := d.vlt.seq.filter fun s => s.stage == n

/-- VAULT_UNLOCK: the first word opens a sequence, the second follows it. -/
def vaultUnlock (d : Dev) (w : Writer) (v : Word) : Dev :=
  command d w .VLT_UNLOCK 0 0 (vaultMay d w) fun d =>
    match d.vlt.seq with
    | none => if fld v 15 0 = 0xA55A then { d with vlt.seq := some { owner := vaultOwner w, stage := 1, since := d.now } } else d
    | some s => if s.stage = 1 ∧ fld v 15 0 = 0x5AA5 then { d with vlt.seq := some { s with stage := 2 } } else seqClose d

/-- A write of VLT_CMD in the open sequence. -/
def vaultCmd (d : Dev) (w : Writer) (op : Nat) : Dev :=
  command d w .VLT_CMD 0 0 (vaultMay d w) fun d =>
    match seqAt d 2 with
    | some s => if op = 1 ∨ op = 2 then { d with vlt.seq := some { s with stage := 3, erase := op == 2 } } else seqClose d
    | none => seqClose d

/-- VAULT_CMD_PROGRAM and VAULT_CMD_ERASE. -/
def vaultCmdProgram (d : Dev) (w : Writer) : Dev := vaultCmd d w 1
def vaultCmdErase (d : Dev) (w : Writer) : Dev := vaultCmd d w 2

/-- VAULT_ADDR: the offset, which starts an erase. -/
def vaultAddr (d : Dev) (w : Writer) (v : Word) : Dev :=
  command d w .VLT_ADDR 0 0 (vaultMay d w) fun d =>
    let off := fld v 20 0
    match seqAt d 3 with
    | none => seqClose d
    | some s =>
      if fld v 31 21 ≠ 0 ∨ off % (if s.erase then 65536 else 32) ≠ 0 then seqClose d
      else if s.erase then vaultComplete { d with vlt.seq := none } { kind := 2, off := off }
      else { d with vlt.seq := some { s with stage := 4, off := off } }

/-- VAULT_DATA: word i of the unit in ascending order; the last starts the program. -/
def vaultData (d : Dev) (w : Writer) (i : Nat) (v : Word) : Dev :=
  command d w .VLT_DATA 0 i (vaultMay d w) fun d =>
    match seqAt d 4 with
    | none => seqClose d
    | some s =>
      if s.data.length ≠ i then seqClose d
      else if i = 7 then vaultComplete { d with vlt.seq := none } { kind := 1, off := s.off, data := s.data ++ [v] }
      else { d with vlt.seq := some { s with data := s.data ++ [v] } }

/-- VAULT_SEQUENCE_TIMEOUT: 1 ms has passed since the sequence opened. -/
def vaultSequenceTimeout (d : Dev) : Dev := if d.vlt.seq.any fun s => due d (s.since + ms 1) then seqClose d else d

/-! ### The journal (R378) -/

/-- The first waiting record is programmed, when a sector stands erased for it. A running management operation in its bank is suspended for it and resumes by itself. -/
def jrnProgram (d : Dev) : Dev :=
  match d.log.jrn.waiting with
  | [] => d
  | r :: t =>
    if jrnReady d then
      let cuts := jrnBank d == 1 && ((d.vlt.op.any fun o => !o.suspended && o.kind != 4) || (d.vlt.inner.any fun o => !o.suspended))
      let d := if cuts then bump (bump d .VLT_CNT 0 3) .LOG_CNT 0 7 else d
      jrnPut { d with log.jrn.waiting := t } r
    else d

/-- JOURNAL_PROGRAM_DONE. During a flush the records are programmed in its step 9 (R379). -/
def journalProgramDone (d : Dev) : Dev := if d.pwr.state = .off ∨ d.pwr.state = .flushing then d else jrnProgram d

/-- JOURNAL_SECTOR_ERASE_DONE: the next sector stands erased, and the waiting records are programmed. -/
def journalSectorEraseDone (d : Dev) : Dev :=
  if d.log.jrn.erasing = false ∨ d.pwr.state = .off ∨ d.pwr.state = .flushing then d
  else
    let d := { d with log.jrn := { d.log.jrn with erasing := false, nextErased := true } }
    vaultNext (forEach d.log.jrn.waiting d fun d _ => jrnProgram d)

end Sys2Proof.Machine
end

