-- ==== Sys2Proof/Machine/Views.lean ====
section
/-!
DEFINITION. What the status registers of cells, chambers, transport, fabric, persistence, tiers and media show (register tables of spec/02 to spec/10).
-/
namespace Sys2Proof.Machine
open Sys2Proof

/-! ### Buffers and queues (spec/02) -/

def viewQueues (d : Dev) (c : Nat) (cmp : Bool) : Nat :=
  let e := getEng d c
  if cmp then at_ e.comp.length 16 + at_ e.plan.length 8 + e.demand.length else at_ e.mgt.length 16 + at_ e.enc.length 8 + e.dec.length

/-! ### Chambers (spec/03) -/

def viewChmStatus (d : Dev) : Nat := bit_ d.chm.run.isSome 31 + bit_ d.chm.overrun 30 + at_ d.chm.lastOp 4 + d.chm.result

/-- Pages of 16 KiB in GiB, rounded down. -/
def viewThin (d : Dev) (i : Nat) : Nat := if i = 0 then allocatedPages d / 65536 else exportLimit d / 2 ^ 30

/-! ### Transport (spec/04, spec/05) -/

def connCode : ConnState → Nat
  | .free => 0
  | .connecting => 1
  | .ready => 2
  | .draining => 3
  | .error => 4
  | .quarantine => 5

def viewConnCount (d : Dev) (c : Nat) : Nat :=
  let q := (d.conns.filter fun p => connCell p.1 == c && p.2.state == .quarantine && p.2.service == .data).length
  at_ q 16 + dataConns d c

/-- The connection that OMT_CONN_SEL selects. -/
def selConn (d : Dev) (c : Nat) : Conn := getConn d (connKey c (cfld d .OMT_CONN_SEL c 9 0))

def viewConnInfo (d : Dev) (c i : Nat) : Nat :=
  let k := selConn d c
  match i with
  | 0 => at_ (connCode k.state) 29 + at_ k.gen 23 + at_ k.version 16 + k.tenant
  | 1 => k.epsn
  | 2 => at_ k.replay.length 24 + k.npsn
  | _ => at_ k.retries 29 + k.remoteQpn

def viewCcInfo (d : Dev) (c i : Nat) : Nat :=
  let w := (selConn d c).win
  if (selConn d c).state = .free then 0 else if i = 0 then w.w else at_ (sat (w.rtt / 10) 0xFFFF) 16 + at_ w.hops 4 + bit_ w.additive 0

def viewPfc (d : Dev) (c : Nat) : Nat :=
  let p := getPort d c
  let rx := (List.range 7).foldl (fun n i => n + (if pcpPaused d c i then at_ 1 i else 0)) 0
  let tx := (List.range 3).foldl (fun n g => n + (if nhas p.xoff g then at_ 1 g else 0)) 0
  at_ rx 16 + at_ tx 8

def viewPortFence (d : Dev) (c : Nat) : Nat :=
  match (getPort d c).fence with
  | some (cause, cls) => bit_ true 31 + at_ cause 4 + cls
  | none => 0

/-! ### Fabric (spec/06) -/

def viewFabSelf (d : Dev) : Nat :=
  at_ (ordinal d) 16 + bit_ (d.ldr.imageLoaded && standalone d) 15 + at_ (d.fab.topo.groups.length - 1) 7 + (if d.ldr.imageLoaded then d.ldr.ident.group else 0)

def viewLinkState (d : Dev) (i : Nat) : Nat := (List.range 16).foldl (fun n k => n + at_ (portCode d (16 * i + k)) (2 * k)) 0

def viewPairInfo (d : Dev) (i : Nat) : Nat :=
  match nget d.fab.pairs (hfld d .FAB_PAIR_SEL 12 0) with
  | none => 0
  | some e =>
    match i with
    | 0 => bit_ e.valid 31 + e.holder
    | 1 => e.claim / 2 ^ 32
    | _ => e.claim % 2 ^ 32

/-! ### Persistence (spec/07) -/

def viewDirty (d : Dev) (i : Nat) : Nat := if i = 0 then linesMib (allCells.foldl (fun n c => n + dirtyCount d c) 0) else linesMib (grantedLines d)

/-- Before step 1 of the start order is over no cell has been counted, and no input is above its threshold before it is good: the fields are at their reset values (R6). -/
def viewFlushStatus (d : Dev) : Nat :=
  if d.ldr.step ≤ 1 then bit_ (d.pwr.inputGood && d.pwr.powerFailN) 30 + d.per.lastResult
  else
  bit_ (holdupOk d) 31 + bit_ d.pwr.powerFailN 30 + bit_ (unarmedCells d == 0) 29 + at_ (sat (unarmedCells d) 255) 8 + d.per.lastResult

def viewCellDirty (d : Dev) (c : Nat) : Nat := at_ (dirtyCreditOf d c / 8192) 16 + linesMib (dirtyCount d c)

def sumpCode : SumpState → Nat
  | .armed => 0
  | .writing => 1
  | .holding => 2
  | .replaying => 3
  | .erasing => 4

def viewSump (d : Dev) (c : Nat) : Nat :=
  let s := getSump d c
  bit_ (flushCapable d c) 31 + at_ (sumpCode s.2.state) 27 + at_ (sumpCode s.1.state) 24 + at_ (s.1.pendingRepl + s.2.pendingRepl) 16 + max s.1.maxPE s.2.maxPE

/-! ### Tiers (spec/08) -/

def viewUsage (d : Dev) (i : Nat) : Nat :=
  let t := hfld d .TIER_USAGE_SEL 11 0
  match i with
  | 0 => (d.tier.frames.filter fun p => frameTenant d p.1 p.2 == t).length / 64
  | 1 => ceilDiv (t2Used d t) 262144
  | 2 => (d.tier.frames.filter fun p => p.2.pins != [] && frameTenant d p.1 p.2 == t).length / 64
  | _ => (d.conns.filter fun p => p.2.tenant == t && activeConn p.2 && p.2.service == .data).length

def viewPlanStatus (d : Dev) : Nat :=
  bit_ d.tier.planRun.isSome 31 + bit_ d.tier.planOverrun 30 + at_ d.tier.planDetail 8 + at_ d.tier.planLastOp 4 + d.tier.planResult

def viewAlcStatus (d : Dev) (c : Nat) : Nat := bit_ (getAlc d c).disabled 31 + (getAlc d c).mb.length

def viewCellTier (d : Dev) (c i : Nat) : Nat :=
  if d.ldr.step ≤ 1 then 0 else
  match i with
  | 0 => liveFrames d c
  | 1 => freeFrames d c
  | 2 => pinnedFrames d c
  | _ => ((cellFrames d c).filter fun p => p.2.st == .modified).length

/-! ### Media (spec/09) -/

def medCode : MedState → Nat
  | .offline => 0
  | .online => 1
  | .rebuilding => 2
  | .formatting => 3

/-- A channel that has not been started: its registers are at their reset values (R6). -/
def notStarted (m : Media) : Bool := m.st == .offline && m.cause == 0

def viewMedStatus (d : Dev) (c i : Nat) : Nat :=
  let m := getMed d c
  if i = 0 then at_ (medCode m.st) 29 + bit_ m.rejected 28 + at_ m.cause 24 + (if notStarted m then 0 else m.diesIn) else if notStarted m then 0 else freeSbs m

/-- Sectors of 4 KiB and pages of 16 KiB in MiB, rounded down. -/
def viewMedCap (d : Dev) (c i : Nat) : Nat :=
  let m := getMed d c
  if notStarted m then 0 else
  match i with
  | 0 => usableBytes m / 2 ^ 20
  | 1 => cellValid d c / 256
  | 2 => m.root.length / 32 + (if m.rootSbs = [] then 0 else 32)
  | _ => (sbsIn m (· == .free)).foldl (fun n i => n + 2048 * rowCap m.diesIn i) 0 / 256

def viewMedWear (d : Dev) (c i : Nat) : Nat :=
  let m := getMed d c
  if notStarted m then 0
  else if i = 0 then at_ (sat (maxPe m) 0xFFFF) 16 + sat (avgPe m) 0xFFFF
  else at_ (sat (m.retired.foldl (fun n p => n + p.2) 0 - m.retired0) 0xFFFF) 16 + sat (spareCount m) 0xFFFF

def viewRebuild (d : Dev) (c : Nat) : Nat :=
  let m := getMed d c
  match m.rebuild with
  | some x => bit_ true 31 + at_ x 12 + (sbsWithDie m x).length
  | none => 0

/-- The state of the slot that MED_BLOCK_SEL selects: SUMP takes slot 0; a slot that has lost its block is ABSENT or RETIRED; an erasing superblock is not yet FREE. -/
def slotCode (m : Media) (slot : Nat) : Nat :=
  match nget m.gone slot with
  | some g => if g = 1 then 5 else 6
  | none =>
    match (getSb m (slot % 2048)).st with
    | .free => 0
    | .open_ => 1
    | .closed => 2
    | .erasing => 2
    | .sump => 3
    | .spare => 4
    | .retired => 5

def viewBlock (d : Dev) (c i : Nat) : Nat :=
  let m := getMed d c
  let s := reg d .MED_BLOCK_SEL c 0
  let slot := blockKey (fld s 16 13) (fld s 12 11) (fld s 10 0)
  let phys := physOf m slot
  if notStarted m then 0
  else if i = 0 then at_ (slotCode m slot) 29 + at_ (phys % 2048) 16 + sat (peOf m phys) 0xFFFF else ngetD m.reads phys m.readsBase % 2 ^ 32

def viewMedErr (d : Dev) (c i : Nat) : Nat := if i = 0 then (getMed d c).lastErr.1 else (getMed d c).lastErr.2

/-! ### HBM (spec/10) -/

def hbmCode : HbmState → Nat
  | .offline => 0
  | .training => 1
  | .online => 2
  | .selfRefresh => 3
  | .failed => 4

def viewHbm (d : Dev) (c : Nat) : Nat :=
  let h := getHbm d c
  at_ (hbmCode h.st) 29 + at_ h.cause 25 + bit_ h.refresh2x 24 + at_ (sat h.temp 255) 8 + (h.throttles.filter (·.requester.isSome)).length

def viewCe (d : Dev) (c i : Nat) : Nat :=
  match nget (getHbm d c).ce (cfld d .HBM_CE_SEL c 4 0) with
  | none => 0
  | some e =>
    match i with
    | 0 => bit_ true 31 + at_ e.kind 28 + e.la
    | 1 => at_ e.lane 16 + sat e.count 0xFFFF
    | 2 => e.first / 2 ^ 32
    | 3 => e.first % 2 ^ 32
    | 4 => e.last / 2 ^ 32
    | _ => e.last % 2 ^ 32

def viewUe (d : Dev) (c i : Nat) : Nat :=
  match (getHbm d c).ue with
  | none => 0
  | some (area, la, who, t) =>
    match i with
    | 0 => at_ area 29 + la
    | 1 => who
    | 2 => t / 2 ^ 32
    | _ => t % 2 ^ 32

def viewRetire (d : Dev) (c : Nat) : Nat :=
  let h := getHbm d c
  bit_ h.busy 31 + bit_ h.overrun 30 + at_ h.ppr.length 16 + at_ h.lastOp 4 + h.result

end Sys2Proof.Machine
end

