-- ==== Sys2Proof/Machine/ViewsHub.lean ====
section
/-!
DEFINITION. What the status registers of the hub show: custody, time, bulk queue, keys, loader, power, faults, log, test, Vault, identification and the unit directory (register
tables of spec/11 to spec/19).
-/
namespace Sys2Proof.Machine
open Sys2Proof

/-- A 64-bit value as two words, high word first. -/
def hiLo (v i : Nat) : Nat := if i = 0 then v / 2 ^ 32 else v % 2 ^ 32

/-! ### Custody (spec/11) -/

def viewPair (d : Dev) : Nat :=
  at_ (pairCode d.cus.state) 30 + bit_ d.cus.stale 29 + bit_ d.cus.twinSuspect 28 + bit_ d.cus.witSuspect 27 + bit_ d.cus.leaseLive 26 +
    bit_ d.cus.yieldedAt.isSome 25 + bit_ (d.ldr.imageLoaded && d.cus.witness.isNone) 24 + d.cus.witness.getD 0

/-- Nothing is impaired before the channels have been trained (R6). -/
def viewHealth (d : Dev) : Nat := if d.ldr.step ≤ 1 then 0 else at_ (impairment d) 16 + twinImpairment d

def viewClaim (d : Dev) (i : Nat) : Nat := if i < 2 then hiLo d.cus.pairClaim i else hiLo d.cus.ownClaim (i - 2)

def viewCusChm (d : Dev) (i : Nat) : Nat :=
  let n := hfld d .CUS_CHM_SEL 15 0
  match nget d.chm.chambers n with
  | none => 0
  | some c => if i = 0 then bit_ (c.state == .active && c.cls == .mirrored) 31 + bit_ (isHolder d n) 30 + c.holder else hiLo c.claim (i - 1)

def viewResync (d : Dev) (i : Nat) : Nat :=
  match i with
  | 0 => d.cus.marks.length
  | 1 => d.cus.pull.length
  | 2 => d.cus.wholePull.length
  | _ => d.cus.sent

def viewWit (d : Dev) (i : Nat) : Nat :=
  match d.watch[hfld d .CUS_WIT_SEL 3 0]? with
  | none => 0
  | some (_, w) =>
    match i with
    | 0 => bit_ w.valid 31 + bit_ w.solo 30 + at_ w.stale 28 + w.pair
    | 3 => at_ w.last.kind 28 + w.last.grantee
    | _ => hiLo w.cw (i - 1)

/-! ### Time, calendar, acts and snapshots (spec/12) -/

def timeCode : TimeState → Nat
  | .freerun => 0
  | .locking => 1
  | .locked => 2
  | .holdover => 3
  | .slewing => 4
  | .stepPending => 5

def viewTime (d : Dev) : Nat :=
  at_ (timeCode d.tim.st) 29 + bit_ d.tim.isRoot 28 + bit_ d.tim.pps.locked 27 + bit_ (participates d) 26 + at_ d.mode.epoch 24 + bit_ d.mode.behind 23 +
    sat (uncertainty d) 0xFFFF

def viewRoot (d : Dev) : Nat := at_ d.tim.root 16 + at_ (sat d.tim.steps 255) 8 + d.tim.slave.getD 0xFF

/-- A signed number saturated to 32 bits. -/
def sat32 (v : Int) : Nat := unsignedBits 32 (max (-(2 ^ 31 : Int)) (min (2 ^ 31 - 1) v))

def viewOffset (d : Dev) : Nat := sat32 (if d.tim.st = .stepPending then d.tim.stepPending else d.tim.rem - slewed d)

def calCode : CalState → Nat
  | .posted => 1
  | .fired => 2
  | .cancelled => 3

def viewCal (d : Dev) (i : Nat) : Nat :=
  match nget d.cal.ents (hfld d .CAL_SEL 5 0) with
  | none => 0
  | some e =>
    match i with
    | 0 => at_ (calCode e.state) 30 + at_ e.kind 4 + e.flags
    | 1 => e.act
    | 2 => e.time / 2 ^ 32
    | 3 => e.time % 2 ^ 32
    | 4 => e.arg / 2 ^ 32
    | _ => e.arg % 2 ^ 32

def viewCalStatus (d : Dev) : Nat :=
  let n := (d.cal.ents.filter fun p => p.2.state == .posted).length
  at_ (sat n 63) 8 + bit_ (n == 64) 7 + d.cal.result

def viewAct (d : Dev) : Nat := bit_ d.act.run.isSome 31 + bit_ d.act.overrun 30 + at_ d.act.lastOp 4 + d.act.result

def viewActResult (d : Dev) (i : Nat) : Nat :=
  let g := d.act.sum
  match i with
  | 0 => d.act.id
  | 1 => at_ (sat g.refd 0xFFFF) 16 + sat g.acc 0xFFFF
  | 2 => at_ g.mask 16 + sat g.maxU 0xFFFF
  | _ => g.first.getD 0

def snapCode : SnapState → Nat
  | .pending => 1
  | .retained => 2
  | .releasing => 3

def viewSnap (d : Dev) (i : Nat) : Nat :=
  match d.snap.snaps.find? fun p => p.2.rec_ == hfld d .TIME_SNAP_SEL 7 0 with
  | none => 0
  | some (act, s) =>
    match i with
    | 0 => at_ (snapCode s.state) 30 + bit_ s.byMessage 29 + s.set
    | 1 => act
    | 2 => s.time / 2 ^ 32
    | 3 => s.time % 2 ^ 32
    | _ => ceilDiv (s.pages.filter fun p => p.2.staging).length 64

/-! ### Bulk queue (spec/13) -/

def viewBulk (d : Dev) : Nat := at_ d.bulk.cmds.length 16 + (d.bulk.cmds.filter fun c => c.state != .waiting).length

def viewBulkConn (d : Dev) : Nat :=
  let k := hfld d .BLK_CONN_SEL 17 0
  let l := d.bulk.cmds.filter fun c => c.conn == k
  bit_ (l.any fun c => c.kind == .barrier) 31 + at_ l.length 16 + ngetD d.bulk.lastTag k 0

/-! ### Keys (spec/14) -/

def viewKey (d : Dev) : Nat := bit_ d.sec.destroying.isSome 31 + bit_ d.sec.overrun 30 + bit_ d.sec.stopped 29 + at_ d.sec.lastOp 4 + d.sec.result

/-- The bits of the indexes in a list. -/
def bitsOf (l : List Nat) : Nat := l.eraseDups.foldl (fun n i => n + at_ 1 i) 0

def viewOwners (d : Dev) : Nat :=
  at_ (bitsOf (d.sec.vendorRevoked.filter (· < 2))) 12 + at_ d.sec.active 10 + at_ (bitsOf (d.sec.revoked.filter (· < 4))) 4 +
    bitsOf ((d.sec.owners.map (·.1)).filter (· < 4))

def viewMacsec (d : Dev) (c : Nat) : Nat := bit_ (getMka d c).live 31 + bit_ (getMka d c).keyServer 30 + cfld d .PORT_MACSEC_STATUS c 15 0

def viewCiph (d : Dev) (c : Nat) : Nat :=
  bit_ (d.sec.engineStopped.contains c) 31 + at_ (sat (getEng d c).ctx.length 8) 8 + sat (ngetD d.sec.keyCache c []).length 32

/-! ### Loader (spec/15) -/

def viewLdr (d : Dev) : Nat :=
  at_ d.ldr.step 28 + bit_ d.ldr.moduleWritten 27 + bit_ d.ldr.divergent 26 + bit_ d.ldr.useB 25 + bit_ d.ldr.formatted 24 + at_ d.ldr.version 20 + at_ d.ldr.cause 8

def viewCopy (c : CopyInfo) : Nat := bit_ c.valid 31 + bit_ c.read 30 + c.cause

def viewCopySeq (d : Dev) (i : Nat) : Nat :=
  let c := if i < 2 then d.ldr.copyA else d.ldr.copyB
  if i % 2 = 0 then c.seq % 2 ^ 32 else c.seq / 2 ^ 32

def viewStepTime (d : Dev) (i : Nat) : Nat := ngetD d.ldr.stepEnds i 0

def viewGroup (d : Dev) : Nat :=
  let own := isLeader d
  bit_ own 31 + bit_ (own && d.ldr.complete) 30 + at_ (if own then absentMembers d else 0) 16 + (if d.ldr.step < 7 then 0 else groupLeader d)

/-! ### Power (spec/16) -/

def railCode : RailState → Nat
  | .off => 0
  | .up => 1
  | .failed => 2
  | .skipped => 3

def viewRails (d : Dev) (i : Nat) : Nat := (List.range 16).foldl (fun n k => n + at_ (railCode (getRail d (16 * i + k)).st) (2 * k)) 0

def viewRail (d : Dev) (i : Nat) : Nat :=
  let r := getRail d (hfld d .PWR_RAIL_SEL 5 0)
  if i = 0 then at_ r.cause 29 + sat r.mv 4095 else at_ (sat r.glitches 0xFFFF) 16 + sat (r.mw / 64) 0xFFFF

/-- Input voltage in 10 mV, and the input power, of which the spec states no value: a free value. -/
def viewInput (d : Dev) : Nat := at_ (sat (d.pwr.inputMv / 10) 8191) 19 + freeVal d % 65536

def stateCode : DevState → Nat
  | .off => 0
  | .starting => 1
  | .service => 2
  | .quiet => 3
  | .dormant => 4
  | .flushing => 5
  | .halted => 6

def gotoCode : Option DevState → Nat
  | some .service => 1
  | some .quiet => 2
  | some .dormant => 3
  | _ => 0

def viewState (d : Dev) : Nat :=
  at_ (stateCode d.pwr.state) 29 + at_ (gotoCode d.pwr.latched) 26 + bit_ d.pwr.move.isSome 25 + bit_ d.pwr.maint 24 +
    sat (ceilDiv ((busyWait d).getD 0) 1000) 0xFFFFF

def dozeCode : DozeState → Nat
  | .active => 0
  | .requested => 1
  | .entering => 2
  | .doze => 3
  | .exiting => 4

def viewDoze (d : Dev) (c : Nat) : Nat := let z := (getPort d c).doze; at_ (dozeCode z.st) 29 + bit_ z.latched 28 + z.seq

/-! ### Faults, log and test (spec/17) -/

/-- Cells fenced, by themselves or with their course. -/
def fencedCells (d : Dev) : List Nat := allCells.filter (cellFenced d)

/-- The cause code of a cell's fence, 0 for none. -/
def fenceCause (d : Dev) (c : Nat) : Nat := (nget d.flt.fences c).getD (ngetD d.flt.courses (c / 16) 0)

def viewFlt (d : Dev) : Nat := at_ (fencedCells d).length 16 + d.flt.bits.toNat

def viewFenceMap (d : Dev) (i : Nat) : Nat := (List.range 32).foldl (fun n k => n + (if cellFenced d (32 * i + k) then at_ 1 k else 0)) 0

def viewUnfence (d : Dev) : Nat := bit_ d.flt.unfencing.isSome 31 + d.flt.unfenceResult

def viewCellFlt (d : Dev) (c : Nat) : Nat := bit_ (cellFenced d c) 31 + fenceCause d c

/-- The sequence that a new record takes (R374, R375). -/
def logNext (d : Dev) : Nat := d.ldr.startCount * 2 ^ 48 + d.log.next

def logOldest (d : Dev) : Nat :=
  (d.log.held.foldl (fun (b : Option Nat) p => match b with
    | none => some p.2.seq
    | some s => some (min s p.2.seq)) none).getD 0

/-- A 64-bit value as two words, low word first. -/
def loHi (v i : Nat) : Nat := if i = 0 then v % 2 ^ 32 else v / 2 ^ 32

/-- The slot that holds the selected sequence (R377). -/
def logSel (d : Dev) : Option (Nat × LogRec) :=
  let s := (reg d .LOG_SEQ_SEL 0 0).toNat + 2 ^ 32 * (reg d .LOG_SEQ_SEL 0 1).toNat
  d.log.held.find? fun p => p.2.seq == s

def viewLogRec (d : Dev) (i : Nat) : Nat := ((logSel d).map fun p => logWord p.2 i).getD 0

def viewLogStatus (d : Dev) : Nat :=
  match logSel d with
  | some p => bit_ true 31 + p.1
  | none => 0

def viewJrnRec (d : Dev) (i : Nat) : Nat := ((d.log.jrn.recs[hfld d .LOG_JRN_SEL 13 0]?).map fun r => logWord r i).getD 0

def viewProve (d : Dev) : Nat :=
  bit_ d.tst.proving.isSome 31 + bit_ d.tst.refused 30 + at_ d.tst.ended 27 + d.tst.proving.getD d.tst.lastPort

/-! ### Vault and management (spec/18) -/

/-- A bank of the Vault is busy (R398): bank 1 with an operation or its suspension, either with the erase of a journal sector. -/
def jrnErases (d : Dev) (b : Nat) : Bool := d.log.jrn.erasing && jrnBank d != b
def bankBusy (d : Dev) (b : Nat) : Bool := jrnErases d b || (b == 1 && d.vlt.op.isSome)

def viewVault (d : Dev) (b : Nat) : Nat :=
  let v := d.vlt
  if b = 0 then bit_ (bankBusy d 0) 31 + at_ (if jrnErases d 0 then 3 else 0) 28
  else
    let now := v.inner.toList ++ v.op.toList
    let op := match now with
      | o :: _ => o.kind
      | [] => if jrnErases d 1 then 3 else 0
    let pulses := match now with
      | o :: _ => o.pulses
      | [] => v.lastPulses
    let sector := match now with
      | o :: _ => vaultSector o.off
      | [] => v.lastSector
    bit_ (bankBusy d 1) 31 + at_ op 28 + bit_ (now.any (·.suspended)) 27 + bit_ v.fail 26 + bit_ v.seqErr 25 + bit_ v.overrun 24 + bit_ (v.reErase != []) 23 +
      at_ pulses 8 + sector

/-- The material under which management requests carry their TAG: a LIVE slot of usage CONTROL and tenant 0 (R386). -/
def mgmtMat (d : Dev) : Option Nat :=
  (getSlot d (hfld d .HUB_MGT_CFG 11 0)).bind fun s => if s.state = .live ∧ s.usage = 4 ∧ s.tenant = 0 ∧ d.sec.cleared = false then some s.mat else none

def viewMgt (d : Dev) : Nat :=
  let n (f : Nat → Bool) : Nat := (d.conns.filter fun p => f p.1 && p.2.service == .mgmt && activeConn p.2).length
  bit_ (mgmtMat d).isSome 31 + at_ (n fun k => decide (k < 2 ^ 18)) 16 + n fun k => decide (2 ^ 18 ≤ k)

/-! ### Unit directory (R411, Table REG-4) -/

/-- The number of units of a kind (Table SCO-2). -/
def unitCount (kind : Nat) : Nat := [13, 256, 256, 256, 256, 4096, 256, 256, 64, 1024, 16, 2].getD kind 0

/-- A unit ID names a unit (R7). -/
def unitOk (u : Nat) : Bool := decide (u % 4096 < unitCount (u / 4096))

/-- A port's state and the cause of its fence: FENCED, DOWN, STARTING, IDLE or IN_SERVICE. -/
def portUnit (d : Dev) (p : Nat) : Nat × Nat :=
  let q := getPort d p
  if cellFenced d p then (3, fenceCause d p)
  else
    match q.fence with
    | some (c, _) => (3, if c = 1 ∨ c = 2 then 0x05 else if q.episode then 0x06 else if d.flt.unlocked.contains (56 + p / 8) then 0x01 else 0x02)
    | none =>
      if portRole d p = 0 then (1, 0)
      else if q.link = .down then (5, 0)
      else if q.link = .training then (2, 0)
      else if q.doze.st = .doze then (1, 0) else (0, 0)

/-- The cause code of an OFFLINE media channel. -/
def medCause (cause : Nat) : Nat := if cause = 2 then 0x02 else if cause = 4 then 0x01 else 0x0E

/-- State and cause of a unit. -/
def unitState (d : Dev) (u : Nat) : Nat × Nat :=
  let i := u % 4096
  let cellOr (c : Nat) (other : Nat × Nat) : Nat × Nat := if cellFenced d c then (3, fenceCause d c) else other
  match u / 4096 with
  | 0 => if d.flt.hubFailed.contains i then (4, 0x19) else (0, 0)
  | 1 => cellOr i (if d.pwr.gated.contains i && d.pwr.state == .dormant then (1, 0) else (0, 0))
  | 2 => portUnit d i
  | 3 =>
    (match (getHbm d i).st with
      | .failed => (4, 0x0C)
      | .offline => cellOr i (2, 0)
      | .training => cellOr i (2, 0)
      | .selfRefresh => cellOr i (1, 0)
      | .online => cellOr i (0, 0))
  | 4 =>
    let m := getMed d i
    if m.st = .offline ∧ m.cause ≠ 0 then (4, medCause m.cause) else cellOr i (if m.st = .offline then (2, 0) else (0, 0))
  | 5 =>
    let m := getMed d (i / 16)
    if d.flt.dies.contains i || (m.st != .offline && !dieIn m.diesIn (i % 16)) then (4, 0x0E)
    else cellOr (i / 16) (if m.st = .offline ∧ m.cause = 0 then (2, 0) else (0, 0))
  | 6 => if d.sec.engineStopped.contains i then (3, 0x13) else cellOr i (0, 0)
  | 7 => cellOr i (0, 0)
  | 8 =>
    (match (getRail d i).st with
      | .failed => (4, 0x02)
      | .skipped => (4, 0x02)
      | .off => (2, 0)
      | .up => (0, 0))
  | 9 => portUnit d (i / 4)
  | 10 => if nhas d.flt.courses i then (3, ngetD d.flt.courses i 0) else (0, 0)
  | _ => (0, 0)

/-- The cell that holds a unit, none for units outside a cell. -/
def cellOfUnit (u : Nat) : Option Nat :=
  let k := u / 4096
  let i := u % 4096
  if k = 5 then some (i / 16) else if k = 9 then some (i / 4) else if 1 ≤ k ∧ k ≤ 7 then some i else none

/-- The sub-block of a kind in its cell block (Table REG-3). -/
def subBlock (kind : Nat) : Nat := [0, 0x0000, 0x1000, 0x5000, 0x6000, 0x6000, 0x7000, 0x8000, 0, 0x1000].getD kind 0

def unitBlock (u : Nat) : Nat :=
  match cellOfUnit u with
  | some c => 0x01000000 + c * 0x10000 + subBlock (u / 4096)
  | none =>
    let i := u % 4096
    match u / 4096 with
    | 10 => 0x02000000 + i * 0x10000
    | 8 => 0x00070000
    | 11 => 0x00090000
    | _ => i * 0x10000

def viewUnit (d : Dev) (u i : Nat) : Nat :=
  if i = 0 then
    let s := unitState d u
    at_ s.1 29 + at_ s.2 16 + at_ ((cellOfUnit u).getD 0) 8 + bit_ (cellOfUnit u).isSome 0
  else unitBlock u

def viewUnitCount (d : Dev) (k : Nat) : Nat :=
  if d.ldr.step ≤ 1 then 0 else
  let n := ((List.range (unitCount k)).filter fun i => let s := (unitState d (k * 4096 + i)).1; s == 0 || s == 1).length
  at_ n 16 + (unitCount k - n)

/-! ### Identification and global status (spec/19) -/

/-- The stepping code (R405): a letter and a digit, both of the device. -/
def viewStepping : Nat := at_ (0x41 + Config.stepping / 10 % 26) 8 + Config.stepping % 10

def viewVersion (d : Dev) (i : Nat) : Nat :=
  match i with
  | 0 => d.ldr.fw.1
  | 1 => d.ldr.fw.2
  | _ => 0x30060001

/-- CELL_SELF (R404): unit, course and slot of the cell. -/
def viewSelf (c : Nat) : Nat := at_ (0x1000 + c) 16 + at_ (c / 16) 4 + c % 16

def viewGlobal (d : Dev) : Nat :=
  at_ (stateCode d.pwr.state) 29 + at_ d.ldr.step 25 + bit_ (alertLow d) 24 + at_ d.flt.bits.toNat 19 + bit_ (holdupOk d) 18 + bit_ (participates d) 17 +
    bit_ d.mode.behind 16 + at_ (pairCode d.cus.state) 14 + bit_ d.cus.stale 13 + bit_ d.ldr.moduleWritten 12 + bit_ d.ldr.divergent 11 + at_ d.mode.epoch 9 +
    (fencedCells d).length

def viewCommit (d : Dev) : Nat :=
  let s := hreg d .HUB_COMMIT_STATUS
  bit_ d.mode.commitPending 31 + at_ (fld s 30 30) 30 + fld s 7 0

end Sys2Proof.Machine
end

