-- ==== Sys2Proof/Machine/Reads.lean ====
section
/-!
DEFINITION. Management reads: what every register shows, the snapshots that a read of word 0 latches, aliases, the shadow view and the Vault window (spec/18_management.md R388 to R391, R395,
spec/19_register_reference.md R401 to R411; register tables of every chapter).
-/
namespace Sys2Proof.Machine
open Sys2Proof

/-- Current value of word i of a register of the cell blocks that is computed from the state, none for one that holds its value itself. -/
def cellView (d : Dev) (r : RegId) (c i : Nat) : Option Nat :=
  match r with
  | .POOL_FREE => some (poolFree d c i)
  | .CIPH_QUEUE_STATUS => some (viewQueues d c false)
  | .CMP_QUEUE_STATUS => some (viewQueues d c true)
  | .OMT_CONN_COUNT => some (viewConnCount d c)
  | .OMT_CONN_INFO => some (viewConnInfo d c i)
  | .OMT_CC_INFO => some (viewCcInfo d c i)
  | .PORT_PFC_STATUS => some (viewPfc d c)
  | .PORT_FENCE => some (viewPortFence d c)
  | .CELL_DIRTY_STATUS => some (viewCellDirty d c)
  | .CELL_SUMP_STATUS => some (viewSump d c)
  | .ALC_STATUS => some (viewAlcStatus d c)
  | .ALC_ERR_LAST => some (at_ (getAlc d c).lastKind 30 + (getAlc d c).lastLine)
  | .CELL_TIER_STATUS => some (viewCellTier d c i)
  | .MED_STATUS => some (viewMedStatus d c i)
  | .MED_CAP => some (viewMedCap d c i)
  | .MED_WEAR => some (viewMedWear d c i)
  | .MED_REBUILD => some (viewRebuild d c)
  | .MED_BLOCK_INFO => some (viewBlock d c i)
  | .MED_ERR_LAST => some (viewMedErr d c i)
  | .HBM_STATUS => some (viewHbm d c)
  | .HBM_CE_INFO => some (viewCe d c i)
  | .HBM_UE_LAST => some (viewUe d c i)
  | .HBM_RETIRE_STATUS => some (viewRetire d c)
  | .PORT_MACSEC_STATUS => some (viewMacsec d c)
  | .CIPH_STATUS => some (viewCiph d c)
  | .PORT_DOZE_STATUS => some (viewDoze d c)
  | .FLT_CELL_FIRST => some (captureWords (nget d.flt.cellFirst c) i)
  | .FLT_CELL_STATUS => some (viewCellFlt d c)
  | .CELL_SELF => some (viewSelf c)
  | _ => none

/-- The same for the hub blocks of chambers, tiers, persistence, fabric and custody. -/
def tierView (d : Dev) (r : RegId) (i : Nat) : Option Nat :=
  match r with
  | .TIER_CHM_STATUS => some (viewChmStatus d)
  | .TIER_THIN_STATUS => some (viewThin d i)
  | .TIER_DIRTY_STATUS => some (viewDirty d i)
  | .TIER_USAGE => some (viewUsage d i)
  | .TIER_PLAN_STATUS => some (viewPlanStatus d)
  | .FAB_SELF => some (viewFabSelf d)
  | .FAB_LINK_STATE => some (viewLinkState d i)
  | .FAB_ROUTE_STATUS => some (bit_ d.fab.converged 31 + d.fab.db.length)
  | .FAB_PAIR_INFO => some (viewPairInfo d i)
  | .PWR_FLUSH_STATUS => some (viewFlushStatus d)
  | .PWR_FLUSH_RECORD => some (d.per.record.getD i 0)
  | .CUS_PAIR_STATUS => some (viewPair d)
  | .CUS_HEALTH_STATUS => some (viewHealth d)
  | .CUS_CLAIM => some (viewClaim d i)
  | .CUS_CHM_INFO => some (viewCusChm d i)
  | .CUS_RESYNC => some (viewResync d i)
  | .CUS_WIT_INFO => some (viewWit d i)
  | .BLK_STATUS => some (viewBulk d)
  | .BLK_CONN_INFO => some (viewBulkConn d)
  | _ => none

/-- The same for the time and calendar block, the key store, the loader and the power supervisor. -/
def hubView (d : Dev) (r : RegId) (i : Nat) : Option Nat :=
  match r with
  | .TIME_NOW => some (hiLo (fedTime d) i)
  | .TIME_STATUS => some (viewTime d)
  | .TIME_ROOT => some (viewRoot d)
  | .TIME_OFFSET => some (viewOffset d)
  | .TIME_PPS_ERR => some (sat32 d.tim.pps.err)
  | .CAL_ENTRY => some (viewCal d i)
  | .CAL_STATUS => some (viewCalStatus d)
  | .TIME_ACT_STATUS => some (viewAct d)
  | .TIME_ACT_RESULT => some (viewActResult d i)
  | .TIME_SNAP_INFO => some (viewSnap d i)
  | .KEY_STATUS => some (viewKey d)
  | .KEY_DEV_PUB => some (Config.devicePub i)
  | .KEY_OWNER_STATUS => some (viewOwners d)
  | .KEY_TAMPER_STATUS => some d.sec.tamper
  | .LDR_STATUS => some (viewLdr d)
  | .LDR_COPY_STATUS => some (viewCopy (if i = 0 then d.ldr.copyA else d.ldr.copyB))
  | .LDR_COPY_SEQ => some (viewCopySeq d i)
  | .LDR_IDENTITY => some (at_ (ordinal d) 16 + at_ d.ldr.slot 8)
  | .LDR_DEVICE_ID => some (Config.deviceId i)
  | .LDR_STEP_TIME => some (viewStepTime d i)
  | .LDR_GROUP => some (viewGroup d)
  | .LDR_FORMAT_TOKEN => some d.ldr.token
  | .LDR_START_COUNT => some d.ldr.startCount
  | .PWR_RAIL_STATUS => some (viewRails d i)
  | .PWR_RAIL_INFO => some (viewRail d i)
  | .PWR_INPUT_STATUS => some (viewInput d)
  | .PWR_STATE_STATUS => some (viewState d)
  | .PWR_DOWN_FAIL => some (loHi d.pwr.downFail i)
  | _ => none

/-- The same for the fault hub, the log, the test block, the Vault, the management endpoints and identification. -/
def faultView (d : Dev) (r : RegId) (i : Nat) : Option Nat :=
  match r with
  | .FLT_STATUS => some (viewFlt d)
  | .FLT_FIRST => some (captureWords d.flt.first i)
  | .FLT_FENCE_MAP => some (viewFenceMap d i)
  | .FLT_UNFENCE_STATUS => some (viewUnfence d)
  | .FLT_HALT_CAPTURE => some (captureWords d.flt.halt i)
  | .LOG_NEXT_SEQ => some (loHi (logNext d) i)
  | .LOG_OLDEST => some (loHi (logOldest d) i)
  | .LOG_REC => some (viewLogRec d i)
  | .LOG_REC_STATUS => some (viewLogStatus d)
  | .LOG_HELD => some (d.log.held.filter fun p => p.2.sev == i).length
  | .LOG_JRN_REC => some (viewJrnRec d i)
  | .LOG_JRN_STATUS => some (at_ d.log.jrn.waiting.length 16 + d.log.jrn.recs.length)
  | .TST_STATUS => some (bit_ d.tst.testMode 31)
  | .TST_PERMIT => some d.tst.permit
  | .TST_PROVE_STATUS => some (viewProve d)
  | .VLT_STATUS => some (viewVault d i)
  | .HUB_MGT_STATUS => some (viewMgt d)
  | .HUB_STEPPING => some viewStepping
  | .HUB_VERSION => some (viewVersion d i)
  | .HUB_GLOBAL_STATUS => some (viewGlobal d)
  | .HUB_COMMIT_STATUS => some (viewCommit d)
  | .HUB_UNIT_COUNT => some (viewUnitCount d i)
  | _ => none

/-- The unit that a client has selected; HUB_UNIT_SEL is held for each connection (R411). -/
def unitSelOf (d : Dev) (w : Writer) : Nat := ((writerConn w).map fun k => (getConn d k).unitSel).getD 0

/-- Current value of word i of a register, of cell c for a cell register, to a client: committed values for SH, 0 for WO (Table SCO-1). -/
def showWord (d : Dev) (w : Writer) (r : RegId) (c i : Nat) : Word :=
  if r = .HUB_UNIT_SEL then word (unitSelOf d w)
  else if r = .HUB_UNIT_INFO then word (viewUnit d (unitSelOf d w) i)
  else
    let own : Nat := if (regInfo r).cls = .wo then 0 else (reg d r c i).toNat
    let v := if (regInfo r).hub.isNone then cellView d r c i else (((tierView d r i).orElse fun _ => hubView d r i).orElse fun _ => faultView d r i)
    word (v.getD own)

/-- Registers whose words show one snapshot, taken at the read of word 0 (R388 and their tables). -/
def latches : RegId → Bool
  | .OMT_CONN_INFO => true
  | .OMT_CC_INFO => true
  | .FAB_PAIR_INFO => true
  | .TIER_USAGE => true
  | .MED_BLOCK_INFO => true
  | .HBM_CE_INFO => true
  | .CUS_CHM_INFO => true
  | .CUS_WIT_INFO => true
  | .TIME_NOW => true
  | .CAL_ENTRY => true
  | .TIME_SNAP_INFO => true
  | .PWR_RAIL_INFO => true
  | .HUB_UNIT_INFO => true
  | .LOG_NEXT_SEQ => true
  | .LOG_OLDEST => true
  | _ => false

/-- The later words of a register are latched. -/
def latchWords (d : Dev) (w : Writer) (r : RegId) (c : Nat) : Dev :=
  forEach ((List.range (regInfo r).count).drop 1) d fun d' i => { d' with latch := nset d'.latch (regKey r c i) (showWord d w r c i) }

/-- A read of word i: word 0 of a snapshot latches the others, which read as latched. The free value that a read of PWR_INPUT_STATUS shows is used up. -/
def readReg (d : Dev) (w : Writer) (r : RegId) (c i : Nat) : Dev × Word :=
  if latches r then (if i = 0 then (latchWords d w r c, showWord d w r c 0) else (d, ngetD d.latch (regKey r c i) (regReset r i)))
  else (if r = .PWR_INPUT_STATUS then freeStep d else d, showWord d w r c i)

/-- The same through the shadow view: SH fields show their shadow (R402). -/
def readView (d : Dev) (w : Writer) (r : RegId) (c i : Nat) (view : Bool) : Dev × Word :=
  let x := readReg d w r c i
  if view && (regInfo r).cls == .sh then (x.1, (x.2 &&& ~~~regMask r i) ||| (shadowOf d r c i &&& regMask r i)) else x

/-- Registers that only tenant 0 may read (R62, R229, R273, R311, R395 and the preambles of spec/08 and spec/13). -/
def readGuarded (r : RegId) : Bool :=
  match r with
  | .KEY_CMD => true
  | .KEY_ARG => true
  | .KEY_PUB_ARG => true
  | .BLK_CFG => true
  | .HBM_RETIRE_CMD => true
  | .HBM_RETIRE_ARG => true
  | .TIME_ACT_CMD => true
  | .TIER_DIRTY_CFG => false
  | .TIER_DIRTY_STATUS => false
  | .VLT_UNLOCK => true
  | .VLT_CMD => true
  | .VLT_ADDR => true
  | .VLT_DATA => true
  | .VLT_CTRL => true
  | _ => (regInfo r).hub == some 11

/-- The injection registers exist only with TEST_MODE (R380). -/
def testOnly (r : RegId) : Bool := r == .TST_INJECT_CTRL || r == .TST_INJECT_ADDR

/-- A read of a register is denied: by the rule of its chapter, or of the shadow view from I3C (Table REG-1). -/
def readDenied (d : Dev) (w : Writer) (r : RegId) (view : Bool) : Bool :=
  (!operator d w && (readGuarded r || view)) || (testOnly r && !d.tst.testMode)

/-- The cells of a place that answer: not fenced through an alias, and not gone. -/
def answering (d : Dev) : RegPlace → List Nat
  | .hub _ _ => [0]
  | .cell c _ _ => if cellGone d c then [] else [c]
  | .many l _ _ => l.filter fun c => !cellFenced d c && !cellGone d c

/-- The word at a place: its value in each cell that answers, the lowest first; MISMATCH where they differ (R391). -/
def readPlace (d : Dev) (w : Writer) (p : RegPlace) (view : Bool) : Dev × Nat × Word :=
  let r := placeReg p
  match answering d p with
  | [] => (d, acNoUnit, 0)
  | c :: rest =>
    if readDenied d w r view then (d, acDenied, 0)
    else if r = .HUB_UNIT_INFO ∧ unitOk (unitSelOf d w) = false then (d, acNoUnit, 0)
    else
      let x := readView d w r c (placeWord p) view
      let y := rest.foldl (fun (a : Dev × Bool) c' =>
        let z := readView a.1 w r c' (placeWord p) view
        (z.1, a.2 || z.2 != x.2)) (x.1, false)
      (y.1, if y.2 then acMismatch else acOk, x.2)

/-- The Vault user window (R395, R398): for tenant 0 the stored word, or VLT_STATUS[1] while bank 1 is busy. -/
def readWindow (d : Dev) (w : Writer) (a : Nat) : Nat × Word :=
  if !operator d w then (acDenied, 0)
  else if bankBusy d 1 then (acBusyBank, word (viewVault d 1))
  else (acOk, vaultWord d.vlt ((a - 0x03000000) / 4))

/-- An address lies in the Vault user window, or in the shadow view (Table REG-1). -/
def inWindow (a : Nat) : Bool := decide (0x03000000 ≤ a ∧ a < 0x03200000 ∧ a % 4 = 0)
def inView (a : Nat) : Bool := decide (0x04000000 ≤ a ∧ a < 0x07010000)

/-- The place that an address names, directly or through the shadow view (R402). -/
def placeAt (a : Nat) : Option RegPlace := placeOf (if inView a then a - 0x04000000 else a)

/-- A word read at an address: the device after it, its status and what it returns, before the access is recorded. -/
def readAddr (d : Dev) (w : Writer) (a : Nat) : Dev × Nat × Word :=
  if inWindow a then
    let x := readWindow d w a
    (d, x.1, x.2)
  else
    match placeAt a with
    | none => (d, acNoUnit, 0)
    | some p => readPlace d w p (inView a)

/-- The address names HUB_ACCESS_STATUS, whose reads are not recorded (R410). -/
def isAccessStatus (a : Nat) : Bool := (placeAt a).any fun p => placeReg p == .HUB_ACCESS_STATUS

/-- A word read by a client (R388, R389, R410). -/
def readWordAt (d : Dev) (w : Writer) (a : Nat) : Dev × Nat × Word :=
  let x := readAddr d w a
  if isAccessStatus a then x else (accessDone x.1 w a x.2.1, x.2)

end Sys2Proof.Machine
end

