-- ==== Sys2Proof/Machine/Mgmt.lean ====
section
/-!
DEFINITION. Management writes, request messages and the I3C target (spec/18_management.md R384 to R392, Tables MGT-1 to MGT-5; register tables of every chapter).
-/
namespace Sys2Proof.Machine
open Sys2Proof

/-! ### Writes of registers that hold commands -/

/-- Two effects of one write, in turn; a denied write is recorded once. -/
def bothOf (d : Dev) (w : Writer) (a b : Bool) (f g : Dev → Dev) : Dev :=
  if a && b && operator d w then g (f d) else if a then f d else g d

/-- A write of a command register none of whose bits asks for anything. -/
def noCommand (d : Dev) (w : Writer) (r : RegId) (c i : Nat) : Dev := command d w r c i (operator d w) id

/-- TIER_CHM_CMD (Table CHM-10). -/
def writeChmCmd (d : Dev) (w : Writer) (op : Nat) : Dev :=
  match op with
  | 1 => chmCreate d w
  | 2 => chmResize d w
  | 3 => chmDelete d w
  | 4 => chmSetAttr d w
  | 5 => keyIssue d w
  | 6 => keyInvalidate d w
  | 7 => keyQuery d w
  | 8 => chmQuery d w
  | n => chmCmdReserved d w n

/-- TIER_PLAN_CMD (Table TIR-10). -/
def writePlanCmd (d : Dev) (w : Writer) (op : Nat) : Dev :=
  match op with
  | 1 => planCreate d w
  | 2 => planCursor d w
  | 3 => planLookahead d w
  | 4 => planRelease d w
  | 5 => planQuery d w
  | 6 => entryQuery d w
  | n => planCmdReserved d w n

/-- HBM_RETIRE_CMD. -/
def writeRetireCmd (d : Dev) (w : Writer) (c op : Nat) : Dev :=
  match op with
  | 1 => retireFrame d w c
  | 2 => releaseFrame d w c
  | 3 => queryFrame d w c
  | 4 => pprRow d w c
  | 5 => cancelPpr d w c
  | n => retireCmdReserved d w c n

/-- KEY_CMD (Table SEC-3). -/
def writeKeyCmd (env : Env) (d : Dev) (w : Writer) (op : Nat) : Dev :=
  match op with
  | 1 => keyGenerate d w
  | 2 => keyImport d w
  | 3 => keyDestroy d w
  | 4 => keySlotQuery d w
  | 5 => keyAgree d w
  | 6 => ownerAdd d w env.readBack
  | 7 => ownerRevoke d w env.readBack
  | n => keyCmdReserved d w n

/-- TIME_ACT_CMD (Table TIM-9). -/
def writeActCmd (d : Dev) (w : Writer) (op : Nat) : Dev :=
  match op with
  | 1 => actBarrier d w
  | 2 => actSnapshot d w
  | 3 => actModeCommit d w
  | 4 => actRestart d w
  | 5 => actPost d w
  | n => actCmdReserved d w n

/-- CUS_CTRL: a full compare pass, HANDOVER, FAILBACK_NOW. -/
def writeCusCtrl (d : Dev) (w : Writer) (v : Word) : Dev :=
  if fld v 31 29 = 0 then noCommand d w .CUS_CTRL 0 0
  else bothOf d w (fbit v 31) (fbit v 30 || fbit v 29) (fun d => compareNow d w) fun d => bothOf d w (fbit v 30) (fbit v 29) (fun d => handover d w) fun d => failbackNow d w

/-- MED_CTRL: SCRUB_NOW and RETIRE_DIE. -/
def writeMedCtrl (d : Dev) (w : Writer) (c : Nat) (v : Word) : Dev :=
  if fld v 31 30 = 0 then noCommand d w .MED_CTRL c 0
  else bothOf d w (fbit v 31) (fbit v 30) (fun d => scrubNow d w c) fun d => retireDie d w c (fld v 3 0)

/-- HBM_CE_CLEAR: ALL and ONE. -/
def writeCeClear (d : Dev) (w : Writer) (c : Nat) (v : Word) : Dev :=
  if fbit v 31 then ceClearAll d w c else if fbit v 30 then ceClearOne d w c (fld v 4 0) else noCommand d w .HBM_CE_CLEAR c 0

/-- PWR_STATE_CTRL: GOTO and MAINT (R349, R354). -/
def writeStateCtrl (d : Dev) (w : Writer) (v : Word) : Dev :=
  match fld v 2 0 with
  | 1 => gotoService d w (fbit v 8)
  | 2 => gotoQuiet d w (fbit v 8)
  | 3 => gotoDormant d w (fbit v 8)
  | _ => if fbit v 8 then maintEnter d w else maintEnd d w

/-- TST_PROVE_CTRL: ENTER, or EXIT (R381, R383). -/
def writeProveCtrl (d : Dev) (w : Writer) (v : Word) : Dev :=
  if fbit v 31 then proveEnter d w (fld v 7 0) else if fbit v 30 then proveExit d w else noCommand d w .TST_PROVE_CTRL 0 0

/-- VLT_CMD and VLT_CTRL (R396, R399). -/
def writeVaultCmd (d : Dev) (w : Writer) (v : Word) : Dev :=
  match fld v 1 0 with
  | 1 => vaultCmdProgram d w
  | 2 => vaultCmdErase d w
  | n => vaultCmd d w n

def writeVaultCtrl (d : Dev) (w : Writer) (v : Word) : Dev :=
  if fbit v 31 ∧ fbit v 30 then bothOf d w true true (fun d => vaultSuspend d w) fun d => vaultResume d w
  else if fbit v 31 then vaultSuspend d w else if fbit v 30 then vaultResume d w else noCommand d w .VLT_CTRL 0 0

/-- CAL_CMD. -/
def writeCalCmd (d : Dev) (w : Writer) (v : Word) : Dev :=
  match fld v 1 0 with
  | 1 => calPostLocal d w
  | 2 => calCancelLocal d w
  | _ => noCommand d w .CAL_CMD 0 0

/-! ### Clears of single status bits (W1C) -/

/-- The status bits of class W1C that word i of a register holds, cleared where the write names them. -/
def clearBits (d : Dev) (r : RegId) (c i : Nat) (v : Word) : Dev :=
  let b (n : Nat) (old : Bool) : Bool := old && !fbit v n
  match r with
  | .TIER_CHM_STATUS => { d with chm.overrun := b 30 d.chm.overrun }
  | .TIER_PLAN_STATUS => { d with tier.planOverrun := b 30 d.tier.planOverrun }
  | .KEY_STATUS => { d with sec.overrun := b 30 d.sec.overrun }
  | .TIME_ACT_STATUS => { d with act.overrun := b 30 d.act.overrun }
  | .TST_PROVE_STATUS => { d with tst.refused := b 30 d.tst.refused }
  | .LDR_STATUS => { d with ldr.moduleWritten := b 27 d.ldr.moduleWritten }
  | .HBM_RETIRE_STATUS =>
    let h := getHbm d c
    setHbm d c { h with overrun := b 30 h.overrun }
  | .MED_STATUS =>
    let m := getMed d c
    if i = 0 then setMed d c { m with rejected := b 28 m.rejected } else d
  | .VLT_STATUS => if i = 1 then { d with vlt.fail := b 26 d.vlt.fail, vlt.seqErr := b 25 d.vlt.seqErr, vlt.overrun := b 24 d.vlt.overrun } else d
  | .HUB_COMMIT_STATUS => setReg d .HUB_COMMIT_STATUS 0 0 (hreg d .HUB_COMMIT_STATUS &&& ~~~(v &&& word (2 ^ 30)))
  | _ => d

/-! ### Writes by class -/

/-- A write of an RW, ST or W1C register, which takes effect at once, or of an RO one, which is ignored (Table SCO-1). -/
def plainWrite (d : Dev) (w : Writer) (r : RegId) (c i : Nat) (v : Word) : Dev :=
  match (regInfo r).cls with
  | .ro => d
  | .w1c => clearBits d r c i v
  | .sh => stageMasked d r c i (regMask r i) v
  | .wo => setReg d r c i v
  | .rw => if r = .HUB_UNIT_SEL then ((writerConn w).map fun k => modConn d k fun x => { x with unitSel := fld v 15 0 }).getD d else setReg d r c i (v &&& regMask r i)
  | .st => if r = .KEY_TAMPER_STATUS then { d with sec.tamper := fld v 2 0 } else setReg d r c i (v &&& regMask r i)

/-- A write of a register of a cell (R389). -/
def writeCell (d : Dev) (w : Writer) (r : RegId) (c i : Nat) (v : Word) : Dev :=
  match r with
  | .PORT_FENCE => if fbit v 30 then portFenceRelease d w c else noCommand d w .PORT_FENCE c 0
  | .MED_CTRL => writeMedCtrl d w c v
  | .HBM_CE_CLEAR => writeCeClear d w c v
  | .HBM_RETIRE_CMD => writeRetireCmd d w c (fld v 3 0)
  | .FLT_CELL_FIRST => if i = 0 then cellFirstClear d w c v else noCommand d w .FLT_CELL_FIRST c i
  | _ => command d w r c i (operator d w) fun d => plainWrite d w r c i v

/-- A write of a register of the hub (R389). -/
def writeHub (env : Env) (d : Dev) (w : Writer) (r : RegId) (i : Nat) (v : Word) : Dev :=
  match r with
  | .TIER_CHM_CMD => writeChmCmd d w (fld v 3 0)
  | .TIER_PLAN_CMD => writePlanCmd d w (fld v 3 0)
  | .KEY_CMD => writeKeyCmd env d w (fld v 3 0)
  | .TIME_ACT_CMD => writeActCmd d w (fld v 3 0)
  | .CAL_CMD => writeCalCmd d w v
  | .CUS_CTRL => writeCusCtrl d w v
  | .PWR_STATE_CTRL => writeStateCtrl d w v
  | .PWR_MARGIN => marginWrite d w i v
  | .HUB_COMMIT => commitWrite d w v
  | .TIME_TOD_CFG => if i = 1 then timeTodWrite d w v.toNat else command d w r 0 i (operator d w) fun d => plainWrite d w r 0 i v
  | .TIME_MODE_ADOPT => if i = 1 then timeModeAdopt d w v else command d w r 0 i (operator d w) fun d => plainWrite d w r 0 i v
  | .FLT_UNFENCE => fltUnfence d w (fld v 15 0) env.locked
  | .FLT_FIRST => if i = 0 ∧ fbit v 31 then fltFirstClear d w else noCommand d w .FLT_FIRST 0 i
  | .FLT_STATUS => fltStatusClear d w v
  | .TST_INJECT_CTRL => inject d w v
  | .TST_INJECT_ADDR => command d w r 0 i (operator d w && d.tst.testMode) fun d => plainWrite d w r 0 i v
  | .TST_PROVE_CTRL => writeProveCtrl d w v
  | .VLT_UNLOCK => vaultUnlock d w v
  | .VLT_CMD => writeVaultCmd d w v
  | .VLT_ADDR => vaultAddr d w v
  | .VLT_DATA => vaultData d w i v
  | .VLT_CTRL => writeVaultCtrl d w v
  | _ => command d w r 0 i (operator d w) fun d => plainWrite d w r 0 i v

/-- A write through an alias: an SH register is staged in every addressed cell, the hub keeping it for a fenced one (R390); of any other class it changes nothing (R391). -/
def writeMany (d : Dev) (w : Writer) (a : Nat) (cells : List Nat) (r : RegId) (i : Nat) (v : Word) : Dev :=
  if (answering d (.many cells r i)).isEmpty then accessDone d w a acNoUnit
  else if !operator d w then accessDone d w a acDenied
  else if (regInfo r).cls ≠ .sh then accessDone d w a acBadAlias
  else accessDone (forEach cells d fun d c => stageMasked d r c i (regMask r i) v) w a acOk

/-- A word written at an address by a client (R388 to R391, R395, R402). -/
def writeWordAt (env : Env) (d : Dev) (w : Writer) (a : Nat) (v : Word) : Dev :=
  if !served d w then d
  else if inWindow a then accessDone d w a acDenied
  else
    match placeAt a with
    | none => accessDone d w a acNoUnit
    | some p =>
      if inView a then accessDone d w a (if (answering d p).isEmpty then acNoUnit else acDenied)
      else
        match p with
        | .hub r i => writeHub env d w r i v
        | .cell c r i => writeCell d w r c i v
        | .many l r i => writeMany d w a l r i v

/-- REGISTER_WRITE: a write of one register by a management client. -/
def registerWrite (d : Dev) (w : Writer) (a : Nat) (v : Word) (env : Env) : Dev := writeWordAt env d w a v

/-! ### Request messages (R386 to R388) -/

/-- One operation of a request: WRITE or READ, address, and the words to write or their number. -/
structure MgmtOp where
  write : Bool
  addr : Nat
  count : Nat
  data : List Word

/-- A number from big-endian bytes. -/
def beNat (l : List Byte) : Nat := leNat l.reverse

/-- Words from big-endian bytes. -/
def beWords : Nat → List Byte → List Word
  | 0, _ => []
  | n + 1, l => word (beNat (l.take 4)) :: beWords n (l.drop 4)

/-- N operations from bytes, none unless they are well formed and use every byte (Table MGT-2, R387). -/
def parseOps : Nat → List Byte → Option (List MgmtOp)
  | 0, l => if l.isEmpty then some [] else none
  | n + 1, l =>
    let b (i : Nat) : Nat := ((l[i]?).getD 0).toNat
    let cnt := b 1
    let addr := beNat ((l.drop 4).take 4)
    let body := if b 0 = 2 then 4 * cnt else 0
    if l.length < 8 + body ∨ (b 0 ≠ 1 ∧ b 0 ≠ 2) ∨ cnt = 0 ∨ 64 < cnt ∨ b 2 ≠ 0 ∨ b 3 ≠ 0 ∨ addr % 4 ≠ 0 ∨ 0x10000 < addr % 0x10000 + 4 * cnt then none
    else (parseOps n (l.drop (8 + body))).map fun ops =>
      { write := b 0 == 2, addr := addr, count := cnt, data := if b 0 = 2 then beWords cnt (l.drop 8) else [] } :: ops

/-- Bytes of a response beyond those of the header and TAG. -/
def answerLen (l : List MgmtOp) : Nat := l.foldl (fun n o => n + 8 + (if o.write then 0 else 4 * o.count)) 0

/-- The sequence and operations of a request, none when it is malformed (R387). -/
def parseRequest (l : List Byte) : Option (Nat × List MgmtOp) :=
  let n := ((l[3]?).getD 0).toNat
  if l.length < 16 ∨ 4096 < l.length + 16 ∨ l.take 3 ≠ [0x4D, 0x47, 0x01] ∨ n = 0 ∨ 16 < n ∨ (((l.drop 8).take 8).any fun b => b != 0) = true then none
  else match parseOps n (l.drop 16) with
    | some ops => if 4096 < 32 + answerLen ops then none else some (beNat ((l.drop 4).take 4), ops)
    | none => none

/-- The status of the last access from a client's path (R410). -/
def lastStatus (d : Dev) (w : Writer) : Nat := fld (reg d .HUB_ACCESS_STATUS 0 (2 * pathIdx w)) 31 28

/-- What an operation has come to: the device, the first status that is not OK with its index, and the words read. -/
structure OpRun where
  dev : Dev
  status : Nat := 0
  index : Nat := 0
  words : List Word := []

/-- One word of an operation (R388): a status other than OK does not stop the words after it. -/
def opWord (env : Env) (w : Writer) (o : MgmtOp) (x : OpRun) (k : Nat) : OpRun :=
  if o.write then
    let d := writeWordAt env x.dev w (o.addr + 4 * k) (o.data.getD k 0)
    let s := lastStatus d w
    if s ≠ acOk ∧ x.status = acOk then { x with dev := d, status := s, index := k } else { x with dev := d }
  else
    let y := readWordAt x.dev w (o.addr + 4 * k)
    let ws := x.words ++ [y.2.2]
    if y.2.1 ≠ acOk ∧ x.status = acOk then { dev := y.1, status := y.2.1, index := k, words := ws } else { x with dev := y.1, words := ws }

/-- An operation and its bytes in the response (Table MGT-3). -/
def runOp (env : Env) (w : Writer) (d : Dev) (o : MgmtOp) : Dev × List Byte :=
  let x := (List.range o.count).foldl (opWord env w o) { dev := d }
  (x.dev, [BitVec.ofNat 8 x.status, BitVec.ofNat 8 x.index, BitVec.ofNat 8 o.count, 0] ++ beBytes 4 o.addr ++ x.words.flatMap fun v => beBytes 4 v.toNat)

/-- The message result (Table MGT-3): 0 EXECUTED, 1 TAG_FAIL, 2 SEQUENCE, 3 MALFORMED, 4 NO_KEY. -/
def mgmtResult (d : Dev) (k : Nat) (m : MgmtMsg) (req : Option (Nat × List MgmtOp)) : Nat :=
  match req with
  | none => 3
  | some (s, _) =>
    match mgmtMat d with
    | none => 4
    | some mat => if m.tag ≠ Config.cmac mat m.bytes then 1 else if s ≠ (getConn d k).mgmtSeq then 2 else 0

/-- Index of a message result in HUB_MGT_CNT. -/
def mgmtCnt (r : Nat) : Nat := r

/-- The response's TAG under the key of the request, zero when the slot is not LIVE (R387). -/
def mgmtTag (d : Dev) (m : List Byte) : List Byte := beBytes 16 (((mgmtMat d).map fun k => Config.cmac k m).getD 0).toNat

/-- A response leaves on its connection. -/
def mgmtSend (d : Dev) (w : Writer) (bytes : List Byte) : Dev :=
  match w with
  | .inBand k => sendRequest d k.val 0 .mgmt false false 0 bytes []
  | .port c => sendCtrl d 0x4D47 c.val (bytes.map (·.toNat))
  | .i3c => d

/-- A request is executed or refused, and answered (R386 to R388). -/
def mgmtRun (env : Env) (d : Dev) (w : Writer) (k : Nat) (m : MgmtMsg) : Dev :=
  let req := parseRequest m.bytes
  let res := mgmtResult d k m req
  let d := bump d .HUB_MGT_CNT 0 (mgmtCnt res)
  let head := (m.bytes ++ List.replicate 8 0).take 8 ++ [BitVec.ofNat 8 res, 0, 0, 0, 0, 0, 0, 0]
  let x : Dev × List Byte :=
    match res, req with
    | 0, some (_, ops) =>
      ops.foldl (fun (a : Dev × List Byte) o =>
        let y := runOp env w a.1 o
        (y.1, a.2 ++ y.2)) (modConn d k fun c => { c with mgmtSeq := c.mgmtSeq + 1 }, head)
    | _, _ => (d, head)
  mgmtSend x.1 w (x.2 ++ mgmtTag d x.2)

/-- MANAGEMENT_REQUEST: a message that a management connection has received; in-band it leaves the receive buffer that its SEND took (R74). -/
def managementRequest (d : Dev) (w : Writer) (m : MgmtMsg) (env : Env) : Dev :=
  if !served d w then d
  else
    match w with
    | .i3c => d
    | .port c =>
      let k := portConnKey c.val
      let d := if (getConn d k).state = .connecting then modConn d k fun x => { x with state := .ready } else d
      if (getConn d k).state = .ready ∧ (getConn d k).service = .mgmt then mgmtRun env d w k m else d
    | .inBand c =>
      let x := getConn d c.val
      if x.state = .ready ∧ x.service = .mgmt ∧ x.recvFree < 16 then mgmtRun env (modConn d c.val fun x => { x with recvFree := x.recvFree + 1 }) w c.val m else d

/-! ### I3C (R392, Table MGT-5) -/

/-- The status summary (Table MGT-5). -/
def summaryWords (d : Dev) : List Word :=
  [(RegId.FLT_STATUS, 0), (.FLT_FIRST, 0), (.FLT_FIRST, 1), (.PWR_STATE_STATUS, 0), (.PWR_INPUT_STATUS, 0), (.TIME_STATUS, 0), (.CUS_PAIR_STATUS, 0), (.LDR_STATUS, 0)].map
    fun p => showWord d .i3c p.1 0 p.2

/-- Only the summary is served: in start step 2 and in FLUSHING. -/
def summaryOnly (d : Dev) : Bool := d.pwr.state == .flushing || (d.pwr.state == .starting && startStep d == 2)

/-- I3C_DYNAMIC_ADDRESS: by ENTDAA, or by SETDASA from the static address 0x5C. -/
def i3cDynamicAddress (d : Dev) (addr : Nat) : Dev := if d.pwr.state = .off then d else { d with i3c.dynAddr := some addr }

/-- I3C_ADDRESS_WRITE: the address of the private read that directly follows. -/
def i3cAddressWrite (d : Dev) (addr : Nat) : Dev := if d.pwr.state = .off ∨ summaryOnly d then d else { d with i3c.addr := some addr }

/-- An I3C message, in the model's own number, with its bytes. -/
def i3cOut : Nat := 0x13C

/-- Registers read from an address on, least significant byte first. -/
def i3cRegisters (d : Dev) (addr n : Nat) : Dev :=
  let skip := addr % 4
  let x := (List.range ((skip + n + 3) / 4)).foldl (fun (a : Dev × List Byte) k =>
    let y := readWordAt a.1 .i3c ((addr - skip + 4 * k) % 2 ^ 32)
    (y.1, a.2 ++ leBytes 4 y.2.2.toNat)) (d, [])
  sendCtrl x.1 i3cOut 0 (((x.2.drop skip).take n).map (·.toNat))

/-- I3C_PRIVATE_READ of n bytes: registers after an address write, else the summary, latched at its first byte and counted as an access to FLT_STATUS (R410). -/
def i3cPrivateRead (d : Dev) (n : Nat) : Dev :=
  if d.pwr.state = .off then d
  else
    let addr := if summaryOnly d then none else d.i3c.addr
    let d := { d with i3c.addr := none }
    match addr with
    | some a => i3cRegisters d a (min n 256)
    | none =>
      let bytes := (summaryWords d).flatMap fun v => leBytes 4 v.toNat
      let d := freeStep (bump (accessDone d .i3c (regAddr .FLT_STATUS 0 0) acOk) .HUB_MGT_CNT 0 7)
      sendCtrl d i3cOut 0 ((bytes.take n).map (·.toNat))

end Sys2Proof.Machine
end

