-- ==== Sys2Proof/Machine/Data.lean ====
section
/-!
DEFINITION. The data path: how a frame enters through a port, what PROVING does to it, and the requests and responses it may carry (spec/04_olisar_transport.md R73 to R79, R86,
spec/05_congestion.md R92, R101, R106, spec/06_federation_fabric.md R111 to R113, spec/14_security.md R319, spec/17_faults_and_events.md R382, R383).
-/
namespace Sys2Proof.Machine
open Sys2Proof

/-! ### Requests of hosts (R72 to R75) -/

/-- A host's memory request passes the receive checks; on a connection that is no data connection it is an invalid request. -/
def hostOp (d : Dev) (p : Pkt) (op : OpKind) (kind : ReqKind) (r : Reth) (data : List Byte) (arg : Nat × Nat) (errs : List LineErr) : Dev :=
  let n (mtu : Nat) : Nat := if kind = .write then packetsOf data.length mtu else if kind = .read then packetsOf r.len.toNat mtu else 1
  let chm := some (ngetD d.chm.keys (r.key.toNat / 256) {}).chamber
  receive d p chm op (data != []) (fun k => n (getConn d k).pmtu)
    (fun d k => if (getConn d k).service = .data then hostRequest d p k kind r data arg errs true else d)
    (fun d k =>
      if (getConn d k).service = .data then hostRequest d p k kind r data arg errs false
      else fatalNak (bump d .OMT_CNT (connCell k) 15) k ⟨p.psn.toNat, chm, p.oxh.any (·.persist)⟩ synInvalid)

/-- A write of a host; an immediate value is discarded (Table OMT-6). -/
def hostWrite (d : Dev) (p : Pkt) (r : Reth) (data : List Byte) : Dev :=
  hostOp d p (if p.opcode.toNat = 0x0B ∨ p.opcode.toNat = 0xCB then .writeImm else .write) .write r data (0, 0) []

/-- A SEND takes a receive buffer of a management connection and is acknowledged in its turn (R74). -/
def sendTaken (d : Dev) (p : Pkt) (k n : Nat) : Dev :=
  let d := modConn d k fun c => { advanceTo c (psnMod (p.psn.toNat + n)) with recvFree := c.recvFree - 1 }
  pump (addReq d { id := d.nextReq, conn := k, psn := p.psn.toNat, pkts := n, kind := .load, ackReq := p.ackReq, persist := p.oxh.any (·.persist), keyIdx := 0, va := 0,
                   chamber := 2 ^ 16, off := 0, len := 0, data := [], mark := [], arg := (0, 0), errs := [], stage := .over stOk, parts := [], at_ := d.now, ts := 0 })

/-- A SEND of some payload bytes (R30, R74, R385). -/
def sendReceived (d : Dev) (p : Pkt) (bytes : Nat) : Dev :=
  let n (k : Nat) : Nat := packetsOf bytes (getConn d k).pmtu
  receive d p none .send (decide (bytes ≠ 0)) n (fun d _ => d) fun d k =>
    let a : About := ⟨p.psn.toNat, none, p.oxh.any (·.persist)⟩
    if (getConn d k).service ≠ .mgmt then fatalNak (bump d .OMT_CNT (connCell k) 15) k a synInvalid
    else if !cellAwake d (connCell k) then sendBusy d k a ((busyWait d).getD 0)
    else if (getConn d k).recvFree = 0 then sendBusyPool d k a
    else hostBuf d p k a fun d => sendTaken d p k (n k)

/-- What a request does once it has entered the device. A frame of the twin wakes a DORMANT device (R357). -/
def runRequest (d : Dev) (p : Pkt) (b : ReqBody) : Dev :=
  match b with
  | .write r data => hostWrite d p r data
  | .read r errs => hostOp d p .read .read r [] (0, 0) errs
  | .cas r compare swap errs => hostOp d p .cas .cas r [] (compare.toNat, swap.toNat) errs
  | .faa r add errs => hostOp d p .faa .faa r [] (add.toNat, 0) errs
  | .send bytes => sendReceived d p bytes
  | .commit r => hostOp d p .commit .commit r [] (0, 0) []
  | .bulk kind pl => bulkCommand d p kind pl
  | .bulkAbort tag ok => bulkAbort d p tag.toNat ok
  | .mirrorWrite a data copy => twinWake (mirrorWrite d p a data copy)
  | .mirrorImm imm a data => twinWake (mirrorImm d p imm.toNat a data)
  | .repair ch page line => twinWake (lineRepairRequest d p ch.toNat page.toNat (line.map (·.val)))

/-! ### Responses (R54, R70, R75, R82, R86, R101) -/

/-- The connection that a response names. -/
def rspConn : RspBody → Option Nat
  | .ack k _ => some k.val
  | .nak k _ _ => some k.val
  | .statusNak k _ _ _ => some k.val
  | .cnp => none
  | .mirrorAck k _ => some k.val
  | .copyAck k _ => some k.val
  | .repairAns k _ _ _ => some k.val

/-- A response's OXH, once a carrier OXH is off, has the version of its connection (Table OMT-8, check 3). -/
def rspVersionOk (d : Dev) (h : RspPkt) (k : Nat) : Bool :=
  match ownOf d h.port h.oxh with
  | none => (getConn d k).version == 0
  | some x => (getConn d k).version != 0 && x.version == (getConn d k).version

/-- HOP_COUNT of a response, which a HOST port sets to 0 (R70, R96), and its CLAIM. -/
def rspHops (d : Dev) (h : RspPkt) : Nat := if portRole d h.port = 1 then 0 else (h.oxh.map (·.hopCount)).getD 0
def rspClaim (h : RspPkt) : Nat := (h.oxh.map (·.claim)).getD 0

/-- A NAK of the twin on a mirror connection carries its pair claim (R239, Table PAI-1). -/
def nakClaim (d : Dev) (k claim : Nat) : Dev :=
  if (getConn d k).service = .mirror ∧ isDown d = false then custodyTurn (claimSeen d (twinOrd d) claim) else d

/-- What a response to the device's own request does. An EPOCH refusal outside the grace window makes the device ask its neighbours for their mode (R283). -/
def runResponse (d : Dev) (h : RspPkt) (b : RspBody) : Dev :=
  match b with
  | .ack k psn => acknowledge d k.val psn.toNat (rspHops d h)
  | .nak k syn psn => nakClaim (nakReceived d k.val syn.toNat psn.toNat) k.val (rspClaim h)
  | .statusNak k psn st detail =>
    let d := nakClaim (statusNakReceived d k.val psn.toNat st.toNat detail.toNat) k.val (rspClaim h)
    let grace := inGrace d || d.cal.ents.any fun p => graceAhead d p.2
    if st.toNat = stEpoch ∧ grace = false ∧ isDown d = false then queryMode d else d
  | .cnp => congestionNotification d h.port.val
  | .mirrorAck k psn => mirrorAcknowledge d k.val psn.toNat (rspHops d h) (rspClaim h)
  | .copyAck k psn => resyncCopyAck d k.val psn.toNat (rspHops d h) (rspClaim h)
  | .repairAns k psn data pmh => lineRepairAnswer d k.val psn.toNat data pmh

/-- A response past check 1: one with MIRROR on a HOST port is discarded (R70), and so is one of another version, or over age by its OXH or carrier OXH (R54, R75, R112). -/
def takeResponse (d : Dev) (h : RspPkt) (b : RspBody) : Dev :=
  if portRole d h.port = 1 ∧ (h.oxh.any fun x => x.mirror) then bump d .OMT_CNT h.port 15
  else
    match rspConn b with
    | none => runResponse d h b
    | some k =>
      if h.oxh.any fun x => carrierOxh d h.port x && overAge d h.port x then bump d .CELL_KEYCHK_CNT (connCell k) 6
      else if !rspVersionOk d h k then d
      else if h.oxh.any (overAge d h.port) then bump d .CELL_KEYCHK_CNT (connCell k) 6
      else runResponse d h b

/-! ### Entry through a port -/

def framePort : DataFrame → Nat
  | .req p _ => p.port.val
  | .rsp h _ => h.port.val
  | .fwd f => f.port.val

def framePcp : DataFrame → Nat
  | .req p _ => p.pcp.val
  | .rsp h _ => h.pcp.val
  | .fwd f => f.pcp.val

def frameSec : DataFrame → SecTag
  | .req p _ => p.sec
  | .rsp h _ => h.sec
  | .fwd f => f.sec

/-- The frame carries UDP destination port 4791. -/
def frameRoce : DataFrame → Bool
  | .req p _ => p.udpPort == 4791
  | .rsp h _ => h.udpPort == 4791
  | .fwd _ => true

/-- One payload bit is flipped and the ICRC is not recomputed (R382): a frame for this device fails check 1. -/
def corrupt : DataFrame → DataFrame
  | .req p b => .req { p with icrcOk := false } b
  | .rsp h b => .rsp { h with icrcOk := false } b
  | .fwd f => .fwd f

/-- A frame that fails check 1 of Table OMT-8 is discarded and counted by its port (R75). -/
def badFrame (d : Dev) (p : Nat) : Dev := modPort d p fun q => { q with badFrames := q.badFrames + 1 }

/-- A request for another device, as it is forwarded (R112). -/
def pktFwd (p : Pkt) : FwdFrame :=
  { port := p.port, sec := p.sec, src := p.srcAddr, dst := p.dst, qpn := p.qpn, response := false, cm := false, mirror := p.oxh.any (·.mirror), ecn := 0, hopLimit := p.hopLimit,
    oxh := p.oxh.isSome, stage := Fin.ofNat 4 ((p.oxh.map (·.stage)).getD 0), hopCount := BitVec.ofNat 8 ((p.oxh.map (·.hopCount)).getD 0),
    srcOrdinal := Fin.ofNat 16384 ((p.oxh.map (·.src)).getD 0), ret := none, bytes := p.bytes, pcp := p.pcp }

/-- A request names the own device address; any other address makes it a frame to forward, and a pair address one to discard (R109, R110). -/
def forThis (d : Dev) (p : Pkt) : Bool := parseAddr d p.dst.toNat == .device (ordinal d)

/-- A frame past MACsec and PROVING. A congestion notification is removed before the checks (R101); check 1 of Table OMT-8 is made at the port that a frame enters through, which counts what
fails it (R75); a host is learnt from its frame, and one in an unexpected PCP is counted (R92, R111). -/
def runFrame (d : Dev) (f : DataFrame) : Dev :=
  if isDown d then d
  else
    match f with
    | .req p b =>
      if p.icrcOk = false ∨ p.udpPort ≠ 4791 then badFrame d p.port
      else if forThis d p then runRequest (learnHost d p.port p.srcAddr.toNat) p b
      else forwardFrame (countPcp d p 0) (pktFwd p)
    | .rsp h b =>
      if b = .cnp then runResponse d h b
      else if h.icrcOk = false ∨ h.udpPort ≠ 4791 then badFrame d h.port
      else takeResponse (learnHost (if portRole d h.port = 1 ∧ h.pcp.val ≠ 3 then bump d .PORT_CNG_CNT h.port 7 else d) h.port h.srcAddr.toNat) h b
    | .fwd f =>
      let want := if f.cm then 7 else if f.response then 3 else 0
      forwardFrame (if portRole d f.port.val = 1 ∧ f.pcp.val ≠ want then bump d .PORT_CNG_CNT f.port.val 7 else d) f

/-! ### PROVING (R382, R383) -/

/-- DEPTH of TST_PROVE_CFG. -/
def proveDepth (d : Dev) : Nat := zeroAs 1 (hfld d .TST_PROVE_CFG 19 16)

/-- The held frames that a condition names go on, in order. -/
def releaseHeld (d : Dev) (go : HeldFrame → Bool) : Dev :=
  let out := d.tst.held.filter go
  forEach out { d with tst.held := d.tst.held.filter fun h => !go h } fun d h => runFrame d h.frame

/-- A frame of a PCP has passed: the frames of that PCP held before it count it, and go on after DEPTH such frames. -/
def heldPass (d : Dev) (pcp : Nat) : Dev :=
  let n := proveDepth d
  releaseHeld { d with tst.held := d.tst.held.map fun h => if h.pcp = pcp then { h with passed := h.passed + 1 } else h } fun h => decide (n ≤ h.passed)

/-- The port's rates act on a received frame. -/
def proveFrame (d : Dev) (f : DataFrame) : Dev :=
  let act := proveAction d
  let d := { d with tst.draws := d.tst.draws + 1 }
  match act with
  | some 0 => bump d .TST_PROVE_CNT 0 0
  | some 1 => heldPass (runFrame (bump d .TST_PROVE_CNT 0 1) (corrupt f)) (framePcp f)
  | some _ => let d := bump d .TST_PROVE_CNT 0 2; { d with tst.held := d.tst.held ++ [⟨f, framePcp f, 0, d.now⟩] }
  | none => heldPass (runFrame d f) (framePcp f)

/-- PROVE_REORDER_TIMEOUT: frames held for 10 µs go on. -/
def proveReorderTimeout (d : Dev) : Dev := releaseHeld d fun h => due d (h.since + us 10)

/-- The frames that are held when the port leaves PROVING go on (R383). -/
def proveSettle (d : Dev) : Dev := if d.tst.proving.isNone && !d.tst.held.isEmpty then releaseHeld d fun _ => true else d

/-- A frame of the data path arrives at a port that carries frames (R106, R107, R117, R319). -/
def frameIn (d : Dev) (f : DataFrame) : Dev :=
  let p := framePort f
  if isDown d || !portCarries d p then d
  else
    let x := macGate d p (frameSec f)
    if x.2 = false then x.1
    else
      let d := carried x.1 p (framePcp f)
      if d.tst.proving = some p ∧ framePcp f < 7 ∧ frameRoce f = true then proveFrame d f else runFrame d f

end Sys2Proof.Machine
end

