-- ==== Sys2Proof/Machine/Retry.lean ====
section
/-!
DEFINITION. The retries of internal requesters that wait for a buffer or for room in an engine's queue (spec/02_cell_resources.md R28, R30, R36).
-/
namespace Sys2Proof.Machine
open Sys2Proof

/-- A requester asks again for what it waits for. -/
def askAgain (d : Dev) (w : BufWait) : Dev :=
  let c := w.cell
  match w.use with
  | .cipher cls x => submitCipher d c cls x
  | .comp cls page => submitComp d c cls page
  | .raise page => submitComp d c 0 page
  | .promotion k => withBuf d c w.requester w.size w.use fun d id => promoBuffered d k id
  | .destage => destageStart d c
  | .relocation op lost => withBuf d c w.requester w.size w.use fun d id => relocBuffered d c op lost id
  | .resync n r p => resumeCopy d c n r p
  | .piece _ => bulkIssue 64 d

/-- A requester that is refused again waits twice as long as before, up to the cap of its cell; it is the same wait (R30). -/
def backOff (d : Dev) (w x : BufWait) : BufWait :=
  if x.cell = w.cell ∧ x.requester = w.requester ∧ x.use = w.use then
    let n := min (max w.interval (backoffCap d w.cell)) (2 * w.interval)
    { w with interval := n, next := d.now + n }
  else x

/-- One retry: the wait ends, and what it was for is asked for again. -/
def retryOne (d : Dev) (w : BufWait) : Dev :=
  if d.res.waits.contains w then
    let d := askAgain { d with res.waits := d.res.waits.erase w } w
    { d with res.waits := d.res.waits.map (backOff d w) }
  else d

/-- A wait comes before another: it asks earlier, or at the same time for a lower requester ID (R28). -/
def asksFirst (a b : BufWait) : Bool := decide (a.next < b.next) || (a.next == b.next && decide (a.requester ≤ b.requester))

/-- Waits in the order in which their retries arrive. -/
def inOrder (l : List BufWait) : List BufWait :=
  l.foldl (fun l w => l.takeWhile (fun x => asksFirst x w) ++ w :: l.dropWhile fun x => asksFirst x w) []

/-- INTERNAL_RETRY_TIMER: the interval of a requester of a cell is over; it and every other requester of the cell whose time has come ask again, in the order of R28. -/
def internalRetryTimer (d : Dev) (c requester : Nat) : Dev :=
  if d.res.waits.any fun w => w.cell == c && w.requester == requester && due d w.next then
    forEach (inOrder (d.res.waits.filter fun w => w.cell == c && due d w.next)) d retryOne
  else d

end Sys2Proof.Machine
end

