-- ==== Sys2Proof/Machine/State.lean ====
section
/-!
DEFINITION. The state of the model: the device and the queue of waiting commands, and the state right after reset (spec/15_startup.md R338, spec/16_power.md R353).
-/
namespace Sys2Proof.Machine
open Sys2Proof

/-- The device and the commands that wait, first in, first out. -/
structure State where
  dev : Dev
  pending : List Instr
deriving DecidableEq, Repr

/-- Reasons to stop. No command of this device stops it: a device that is OFF or HALTED goes on and ignores what it does not serve. -/
inductive Fault where
deriving DecidableEq, Repr

/-- Reasons to refuse a command. -/
inductive Refusal where
  /-- The command has no meaning in the model. No arm of the dispatch raises it; it would be safe. -/
  | notModelled (mnemonic : String)
deriving DecidableEq, Repr

/-- The machine right after power-on reset: STARTING in step 1 with every register at its reset value, memory and tables empty, no cell clocked and no rail up, the input not yet
power good. A device comes from the factory with empty media, no record in the Vault, its TEST_MODE fuse intact and no owner hash programmed. -/
def State.reset : State := { dev := { pwr := { gated := List.range 256 } }, pending := [] }

end Sys2Proof.Machine
end

