-- ==== Sys2Proof/Machine/Run.lean ====
section
/-!
DEFINITION. How a command runs: its operation on the device, and then what the device does at once by itself (spec/15_startup.md R338 to R341, spec/16_power.md R361, spec/17_faults_and_events.md R383,
spec/18_management.md R397, R400).
-/
namespace Sys2Proof.Machine
open Sys2Proof

/-- Requests on their way to a cell that has been fenced end (R15). -/
def fenceSettle (d : Dev) : Dev :=
  if d.reqs.any fun r => r.stage == .issued && r.parts.any fun p => pendingPart p.st && cellFenced d p.cell then pump d else d

/-- A change of an own port's state code originates a LINK STATE record (R119). -/
def statesTurn (d : Dev) : Dev := if d.ldr.step < 5 ∨ isDown d = true then d else lsCheck d

/-- A change of the impairment is told and judged (R238, R244). -/
def impairTurn (d : Dev) : Dev := if custodyOn d then selfDiagnose d else d

/-- What follows by itself: a flush that a fault asked for begins, requests on their way to fenced cells end, free frames go to what waits for them, full cells admit again, port states are
announced, a changed impairment is told and judged, frames leave, frames that PROVING held go on once it has ended, start steps that are over end, a group leader writes its record, dozed links that have frames wake, the Vault
takes its next operation, and key slots that no request holds any more settle. -/
def afterStep (d : Dev) : Dev :=
  let d := fullTurn (frameTurn (fenceSettle (fallNow d)))
  keyTurn (vaultNext (dozeAll (leaderCheck (startProgress (proveSettle (drainAll (impairTurn (statesTurn d))))))))

/-- A command runs one operation of the device. -/
def run (s : State) (f : Dev → Dev) : Host.Outcome State Fault Refusal := .next { s with dev := afterStep (f s.dev) }

/-- A nanosecond of local time passes. -/
def tick (s : State) : State := { s with dev := afterStep { s.dev with now := s.dev.now + 1 } }

end Sys2Proof.Machine
end

