-- ==== Sys2Proof/Machine/Times.lean ====
section
/-!
DEFINITION. When the device's timers run out. The table has no command for the passing of time; a command that is an expiry comes when its time has come, so local time is then at least the timer's
(DESIGN CHOICE). Each definition gives the time of one timer while it is armed.
-/
namespace Sys2Proof.Machine
open Sys2Proof

/-- Local time is at least t. -/
def reach (d : Dev) (t : Nat) : Dev := if t ≤ d.now then d else { d with now := t }

/-- The time of an armed timer has come. -/
def reachO (d : Dev) : Option Nat → Dev
  | some t => reach d t
  | none => d

/-- The earliest of several times. -/
def soonest (l : List Nat) : Option Nat := l.foldl (fun b t => some (min t (b.getD t))) none

/-- Federation time is at least t: local time goes on by what is missing, and once more by what slewing has taken back. -/
def reachFed (d : Dev) (t : Nat) : Dev :=
  let more (d : Dev) : Dev := { d with now := d.now + (t - fedTime d) }
  let d := more d
  if t ≤ fedTime d then d else more { d with now := d.now + (t - fedTime d) + 1 }

def reachFedO (d : Dev) : Option Nat → Dev
  | some t => reachFed d t
  | none => d

/-- Times that parts of requests wait for. -/
def partTimes (d : Dev) (f : Req → Part → Option Nat) : List Nat := d.reqs.flatMap fun r => r.parts.filterMap (f r)

/-! ### Buffers, chambers and connections -/

def retryTime (d : Dev) (c who : Nat) : Option Nat := soonest ((d.res.waits.filter fun w => w.cell == c && w.requester == who).map (·.next))
def noticeTime (d : Dev) (c who : Nat) : Option Nat := soonest ((d.res.waits.filter fun w => w.cell == c && w.requester == who && !w.noticed && waitsBuffer w).map fun w => w.since + ms 1 + 1)

def createTime (d : Dev) : Option Nat :=
  match d.chm.run with
  | some (.create _ t _) => t
  | _ => none

def quarantineTime (d : Dev) (i : Nat) : Option Nat := (nget d.chm.keys i).bind fun e => if e.state = .quarantine then e.qEnd else none
def connTime (d : Dev) (k : Nat) (st : ConnState) : Option Nat := if (getConn d k).state = st then some (getConn d k).deadline else none
def ackTime (d : Dev) (k : Nat) : Option Nat := (getConn d k).unackedAt.map (· + us 1)

def pacerTime (d : Dev) (k : Nat) : Option Nat := ((getConn d k).sent.find? fun s => !s.left).map fun s => paceEnd d k s.bytes

/-! ### Ports and the fabric -/

def refreshTime (d : Dev) (p g : Nat) : Option Nat := (nget (getPort d p).xoff g).map (·.2)
def watchdogTime (d : Dev) (p pcp : Nat) : Option Nat := (nget (getPort d p).rx pcp).map fun x => tickAfter (x.2 + msLimit (cfld d .PORT_PFC_CFG p 23 16))
def stormTime (d : Dev) (p g : Nat) : Option Nat := (nget (getPort d p).xoff g).map fun x => tickAfter (x.1 + msLimit (cfld d .PORT_PFC_CFG p 15 8))
def pauseTimeEnd (d : Dev) (p pcp : Nat) : Option Nat := (nget (getPort d p).rx pcp).map (·.1)
def helloTime (d : Dev) (p : Nat) : Option Nat := if fabricPort d p then some (getPort d p).nextHello else none
def silentTime (d : Dev) (p : Nat) : Option Nat := if fabricPort d p && (getPort d p).link == .up then some ((getPort d p).lastHello + 3 * helloMs d + 1) else none
def convergeTime (d : Dev) : Option Nat := if d.ldr.ident.devices ≤ d.fab.db.length then none else d.fab.convFrom.map (· + sec 2)
def residenceTime (d : Dev) (p : Nat) : Option Nat := soonest ((getPort d p).queue.map fun e => e.since + us 500 + 1)
def idleTime (d : Dev) (p : Nat) : Option Nat :=
  let z := (getPort d p).doze
  if z.st = .active then some (z.idleSince + us (max 5 (cfld d .PORT_DOZE_CFG p 7 0))) else none
def fallTime (d : Dev) (n : Nat) : Option Nat := if downRuns d then some (d.pwr.downAt + fallNs d n) else none
def dozeReqTime (d : Dev) (p : Nat) : Option Nat := if (getPort d p).doze.st = .requested then some (getPort d p).doze.deadline else none

/-! ### Waits of requests -/

def dirtyTime (d : Dev) (c : Nat) : Option Nat :=
  soonest (partTimes d fun r p => if p.cell = c ∧ fromTwin r.kind = false then (match p.st with
    | .waitDirty t => some t
    | .waitStaging t => some t
    | _ => none) else none)

def creditTime (d : Dev) (c : Nat) : Option Nat :=
  soonest (partTimes d fun _ p => match p.st with
    | .waitCredit t => if p.cell = c then some t else none
    | _ => none)

def throttleTime (d : Dev) (c : Nat) : Option Nat :=
  soonest (partTimes d fun _ p => match p.st with
    | .waitThrottle t => if p.cell = c then some t else none
    | _ => none)

def mirrorStallTime (d : Dev) (c : Nat) : Option Nat :=
  soonest (partTimes d fun r p => if (r.kind = .mirrorWrite ∨ r.kind = .copy) ∧ p.cell = c then (match p.st with
    | .waitDirty _ => some (p.since + stallMs d)
    | .waitPromo => some (p.since + stallMs d)
    | _ => none) else none)

def mirrorAckTime (d : Dev) : Option Nat :=
  soonest (partTimes d fun _ p => match p.st with
    | .mirrored _ => some (p.since + stallMs d)
    | _ => none)

def custodyTime (d : Dev) (twin : Bool) : Option Nat :=
  soonest ((d.reqs.filter fun r => fromTwin r.kind == twin).filterMap fun r => match r.stage with
    | .waitCustody t => some t
    | _ => none)

/-- The end of a host request's wait for custody, or of its wait after its mirror was refused. -/
def custodyWaitTime (d : Dev) : Option Nat :=
  soonest ((custodyTime d false).toList ++ partTimes d fun _ p => match p.st with
    | .refused t => some (t + stallMs d)
    | _ => none)

def repairTime (d : Dev) (chamber page : Nat) (line : Option Nat) : Option Nat :=
  (nget d.repairs (match line with
    | some i => pageKey chamber page * 128 + i
    | none => 2 ^ 64 + pageKey chamber page)).map (·.deadline)

/-! ### Cells -/

def holdTime (d : Dev) (c : Nat) : Option Nat := soonest ((getAlc d c).mb.map fun e => e.opened + mbHold d c)
def writebackTime (d : Dev) (c : Nat) : Option Nat := if overMaps (getMed d c) then none else soonest ((getMed d c).mapDirty.map fun p => p.2 + 1000000000)
def checkpointTime (d : Dev) (c : Nat) : Option Nat := if (getMed d c).mapWrites ≠ 0 ∨ rootStale (getMed d c) = true then some ((getMed d c).rootAt + 10000000000) else none
def moveTime (d : Dev) (c : Nat) : Option Nat := (getHbm d c).moving.map fun x => x.2.2
def staleTime (d : Dev) (c : Nat) : Option Nat := if d.sec.engineStopped.contains c then none else some (seededOf d c + ms 100)

/-- A patrol pass is due at the latest one scrub interval after the last began (R196). -/
def scrubTime (d : Dev) (c : Nat) : Option Nat :=
  if mediaOn d c && !scrubDue d c then some ((getMed d c).scrubStart + zeroAs 1 (cfld d .MED_SCRUB_CFG c 7 4) * (86400 * 1000000000)) else none

/-- The next slot in which a course wakes a cell (R358). -/
def wakeTime (d : Dev) : Option Nat :=
  soonest ((List.range 16).filterMap fun k => if (wakeNext d k).isSome then (nget d.pwr.lastWake k).map (· + us 50) else none)

/-! ### Custody -/

def beatTime (d : Dev) : Option Nat := if custodyOn d then some d.cus.nextBeat else none
def statusTime (d : Dev) : Option Nat := if custodyOn d then some d.cus.nextStatus else none
def leaseTime (d : Dev) : Option Nat := if d.cus.leaseLive then some d.cus.leaseEnd else none

/-- A peer falls under suspicion: the twin, the witness, or a twin of a watched pair. -/
def suspicionTime (d : Dev) (o : Nat) : Option Nat :=
  if !custodyOn d then none
  else if o = twinOrd d ∧ d.cus.twinSuspect = false then some (d.cus.heardTwin + suspectNs d)
  else if d.cus.witness = some o ∧ d.cus.witSuspect = false then some (d.cus.heardWitness + suspectNs d)
  else (nget d.watch (o / 2)).bind fun w =>
    if o % 2 = 0 then (if w.suspEven then none else some (w.heardEven + suspectNs d)) else (if w.suspOdd then none else some (w.heardOdd + suspectNs d))

def heldTime (d : Dev) (pair : Nat) : Option Nat := (nget d.watch pair).bind fun w => w.held.map fun h => h.since + ms 2
def yieldFlagTime (d : Dev) (pair : Nat) : Option Nat := (nget d.watch pair).bind fun w => soonest ((w.yieldEven.toList ++ w.yieldOdd.toList).map (· + ms 10))
def failbackTime (d : Dev) : Option Nat :=
  let s := hfld d .CUS_CFG2 31 24
  if s ≠ 0 ∧ d.cus.state = .joined ∧ preferredAway d = true then some (d.cus.joinedSince + sec s) else none
def drainTime (d : Dev) : Option Nat := d.cus.drain.bind fun x => if x.reached.isNone then some (x.began + ms (clampTo 1 50 (hfld d .CUS_CFG2 23 16))) else none
def reclaimTime (d : Dev) : Option Nat := d.cus.drain.bind fun x => x.reached.map (· + ms 5)
def resyncTime (d : Dev) : Option Nat := if custodyOn d && d.cus.state == .resync then some d.cus.nextCopy else none
def compareTime (d : Dev) : Option Nat :=
  if custodyOn d && d.cus.state == .joined && d.cus.comparing.isNone && hfld d .CUS_CFG2 7 0 != 0 then some d.cus.nextCompare else none
def coldTime (d : Dev) : Option Nat := if custodyOn d && !d.cus.settled then some (d.cus.formStart + sec (max 10 (hfld d .CUS_CFG 7 0))) else none

/-! ### Time, calendar and acts -/

def announceTime (d : Dev) : Option Nat := d.tim.slave.bind fun p => (nget d.tim.best p).map fun a => a.at_ + annTimeout
def syncLossTime (d : Dev) : Option Nat := if (d.tim.st = .locked ∨ d.tim.st = .slewing) ∧ d.tim.isRoot = false then some (d.tim.lastSync + 250000000) else none
def ppsTime (d : Dev) : Option Nat := if d.tim.pps.locked then d.tim.pps.last.map (· + sec 3) else none
def secondTime (d : Dev) : Option Nat := if d.pwr.state = .off then none else some ((d.tim.lastSecond + 1) * 1000000000)

/-- The whole of the remaining offset has been slewed (R263). -/
def slewTime (d : Dev) : Option Nat :=
  if d.tim.st = .slewing then some (d.tim.slewFrom + ceilDiv (d.tim.rem.natAbs * 1000000) (clampTo 1 10 (hfld d .TIME_CFG 7 4))) else none

/-- The POSTED entry that fires before all others, when it is of a kind (R267). -/
def fireTime (d : Dev) (kind : Nat) : Option Nat :=
  ((postedEnts d).foldl (fun (b : Option CalEnt) p => match b with
    | none => some p.2
    | some x => if firesFirst p.2 x then some p.2 else b) none).bind fun e => if e.kind = kind then some e.time else none

def holdEndTime (d : Dev) (act : Nat) : Option Nat := (nget d.snap.holds act).map fun h => h.2 + epsilon d + 1
def cutTime (d : Dev) : Option Nat := d.act.run.bind fun r => if r.phase = .wait then some (r.time + 2 * epsilon d + 1) else none
def gatherTime (d : Dev) (act op : Nat) : Option Nat := (nget d.act.relays (act * 8 + op)).map (·.deadline)

/-! ### Keys, power and tests -/

def reseedTime (d : Dev) : Option Nat := if d.sec.stopped ∨ 2 ^ 20 ≤ d.sec.requests then none else some (d.sec.seededAt + sec 1)
def seedTime (d : Dev) : Option Nat := if d.sec.stopped then none else some d.sec.nextSeed
def mkaTime (d : Dev) (p : Nat) : Option Nat := if (cakOf d p).isSome then some (getMka d p).nextHello else none
def renewTime (d : Dev) (p pn : Nat) : Option Nat :=
  let s := getMka d p
  if s.live ∧ s.keyServer ∧ pn < 0xC000000000000000 then some (s.sakAt + sec (cfld d .PORT_MACSEC_STATUS p 15 0)) else none

/-- The next time of the power-up sequence (Timing PWR-1). -/
def upTime (d : Dev) : Option Nat :=
  if d.pwr.state ≠ .starting ∨ d.pwr.upping = false then none
  else if d.pwr.upStep = 0 then some (d.pwr.upFrom + ms (if (getRail d 30).st = .off ∧ (getRail d 30).enabledAt = none then 5 else 50))
  else if 2 ≤ d.pwr.upStep ∧ d.pwr.upStep < 12 then some (d.pwr.upFrom + ms (upGroup d.pwr.upStep).1) else none

def riseTime (d : Dev) (n : Nat) : Option Nat := (getRail d n).enabledAt.map (· + riseNs d n)
def leaderTime (d : Dev) : Option Nat := (nget d.ldr.stepEnds 8).map fun t => d.ldr.trigger + ms t + sec 10

/-- The bound of the start step in progress (Table STA-9). -/
def stepBound (d : Dev) : Option Nat :=
  let n := match d.ldr.step with
    | 3 => 500
    | 4 => 50
    | 6 => 200
    | 8 => 100
    | _ => 0
  if d.pwr.state = .starting ∧ n ≠ 0 then some (d.ldr.stepAt + ms n) else none

def rereadTime (d : Dev) : Option Nat := if d.ldr.imageLoaded then some d.ldr.rereadAt else none
def delayTime (d : Dev) : Option Nat := if d.pwr.state = .halted then d.ldr.delayUntil else none
def limitTime (d : Dev) : Option Nat := if d.tst.proving.isSome then some (d.tst.entered + sec d.tst.limitS) else none
def heldFrameTime (d : Dev) : Option Nat := soonest (d.tst.held.map fun h => h.since + us 10)
def sequenceTime (d : Dev) : Option Nat := d.vlt.seq.map fun s => s.since + ms 1

end Sys2Proof.Machine
end

