-- ==== Sys2Proof/Machine/RunActs.lean ====
section
/-!
DEFINITION. The meanings of the commands of rows 192 to 212 of the table: Acts, the tree, cuts and commits (spec/12). Each runs one operation of the device.
-/
namespace Sys2Proof.Machine
open Sys2Proof

/-- ACT_BARRIER (R273). -/
def execActBarrier (w : Writer) (s : State) : Host.Outcome State Fault Refusal := run s fun d => actBarrier d w

/-- ACT_SNAPSHOT (R277). -/
def execActSnapshot (w : Writer) (s : State) : Host.Outcome State Fault Refusal := run s fun d => actSnapshot d w

/-- ACT_MODE_COMMIT (R273). -/
def execActModeCommit (w : Writer) (s : State) : Host.Outcome State Fault Refusal := run s fun d => actModeCommit d w

/-- ACT_RESTART (R273). -/
def execActRestart (w : Writer) (s : State) : Host.Outcome State Fault Refusal := run s fun d => actRestart d w

/-- ACT_POST (R273). -/
def execActPost (w : Writer) (s : State) : Host.Outcome State Fault Refusal := run s fun d => actPost d w

/-- ACT_CMD_RESERVED (R273). -/
def execActCmdReserved (w : Writer) (op : Fin 16) (s : State) : Host.Outcome State Fault Refusal := run s fun d => actCmdReserved d w op.val

/-- TREE_POST (R269). -/
def execTreePost (m : TreeMsg) (s : State) : Host.Outcome State Fault Refusal := run s fun d => treeReceived d m Machine.treePost

/-- TREE_CANCEL (R269). -/
def execTreeCancel (m : TreeMsg) (s : State) : Host.Outcome State Fault Refusal := run s fun d => treeReceived d m Machine.treeCancelOp

/-- TREE_CONFIRM (R277). -/
def execTreeConfirm (m : TreeMsg) (s : State) : Host.Outcome State Fault Refusal := run s fun d => treeReceived d m Machine.treeConfirmOp

/-- TREE_DISCARD (R277). -/
def execTreeDiscard (m : TreeMsg) (s : State) : Host.Outcome State Fault Refusal := run s fun d => treeReceived d m Machine.treeDiscardOp

/-- TREE_PAUSE (R278). -/
def execTreePause (m : TreeMsg) (s : State) : Host.Outcome State Fault Refusal := run s fun d => treeReceived d m Machine.treePauseOp

/-- TREE_RESUME (R278). -/
def execTreeResume (m : TreeMsg) (s : State) : Host.Outcome State Fault Refusal := run s fun d => treeReceived d m Machine.treeResumeOp

/-- TREE_BARRIER (R271). -/
def execTreeBarrier (m : TreeMsg) (s : State) : Host.Outcome State Fault Refusal := run s fun d => treeReceived d m Machine.treeBarrierOp

/-- TREE_GATHER (R270). -/
def execTreeGather (m : GatherMsg) (s : State) : Host.Outcome State Fault Refusal := run s fun d => treeGather d m

/-- TREE_GATHER_TIMEOUT (R270). -/
def execTreeGatherTimeout (act : BitVec 32) (op : Fin 7) (s : State) : Host.Outcome State Fault Refusal := run s fun d => treeGatherTimeout (reachO d (gatherTime d act.toNat op.val)) act.toNat op.val

/-- MESSAGE_CUT_DRAINED (R278). -/
def execMessageCutDrained (act : BitVec 32) (s : State) : Host.Outcome State Fault Refusal := run s fun d => messageCut d act.toNat

/-- HOLD_WINDOW_END (R276). -/
def execHoldWindowEnd (act : BitVec 32) (s : State) : Host.Outcome State Fault Refusal := run s fun d => holdWindowEnd (reachFedO d (holdEndTime d act.toNat)) act.toNat

/-- CUT_RESULT_GATHER_START (R277). -/
def execCutResultGatherStart (s : State) : Host.Outcome State Fault Refusal := run s fun d => cutResultGatherStart (reachFedO d (cutTime d))

/-- GRACE_WINDOW_END (R281). -/
def execGraceWindowEnd (s : State) : Host.Outcome State Fault Refusal := run s fun d => graceWindowEnd (reachFedO d (d.mode.graceEnd))

/-- TIME_MODE_ADOPT (R283). -/
def execTimeModeAdopt (w : Writer) (v : Word) (s : State) : Host.Outcome State Fault Refusal := run s fun d => timeModeAdopt d w v

/-- COMMIT (R279). -/
def execCommit (w : Writer) (v : Word) (s : State) : Host.Outcome State Fault Refusal := run s fun d => commitWrite d w v

end Sys2Proof.Machine
end

