-- ==== Sys2Proof/Machine/RunBulk.lean ====
section
/-!
DEFINITION. The meanings of the commands of rows 213 to 224 of the table: The bulk queue (spec/13). Each runs one operation of the device.
-/
namespace Sys2Proof.Machine
open Sys2Proof

/-- BULK_COPY (R293). -/
def execBulkCopy (p : Pkt) (b : BulkPayload) (s : State) : Host.Outcome State Fault Refusal := run s fun d => frameIn d (.req p (.bulk .copy b))

/-- BULK_FILL (R294). -/
def execBulkFill (p : Pkt) (b : BulkPayload) (s : State) : Host.Outcome State Fault Refusal := run s fun d => frameIn d (.req p (.bulk .fill b))

/-- BULK_COMMIT (R292). -/
def execBulkCommit (p : Pkt) (b : BulkPayload) (s : State) : Host.Outcome State Fault Refusal := run s fun d => frameIn d (.req p (.bulk .commit b))

/-- BULK_LOAD (R295). -/
def execBulkLoad (p : Pkt) (b : BulkPayload) (s : State) : Host.Outcome State Fault Refusal := run s fun d => frameIn d (.req p (.bulk .load b))

/-- BULK_TRIM (R294). -/
def execBulkTrim (p : Pkt) (b : BulkPayload) (s : State) : Host.Outcome State Fault Refusal := run s fun d => frameIn d (.req p (.bulk .trim b))

/-- BULK_VERIFY (R295). -/
def execBulkVerify (p : Pkt) (b : BulkPayload) (s : State) : Host.Outcome State Fault Refusal := run s fun d => frameIn d (.req p (.bulk .verify b))

/-- BULK_SNAPSHOT (R296). -/
def execBulkSnapshot (p : Pkt) (b : BulkPayload) (s : State) : Host.Outcome State Fault Refusal := run s fun d => frameIn d (.req p (.bulk .snapshot b))

/-- BULK_RELEASE (R297). -/
def execBulkRelease (p : Pkt) (b : BulkPayload) (s : State) : Host.Outcome State Fault Refusal := run s fun d => frameIn d (.req p (.bulk .release b))

/-- BULK_BARRIER (R298). -/
def execBulkBarrier (p : Pkt) (b : BulkPayload) (s : State) : Host.Outcome State Fault Refusal := run s fun d => frameIn d (.req p (.bulk .barrier b))

/-- BULK_ABORT (R299). -/
def execBulkAbort (p : Pkt) (tag : BitVec 16) (wellFormed : Bool) (s : State) : Host.Outcome State Fault Refusal := run s fun d => frameIn d (.req p (.bulkAbort tag wellFormed))

/-- BULK_COMMAND_START (R288). -/
def execBulkCommandStart (k : ConnNo) (tag : BitVec 16) (s : State) : Host.Outcome State Fault Refusal := run s fun d => bulkCommandStart d k.val tag.toNat

/-- BULK_PIECE_DONE (R291). -/
def execBulkPieceDone (k : ConnNo) (tag : BitVec 16) (lo : BitVec 41) (s : State) : Host.Outcome State Fault Refusal := run s fun d => bulkPieceDone d k.val tag.toNat lo.toNat

end Sys2Proof.Machine
end

