-- ==== Sys2Proof/Machine/RunChambers.lean ====
section
/-!
DEFINITION. The meanings of the commands of rows 15 to 32 of the table: Chambers and region keys (spec/03). Each runs one operation of the device.
-/
namespace Sys2Proof.Machine
open Sys2Proof

/-- CHM_CREATE (R41). -/
def execChmCreate (w : Writer) (s : State) : Host.Outcome State Fault Refusal := run s fun d => chmCreate d w

/-- CHM_RESIZE (R41). -/
def execChmResize (w : Writer) (s : State) : Host.Outcome State Fault Refusal := run s fun d => chmResize d w

/-- CHM_DELETE (R41). -/
def execChmDelete (w : Writer) (s : State) : Host.Outcome State Fault Refusal := run s fun d => chmDelete d w

/-- CHM_SET_ATTR (R39). -/
def execChmSetAttr (w : Writer) (s : State) : Host.Outcome State Fault Refusal := run s fun d => chmSetAttr d w

/-- KEY_ISSUE (R47). -/
def execKeyIssue (w : Writer) (s : State) : Host.Outcome State Fault Refusal := run s fun d => keyIssue d w

/-- KEY_INVALIDATE (R53). -/
def execKeyInvalidate (w : Writer) (s : State) : Host.Outcome State Fault Refusal := run s fun d => keyInvalidate d w

/-- KEY_QUERY (R63). -/
def execKeyQuery (w : Writer) (s : State) : Host.Outcome State Fault Refusal := run s fun d => keyQuery d w

/-- CHM_QUERY (R63). -/
def execChmQuery (w : Writer) (s : State) : Host.Outcome State Fault Refusal := run s fun d => chmQuery d w

/-- CHM_CMD_RESERVED (R63). -/
def execChmCmdReserved (w : Writer) (op : Fin 16) (s : State) : Host.Outcome State Fault Refusal := run s fun d => chmCmdReserved d w op.val

/-- CREATE_READY (R41). -/
def execCreateReady (n : Fin 65536) (s : State) : Host.Outcome State Fault Refusal := run s fun d => createReady d n.val

/-- MIRRORED_CREATE_RECEIVED (R41). -/
def execMirroredCreateReceived (r : Heard ChmRecord) (s : State) : Host.Outcome State Fault Refusal := run s fun d => ctrlIn d r.via fun d => mirroredCreateReceived d r.msg

/-- CREATE_TWIN_TIMEOUT (R41). -/
def execCreateTwinTimeout (n : Fin 65536) (s : State) : Host.Outcome State Fault Refusal := run s fun d => createTwinTimeout (reachO d (createTime d)) n.val

/-- CREATE_RELEASE_RESEND (R426). -/
def execCreateReleaseResend (n : Fin 65536) (s : State) : Host.Outcome State Fault Refusal := run s fun d => createReleaseResend (reachO d (nget d.chm.releases n.val)) n.val

/-- CREATE_RELEASE_ACK (R426). -/
def execCreateReleaseAck (n : Heard (Fin 65536)) (s : State) : Host.Outcome State Fault Refusal := run s fun d => ctrlIn d n.via fun d => createReleaseAck d n.msg.val

/-- CHAMBER_DRAIN_DONE (R41). -/
def execChamberDrainDone (n : Fin 65536) (s : State) : Host.Outcome State Fault Refusal := run s fun d => chamberDrainDone d n.val

/-- CHAMBER_RELEASE_DONE (R41). -/
def execChamberReleaseDone (n : Fin 65536) (s : State) : Host.Outcome State Fault Refusal := run s fun d => chamberReleaseDone d n.val

/-- KEY_INVALIDATE_COMPLETE (R53). -/
def execKeyInvalidateComplete (idx : BitVec 24) (s : State) : Host.Outcome State Fault Refusal := run s fun d => keyInvalidateComplete d idx.toNat

/-- KEY_QUARANTINE_END (R55). -/
def execKeyQuarantineEnd (idx : BitVec 24) (s : State) : Host.Outcome State Fault Refusal := run s fun d => keyQuarantineEnd (reachO d (quarantineTime d idx.toNat)) idx.toNat

end Sys2Proof.Machine
end

