-- ==== Sys2Proof/Machine/RunConns.lean ====
section
/-!
DEFINITION. The meanings of the commands of rows 33 to 66 of the table: Connections, congestion, fabric and routing (spec/04 to spec/06). Each runs one operation of the device.
-/
namespace Sys2Proof.Machine
open Sys2Proof

/-- CM_REQ (R67). -/
def execCmReq (q : CmReq) (s : State) : Host.Outcome State Fault Refusal := run s fun d => cmReq d q

/-- CM_RTU (R76). -/
def execCmRtu (m : CmMsg) (s : State) : Host.Outcome State Fault Refusal := run s fun d => cmRtu d m

/-- CM_DREQ (R76). -/
def execCmDreq (m : CmMsg) (s : State) : Host.Outcome State Fault Refusal := run s fun d => cmDreqReceived d m

/-- CM_DREP (R76). -/
def execCmDrep (m : CmMsg) (s : State) : Host.Outcome State Fault Refusal := run s fun d => cmDrepReceived d m

/-- CONNECT_TIMEOUT (R76). -/
def execConnectTimeout (k : Fin 262160) (s : State) : Host.Outcome State Fault Refusal := run s fun d => connectTimeout (reachO d (connTime d k.val .connecting)) k.val

/-- CONNECTION_DRAIN_DONE (R76). -/
def execConnectionDrainDone (k : Fin 262160) (s : State) : Host.Outcome State Fault Refusal := run s fun d => connectionDrainDone d k.val

/-- CONNECTION_ERROR_SETTLED (R76). -/
def execConnectionErrorSettled (k : Fin 262160) (s : State) : Host.Outcome State Fault Refusal := run s fun d => connectionErrorSettled d k.val

/-- CONNECTION_QUARANTINE_END (R76). -/
def execConnectionQuarantineEnd (k : Fin 262160) (s : State) : Host.Outcome State Fault Refusal := run s fun d => connectionQuarantineEnd (reachO d (connTime d k.val .quarantine)) k.val

/-- RETRANSMIT_TIMER_EXPIRY (R82). -/
def execRetransmitTimerExpiry (k : ConnNo) (s : State) : Host.Outcome State Fault Refusal := run s fun d => retransmitTimerExpiry (reachO d ((getConn d k.val).timer)) k.val

/-- RNR_WAIT_EXPIRY (R82). -/
def execRnrWaitExpiry (k : ConnNo) (s : State) : Host.Outcome State Fault Refusal := run s fun d => rnrWaitExpiry (reachO d ((getConn d k.val).rnrUntil)) k.val

/-- ACK_COALESCE_TIMER (R81). -/
def execAckCoalesceTimer (k : ConnNo) (s : State) : Host.Outcome State Fault Refusal := run s fun d => ackCoalesceTimer (reachO d (ackTime d k.val)) k.val

/-- PACER_RELEASE (R98). -/
def execPacerRelease (k : ConnNo) (s : State) : Host.Outcome State Fault Refusal := run s fun d => pacerRelease (reachO d (pacerTime d k.val)) k.val

/-- PFC_FRAME_RECEIVED (R103). -/
def execPfcFrameReceived (m : PfcFrame) (s : State) : Host.Outcome State Fault Refusal := run s fun d => pfcFrameReceived d m

/-- XOFF_REFRESH (R102). -/
def execXoffRefresh (p : CellNo) (g : Fin 3) (s : State) : Host.Outcome State Fault Refusal := run s fun d => xoffRefresh (reachO d (refreshTime d p.val g.val)) p.val g.val

/-- PAUSE_WATCHDOG_EXPIRY (R105). -/
def execPauseWatchdogExpiry (p : CellNo) (pcp : Fin 8) (s : State) : Host.Outcome State Fault Refusal := run s fun d => pauseWatchdogExpiry (reachO d (watchdogTime d p.val pcp.val)) p.val pcp.val

/-- XOFF_STORM_EXPIRY (R105). -/
def execXoffStormExpiry (p : CellNo) (g : Fin 3) (s : State) : Host.Outcome State Fault Refusal := run s fun d => xoffStormExpiry (reachO d (stormTime d p.val g.val)) p.val g.val

/-- PORT_FENCE_RELEASE (R106). -/
def execPortFenceRelease (w : Writer) (p : CellNo) (s : State) : Host.Outcome State Fault Refusal := run s fun d => portFenceRelease d w p.val

/-- LINK_TRAINED (R117). -/
def execLinkTrained (l : Trained) (s : State) : Host.Outcome State Fault Refusal := run s fun d => linkTrained d l.port.val l.rate

/-- LINK_DOWN (R119). -/
def execLinkDown (p : CellNo) (s : State) : Host.Outcome State Fault Refusal := run s fun d => linkDown d p.val

/-- NEIGHBOUR_HELLO (R117). -/
def execNeighbourHello (m : Hello) (s : State) : Host.Outcome State Fault Refusal := run s fun d => neighbourHello d m

/-- HELLO_TIMER (R117). -/
def execHelloTimer (p : CellNo) (s : State) : Host.Outcome State Fault Refusal := run s fun d => helloTimer (reachO d (helloTime d p.val)) p.val

/-- HELLO_TIMEOUT (R118). -/
def execHelloTimeout (p : CellNo) (s : State) : Host.Outcome State Fault Refusal := run s fun d => helloTimeout (reachO d (silentTime d p.val)) p.val

/-- IDENTITY_RETRY_TIMER (R118). -/
def execIdentityRetryTimer (p : CellNo) (s : State) : Host.Outcome State Fault Refusal := run s fun d => identityRetryTimer (reachO d ((getPort d p.val).retryAt)) p.val

/-- LINK_STATE (R120). -/
def execLinkState (m : LinkStateMsg) (s : State) : Host.Outcome State Fault Refusal := run s fun d => linkState d m

/-- LINK_STATE_TIMER (R119). -/
def execLinkStateTimer (s : State) : Host.Outcome State Fault Refusal := run s fun d => linkStateTimer (reachO d (some d.fab.nextLs))

/-- LINK_STATE_RECORD_EXPIRY (R120). -/
def execLinkStateRecordExpiry (o : Ordinal) (s : State) : Host.Outcome State Fault Refusal := run s fun d => linkStateRecordExpiry (reachO d ((nget d.fab.db o.val).map fun r => r.at_ + sec 10)) o.val

/-- ROUTE_CONVERGENCE_END (R121). -/
def execRouteConvergenceEnd (s : State) : Host.Outcome State Fault Refusal := run s fun d => routeConvergenceEnd (reachO d (convergeTime d))

/-- ROUTE_ANNOUNCE (R123). -/
def execRouteAnnounce (m : RouteAnn) (s : State) : Host.Outcome State Fault Refusal := run s fun d => routeAnnounce d m

/-- ROUTE_ANNOUNCE_TIMER (R122). -/
def execRouteAnnounceTimer (s : State) : Host.Outcome State Fault Refusal := run s fun d => routeAnnounceTimer (reachO d (some d.fab.nextAnn))

/-- PAIR_ROUTE_EXPIRY (R123). -/
def execPairRouteExpiry (pair : BitVec 13) (s : State) : Host.Outcome State Fault Refusal := run s fun d => pairRouteExpiry (reachO d ((nget d.fab.pairs pair.toNat).map fun r => r.at_ + sec 5)) pair.toNat

/-- FORWARD_FRAME (R113). -/
def execForwardFrame (f : FwdFrame) (s : State) : Host.Outcome State Fault Refusal := run s fun d => frameIn d (.fwd f)

/-- RESIDENCE_EXPIRY (R54). -/
def execResidenceExpiry (p : CellNo) (s : State) : Host.Outcome State Fault Refusal := run s fun d => residenceExpiry (reachO d (residenceTime d p.val)) p.val

/-- NEIGHBOUR_SOLICITATION (R110). -/
def execNeighbourSolicitation (p : CellNo) (target : BitVec 128) (s : State) : Host.Outcome State Fault Refusal := run s fun d => neighbourSolicitation d p.val target.toNat

/-- HOST_ATTACHMENT_EXPIRY (R111). -/
def execHostAttachmentExpiry (addr : BitVec 128) (s : State) : Host.Outcome State Fault Refusal := run s fun d => hostAttachmentExpiry (reachO d ((nget d.fab.hosts addr.toNat).map fun r => r.2 + sec 60)) addr.toNat

end Sys2Proof.Machine
end

