-- ==== Sys2Proof/Machine/RunCustody.lean ====
section
/-!
DEFINITION. The meanings of the commands of rows 129 to 163 of the table: Pair and custody (spec/11). Each runs one operation of the device.
-/
namespace Sys2Proof.Machine
open Sys2Proof

/-- HEARTBEAT_TIMER (R237). -/
def execHeartbeatTimer (s : State) : Host.Outcome State Fault Refusal := run s fun d => heartbeatTimer (reachO d (beatTime d))

/-- HEARTBEAT (R237). -/
def execHeartbeat (via : CtrlVia) (o : Ordinal) (claim : BitVec 48) (sentAt : BitVec 64) (s : State) : Host.Outcome State Fault Refusal := run s fun d => ctrlIn d via fun d => heartbeat d o.val via.port.val claim.toNat sentAt.toNat

/-- HEARTBEAT_ACKNOWLEDGE (R239). -/
def execHeartbeatAcknowledge (o : Heard Ordinal) (claim : BitVec 48) (sentAt : BitVec 64) (s : State) : Host.Outcome State Fault Refusal := run s fun d => ctrlIn d o.via fun d => heartbeatAcknowledge d o.msg.val claim.toNat sentAt.toNat

/-- PEER_SUSPICION (R238). -/
def execPeerSuspicion (o : Ordinal) (s : State) : Host.Outcome State Fault Refusal := run s fun d => peerSuspicion (reachO d (suspicionTime d o.val)) o.val

/-- STATUS_TIMER (R238). -/
def execStatusTimer (s : State) : Host.Outcome State Fault Refusal := run s fun d => statusTimer (reachO d (statusTime d))

/-- LEASE_EXPIRY (R239). -/
def execLeaseExpiry (s : State) : Host.Outcome State Fault Refusal := run s fun d => leaseExpiry (reachO d (leaseTime d))

/-- CUSTODY_WAIT_EXPIRY (R239). -/
def execCustodyWaitExpiry (s : State) : Host.Outcome State Fault Refusal := run s fun d => custodyWaitExpiry (reachO d (custodyWaitTime d))

/-- CLAIM_LEARN_TIMEOUT (R233). -/
def execClaimLearnTimeout (s : State) : Host.Outcome State Fault Refusal := run s fun d => claimLearnTimeout (reachO d (custodyTime d true))

/-- TAKEOVER (R241). -/
def execTakeover (m : Heard ClaimReq) (s : State) : Host.Outcome State Fault Refusal := run s fun d => ctrlIn d m.via fun d => takeoverRequest d m.msg

/-- FAILBACK (R241). -/
def execFailback (m : Heard ClaimReq) (s : State) : Host.Outcome State Fault Refusal := run s fun d => ctrlIn d m.via fun d => failbackRequest d m.msg

/-- RECLAIM (R252). -/
def execReclaim (m : Heard ClaimReq) (s : State) : Host.Outcome State Fault Refusal := run s fun d => ctrlIn d m.via fun d => reclaimRequest d m.msg

/-- JOIN (R241). -/
def execJoin (m : Heard ClaimReq) (s : State) : Host.Outcome State Fault Refusal := run s fun d => ctrlIn d m.via fun d => joinRequest d m.msg

/-- YIELD (R244). -/
def execYield (m : Heard ClaimReq) (s : State) : Host.Outcome State Fault Refusal := run s fun d => ctrlIn d m.via fun d => yieldRequest d m.msg

/-- QUERY (R241). -/
def execQuery (m : Heard ClaimReq) (s : State) : Host.Outcome State Fault Refusal := run s fun d => ctrlIn d m.via fun d => queryRequest d m.msg

/-- DRAIN (R251). -/
def execDrain (m : Heard ClaimReq) (s : State) : Host.Outcome State Fault Refusal := run s fun d => ctrlIn d m.via fun d => drainCommand d m.msg

/-- CLAIM_RESERVED_KIND (R240). -/
def execClaimReservedKind (m : Heard ClaimReq) (kind : Fin 16) (s : State) : Host.Outcome State Fault Refusal := run s fun d => ctrlIn d m.via fun d => claimReservedKind d m.msg kind.val

/-- CLAIM_GRANT (R242). -/
def execClaimGrant (m : Heard ClaimAns) (s : State) : Host.Outcome State Fault Refusal := run s fun d => ctrlIn d m.via fun d => claimGrant d m.msg

/-- CLAIM_ANSWER (R242). -/
def execClaimAnswer (m : Heard ClaimAns) (s : State) : Host.Outcome State Fault Refusal := run s fun d => ctrlIn d m.via fun d => claimAnswer d m.msg

/-- CLAIM_STATUS (R238). -/
def execClaimStatus (m : Heard StatusAns) (named : Option Ordinal) (s : State) : Host.Outcome State Fault Refusal := run s fun d => ctrlIn d m.via fun d => claimStatus d m.msg (named.map (·.val))

/-- TAKEOVER_HOLD_EXPIRY (R241). -/
def execTakeoverHoldExpiry (pair : BitVec 13) (s : State) : Host.Outcome State Fault Refusal := run s fun d => takeoverHoldExpiry (reachO d (heldTime d pair.toNat)) pair.toNat

/-- CLAIM_REQUEST_RESEND (R242). -/
def execClaimRequestResend (s : State) : Host.Outcome State Fault Refusal := run s fun d => claimRequestResend (reachO d (d.cus.out.map (·.next)))

/-- TAKEOVER_LEASE_WAIT_END (R242). -/
def execTakeoverLeaseWaitEnd (s : State) : Host.Outcome State Fault Refusal := run s fun d => takeoverLeaseWaitEnd (reachO d (d.cus.takeover.map (·.applyAt)))

/-- YIELD_LAPSE (R244). -/
def execYieldLapse (s : State) : Host.Outcome State Fault Refusal := run s fun d => yieldLapse (reachO d (d.cus.yieldedAt.map (· + ms 10)))

/-- WITNESS_YIELD_FLAG_EXPIRY (R241). -/
def execWitnessYieldFlagExpiry (pair : BitVec 13) (s : State) : Host.Outcome State Fault Refusal := run s fun d => witnessYieldFlagExpiry (reachO d (yieldFlagTime d pair.toNat)) pair.toNat

/-- RESYNC_COPY (R249). -/
def execResyncCopy (c : CellNo) (pulled : Option (Fin 65536 × BitVec 22)) (s : State) : Host.Outcome State Fault Refusal := run s fun d => resyncCopy (reachO d (resyncTime d)) c.val (pulled.map fun x => (x.1.val, x.2.toNat))

/-- RESYNC_COPY_ACK (R249). -/
def execResyncCopyAck (h : RspPkt) (k : ConnNo) (psn : BitVec 24) (_credit : BitVec 5) (_msn : BitVec 24) (s : State) : Host.Outcome State Fault Refusal := run s fun d => frameIn d (.rsp h (.copyAck k psn))

/-- FAILBACK_TIMER (R251). -/
def execFailbackTimer (s : State) : Host.Outcome State Fault Refusal := run s fun d => failbackTimer (reachO d (failbackTime d))

/-- FAILBACK_NOW (R251). -/
def execFailbackNow (w : Writer) (s : State) : Host.Outcome State Fault Refusal := run s fun d => failbackNow d w

/-- HANDOVER (R251). -/
def execHandover (w : Writer) (s : State) : Host.Outcome State Fault Refusal := run s fun d => handover d w

/-- COMPARE_NOW (R253). -/
def execCompareNow (w : Writer) (s : State) : Host.Outcome State Fault Refusal := run s fun d => compareNow d w

/-- DRAIN_POINT_REACHED (R251). -/
def execDrainPointReached (s : State) : Host.Outcome State Fault Refusal := run s drainPointReached

/-- DRAIN_TIMEOUT (R251). -/
def execDrainTimeout (s : State) : Host.Outcome State Fault Refusal := run s fun d => drainTimeout (reachO d (drainTime d))

/-- RECLAIM_TIMER (R252). -/
def execReclaimTimer (s : State) : Host.Outcome State Fault Refusal := run s fun d => reclaimTimer (reachO d (reclaimTime d))

/-- COMPARE_PASS_TIMER (R253). -/
def execComparePassTimer (s : State) : Host.Outcome State Fault Refusal := run s fun d => comparePassTimer (reachO d (compareTime d))

/-- COLD_START_EXPIRY (R255). -/
def execColdStartExpiry (s : State) : Host.Outcome State Fault Refusal := run s fun d => coldStartExpiry (reachO d (coldTime d))

end Sys2Proof.Machine
end

