-- ==== Sys2Proof/Machine/RunDram.lean ====
section
/-!
DEFINITION. The meanings of the commands of rows 114 to 128 of the table: The DRAM tier (spec/10). Each runs one operation of the device.
-/
namespace Sys2Proof.Machine
open Sys2Proof

/-- HBM_STACK_FAULT (R219). -/
def execHbmStackFault (c : CellNo) (s : State) : Host.Outcome State Fault Refusal := run s fun d => hbmStackFault d c.val

/-- HBM_SCRUB_READ (R218). -/
def execHbmScrubRead (c : CellNo) (lanes : List (Fin 72) × List (Fin 72)) (what : T1Content) (s : State) : Host.Outcome State Fault Refusal := run s fun d => hbmScrubRead (reachO d (patrolTime d c.val)) c.val (lanes.1.map (·.val), lanes.2.map (·.val)) what

/-- STACK_TEMPERATURE_READ (R220). -/
def execStackTemperatureRead (stack : Fin 8) (t : Option (BitVec 8)) (s : State) : Host.Outcome State Fault Refusal := run s fun d => stackTemperatureRead d stack.val (t.map (·.toNat))

/-- ROW_DISTURB_WINDOW_END (R221). -/
def execRowDisturbWindowEnd (c : CellNo) (s : State) : Host.Outcome State Fault Refusal := run s fun d => rowDisturbWindowEnd (reachO d (some (getHbm d c.val).windowEnd)) c.val

/-- SELF_REFRESH_EXIT (R224). -/
def execSelfRefreshExit (failed : List CellNo) (s : State) : Host.Outcome State Fault Refusal := run s fun d => selfRefreshExit d (failed.map (·.val))

/-- RETIRE_FRAME (R226). -/
def execRetireFrame (w : Writer) (c : CellNo) (s : State) : Host.Outcome State Fault Refusal := run s fun d => retireFrame d w c.val

/-- RELEASE_FRAME (R226). -/
def execReleaseFrame (w : Writer) (c : CellNo) (s : State) : Host.Outcome State Fault Refusal := run s fun d => releaseFrame d w c.val

/-- QUERY_FRAME (R226). -/
def execQueryFrame (w : Writer) (c : CellNo) (s : State) : Host.Outcome State Fault Refusal := run s fun d => queryFrame d w c.val

/-- PPR_ROW (R228). -/
def execPprRow (w : Writer) (c : CellNo) (s : State) : Host.Outcome State Fault Refusal := run s fun d => pprRow d w c.val

/-- CANCEL_PPR (R228). -/
def execCancelPpr (w : Writer) (c : CellNo) (s : State) : Host.Outcome State Fault Refusal := run s fun d => cancelPpr d w c.val

/-- RETIRE_CMD_RESERVED (R229). -/
def execRetireCmdReserved (w : Writer) (c : CellNo) (op : Fin 16) (s : State) : Host.Outcome State Fault Refusal := run s fun d => retireCmdReserved d w c.val op.val

/-- FRAME_MOVE_TIMEOUT (R226). -/
def execFrameMoveTimeout (c : CellNo) (s : State) : Host.Outcome State Fault Refusal := run s fun d => frameMoveTimeout (reachO d (moveTime d c.val)) c.val

/-- POLICY_RETIRE_DECISION (R225). -/
def execPolicyRetireDecision (c : CellNo) (f : BitVec 22) (s : State) : Host.Outcome State Fault Refusal := run s fun d => policyRetireDecision d c.val f.toNat

/-- CE_CLEAR_ALL (R209). -/
def execCeClearAll (w : Writer) (c : CellNo) (s : State) : Host.Outcome State Fault Refusal := run s fun d => ceClearAll d w c.val

/-- CE_CLEAR_ONE (R209). -/
def execCeClearOne (w : Writer) (c : CellNo) (ent : Fin 32) (s : State) : Host.Outcome State Fault Refusal := run s fun d => ceClearOne d w c.val ent.val

end Sys2Proof.Machine
end

