-- ==== Sys2Proof/Machine/RunFaults.lean ====
section
/-!
DEFINITION. The meanings of the commands of rows 276 to 296 of the table: Faults, proving, management and the Vault (spec/17, spec/18). Each runs one operation of the device.
-/
namespace Sys2Proof.Machine
open Sys2Proof

/-- FLT_UNFENCE (R365). -/
def execFltUnfence (w : Writer) (unit : BitVec 16) (locked : Bool) (s : State) : Host.Outcome State Fault Refusal := run s fun d => fltUnfence d w unit.toNat locked

/-- FLT_FIRST_CLEAR (R371). -/
def execFltFirstClear (w : Writer) (s : State) : Host.Outcome State Fault Refusal := run s fun d => fltFirstClear d w

/-- FLT_STATUS_CLEAR (R371). -/
def execFltStatusClear (w : Writer) (v : Word) (s : State) : Host.Outcome State Fault Refusal := run s fun d => fltStatusClear d w v

/-- INJECT (R380). -/
def execInject (w : Writer) (v : Word) (s : State) : Host.Outcome State Fault Refusal := run s fun d => inject d w v

/-- PROVE_ENTER (R381). -/
def execProveEnter (w : Writer) (p : CellNo) (s : State) : Host.Outcome State Fault Refusal := run s fun d => proveEnter d w p.val

/-- PROVE_EXIT (R383). -/
def execProveExit (w : Writer) (s : State) : Host.Outcome State Fault Refusal := run s fun d => proveExit d w

/-- PROVE_LIMIT_EXPIRY (R383). -/
def execProveLimitExpiry (s : State) : Host.Outcome State Fault Refusal := run s fun d => proveLimitExpiry (reachO d (limitTime d))

/-- PROVE_REORDER_TIMEOUT (R382). -/
def execProveReorderTimeout (s : State) : Host.Outcome State Fault Refusal := run s fun d => proveReorderTimeout (reachO d (heldFrameTime d))

/-- MANAGEMENT_REQUEST (R386). -/
def execManagementRequest (w : Writer) (m : MgmtMsg) (env : Env) (s : State) : Host.Outcome State Fault Refusal := run s fun d => managementRequest d w m env

/-- I3C_DYNAMIC_ADDRESS (R392). -/
def execI3cDynamicAddress (addr : BitVec 7) (s : State) : Host.Outcome State Fault Refusal := run s fun d => i3cDynamicAddress d addr.toNat

/-- I3C_ADDRESS_WRITE (R392). -/
def execI3cAddressWrite (addr : BitVec 32) (s : State) : Host.Outcome State Fault Refusal := run s fun d => i3cAddressWrite d addr.toNat

/-- I3C_PRIVATE_READ (R392). -/
def execI3cPrivateRead (n : Nat) (s : State) : Host.Outcome State Fault Refusal := run s fun d => i3cPrivateRead d n

/-- VAULT_UNLOCK (R396). -/
def execVaultUnlock (w : Writer) (v : Word) (s : State) : Host.Outcome State Fault Refusal := run s fun d => vaultUnlock d w v

/-- VAULT_CMD_PROGRAM (R396). -/
def execVaultCmdProgram (w : Writer) (s : State) : Host.Outcome State Fault Refusal := run s fun d => vaultCmdProgram d w

/-- VAULT_CMD_ERASE (R396). -/
def execVaultCmdErase (w : Writer) (s : State) : Host.Outcome State Fault Refusal := run s fun d => vaultCmdErase d w

/-- VAULT_ADDR (R396). -/
def execVaultAddr (w : Writer) (v : Word) (s : State) : Host.Outcome State Fault Refusal := run s fun d => vaultAddr d w v

/-- VAULT_DATA (R396). -/
def execVaultData (w : Writer) (ix : Fin 8) (v : Word) (s : State) : Host.Outcome State Fault Refusal := run s fun d => vaultData d w ix.val v

/-- VAULT_SEQUENCE_TIMEOUT (R396). -/
def execVaultSequenceTimeout (s : State) : Host.Outcome State Fault Refusal := run s fun d => vaultSequenceTimeout (reachO d (sequenceTime d))

/-- VAULT_PULSE_DONE (R397). -/
def execVaultPulseDone (ok : Bool) (s : State) : Host.Outcome State Fault Refusal := run s fun d => vaultPulseDone d ok

/-- VAULT_SUSPEND (R399). -/
def execVaultSuspend (w : Writer) (s : State) : Host.Outcome State Fault Refusal := run s fun d => vaultSuspend d w

/-- VAULT_RESUME (R399). -/
def execVaultResume (w : Writer) (s : State) : Host.Outcome State Fault Refusal := run s fun d => vaultResume d w

end Sys2Proof.Machine
end

