-- ==== Sys2Proof/Machine/RunHost.lean ====
section
/-!
DEFINITION. The meanings of the commands of rows 0 to 14 of the table: Host requests, responses, and the buffers and engines behind them (spec/02 to spec/05). Each runs one operation of the device.
-/
namespace Sys2Proof.Machine
open Sys2Proof

/-- REGISTER_WRITE (R6). -/
def execRegisterWrite (w : Writer) (a : BitVec 32) (v : Word) (env : Env) (s : State) : Host.Outcome State Fault Refusal := run s fun d => registerWrite d w a.toNat v env

/-- RDMA_WRITE (R59). -/
def execRdmaWrite (p : Pkt) (r : Reth) (data : List Byte) (s : State) : Host.Outcome State Fault Refusal := run s fun d => frameIn d (.req p (.write r data))

/-- RDMA_READ_REQUEST (R19). -/
def execRdmaReadRequest (p : Pkt) (r : Reth) (errs : List LineErr) (s : State) : Host.Outcome State Fault Refusal := run s fun d => frameIn d (.req p (.read r errs))

/-- COMPARE_AND_SWAP (R60). -/
def execCompareAndSwap (p : Pkt) (r : Reth) (cmp : BitVec 64) (swp : BitVec 64) (errs : List LineErr) (s : State) : Host.Outcome State Fault Refusal := run s fun d => frameIn d (.req p (.cas r cmp swp errs))

/-- FETCH_AND_ADD (R60). -/
def execFetchAndAdd (p : Pkt) (r : Reth) (add : BitVec 64) (errs : List LineErr) (s : State) : Host.Outcome State Fault Refusal := run s fun d => frameIn d (.req p (.faa r add errs))

/-- SEND (R74). -/
def execSend (p : Pkt) (bytes : Nat) (s : State) : Host.Outcome State Fault Refusal := run s fun d => frameIn d (.req p (.send bytes))

/-- PERSIST_COMMIT (R73). -/
def execPersistCommit (p : Pkt) (r : Reth) (s : State) : Host.Outcome State Fault Refusal := run s fun d => frameIn d (.req p (.commit r))

/-- ACKNOWLEDGE (R82). -/
def execAcknowledge (h : RspPkt) (k : ConnNo) (psn : BitVec 24) (_credit : BitVec 5) (s : State) : Host.Outcome State Fault Refusal := run s fun d => frameIn d (.rsp h (.ack k psn))

/-- NAK_RECEIVED (R82). -/
def execNakReceived (h : RspPkt) (k : ConnNo) (syn : BitVec 8) (psn : BitVec 24) (s : State) : Host.Outcome State Fault Refusal := run s fun d => frameIn d (.rsp h (.nak k syn psn))

/-- STATUS_NAK_RECEIVED (R82). -/
def execStatusNakReceived (h : RspPkt) (k : ConnNo) (psn : BitVec 24) (st : BitVec 8) (detail : BitVec 16) (s : State) : Host.Outcome State Fault Refusal := run s fun d => frameIn d (.rsp h (.statusNak k psn st detail))

/-- CONGESTION_NOTIFICATION_PACKET (R101). -/
def execCongestionNotificationPacket (h : RspPkt) (s : State) : Host.Outcome State Fault Refusal := run s fun d => frameIn d (.rsp h .cnp)

/-- INTERNAL_RETRY_TIMER (R30). -/
def execInternalRetryTimer (c : CellNo) (who : Nat) (s : State) : Host.Outcome State Fault Refusal := run s fun d => internalRetryTimer (reachO d (retryTime d c.val who)) c.val who

/-- BUFFER_WAIT_NOTICE (R30). -/
def execBufferWaitNotice (c : CellNo) (who : Nat) (s : State) : Host.Outcome State Fault Refusal := run s fun d => bufferWaitNotice (reachO d (noticeTime d c.val who)) c.val who

/-- CIPHER_SEGMENT_END (R314). -/
def execCipherSegmentEnd (c : CellNo) (pipe : Fin 9) (s : State) : Host.Outcome State Fault Refusal := run s fun d => cipherSegmentEnd d c.val pipe.val

/-- COMPRESSION_DONE (R36). -/
def execCompressionDone (c : CellNo) (comp : Bool) (s : State) : Host.Outcome State Fault Refusal := run s fun d => compressionDone d c.val comp

end Sys2Proof.Machine
end

