-- ==== Sys2Proof/Machine/RunKeys.lean ====
section
/-!
DEFINITION. The meanings of the commands of rows 225 to 243 of the table: Keys, engines and tamper (spec/14). Each runs one operation of the device.
-/
namespace Sys2Proof.Machine
open Sys2Proof

/-- KEY_GENERATE (R306). -/
def execKeyGenerate (w : Writer) (s : State) : Host.Outcome State Fault Refusal := run s fun d => keyGenerate d w

/-- KEY_IMPORT (R307). -/
def execKeyImport (w : Writer) (s : State) : Host.Outcome State Fault Refusal := run s fun d => keyImport d w

/-- KEY_DESTROY (R305). -/
def execKeyDestroy (w : Writer) (s : State) : Host.Outcome State Fault Refusal := run s fun d => keyDestroy d w

/-- KEY_SLOT_QUERY (R311). -/
def execKeySlotQuery (w : Writer) (s : State) : Host.Outcome State Fault Refusal := run s fun d => keySlotQuery d w

/-- KEY_AGREE (R308). -/
def execKeyAgree (w : Writer) (s : State) : Host.Outcome State Fault Refusal := run s fun d => keyAgree d w

/-- OWNER_ADD (R323). -/
def execOwnerAdd (w : Writer) (readBack : Bool) (s : State) : Host.Outcome State Fault Refusal := run s fun d => ownerAdd d w readBack

/-- OWNER_REVOKE (R323). -/
def execOwnerRevoke (w : Writer) (readBack : Bool) (s : State) : Host.Outcome State Fault Refusal := run s fun d => ownerRevoke d w readBack

/-- KEY_CMD_RESERVED (R311). -/
def execKeyCmdReserved (w : Writer) (op : Fin 16) (s : State) : Host.Outcome State Fault Refusal := run s fun d => keyCmdReserved d w op.val

/-- DRBG_RESEED (R306). -/
def execDrbgReseed (s : State) : Host.Outcome State Fault Refusal := run s fun d => drbgReseed (reachO d (reseedTime d))

/-- ENTROPY_HEALTH_FAILURE (R306). -/
def execEntropyHealthFailure (s : State) : Host.Outcome State Fault Refusal := run s entropyHealthFailure

/-- KEY_SCHEDULE_FETCH_DONE (R312). -/
def execKeyScheduleFetchDone (c : CellNo) (slot : Nat) (s : State) : Host.Outcome State Fault Refusal := run s fun d => keyScheduleFetchDone d c.val slot

/-- CELL_GENERATOR_RESEED (R315). -/
def execCellGeneratorReseed (s : State) : Host.Outcome State Fault Refusal := run s fun d => cellGeneratorReseed (reachO d (seedTime d))

/-- GENERATOR_STALE_EXPIRY (R315). -/
def execGeneratorStaleExpiry (c : CellNo) (s : State) : Host.Outcome State Fault Refusal := run s fun d => generatorStaleExpiry (reachO d (staleTime d c.val)) c.val

/-- TAMPER_VOLTAGE (R324). -/
def execTamperVoltage (s : State) : Host.Outcome State Fault Refusal := run s tamperVoltage

/-- TAMPER_CLOCK (R324). -/
def execTamperClock (s : State) : Host.Outcome State Fault Refusal := run s tamperClock

/-- TAMPER_LID (R325). -/
def execTamperLid (s : State) : Host.Outcome State Fault Refusal := run s tamperLid

/-- MKPDU (R320). -/
def execMkpdu (m : Mkpdu) (s : State) : Host.Outcome State Fault Refusal := run s fun d => mkpdu d m

/-- MKA_HELLO_TIMER (R320). -/
def execMkaHelloTimer (p : CellNo) (s : State) : Host.Outcome State Fault Refusal := run s fun d => mkaHelloTimer (reachO d (mkaTime d p.val)) p.val

/-- SAK_RENEWAL (R320). -/
def execSakRenewal (p : CellNo) (pn : Nat) (s : State) : Host.Outcome State Fault Refusal := run s fun d => sakRenewal (reachO d (renewTime d p.val pn)) p.val pn

end Sys2Proof.Machine
end

