-- ==== Sys2Proof/Machine/RunMedia.lean ====
section
/-!
DEFINITION. The meanings of the commands of rows 102 to 113 of the table: Media channels (spec/09). Each runs one operation of the device.
-/
namespace Sys2Proof.Machine
open Sys2Proof

/-- MEDIA_GRANT (R191). -/
def execMediaGrant (c : CellNo) (die : Fin 16) (s : State) : Host.Outcome State Fault Refusal := run s fun d => mediaGrant d c.val die.val

/-- MEDIA_READ_DONE (R184). -/
def execMediaReadDone (c : CellNo) (die : Fin 16) (ws : List CodeWord) (mapBad : Bool) (s : State) : Host.Outcome State Fault Refusal := run s fun d => mediaReadDone d c.val die.val ws mapBad

/-- PROGRAM_PASS_DONE (R188). -/
def execProgramPassDone (c : CellNo) (die : Fin 16) (ok : Bool) (plane : Fin 4) (s : State) : Host.Outcome State Fault Refusal := run s fun d => programPassDone d c.val die.val ok plane.val

/-- ERASE_DONE (R193). -/
def execEraseDone (c : CellNo) (sb : Fin 2048) (failed : List Nat) (s : State) : Host.Outcome State Fault Refusal := run s fun d => eraseDone d c.val sb.val failed

/-- MEDIA_OPERATION_TIMEOUT (R200). -/
def execMediaOperationTimeout (c : CellNo) (die : Fin 16) (s : State) : Host.Outcome State Fault Refusal := run s fun d => mediaOperationTimeout d c.val die.val

/-- REBUILD_END (R201). -/
def execRebuildEnd (c : CellNo) (s : State) : Host.Outcome State Fault Refusal := run s fun d => rebuildEnd d c.val

/-- MAP_WRITEBACK_TIMER (R182). -/
def execMapWritebackTimer (c : CellNo) (s : State) : Host.Outcome State Fault Refusal := run s fun d => mapWritebackTimer (reachO d (writebackTime d c.val)) c.val

/-- ROOT_CHECKPOINT_TIMER (R182). -/
def execRootCheckpointTimer (c : CellNo) (s : State) : Host.Outcome State Fault Refusal := run s fun d => rootCheckpointTimer (reachO d (checkpointTime d c.val)) c.val

/-- MEDIA_SCRUB_PASS_START (R196). -/
def execMediaScrubPassStart (c : CellNo) (s : State) : Host.Outcome State Fault Refusal := run s fun d => mediaScrubPassStart (reachO d (scrubTime d c.val)) c.val

/-- DIE_TEMPERATURE_READ (R196). -/
def execDieTemperatureRead (c : CellNo) (t : BitVec 8) (s : State) : Host.Outcome State Fault Refusal := run s fun d => dieTemperatureRead d c.val t.toNat

/-- SCRUB_NOW (R196). -/
def execScrubNow (w : Writer) (c : CellNo) (s : State) : Host.Outcome State Fault Refusal := run s fun d => scrubNow d w c.val

/-- RETIRE_DIE (R200). -/
def execRetireDie (w : Writer) (c : CellNo) (die : Fin 16) (s : State) : Host.Outcome State Fault Refusal := run s fun d => retireDie d w c.val die.val

end Sys2Proof.Machine
end

