-- ==== Sys2Proof/Machine/RunMirror.lean ====
section
/-!
DEFINITION. The meanings of the commands of rows 67 to 74 of the table: Mirror traffic and repairs (spec/10, spec/11). Each runs one operation of the device.
-/
namespace Sys2Proof.Machine
open Sys2Proof

/-- MIRROR_WRITE (R233). -/
def execMirrorWrite (p : Pkt) (dst : ChmAddr) (data : List Byte) (copy : Bool) (s : State) : Host.Outcome State Fault Refusal := run s fun d => frameIn d (.req p (.mirrorWrite dst data copy))

/-- MIRROR_ACKNOWLEDGE (R21). -/
def execMirrorAcknowledge (h : RspPkt) (k : ConnNo) (psn : BitVec 24) (_credit : BitVec 5) (_msn : BitVec 24) (s : State) : Host.Outcome State Fault Refusal := run s fun d => frameIn d (.rsp h (.mirrorAck k psn))

/-- COMPARE_MARKER (R253). -/
def execCompareMarker (p : Pkt) (imm : BitVec 32) (dst : ChmAddr) (data : List Byte) (s : State) : Host.Outcome State Fault Refusal := run s fun d => frameIn d (.req p (.mirrorImm imm dst data))

/-- COMMIT_MARKER (R292). -/
def execCommitMarker (p : Pkt) (imm : BitVec 32) (w : ChmWrite) (s : State) : Host.Outcome State Fault Refusal := run s fun d => frameIn d (.req p (.mirrorImm imm w.dst w.data))

/-- PROMOTION_HINT (R153). -/
def execPromotionHint (p : Pkt) (imm : BitVec 32) (w : ChmWrite) (s : State) : Host.Outcome State Fault Refusal := run s fun d => frameIn d (.req p (.mirrorImm imm w.dst w.data))

/-- LINE_REPAIR_REQUEST (R215). -/
def execLineRepairRequest (p : Pkt) (chamber : BitVec 16) (page : BitVec 36) (line : Option (Fin 128)) (s : State) : Host.Outcome State Fault Refusal := run s fun d => frameIn d (.req p (.repair chamber page line))

/-- LINE_REPAIR_ANSWER (R215). -/
def execLineRepairAnswer (h : RspPkt) (k : ConnNo) (psn : BitVec 24) (data : List Byte) (pmh : List (Option (BitVec 64))) (s : State) : Host.Outcome State Fault Refusal := run s fun d => frameIn d (.rsp h (.repairAns k psn data pmh))

/-- LINE_REPAIR_TIMEOUT (R215). -/
def execLineRepairTimeout (chamber : Fin 65536) (page : BitVec 36) (line : Option (Fin 128)) (s : State) : Host.Outcome State Fault Refusal := run s fun d => lineRepairTimeout (reachO d (repairTime d chamber.val page.toNat (line.map (·.val)))) chamber.val page.toNat (line.map (·.val))

end Sys2Proof.Machine
end

