-- ==== Sys2Proof/Machine/RunMore.lean ====
section
/-!
DEFINITION. The meanings of the commands of rows 297 to 314 of the table: The remaining timers and completions (spec/05 to spec/17). Each runs one operation of the device.
-/
namespace Sys2Proof.Machine
open Sys2Proof

/-- PAUSE_QUANTA_EXPIRY (R105). -/
def execPauseQuantaExpiry (p : CellNo) (pcp : Fin 8) (s : State) : Host.Outcome State Fault Refusal := run s fun d => pauseQuantaExpiry (reachO d (pauseTimeEnd d p.val pcp.val)) p.val pcp.val

/-- THERMAL_TRIP (R422). -/
def execThermalTrip (s : State) : Host.Outcome State Fault Refusal := run s thermalTrip

/-- SNAPSHOT_RELEASE_DONE (R297). -/
def execSnapshotReleaseDone (act : BitVec 32) (s : State) : Host.Outcome State Fault Refusal := run s fun d => snapshotReleaseDone d act.toNat

/-- IMAGE_LOAD_COMPLETE (R337). -/
def execImageLoadComplete (a : ImgCopy) (b : ImgCopy) (s : State) : Host.Outcome State Fault Refusal := run s fun d => imageLoadComplete d a b

/-- REPLAY_COMPLETE (R146). -/
def execReplayComplete (metaBad : List CellNo) (bad : List Nat) (s : State) : Host.Outcome State Fault Refusal := run s fun d => replayComplete d metaBad bad

/-- CHANNEL_TRAINING_DONE (R178). -/
def execChannelTrainingDone (hbmBad : List CellNo) (media : List (CellNo × MediaFound)) (s : State) : Host.Outcome State Fault Refusal := run s fun d => channelTrainingDone d hbmBad media

/-- START_STEP_TIMEOUT (R338). -/
def execStartStepTimeout (s : State) : Host.Outcome State Fault Refusal := run s fun d => startStepTimeout (reachO d (stepBound d))

/-- RESTART_DELAY_EXPIRY (R338). -/
def execRestartDelayExpiry (s : State) : Host.Outcome State Fault Refusal := run s fun d => restartDelayExpiry (reachO d (delayTime d))

/-- QUIET_EXIT_DONE (R354). -/
def execQuietExitDone (s : State) : Host.Outcome State Fault Refusal := run s quietExitDone

/-- SHADOW_COMMIT_TICK (R407). -/
def execShadowCommitTick (s : State) : Host.Outcome State Fault Refusal := run s shadowCommitTick

/-- THROTTLE_INTERVAL_END (R223). -/
def execThrottleIntervalEnd (c : CellNo) (s : State) : Host.Outcome State Fault Refusal := run s fun d => throttleIntervalEnd (reachO d (throttleTime d c.val)) c.val

/-- RAIL_RISEN (R351). -/
def execRailRisen (n : Fin 64) (mv : BitVec 16) (mw : Nat) (s : State) : Host.Outcome State Fault Refusal := run s fun d => railRisen d n.val mv.toNat mw

/-- RAIL_FALLEN (R352). -/
def execRailFallen (s : State) : Host.Outcome State Fault Refusal := run s railFallen

/-- DELAY_REQ_TIMER (R256). -/
def execDelayReqTimer (s : State) : Host.Outcome State Fault Refusal := run s fun d => delayReqTimer (reachO d (some d.tim.nextDelay))

/-- CELL_RELEASE_DONE (R365). -/
def execCellReleaseDone (s : State) : Host.Outcome State Fault Refusal := run s cellReleaseDone

/-- TWIN_CREATE_REFUSAL (R41). -/
def execTwinCreateRefusal (n : Heard (Fin 65536)) (s : State) : Host.Outcome State Fault Refusal := run s fun d => ctrlIn d n.via fun d => twinCreateRefusal d n.msg.val

/-- TWIN_CHAMBER_UPDATE (R41). -/
def execTwinChamberUpdate (u : Heard ChmUpdate) (s : State) : Host.Outcome State Fault Refusal := run s fun d => ctrlIn d u.via fun d => twinChamberUpdate d u.msg

/-- ROTATION_GRACE_END (R317). -/
def execRotationGraceEnd (s : State) : Host.Outcome State Fault Refusal := run s fun d => rotationGraceEnd (reachFedO d (d.sec.ctrlOld.map (·.2)))

end Sys2Proof.Machine
end

