-- ==== Sys2Proof/Machine/RunPersist.lean ====
section
/-!
DEFINITION. The meanings of the commands of rows 75 to 84 of the table: The persistence domain (spec/07). Each runs one operation of the device.
-/
namespace Sys2Proof.Machine
open Sys2Proof

/-- POWER_FAIL_N_FALL (R135). -/
def execPowerFailNFall (s : State) : Host.Outcome State Fault Refusal := run s powerFailNFall

/-- INPUT_UNDERVOLTAGE (R134). -/
def execInputUndervoltage (mv10 : BitVec 16) (s : State) : Host.Outcome State Fault Refusal := run s fun d => inputUndervoltage d mv10.toNat

/-- FLUSH_COMPLETE (R139). -/
def execFlushComplete (pfHigh : Bool) (inputOk : Bool) (recordOk : Bool) (micros : Nat) (cells : FlushCells) (s : State) : Host.Outcome State Fault Refusal := run s fun d => flushComplete d pfHigh inputOk recordOk micros cells.short cells.worn

/-- DIRTY_CREDIT_REQUEST (R129). -/
def execDirtyCreditRequest (c : CellNo) (s : State) : Host.Outcome State Fault Refusal := run s fun d => dirtyCreditRequest d c.val

/-- DIRTY_CREDIT_GRANT (R129). -/
def execDirtyCreditGrant (s : State) : Host.Outcome State Fault Refusal := run s dirtyCreditGrant

/-- DIRTY_CREDIT_RETURN (R129). -/
def execDirtyCreditReturn (c : CellNo) (s : State) : Host.Outcome State Fault Refusal := run s fun d => dirtyCreditReturn d c.val

/-- DIRTY_WAIT_EXPIRY (R130). -/
def execDirtyWaitExpiry (c : CellNo) (s : State) : Host.Outcome State Fault Refusal := run s fun d => dirtyWaitExpiry (reachO d (dirtyTime d c.val)) c.val

/-- MIRROR_STALL_EXPIRY (R131). -/
def execMirrorStallExpiry (c : CellNo) (s : State) : Host.Outcome State Fault Refusal := run s fun d => mirrorStallExpiry (reachO d (mirrorStallTime d c.val)) c.val

/-- MIRROR_ACK_STALL_EXPIRY (R131). -/
def execMirrorAckStallExpiry (s : State) : Host.Outcome State Fault Refusal := run s fun d => mirrorAckStallExpiry (reachO d (mirrorAckTime d))

/-- SUMP_ERASE_DONE (R144). -/
def execSumpEraseDone (c : CellNo) (set1 : Bool) (failed : List Nat) (s : State) : Host.Outcome State Fault Refusal := run s fun d => sumpEraseDone d c.val set1 failed

end Sys2Proof.Machine
end

