-- ==== Sys2Proof/Machine/RunPower.lean ====
section
/-!
DEFINITION. The meanings of the commands of rows 261 to 275 of the table: Power states and doze (spec/16). Each runs one operation of the device.
-/
namespace Sys2Proof.Machine
open Sys2Proof

/-- GOTO_SERVICE (R354). -/
def execGotoService (w : Writer) (maint : Bool) (s : State) : Host.Outcome State Fault Refusal := run s fun d => gotoService d w maint

/-- GOTO_QUIET (R355). -/
def execGotoQuiet (w : Writer) (maint : Bool) (s : State) : Host.Outcome State Fault Refusal := run s fun d => gotoQuiet d w maint

/-- GOTO_DORMANT (R356). -/
def execGotoDormant (w : Writer) (maint : Bool) (s : State) : Host.Outcome State Fault Refusal := run s fun d => gotoDormant d w maint

/-- MAINT_ENTER (R349). -/
def execMaintEnter (w : Writer) (s : State) : Host.Outcome State Fault Refusal := run s fun d => maintEnter d w

/-- MAINT_END (R349). -/
def execMaintEnd (w : Writer) (s : State) : Host.Outcome State Fault Refusal := run s fun d => maintEnd d w

/-- MARGIN_WRITE (R349). -/
def execMarginWrite (w : Writer) (n : Fin 64) (v : Word) (s : State) : Host.Outcome State Fault Refusal := run s fun d => marginWrite d w n.val v

/-- QUIET_ENTRY_DONE (R355). -/
def execQuietEntryDone (s : State) : Host.Outcome State Fault Refusal := run s quietEntryDone

/-- DORMANT_ENTRY_DONE (R356). -/
def execDormantEntryDone (s : State) : Host.Outcome State Fault Refusal := run s dormantEntryDone

/-- DORMANT_EXIT_DONE (R356). -/
def execDormantExitDone (s : State) : Host.Outcome State Fault Refusal := run s dormantExitDone

/-- CELL_WAKE_SLOT (R358). -/
def execCellWakeSlot (s : State) : Host.Outcome State Fault Refusal := run s fun d => cellWakeSlot (reachO d (wakeTime d))

/-- DOZE_IDLE_TIMER (R360). -/
def execDozeIdleTimer (p : CellNo) (s : State) : Host.Outcome State Fault Refusal := run s fun d => dozeIdleTimer (reachO d (idleTime d p.val)) p.val

/-- DOZE_REQ (R360). -/
def execDozeReq (p : CellNo) (sec : SecTag) (seq : BitVec 8) (s : State) : Host.Outcome State Fault Refusal := run s fun d => dozeReq d p.val sec seq.toNat

/-- DOZE_ACK (R360). -/
def execDozeAck (p : CellNo) (sec : SecTag) (seq : BitVec 8) (result : BitVec 8) (s : State) : Host.Outcome State Fault Refusal := run s fun d => dozeAck d p.val sec seq.toNat result.toNat

/-- DOZE_REQ_TIMEOUT (R360). -/
def execDozeReqTimeout (p : CellNo) (s : State) : Host.Outcome State Fault Refusal := run s fun d => dozeReqTimeout (reachO d (dozeReqTime d p.val)) p.val

/-- DOZE_WAKE (R361). -/
def execDozeWake (p : CellNo) (s : State) : Host.Outcome State Fault Refusal := run s fun d => dozeWake d p.val

end Sys2Proof.Machine
end

