-- ==== Sys2Proof/Machine/RunStart.lean ====
section
/-!
DEFINITION. The meanings of the commands of rows 244 to 260 of the table: Start-up, rails, clocks and the Vault journal (spec/15 to spec/17). Each runs one operation of the device.
-/
namespace Sys2Proof.Machine
open Sys2Proof

/-- POWER_GOOD (R351). -/
def execPowerGood (mv10 : BitVec 16) (s : State) : Host.Outcome State Fault Refusal := run s fun d => powerGood d mv10.toNat

/-- POWER_UP_STEP (R351). -/
def execPowerUpStep (s : State) : Host.Outcome State Fault Refusal := run s fun d => powerUpStep (reachO d (upTime d))

/-- STAGGER_END (R339). -/
def execStaggerEnd (s : State) : Host.Outcome State Fault Refusal := run s fun d => staggerEnd (reachO d (d.ldr.staggerEnd))

/-- IMAGE_RETRY_TIMER (R336). -/
def execImageRetryTimer (s : State) : Host.Outcome State Fault Refusal := run s fun d => imageRetryTimer (reachO d (d.ldr.retryAt))

/-- MODULE_REREAD_TIMER (R327). -/
def execModuleRereadTimer (differs : Bool) (s : State) : Host.Outcome State Fault Refusal := run s fun d => moduleRereadTimer (reachO d (rereadTime d)) differs

/-- LEADER_WAIT_EXPIRY (R341). -/
def execLeaderWaitExpiry (s : State) : Host.Outcome State Fault Refusal := run s fun d => leaderWaitExpiry (reachO d (leaderTime d))

/-- RESET_N_ASSERT (R418). -/
def execResetNAssert (s : State) : Host.Outcome State Fault Refusal := run s resetNAssert

/-- RESET_N_RELEASE (R418). -/
def execResetNRelease (s : State) : Host.Outcome State Fault Refusal := run s resetNRelease

/-- RAIL_WINDOW_VIOLATION (R347). -/
def execRailWindowViolation (n : Fin 64) (mv : BitVec 16) (micros : BitVec 16) (s : State) : Host.Outcome State Fault Refusal := run s fun d => railWindowViolation d n.val mv.toNat micros.toNat

/-- RAIL_RISE_TIMEOUT (R351). -/
def execRailRiseTimeout (n : Fin 64) (mv : BitVec 16) (s : State) : Host.Outcome State Fault Refusal := run s fun d => railRiseTimeout (reachO d (riseTime d n.val)) n.val mv.toNat

/-- RAIL_FALL_TIMEOUT (R352). -/
def execRailFallTimeout (n : Fin 64) (mv : BitVec 16) (s : State) : Host.Outcome State Fault Refusal := run s fun d => railFallTimeout (reachO d (fallTime d n.val)) n.val mv.toNat

/-- INPUT_OVERVOLTAGE (R350). -/
def execInputOvervoltage (mv10 : BitVec 16) (micros : BitVec 16) (s : State) : Host.Outcome State Fault Refusal := run s fun d => inputOvervoltage d mv10.toNat micros.toNat

/-- INPUT_BELOW_36V (R350). -/
def execInputBelow36V (mv10 : BitVec 16) (s : State) : Host.Outcome State Fault Refusal := run s fun d => inputBelow36V d mv10.toNat

/-- CLOCK_DOMAIN_LOSS (R24). -/
def execClockDomainLoss (n : Fin 100) (s : State) : Host.Outcome State Fault Refusal := run s fun d => clockDomainLoss d n.val

/-- HUB_FUNCTION_FAILURE (R12). -/
def execHubFunctionFailure (fn : Fin 13) (s : State) : Host.Outcome State Fault Refusal := run s fun d => hubFunctionFailure d fn.val

/-- JOURNAL_PROGRAM_DONE (R378). -/
def execJournalProgramDone (s : State) : Host.Outcome State Fault Refusal := run s journalProgramDone

/-- JOURNAL_SECTOR_ERASE_DONE (R378). -/
def execJournalSectorEraseDone (s : State) : Host.Outcome State Fault Refusal := run s journalSectorEraseDone

end Sys2Proof.Machine
end

