-- ==== Sys2Proof/Machine/RunTiers.lean ====
section
/-!
DEFINITION. The meanings of the commands of rows 85 to 101 of the table: Tiers, quotas and plans (spec/08). Each runs one operation of the device.
-/
namespace Sys2Proof.Machine
open Sys2Proof

/-- PROMOTION_COMPLETE (R151). -/
def execPromotionComplete (chamber : Fin 65536) (page : BitVec 36) (sealOk : Bool) (s : State) : Host.Outcome State Fault Refusal := run s fun d => promotionComplete d (pageKey chamber.val page.toNat) sealOk

/-- PROMOTION_TIMEOUT (R152). -/
def execPromotionTimeout (chamber : Fin 65536) (page : BitVec 36) (s : State) : Host.Outcome State Fault Refusal := run s fun d => promotionTimeout (reachO d ((nget d.tier.promos (pageKey chamber.val page.toNat)).map (·.deadline))) (pageKey chamber.val page.toNat)

/-- EVICTION_SWEEP (R154). -/
def execEvictionSweep (c : CellNo) (s : State) : Host.Outcome State Fault Refusal := run s fun d => evictionSweep d c.val

/-- DESTAGE_START (R155). -/
def execDestageStart (c : CellNo) (s : State) : Host.Outcome State Fault Refusal := run s fun d => destageStart d c.val

/-- MERGING_BUFFER_HOLD_EXPIRY (R164). -/
def execMergingBufferHoldExpiry (c : CellNo) (s : State) : Host.Outcome State Fault Refusal := run s fun d => mergingBufferHoldExpiry (reachO d (holdTime d c.val)) c.val

/-- T2_CREDIT_GRANT (R159). -/
def execT2CreditGrant (s : State) : Host.Outcome State Fault Refusal := run s t2CreditGrant

/-- T2_CREDIT_RETURN (R159). -/
def execT2CreditReturn (t : Fin 4096) (c : CellNo) (s : State) : Host.Outcome State Fault Refusal := run s fun d => t2CreditReturn d t.val c.val

/-- T2_CREDIT_WAIT_EXPIRY (R159). -/
def execT2CreditWaitExpiry (c : CellNo) (s : State) : Host.Outcome State Fault Refusal := run s fun d => t2CreditWaitExpiry (reachO d (creditTime d c.val)) c.val

/-- PLAN_CREATE (R166). -/
def execPlanCreate (w : Writer) (s : State) : Host.Outcome State Fault Refusal := run s fun d => planCreate d w

/-- PLAN_CURSOR (R168). -/
def execPlanCursor (w : Writer) (s : State) : Host.Outcome State Fault Refusal := run s fun d => planCursor d w

/-- PLAN_LOOKAHEAD (R170). -/
def execPlanLookahead (w : Writer) (s : State) : Host.Outcome State Fault Refusal := run s fun d => planLookahead d w

/-- PLAN_RELEASE (R172). -/
def execPlanRelease (w : Writer) (s : State) : Host.Outcome State Fault Refusal := run s fun d => planRelease d w

/-- PLAN_QUERY (R172). -/
def execPlanQuery (w : Writer) (s : State) : Host.Outcome State Fault Refusal := run s fun d => planQuery d w

/-- ENTRY_QUERY (R172). -/
def execEntryQuery (w : Writer) (s : State) : Host.Outcome State Fault Refusal := run s fun d => entryQuery d w

/-- PLAN_CMD_RESERVED (R166). -/
def execPlanCmdReserved (w : Writer) (op : Fin 16) (s : State) : Host.Outcome State Fault Refusal := run s fun d => planCmdReserved d w op.val

/-- PLAN_LIST_LOADED (R167). -/
def execPlanListLoaded (s : State) : Host.Outcome State Fault Refusal := run s planListLoaded

/-- PLAN_ENGINE_TURN (R169). -/
def execPlanEngineTurn (s : State) : Host.Outcome State Fault Refusal := run s planEngineTurn

end Sys2Proof.Machine
end

