-- ==== Sys2Proof/Machine/RunTime.lean ====
section
/-!
DEFINITION. The meanings of the commands of rows 164 to 191 of the table: Time, calendar and mode (spec/12). Each runs one operation of the device.
-/
namespace Sys2Proof.Machine
open Sys2Proof

/-- SYNC (R256). -/
def execSync (h : PtpHdr) (origin : BitVec 64) (s : State) : Host.Outcome State Fault Refusal := run s fun d => syncReceived d h origin.toNat

/-- ANNOUNCE (R258). -/
def execAnnounce (h : PtpHdr) (cls : BitVec 8) (ord : Ordinal) (rest : AnnRest) (s : State) : Host.Outcome State Fault Refusal := run s fun d => announceReceived d h cls.toNat ord.val rest.steps.toNat rest.utc.toNat

/-- DELAY_REQ (R257). -/
def execDelayReq (h : PtpHdr) (s : State) : Host.Outcome State Fault Refusal := run s fun d => delayReq d h

/-- DELAY_RESP (R256). -/
def execDelayResp (h : PtpHdr) (arrival : BitVec 64) (s : State) : Host.Outcome State Fault Refusal := run s fun d => delayResp d h arrival.toNat

/-- SYNC_TIMER (R257). -/
def execSyncTimer (s : State) : Host.Outcome State Fault Refusal := run s fun d => syncTimer (reachO d (some d.tim.nextSync))

/-- ANNOUNCE_TIMEOUT (R258). -/
def execAnnounceTimeout (s : State) : Host.Outcome State Fault Refusal := run s fun d => announceTimeout (reachO d (announceTime d))

/-- SYNC_LOSS_EXPIRY (R260). -/
def execSyncLossExpiry (s : State) : Host.Outcome State Fault Refusal := run s fun d => syncLossExpiry (reachO d (syncLossTime d))

/-- PPS_IN_EDGE (R262). -/
def execPpsInEdge (at_ : BitVec 64) (width : BitVec 32) (s : State) : Host.Outcome State Fault Refusal := run s fun d => ppsInEdge (reach d at_.toNat) width.toNat

/-- PPS_LOSS (R262). -/
def execPpsLoss (s : State) : Host.Outcome State Fault Refusal := run s fun d => ppsLoss (reachO d (ppsTime d))

/-- WHOLE_SECOND (R261). -/
def execWholeSecond (s : State) : Host.Outcome State Fault Refusal := run s fun d => wholeSecond (reachFedO d (secondTime d))

/-- SLEW_COMPLETE (R263). -/
def execSlewComplete (s : State) : Host.Outcome State Fault Refusal := run s fun d => slewComplete (reachO d (slewTime d))

/-- TIME_TOD_WRITE (R262). -/
def execTimeTodWrite (w : Writer) (v : Word) (s : State) : Host.Outcome State Fault Refusal := run s fun d => timeTodWrite d w v.toNat

/-- MODE_COMMIT (R281). -/
def execModeCommit (s : State) : Host.Outcome State Fault Refusal := run s fun d => modeCommit (reachFedO d (fireTime d 1))

/-- SNAPSHOT_CUT (R275). -/
def execSnapshotCut (s : State) : Host.Outcome State Fault Refusal := run s fun d => snapshotCut (reachFedO d (fireTime d 2))

/-- COORD_RESTART (R338). -/
def execCoordRestart (s : State) : Host.Outcome State Fault Refusal := run s fun d => coordRestart (reachFedO d (fireTime d 3))

/-- SCRUB_WINDOW (R266). -/
def execScrubWindow (s : State) : Host.Outcome State Fault Refusal := run s fun d => scrubWindow (reachFedO d (fireTime d 4))

/-- SCRUB_WINDOW_END (R266). -/
def execScrubWindowEnd (s : State) : Host.Outcome State Fault Refusal := run s fun d => scrubWindowEnd (reachFedO d (d.cal.scrubEnd))

/-- KEY_ROTATION (R317). -/
def execKeyRotation (s : State) : Host.Outcome State Fault Refusal := run s fun d => keyRotation (reachFedO d (fireTime d 5))

/-- DOZE_WINDOW (R359). -/
def execDozeWindow (s : State) : Host.Outcome State Fault Refusal := run s fun d => dozeWindow (reachFedO d (fireTime d 6))

/-- DOZE_WINDOW_END (R359). -/
def execDozeWindowEnd (s : State) : Host.Outcome State Fault Refusal := run s fun d => dozeWindowEnd (reachFedO d (d.cal.dozeEnd))

/-- START_SLOT (R339). -/
def execStartSlot (s : State) : Host.Outcome State Fault Refusal := run s fun d => startSlot (reachFedO d (fireTime d 7))

/-- CAL_POST_LOCAL (R268). -/
def execCalPostLocal (w : Writer) (s : State) : Host.Outcome State Fault Refusal := run s fun d => calPostLocal d w

/-- CAL_CANCEL_LOCAL (R268). -/
def execCalCancelLocal (w : Writer) (s : State) : Host.Outcome State Fault Refusal := run s fun d => calCancelLocal d w

/-- CALENDAR_POST_POST (R268). -/
def execCalendarPostPost (m : CalPostMsg) (s : State) : Host.Outcome State Fault Refusal := run s fun d => calendarPostPost d m

/-- CALENDAR_POST_CANCEL (R268). -/
def execCalendarPostCancel (m : CalPostMsg) (s : State) : Host.Outcome State Fault Refusal := run s fun d => calendarPostCancel d m

/-- CALENDAR_POST_ANSWER (R268). -/
def execCalendarPostAnswer (m : CalPostMsg) (s : State) : Host.Outcome State Fault Refusal := run s fun d => calendarPostAnswer d m

/-- QUERY_MODE (R283). -/
def execQueryMode (m : ModeMsg) (s : State) : Host.Outcome State Fault Refusal := run s fun d => queryModeReceived d m

/-- MODE_ANSWER (R283). -/
def execModeAnswer (m : ModeMsg) (s : State) : Host.Outcome State Fault Refusal := run s fun d => modeAnswer d m

end Sys2Proof.Machine
end

