-- ==== Sys2Proof/Machine/Dispatch.lean ====
section
/-!
DEFINITION. The dispatch of commands to their meanings, one arm for each row of spec/opcode_table.json.
-/
namespace Sys2Proof.Machine
open Sys2Proof

/-- The effect of a command on everything but the queue. -/
def exec (i : Instr) (s : State) : Host.Outcome State Fault Refusal :=
  match i with
  | .registerWrite w a v env => Sys2Proof.Machine.execRegisterWrite w a v env s
  | .rdmaWrite p r data => Sys2Proof.Machine.execRdmaWrite p r data s
  | .rdmaReadRequest p r errs => Sys2Proof.Machine.execRdmaReadRequest p r errs s
  | .compareAndSwap p r cmp swp errs => Sys2Proof.Machine.execCompareAndSwap p r cmp swp errs s
  | .fetchAndAdd p r add errs => Sys2Proof.Machine.execFetchAndAdd p r add errs s
  | .send p bytes => Sys2Proof.Machine.execSend p bytes s
  | .persistCommit p r => Sys2Proof.Machine.execPersistCommit p r s
  | .acknowledge h k psn _credit => Sys2Proof.Machine.execAcknowledge h k psn _credit s
  | .nakReceived h k syn psn => Sys2Proof.Machine.execNakReceived h k syn psn s
  | .statusNakReceived h k psn st detail => Sys2Proof.Machine.execStatusNakReceived h k psn st detail s
  | .congestionNotificationPacket h => Sys2Proof.Machine.execCongestionNotificationPacket h s
  | .internalRetryTimer c who => Sys2Proof.Machine.execInternalRetryTimer c who s
  | .bufferWaitNotice c who => Sys2Proof.Machine.execBufferWaitNotice c who s
  | .cipherSegmentEnd c pipe => Sys2Proof.Machine.execCipherSegmentEnd c pipe s
  | .compressionDone c comp => Sys2Proof.Machine.execCompressionDone c comp s
  | .chmCreate w => Sys2Proof.Machine.execChmCreate w s
  | .chmResize w => Sys2Proof.Machine.execChmResize w s
  | .chmDelete w => Sys2Proof.Machine.execChmDelete w s
  | .chmSetAttr w => Sys2Proof.Machine.execChmSetAttr w s
  | .keyIssue w => Sys2Proof.Machine.execKeyIssue w s
  | .keyInvalidate w => Sys2Proof.Machine.execKeyInvalidate w s
  | .keyQuery w => Sys2Proof.Machine.execKeyQuery w s
  | .chmQuery w => Sys2Proof.Machine.execChmQuery w s
  | .chmCmdReserved w op => Sys2Proof.Machine.execChmCmdReserved w op s
  | .createReady n => Sys2Proof.Machine.execCreateReady n s
  | .mirroredCreateReceived r => Sys2Proof.Machine.execMirroredCreateReceived r s
  | .createTwinTimeout n => Sys2Proof.Machine.execCreateTwinTimeout n s
  | .createReleaseResend n => Sys2Proof.Machine.execCreateReleaseResend n s
  | .createReleaseAck n => Sys2Proof.Machine.execCreateReleaseAck n s
  | .chamberDrainDone n => Sys2Proof.Machine.execChamberDrainDone n s
  | .chamberReleaseDone n => Sys2Proof.Machine.execChamberReleaseDone n s
  | .keyInvalidateComplete idx => Sys2Proof.Machine.execKeyInvalidateComplete idx s
  | .keyQuarantineEnd idx => Sys2Proof.Machine.execKeyQuarantineEnd idx s
  | .cmReq q => Sys2Proof.Machine.execCmReq q s
  | .cmRtu m => Sys2Proof.Machine.execCmRtu m s
  | .cmDreq m => Sys2Proof.Machine.execCmDreq m s
  | .cmDrep m => Sys2Proof.Machine.execCmDrep m s
  | .connectTimeout k => Sys2Proof.Machine.execConnectTimeout k s
  | .connectionDrainDone k => Sys2Proof.Machine.execConnectionDrainDone k s
  | .connectionErrorSettled k => Sys2Proof.Machine.execConnectionErrorSettled k s
  | .connectionQuarantineEnd k => Sys2Proof.Machine.execConnectionQuarantineEnd k s
  | .retransmitTimerExpiry k => Sys2Proof.Machine.execRetransmitTimerExpiry k s
  | .rnrWaitExpiry k => Sys2Proof.Machine.execRnrWaitExpiry k s
  | .ackCoalesceTimer k => Sys2Proof.Machine.execAckCoalesceTimer k s
  | .pacerRelease k => Sys2Proof.Machine.execPacerRelease k s
  | .pfcFrameReceived m => Sys2Proof.Machine.execPfcFrameReceived m s
  | .xoffRefresh p g => Sys2Proof.Machine.execXoffRefresh p g s
  | .pauseWatchdogExpiry p pcp => Sys2Proof.Machine.execPauseWatchdogExpiry p pcp s
  | .xoffStormExpiry p g => Sys2Proof.Machine.execXoffStormExpiry p g s
  | .portFenceRelease w p => Sys2Proof.Machine.execPortFenceRelease w p s
  | .linkTrained l => Sys2Proof.Machine.execLinkTrained l s
  | .linkDown p => Sys2Proof.Machine.execLinkDown p s
  | .neighbourHello m => Sys2Proof.Machine.execNeighbourHello m s
  | .helloTimer p => Sys2Proof.Machine.execHelloTimer p s
  | .helloTimeout p => Sys2Proof.Machine.execHelloTimeout p s
  | .identityRetryTimer p => Sys2Proof.Machine.execIdentityRetryTimer p s
  | .linkState m => Sys2Proof.Machine.execLinkState m s
  | .linkStateTimer => Sys2Proof.Machine.execLinkStateTimer s
  | .linkStateRecordExpiry o => Sys2Proof.Machine.execLinkStateRecordExpiry o s
  | .routeConvergenceEnd => Sys2Proof.Machine.execRouteConvergenceEnd s
  | .routeAnnounce m => Sys2Proof.Machine.execRouteAnnounce m s
  | .routeAnnounceTimer => Sys2Proof.Machine.execRouteAnnounceTimer s
  | .pairRouteExpiry pair => Sys2Proof.Machine.execPairRouteExpiry pair s
  | .forwardFrame f => Sys2Proof.Machine.execForwardFrame f s
  | .residenceExpiry p => Sys2Proof.Machine.execResidenceExpiry p s
  | .neighbourSolicitation p target => Sys2Proof.Machine.execNeighbourSolicitation p target s
  | .hostAttachmentExpiry addr => Sys2Proof.Machine.execHostAttachmentExpiry addr s
  | .mirrorWrite p dst data copy => Sys2Proof.Machine.execMirrorWrite p dst data copy s
  | .mirrorAcknowledge h k psn _credit _msn => Sys2Proof.Machine.execMirrorAcknowledge h k psn _credit _msn s
  | .compareMarker p imm dst data => Sys2Proof.Machine.execCompareMarker p imm dst data s
  | .commitMarker p imm w => Sys2Proof.Machine.execCommitMarker p imm w s
  | .promotionHint p imm w => Sys2Proof.Machine.execPromotionHint p imm w s
  | .lineRepairRequest p chamber page line => Sys2Proof.Machine.execLineRepairRequest p chamber page line s
  | .lineRepairAnswer h k psn data pmh => Sys2Proof.Machine.execLineRepairAnswer h k psn data pmh s
  | .lineRepairTimeout chamber page line => Sys2Proof.Machine.execLineRepairTimeout chamber page line s
  | .powerFailNFall => Sys2Proof.Machine.execPowerFailNFall s
  | .inputUndervoltage mv10 => Sys2Proof.Machine.execInputUndervoltage mv10 s
  | .flushComplete pfHigh inputOk recordOk micros cells => Sys2Proof.Machine.execFlushComplete pfHigh inputOk recordOk micros cells s
  | .dirtyCreditRequest c => Sys2Proof.Machine.execDirtyCreditRequest c s
  | .dirtyCreditGrant => Sys2Proof.Machine.execDirtyCreditGrant s
  | .dirtyCreditReturn c => Sys2Proof.Machine.execDirtyCreditReturn c s
  | .dirtyWaitExpiry c => Sys2Proof.Machine.execDirtyWaitExpiry c s
  | .mirrorStallExpiry c => Sys2Proof.Machine.execMirrorStallExpiry c s
  | .mirrorAckStallExpiry => Sys2Proof.Machine.execMirrorAckStallExpiry s
  | .sumpEraseDone c set1 failed => Sys2Proof.Machine.execSumpEraseDone c set1 failed s
  | .promotionComplete chamber page sealOk => Sys2Proof.Machine.execPromotionComplete chamber page sealOk s
  | .promotionTimeout chamber page => Sys2Proof.Machine.execPromotionTimeout chamber page s
  | .evictionSweep c => Sys2Proof.Machine.execEvictionSweep c s
  | .destageStart c => Sys2Proof.Machine.execDestageStart c s
  | .mergingBufferHoldExpiry c => Sys2Proof.Machine.execMergingBufferHoldExpiry c s
  | .t2CreditGrant => Sys2Proof.Machine.execT2CreditGrant s
  | .t2CreditReturn t c => Sys2Proof.Machine.execT2CreditReturn t c s
  | .t2CreditWaitExpiry c => Sys2Proof.Machine.execT2CreditWaitExpiry c s
  | .planCreate w => Sys2Proof.Machine.execPlanCreate w s
  | .planCursor w => Sys2Proof.Machine.execPlanCursor w s
  | .planLookahead w => Sys2Proof.Machine.execPlanLookahead w s
  | .planRelease w => Sys2Proof.Machine.execPlanRelease w s
  | .planQuery w => Sys2Proof.Machine.execPlanQuery w s
  | .entryQuery w => Sys2Proof.Machine.execEntryQuery w s
  | .planCmdReserved w op => Sys2Proof.Machine.execPlanCmdReserved w op s
  | .planListLoaded => Sys2Proof.Machine.execPlanListLoaded s
  | .planEngineTurn => Sys2Proof.Machine.execPlanEngineTurn s
  | .mediaGrant c die => Sys2Proof.Machine.execMediaGrant c die s
  | .mediaReadDone c die ws mapBad => Sys2Proof.Machine.execMediaReadDone c die ws mapBad s
  | .programPassDone c die ok plane => Sys2Proof.Machine.execProgramPassDone c die ok plane s
  | .eraseDone c sb failed => Sys2Proof.Machine.execEraseDone c sb failed s
  | .mediaOperationTimeout c die => Sys2Proof.Machine.execMediaOperationTimeout c die s
  | .rebuildEnd c => Sys2Proof.Machine.execRebuildEnd c s
  | .mapWritebackTimer c => Sys2Proof.Machine.execMapWritebackTimer c s
  | .rootCheckpointTimer c => Sys2Proof.Machine.execRootCheckpointTimer c s
  | .mediaScrubPassStart c => Sys2Proof.Machine.execMediaScrubPassStart c s
  | .dieTemperatureRead c t => Sys2Proof.Machine.execDieTemperatureRead c t s
  | .scrubNow w c => Sys2Proof.Machine.execScrubNow w c s
  | .retireDie w c die => Sys2Proof.Machine.execRetireDie w c die s
  | .hbmStackFault c => Sys2Proof.Machine.execHbmStackFault c s
  | .hbmScrubRead c lanes what => Sys2Proof.Machine.execHbmScrubRead c lanes what s
  | .stackTemperatureRead stack t => Sys2Proof.Machine.execStackTemperatureRead stack t s
  | .rowDisturbWindowEnd c => Sys2Proof.Machine.execRowDisturbWindowEnd c s
  | .selfRefreshExit failed => Sys2Proof.Machine.execSelfRefreshExit failed s
  | .retireFrame w c => Sys2Proof.Machine.execRetireFrame w c s
  | .releaseFrame w c => Sys2Proof.Machine.execReleaseFrame w c s
  | .queryFrame w c => Sys2Proof.Machine.execQueryFrame w c s
  | .pprRow w c => Sys2Proof.Machine.execPprRow w c s
  | .cancelPpr w c => Sys2Proof.Machine.execCancelPpr w c s
  | .retireCmdReserved w c op => Sys2Proof.Machine.execRetireCmdReserved w c op s
  | .frameMoveTimeout c => Sys2Proof.Machine.execFrameMoveTimeout c s
  | .policyRetireDecision c f => Sys2Proof.Machine.execPolicyRetireDecision c f s
  | .ceClearAll w c => Sys2Proof.Machine.execCeClearAll w c s
  | .ceClearOne w c ent => Sys2Proof.Machine.execCeClearOne w c ent s
  | .heartbeatTimer => Sys2Proof.Machine.execHeartbeatTimer s
  | .heartbeat via o claim sentAt => Sys2Proof.Machine.execHeartbeat via o claim sentAt s
  | .heartbeatAcknowledge o claim sentAt => Sys2Proof.Machine.execHeartbeatAcknowledge o claim sentAt s
  | .peerSuspicion o => Sys2Proof.Machine.execPeerSuspicion o s
  | .statusTimer => Sys2Proof.Machine.execStatusTimer s
  | .leaseExpiry => Sys2Proof.Machine.execLeaseExpiry s
  | .custodyWaitExpiry => Sys2Proof.Machine.execCustodyWaitExpiry s
  | .claimLearnTimeout => Sys2Proof.Machine.execClaimLearnTimeout s
  | .takeover m => Sys2Proof.Machine.execTakeover m s
  | .failback m => Sys2Proof.Machine.execFailback m s
  | .reclaim m => Sys2Proof.Machine.execReclaim m s
  | .join m => Sys2Proof.Machine.execJoin m s
  | .yield m => Sys2Proof.Machine.execYield m s
  | .query m => Sys2Proof.Machine.execQuery m s
  | .drain m => Sys2Proof.Machine.execDrain m s
  | .claimReservedKind m kind => Sys2Proof.Machine.execClaimReservedKind m kind s
  | .claimGrant m => Sys2Proof.Machine.execClaimGrant m s
  | .claimAnswer m => Sys2Proof.Machine.execClaimAnswer m s
  | .claimStatus m named => Sys2Proof.Machine.execClaimStatus m named s
  | .takeoverHoldExpiry pair => Sys2Proof.Machine.execTakeoverHoldExpiry pair s
  | .claimRequestResend => Sys2Proof.Machine.execClaimRequestResend s
  | .takeoverLeaseWaitEnd => Sys2Proof.Machine.execTakeoverLeaseWaitEnd s
  | .yieldLapse => Sys2Proof.Machine.execYieldLapse s
  | .witnessYieldFlagExpiry pair => Sys2Proof.Machine.execWitnessYieldFlagExpiry pair s
  | .resyncCopy c pulled => Sys2Proof.Machine.execResyncCopy c pulled s
  | .resyncCopyAck h k psn _credit _msn => Sys2Proof.Machine.execResyncCopyAck h k psn _credit _msn s
  | .failbackTimer => Sys2Proof.Machine.execFailbackTimer s
  | .failbackNow w => Sys2Proof.Machine.execFailbackNow w s
  | .handover w => Sys2Proof.Machine.execHandover w s
  | .compareNow w => Sys2Proof.Machine.execCompareNow w s
  | .drainPointReached => Sys2Proof.Machine.execDrainPointReached s
  | .drainTimeout => Sys2Proof.Machine.execDrainTimeout s
  | .reclaimTimer => Sys2Proof.Machine.execReclaimTimer s
  | .comparePassTimer => Sys2Proof.Machine.execComparePassTimer s
  | .coldStartExpiry => Sys2Proof.Machine.execColdStartExpiry s
  | .sync h origin => Sys2Proof.Machine.execSync h origin s
  | .announce h cls ord rest => Sys2Proof.Machine.execAnnounce h cls ord rest s
  | .delayReq h => Sys2Proof.Machine.execDelayReq h s
  | .delayResp h arrival => Sys2Proof.Machine.execDelayResp h arrival s
  | .syncTimer => Sys2Proof.Machine.execSyncTimer s
  | .announceTimeout => Sys2Proof.Machine.execAnnounceTimeout s
  | .syncLossExpiry => Sys2Proof.Machine.execSyncLossExpiry s
  | .ppsInEdge at_ width => Sys2Proof.Machine.execPpsInEdge at_ width s
  | .ppsLoss => Sys2Proof.Machine.execPpsLoss s
  | .wholeSecond => Sys2Proof.Machine.execWholeSecond s
  | .slewComplete => Sys2Proof.Machine.execSlewComplete s
  | .timeTodWrite w v => Sys2Proof.Machine.execTimeTodWrite w v s
  | .modeCommit => Sys2Proof.Machine.execModeCommit s
  | .snapshotCut => Sys2Proof.Machine.execSnapshotCut s
  | .coordRestart => Sys2Proof.Machine.execCoordRestart s
  | .scrubWindow => Sys2Proof.Machine.execScrubWindow s
  | .scrubWindowEnd => Sys2Proof.Machine.execScrubWindowEnd s
  | .keyRotation => Sys2Proof.Machine.execKeyRotation s
  | .dozeWindow => Sys2Proof.Machine.execDozeWindow s
  | .dozeWindowEnd => Sys2Proof.Machine.execDozeWindowEnd s
  | .startSlot => Sys2Proof.Machine.execStartSlot s
  | .calPostLocal w => Sys2Proof.Machine.execCalPostLocal w s
  | .calCancelLocal w => Sys2Proof.Machine.execCalCancelLocal w s
  | .calendarPostPost m => Sys2Proof.Machine.execCalendarPostPost m s
  | .calendarPostCancel m => Sys2Proof.Machine.execCalendarPostCancel m s
  | .calendarPostAnswer m => Sys2Proof.Machine.execCalendarPostAnswer m s
  | .queryMode m => Sys2Proof.Machine.execQueryMode m s
  | .modeAnswer m => Sys2Proof.Machine.execModeAnswer m s
  | .actBarrier w => Sys2Proof.Machine.execActBarrier w s
  | .actSnapshot w => Sys2Proof.Machine.execActSnapshot w s
  | .actModeCommit w => Sys2Proof.Machine.execActModeCommit w s
  | .actRestart w => Sys2Proof.Machine.execActRestart w s
  | .actPost w => Sys2Proof.Machine.execActPost w s
  | .actCmdReserved w op => Sys2Proof.Machine.execActCmdReserved w op s
  | .treePost m => Sys2Proof.Machine.execTreePost m s
  | .treeCancel m => Sys2Proof.Machine.execTreeCancel m s
  | .treeConfirm m => Sys2Proof.Machine.execTreeConfirm m s
  | .treeDiscard m => Sys2Proof.Machine.execTreeDiscard m s
  | .treePause m => Sys2Proof.Machine.execTreePause m s
  | .treeResume m => Sys2Proof.Machine.execTreeResume m s
  | .treeBarrier m => Sys2Proof.Machine.execTreeBarrier m s
  | .treeGather m => Sys2Proof.Machine.execTreeGather m s
  | .treeGatherTimeout act op => Sys2Proof.Machine.execTreeGatherTimeout act op s
  | .messageCutDrained act => Sys2Proof.Machine.execMessageCutDrained act s
  | .holdWindowEnd act => Sys2Proof.Machine.execHoldWindowEnd act s
  | .cutResultGatherStart => Sys2Proof.Machine.execCutResultGatherStart s
  | .graceWindowEnd => Sys2Proof.Machine.execGraceWindowEnd s
  | .timeModeAdopt w v => Sys2Proof.Machine.execTimeModeAdopt w v s
  | .commit w v => Sys2Proof.Machine.execCommit w v s
  | .bulkCopy p b => Sys2Proof.Machine.execBulkCopy p b s
  | .bulkFill p b => Sys2Proof.Machine.execBulkFill p b s
  | .bulkCommit p b => Sys2Proof.Machine.execBulkCommit p b s
  | .bulkLoad p b => Sys2Proof.Machine.execBulkLoad p b s
  | .bulkTrim p b => Sys2Proof.Machine.execBulkTrim p b s
  | .bulkVerify p b => Sys2Proof.Machine.execBulkVerify p b s
  | .bulkSnapshot p b => Sys2Proof.Machine.execBulkSnapshot p b s
  | .bulkRelease p b => Sys2Proof.Machine.execBulkRelease p b s
  | .bulkBarrier p b => Sys2Proof.Machine.execBulkBarrier p b s
  | .bulkAbort p tag wellFormed => Sys2Proof.Machine.execBulkAbort p tag wellFormed s
  | .bulkCommandStart k tag => Sys2Proof.Machine.execBulkCommandStart k tag s
  | .bulkPieceDone k tag lo => Sys2Proof.Machine.execBulkPieceDone k tag lo s
  | .keyGenerate w => Sys2Proof.Machine.execKeyGenerate w s
  | .keyImport w => Sys2Proof.Machine.execKeyImport w s
  | .keyDestroy w => Sys2Proof.Machine.execKeyDestroy w s
  | .keySlotQuery w => Sys2Proof.Machine.execKeySlotQuery w s
  | .keyAgree w => Sys2Proof.Machine.execKeyAgree w s
  | .ownerAdd w readBack => Sys2Proof.Machine.execOwnerAdd w readBack s
  | .ownerRevoke w readBack => Sys2Proof.Machine.execOwnerRevoke w readBack s
  | .keyCmdReserved w op => Sys2Proof.Machine.execKeyCmdReserved w op s
  | .drbgReseed => Sys2Proof.Machine.execDrbgReseed s
  | .entropyHealthFailure => Sys2Proof.Machine.execEntropyHealthFailure s
  | .keyScheduleFetchDone c slot => Sys2Proof.Machine.execKeyScheduleFetchDone c slot s
  | .cellGeneratorReseed => Sys2Proof.Machine.execCellGeneratorReseed s
  | .generatorStaleExpiry c => Sys2Proof.Machine.execGeneratorStaleExpiry c s
  | .tamperVoltage => Sys2Proof.Machine.execTamperVoltage s
  | .tamperClock => Sys2Proof.Machine.execTamperClock s
  | .tamperLid => Sys2Proof.Machine.execTamperLid s
  | .mkpdu m => Sys2Proof.Machine.execMkpdu m s
  | .mkaHelloTimer p => Sys2Proof.Machine.execMkaHelloTimer p s
  | .sakRenewal p pn => Sys2Proof.Machine.execSakRenewal p pn s
  | .powerGood mv10 => Sys2Proof.Machine.execPowerGood mv10 s
  | .powerUpStep => Sys2Proof.Machine.execPowerUpStep s
  | .staggerEnd => Sys2Proof.Machine.execStaggerEnd s
  | .imageRetryTimer => Sys2Proof.Machine.execImageRetryTimer s
  | .moduleRereadTimer differs => Sys2Proof.Machine.execModuleRereadTimer differs s
  | .leaderWaitExpiry => Sys2Proof.Machine.execLeaderWaitExpiry s
  | .resetNAssert => Sys2Proof.Machine.execResetNAssert s
  | .resetNRelease => Sys2Proof.Machine.execResetNRelease s
  | .railWindowViolation n mv micros => Sys2Proof.Machine.execRailWindowViolation n mv micros s
  | .railRiseTimeout n mv => Sys2Proof.Machine.execRailRiseTimeout n mv s
  | .railFallTimeout n mv => Sys2Proof.Machine.execRailFallTimeout n mv s
  | .inputOvervoltage mv10 micros => Sys2Proof.Machine.execInputOvervoltage mv10 micros s
  | .inputBelow36V mv10 => Sys2Proof.Machine.execInputBelow36V mv10 s
  | .clockDomainLoss n => Sys2Proof.Machine.execClockDomainLoss n s
  | .hubFunctionFailure fn => Sys2Proof.Machine.execHubFunctionFailure fn s
  | .journalProgramDone => Sys2Proof.Machine.execJournalProgramDone s
  | .journalSectorEraseDone => Sys2Proof.Machine.execJournalSectorEraseDone s
  | .gotoService w maint => Sys2Proof.Machine.execGotoService w maint s
  | .gotoQuiet w maint => Sys2Proof.Machine.execGotoQuiet w maint s
  | .gotoDormant w maint => Sys2Proof.Machine.execGotoDormant w maint s
  | .maintEnter w => Sys2Proof.Machine.execMaintEnter w s
  | .maintEnd w => Sys2Proof.Machine.execMaintEnd w s
  | .marginWrite w n v => Sys2Proof.Machine.execMarginWrite w n v s
  | .quietEntryDone => Sys2Proof.Machine.execQuietEntryDone s
  | .dormantEntryDone => Sys2Proof.Machine.execDormantEntryDone s
  | .dormantExitDone => Sys2Proof.Machine.execDormantExitDone s
  | .cellWakeSlot => Sys2Proof.Machine.execCellWakeSlot s
  | .dozeIdleTimer p => Sys2Proof.Machine.execDozeIdleTimer p s
  | .dozeReq p sec seq => Sys2Proof.Machine.execDozeReq p sec seq s
  | .dozeAck p sec seq result => Sys2Proof.Machine.execDozeAck p sec seq result s
  | .dozeReqTimeout p => Sys2Proof.Machine.execDozeReqTimeout p s
  | .dozeWake p => Sys2Proof.Machine.execDozeWake p s
  | .fltUnfence w unit locked => Sys2Proof.Machine.execFltUnfence w unit locked s
  | .fltFirstClear w => Sys2Proof.Machine.execFltFirstClear w s
  | .fltStatusClear w v => Sys2Proof.Machine.execFltStatusClear w v s
  | .inject w v => Sys2Proof.Machine.execInject w v s
  | .proveEnter w p => Sys2Proof.Machine.execProveEnter w p s
  | .proveExit w => Sys2Proof.Machine.execProveExit w s
  | .proveLimitExpiry => Sys2Proof.Machine.execProveLimitExpiry s
  | .proveReorderTimeout => Sys2Proof.Machine.execProveReorderTimeout s
  | .managementRequest w m env => Sys2Proof.Machine.execManagementRequest w m env s
  | .i3cDynamicAddress addr => Sys2Proof.Machine.execI3cDynamicAddress addr s
  | .i3cAddressWrite addr => Sys2Proof.Machine.execI3cAddressWrite addr s
  | .i3cPrivateRead n => Sys2Proof.Machine.execI3cPrivateRead n s
  | .vaultUnlock w v => Sys2Proof.Machine.execVaultUnlock w v s
  | .vaultCmdProgram w => Sys2Proof.Machine.execVaultCmdProgram w s
  | .vaultCmdErase w => Sys2Proof.Machine.execVaultCmdErase w s
  | .vaultAddr w v => Sys2Proof.Machine.execVaultAddr w v s
  | .vaultData w ix v => Sys2Proof.Machine.execVaultData w ix v s
  | .vaultSequenceTimeout => Sys2Proof.Machine.execVaultSequenceTimeout s
  | .vaultPulseDone ok => Sys2Proof.Machine.execVaultPulseDone ok s
  | .vaultSuspend w => Sys2Proof.Machine.execVaultSuspend w s
  | .vaultResume w => Sys2Proof.Machine.execVaultResume w s
  | .pauseQuantaExpiry p pcp => Sys2Proof.Machine.execPauseQuantaExpiry p pcp s
  | .thermalTrip => Sys2Proof.Machine.execThermalTrip s
  | .snapshotReleaseDone act => Sys2Proof.Machine.execSnapshotReleaseDone act s
  | .imageLoadComplete a b => Sys2Proof.Machine.execImageLoadComplete a b s
  | .replayComplete metaBad bad => Sys2Proof.Machine.execReplayComplete metaBad bad s
  | .channelTrainingDone hbmBad media => Sys2Proof.Machine.execChannelTrainingDone hbmBad media s
  | .startStepTimeout => Sys2Proof.Machine.execStartStepTimeout s
  | .restartDelayExpiry => Sys2Proof.Machine.execRestartDelayExpiry s
  | .quietExitDone => Sys2Proof.Machine.execQuietExitDone s
  | .shadowCommitTick => Sys2Proof.Machine.execShadowCommitTick s
  | .throttleIntervalEnd c => Sys2Proof.Machine.execThrottleIntervalEnd c s
  | .railRisen n mv mw => Sys2Proof.Machine.execRailRisen n mv mw s
  | .railFallen => Sys2Proof.Machine.execRailFallen s
  | .delayReqTimer => Sys2Proof.Machine.execDelayReqTimer s
  | .cellReleaseDone => Sys2Proof.Machine.execCellReleaseDone s
  | .twinCreateRefusal n => Sys2Proof.Machine.execTwinCreateRefusal n s
  | .twinChamberUpdate u => Sys2Proof.Machine.execTwinChamberUpdate u s
  | .rotationGraceEnd => Sys2Proof.Machine.execRotationGraceEnd s

end Sys2Proof.Machine
end

