-- ==== Sys2Proof/WellFormed.lean ====
section
/-!
DEFINITION. Which terms stand for a command that can reach the device: an operand outside a range that the wire or the part itself sets is none. The meanings are total and do not lean on
these checks; what the device itself checks (a length, a key, a version) is no part of them.
-/
namespace Sys2Proof

/-- A message without poison lists no PMH, and one with some gives each of its packets a place in the list, of which at least one is filled (R88). -/
def Pkt.wf (p : Pkt) : Bool := p.pmh == [] || p.pmh.any (·.isSome)

/-- The lanes of an error lie within the codeword of 72 symbols (R207). -/
def LineErr.wf (e : LineErr) : Bool := decide (e.lane.val + e.symbols.val ≤ 72)

/-- A mirror write carries 1 B to 2^31 B (R79); a resync copy carries whole lines of one page (R249). -/
def mirrorWf (a : ChmAddr) (data : List Byte) (copy : Bool) : Bool :=
  let off := a.off.toNat % 16384
  decide (0 < data.length) && decide (data.length ≤ 2 ^ 31) && (!copy || (decide (off + data.length ≤ 16384) && off % 128 == 0 && data.length % 128 == 0))

/-- A repair answer carries a line or a page (R215). -/
def repairWf (data : List Byte) : Bool := data.length == 128 || data.length == 16384

/-- No PCP is named twice in a PFC frame (R102). -/
def PfcFrame.wf (m : PfcFrame) : Bool := decide (m.quanta.map (·.1)).Nodup

/-- A copy of an image names an owner hash of twelve words (Table STA-1). -/
def ImgCopy.wf (a : ImgCopy) : Bool :=
  a.ownerHash.length == 12 && (a.ownerHash.all fun w => decide (w < 2 ^ 32)) && a.dir.length == a.sections.toNat && decide (a.topo.groups.length ≤ 256) &&
    (a.ids.all fun r => r.overrides.length == 16) && a.wraps.all fun w => w.words.length == 24

/-- An opcode outside 1 to n is reserved. -/
def reservedOp (n : Nat) (op : Fin 16) : Bool := op.val == 0 || decide (n < op.val)

/-- A codeword ends at one of the levels of R184, or lost. -/
def CodeWord.wf (w : CodeWord) : Bool := decide (w.level ≤ 7)

/-- A command that can reach the device. -/
def Instr.wf : Instr → Bool
  | .rdmaWrite p _ _ => p.wf
  | .rdmaReadRequest p _ errs => p.wf && errs.all LineErr.wf
  | .compareAndSwap p _ _ _ errs => p.wf && errs.all LineErr.wf
  | .fetchAndAdd p _ _ errs => p.wf && errs.all LineErr.wf
  | .send p _ | .persistCommit p _ | .compareMarker p _ _ _ | .commitMarker p _ _ | .promotionHint p _ _ | .lineRepairRequest p _ _ _ | .bulkAbort p _ _ => p.wf
  | .bulkCopy p _ | .bulkFill p _ | .bulkCommit p _ | .bulkLoad p _ | .bulkTrim p _ | .bulkVerify p _ | .bulkSnapshot p _ | .bulkRelease p _ | .bulkBarrier p _ => p.wf
  | .mirrorWrite p a data copy => p.wf && mirrorWf a data copy
  | .lineRepairAnswer _ _ _ data _ => repairWf data
  | .pfcFrameReceived m => m.wf
  | .chmCmdReserved _ op => reservedOp 8 op
  | .planCmdReserved _ op => reservedOp 6 op
  | .retireCmdReserved _ _ op => reservedOp 5 op
  | .keyCmdReserved _ op => reservedOp 7 op
  | .actCmdReserved _ op => reservedOp 5 op
  | .claimReservedKind _ kind => reservedOp 7 kind
  | .imageLoadComplete a b => a.wf && b.wf
  | .mediaReadDone _ _ ws _ => ws.all CodeWord.wf
  | .hbmScrubRead _ lanes _ => decide lanes.1.Nodup && decide lanes.2.Nodup
  | .selfRefreshExit failed => decide failed.Nodup
  | .replayComplete metaBad _ => decide metaBad.Nodup
  | .channelTrainingDone hbmBad media => decide hbmBad.Nodup && decide (media.map (·.1)).Nodup && media.all fun x => decide x.2.bad.Nodup && x.2.bad.all fun b => decide (b < 131072)
  | .flushComplete _ _ _ _ cells => decide (cells.short.map (·.1)).Nodup && cells.worn.all fun x => decide (x.2 < 64)
  | _ => true

end Sys2Proof
end

