-- ==== Sys2Proof/Safety.lean ====
section
/-!
DEFINITION. The terms in which claims about the device are made: what a command does, when a management access is accepted, when a frame enters, and what a settled device is.
-/
namespace Sys2Proof.Machine
open Sys2Proof

/-- The command answers a next state: its own effect leaves the device e, from which everything follows that follows by itself. -/
def Does (i : Instr) (s : State) (e : Dev) : Prop := exec i s = .next { s with dev := afterStep e }

/-- The command changes nothing of its own. -/
def DoesNothing (i : Instr) (s : State) : Prop := Does i s s.dev

/-! ### Management accesses (R385, R389) -/

/-- A write of a register by a client is accepted: the path is served, the unit answers, and the client is of tenant 0. -/
abbrev Accepts (d : Dev) (w : Writer) (r : RegId) (c : Nat) : Prop :=
  served d w = true ∧ ((regInfo r).hub.isNone && cellGone d c) = false ∧ operator d w = true

/-- The device once the access has been accepted. -/
def asked (d : Dev) (w : Writer) (r : RegId) (c i : Nat) : Dev := accessDone d w (regAddr r c i) acOk

/-- The device once a chamber command with an opcode has been accepted (R62). -/
def chmAsked (d : Dev) (w : Writer) (op : Nat) : Dev := let d := asked d w .TIER_CHM_CMD 0 0; { d with chm.lastOp := op }

/-- The device once a plan command with an opcode has been accepted (R166). -/
def planAsked (d : Dev) (w : Writer) (op : Nat) : Dev := let d := asked d w .TIER_PLAN_CMD 0 0; { d with tier.planLastOp := op }

/-- The device once a retire command of a channel with an opcode has been accepted (R229). -/
def hbmAsked (d : Dev) (w : Writer) (c op : Nat) : Dev :=
  let d := asked d w .HBM_RETIRE_CMD c 0
  setHbm d c { getHbm d c with lastOp := op }

/-- A claim request of a kind reaches the witness of its pair and may be granted: the record is valid, it is not the last one granted again, and it shows the record's claim (R236, R240, R241). -/
abbrev Watched (d : Dev) (m : ClaimReq) (kind : Nat) (w : Watch) : Prop :=
  isDown d = false ∧ reqTagOk d m kind = true ∧ nget d.watch (m.requester.val / 2) = some w ∧ w.pair = m.requester.val / 2 ∧ w.valid = true ∧
  ¬ (w.last.grantee = m.requester.val ∧ w.last.number = m.number.toNat) ∧ m.cSeen.toNat = w.cw

/-- One calendar entry is POSTED, it is of a kind, and federation time reaches its T (R264, R267). -/
abbrev FiresAlone (d : Dev) (i : Nat) (e : CalEnt) (kind : Nat) : Prop :=
  postedEnts d = [(i, e)] ∧ e.kind = kind ∧ d.pwr.state ≠ .off ∧ e.time ≤ fedTime (reachFed d e.time)

/-- The device at T with the entry FIRED. -/
def firedAt (d : Dev) (i : Nat) (e : CalEnt) : Dev :=
  let d := reachFed d e.time
  { d with cal.ents := nset d.cal.ents i { e with state := .fired } }

/-! ### Frames (R75, R93, R103, R106, R111, R117, R319, Table OMT-8) -/

/-- A frame gets past its port: the device runs, the port carries frames, MACsec passes it, and the port is not in PROVING. -/
abbrev Enters (d : Dev) (f : DataFrame) : Prop :=
  isDown d = false ∧ portCarries d (framePort f) = true ∧ (macGate d (framePort f) (frameSec f)).2 = true ∧ d.tst.proving ≠ some (framePort f)

/-- The device once a frame has passed its port. -/
def entered (d : Dev) (f : DataFrame) : Dev := carried (macGate d (framePort f) (frameSec f)).1 (framePort f) (framePcp f)

/-- The device once a request frame for it has entered: its host is learnt (R111). -/
def frameHeard (d : Dev) (p : Pkt) (b : ReqBody) : Dev := countPcp (learnHost (entered d (.req p b)) p.port p.srcAddr.toNat) p 0

/-- The device once a response has entered: one of a host in another PCP than 3 is counted (R92), and its host is learnt (R111). -/
def answerHeard (d : Dev) (h : RspPkt) (b : RspBody) : Dev :=
  let d := entered d (.rsp h b)
  learnHost (if portRole d h.port = 1 ∧ h.pcp.val ≠ 3 then bump d .PORT_CNG_CNT h.port 7 else d) h.port h.srcAddr.toNat

/-- A response passes checks 1 and 3 of Table OMT-8 and the age checks, on a connection k (R54, R70, R75, R112). -/
abbrev RspPasses (d : Dev) (h : RspPkt) (k : Nat) : Prop :=
  h.icrcOk = true ∧ h.udpPort = 4791 ∧ ¬ (portRole d h.port = 1 ∧ (h.oxh.any fun x => x.mirror) = true) ∧
  (h.oxh.any fun x => carrierOxh d h.port x && overAge d h.port x) = false ∧ rspVersionOk d h k = true ∧ (h.oxh.any (overAge d h.port)) = false

/-- A frame has left the device, or stands at a port until it may leave (R93, R103). -/
def SentOut (e : Dev) (f : Out → Prop) : Prop := (∃ o ∈ e.out, f o) ∨ ∃ p, ∃ q ∈ (getPort e p).queue, f q.frame

/-- The host of a connection can be answered: it is attached to a port of this device that is up and not fenced (R111). -/
abbrev Reachable (d : Dev) (k : Nat) : Prop :=
  k < 2 ^ 18 ∧ (getConn d k).ret = ordinal d ∧ ∃ p t, nget d.fab.hosts (getConn d k).addr = some (p, t) ∧ (getPort d p).link = .up ∧ (getPort d p).fence = none

/-- The connection that a request names. -/
def connOf (p : Pkt) : Nat := p.qpn.toNat % 2 ^ 18

/-- A request for this device on a READY connection at the expected PSN passes the checks of Table OMT-8, and none of its kind has been answered under this PSN. -/
abbrev Expected (d : Dev) (p : Pkt) (op : OpKind) (payload : Bool) : Prop :=
  let c := getConn d (connOf p)
  let oxh := ownOf d p.port p.oxh
  isDown d = false ∧ p.icrcOk = true ∧ p.udpPort = 4791 ∧ forThis d p = true ∧ ¬ (portRole d p.port = 1 ∧ (p.oxh.any fun x => x.mirror) = true) ∧
  (p.oxh.any fun x => carrierOxh d p.port x && overAge d p.port x) = false ∧ p.qpn.toNat / 2 ^ 18 ≠ 0 ∧ c.gen = p.qpn.toNat / 2 ^ 18 ∧ c.state = .ready ∧
  headerOk c oxh p.pmh p.opcode.toNat op payload = true ∧ oxh.any (overAge d p.port) = false ∧ psnClass p.psn.toNat c.epsn = .expected ∧
  (oxh.any fun x => !epochOk d x.epoch) = false ∧ (c.replay.any fun e => e.psn == p.psn.toNat && e.status == stOk && onceKind op == some e.kind) = false

/-- The device once such a request has been taken: no sequence error is outstanding. -/
def taken (d : Dev) (p : Pkt) : Dev := setConn d (connOf p) { getConn d (connOf p) with nakSent := false }

/-- A control message of the twin, the witness or a neighbour is heard on its port (R116, R319), and the device that has heard it. -/
abbrev Hears (d : Dev) (v : CtrlVia) : Prop := (ctrlHeard d v.port.val v.sec).2 = true
def ctrlOf (d : Dev) (v : CtrlVia) : Dev := (ctrlHeard d v.port.val v.sec).1

/-! ### Memory requests of hosts (R49 to R60) -/

/-- The entry of the key that a request presents, and the byte of its chamber that the request begins at. -/
def keyOf (d : Dev) (r : Reth) : KeyEnt := ngetD d.chm.keys (r.key.toNat / 256) {}
def offOf (d : Dev) (r : Reth) : Nat := (keyOf d r).base * 4096 + r.va.toNat

/-- The key of the page that a request begins in. -/
def pageOf (d : Dev) (r : Reth) : Nat := pageKey (keyOf d r).chamber (offOf d r / 16384)

/-- A request asks to wait for T2 as well (PERSIST). -/
def persistOf (p : Pkt) (kind : ReqKind) : Bool := p.oxh.any (·.persist) || kind == .commit

/-- The device serves hosts, has buffers for a message with n bytes of payload, and nothing else is under way. -/
abbrev Quiet (d : Dev) (p : Pkt) (n : Nat) : Prop :=
  d.reqs = [] ∧ d.bulk.cmds = [] ∧ d.pwr.state = .service ∧ d.pwr.move = none ∧ d.snap.paused = [] ∧ d.snap.holds = [] ∧ d.snap.snaps = [] ∧
  (takeBufs d (connCell (connOf p)) (messageBytes p n (getConn d (connOf p)).pmtu) (connIdx (connOf p)) false).isSome = true

/-- The first three access checks pass: a LIVE key, bound to this connection if bound, of an ACTIVE chamber that no twin shares (R50 to R52). -/
abbrev Granted (d : Dev) (p : Pkt) (r : Reth) (c : Chamber) : Prop :=
  keyClass d r.key.toNat = none ∧ bindingOk (keyOf d r) (getConn d (connOf p)).tenant (ordinal d) (qpnOf (getConn d (connOf p)).gen (connOf p)) = true ∧
  nget d.chm.chambers (keyOf d r).chamber = some c ∧ c.state = .active ∧ c.cls ≠ .mirrored

/-- The other checks pass for bytes of one page, whose home cell is in service and awake. -/
abbrev Fits (d : Dev) (p : Pkt) (r : Reth) (kind : ReqKind) (len : Nat) : Prop :=
  boundsOk (keyOf d r) kind r.va.toNat len = true ∧ rightsOk (keyOf d r) kind (persistOf p kind) = true ∧ 0 < len ∧
  (offOf d r + len - 1) / 16384 = offOf d r / 16384 ∧ cellFenced d (homeOf (pageOf d r)) = false ∧ cellAwake d (homeOf (pageOf d r)) = true

/-- The page is in T1, and its home cell meets no error and no throttle. -/
abbrev AtHand (d : Dev) (r : Reth) (f : Frame) : Prop :=
  getFrame d (pageOf d r) = some f ∧ f.st ≠ .loading ∧ (getHbm d (homeOf (pageOf d r))).throttles = [] ∧ d.latent = [] ∧ d.latent0 = [] ∧ d.tst.inject = [] ∧
  d.poison = [] ∧ d.blanket = []

/-- A change of bytes of a page that is MODIFIED finds dirty space. -/
abbrev Writable (d : Dev) (r : Reth) (f : Frame) (len : Nat) : Prop :=
  f.st = .modified ∧ dirtyFits d (homeOf (pageOf d r)) (newLines (some f) (offOf d r % 16384) len) = true

/-! ### Media (R191, R356) -/

/-- A die of a live channel may be granted work: it is in service, and the device is not entering DORMANT. -/
abbrev MayGrant (d : Dev) (c die : Nat) : Prop :=
  mediaOn d c = true ∧ dieIn (getMed d c).diesIn die = true ∧ (d.pwr.move.any fun x => x.entry && x.target == .dormant) = false

/-! ### Bulk commands (R284 to R287) -/

/-- The command of a kind. -/
def bulkInstr (k : BulkKind) (p : Pkt) (b : BulkPayload) : Instr :=
  match k with
  | .copy => .bulkCopy p b
  | .fill => .bulkFill p b
  | .commit => .bulkCommit p b
  | .load => .bulkLoad p b
  | .trim => .bulkTrim p b
  | .verify => .bulkVerify p b
  | .snapshot => .bulkSnapshot p b
  | .release => .bulkRelease p b
  | .barrier => .bulkBarrier p b

/-- A bulk command on a READY data connection of a device in SERVICE keeps the rules of its payload, its tag is free, and there is room for it. -/
abbrev BulkFits (d : Dev) (p : Pkt) (k : BulkKind) (b : BulkPayload) : Prop :=
  let mine := bulkMine d (connOf p)
  Expected d p .bulk false ∧ (getConn d (connOf p)).service = .data ∧ payloadOk k b = true ∧ (mine.any fun x => x.pl.tag == b.tag) = false ∧ mine.length < 256 ∧
  d.pwr.state = .service ∧ d.pwr.move = none ∧ d.bulk.cmds.length < 8192 ∧ (takeBufs d (connCell (connOf p)) p.bytes (connIdx (connOf p)) false).isSome = true

/-- The command as it is queued. -/
def bulkCmd (d : Dev) (p : Pkt) (k : BulkKind) (b : BulkPayload) : BulkCmd :=
  { id := d.bulk.next, conn := connOf p, psn := p.psn.toNat, kind := k, pl := b, persist := p.oxh.any (·.persist), before := d.nextReq }

/-- The device once the frame of such a command has its buffer, and the buffer (R30). -/
def bulkFrame (d : Dev) (p : Pkt) : Dev × Nat := (takeBufs d (connCell (connOf p)) p.bytes (connIdx (connOf p)) false).getD (d, 0)

/-- The device once the command has been queued, counted and acknowledged; its frame still has its buffer. -/
def bulkStored (d : Dev) (p : Pkt) (k : BulkKind) (b : BulkPayload) : Dev :=
  let d := (bulkFrame d p).1
  let e : Dev := { d with bulk.next := d.bulk.next + 1, bulk.cmds := d.bulk.cmds ++ [bulkCmd d p k b], bulk.lastTag := nset d.bulk.lastTag (connOf p) b.tag.toNat }
  bulkAck (bump e .BLK_CNT 0 0) p (connOf p) (bulkChm d k b)

/-- The device once the frame's buffer is back as well. -/
def bulkQueued (d : Dev) (p : Pkt) (k : BulkKind) (b : BulkPayload) : Dev := dropRef (bulkStored d p k b) (bulkFrame d p).2

/-! ### The tree -/

/-- The operation of the tree that an entry with this meaning carries. -/
def treeTaken (d : Dev) (m : TreeMsg) (op : Nat) : Dev :=
  treeOpen d m.act.toNat op m.root.val (some m.port.val) { kind := m.entry.kind.toNat, flags := m.entry.flags.toNat, time := m.entry.time.toNat, arg := m.entry.arg.toNat, rsv := m.entry.rsv.toNat }

/-! ### A settled device -/

/-- Nothing is left that should have happened by itself: the Vault does not stand idle while a completed sequence waits (R396, R400), and no port stands in the entry or the exit of doze after its
time (R361). -/
def Settled (s : State) : Prop :=
  let d := s.dev
  (d.vlt.op = none → (d.log.jrn.erasing && jrnBank d == 0) = false → d.vlt.reErase = [] → d.vlt.waits = none) ∧
  ∀ p, due d (getPort d p).doze.deadline = true → (getPort d p).doze.st ≠ .entering ∧ (getPort d p).doze.st ≠ .exiting

end Sys2Proof.Machine
end

