-- ==== Sys2Proof/Certificates/Slice0/Obligations.lean ====
section
/-!
DEFINITION. The statements about the device. A clause `Does i s e` says that the command answers a next state, and which: `e` is the device after the command's own effect. A timer's clause lets
local time reach the timer's end first (the model's choice, notes/assumptions 3). A statement about a group of commands is the conjunction of claims, each with its own clauses.
-/
open Sys2Proof Sys2Proof.Machine

/-! ### The queue and the step -/

/-- The command at the front of the queue is the one that a step runs, with the queue's rest. -/
def Sys2Proof.Claims.StepRunsTheFrontCommand : Prop :=
  ∀ (c : Instr) (rest : List Instr) (s : State), step { s with pending := c :: rest } = exec c { s with pending := rest }

/-- No command stops the device, and none touches the queue of those that wait. -/
def Obligations.EveryCommandAnswersANextState : Prop :=
  ∀ (c : Instr) (s : State), ∃ t, exec c s = .next t ∧ t.pending = s.pending

/-! ### Cell resources: waits and engines (spec/02_cell_resources.md, spec/14_security.md) -/

/-- An internal requester refused a buffer retries after its interval: it asks for the same work again, with a buffer if there is one, else it is counted and waits twice as long, up to the cap.
One that has waited over 1 ms for a buffer raises one Notice for the episode. -/
def Sys2Proof.Claims.InternalWaits : Prop :=
  (∀ (s : State) (c : CellNo) (who : Nat) (w : BufWait), let d := reachO s.dev (retryTime s.dev c.val who)
    s.dev.res.waits = [w] → w.cell = c.val → w.requester = who → Does (.internalRetryTimer c who) s (retryOne d w)) ∧
  (∀ (s : State) (c : CellNo) (who k : Nat) (w : BufWait) (x : Dev × Nat), let d := reachO s.dev (retryTime s.dev c.val who)
    s.dev.res.waits = [w] → w.cell = c.val → w.requester = who → w.use = .promotion k → takeBufs { d with res.waits := [] } c.val w.size who (usesReserve d who) = some x →
    ∃ e, Does (.internalRetryTimer c who) s e ∧ e = (let y := promoBuffered x.1 k x.2; { y with res.waits := y.res.waits.map (backOff y w) })) ∧
  (∀ (s : State) (c : CellNo) (who k : Nat) (w : BufWait), let d := reachO s.dev (retryTime s.dev c.val who)
    s.dev.res.waits = [w] → w.cell = c.val → w.requester = who → w.use = .promotion k → takeBufs { d with res.waits := [] } c.val w.size who (usesReserve d who) = none →
    ∃ e, Does (.internalRetryTimer c who) s e ∧ reg e .POOL_CNT c.val 2 = reg s.dev .POOL_CNT c.val 2 + 1 ∧
      ∃ iv, iv ≤ 2 * w.interval ∧ e.res.waits = [{ w with interval := iv, next := d.now + iv }]) ∧
  (∀ (s : State) (c : CellNo) (who : Nat) (w : BufWait), let d := reachO s.dev (noticeTime s.dev c.val who)
    s.dev.res.waits = [w] → w.cell = c.val → w.requester = who → waitsBuffer w = true → w.noticed = false →
    Does (.bufferWaitNotice c who) s
      (raise { d with res.waits := [{ w with noticed := true }] } { cls := 0, cause := 0x08, unit := uCell c.val, requester := who, reqCell := c.val, addr := firstPool w.size }))

/-- Segments of the cipher pipes and pages of the compression engine end and hand on their place. -/
def Sys2Proof.Claims.EngineTurns : Prop :=
  (∀ (s : State) (c : CellNo) (pipe : Fin 9) (r : PipeRun), let e := getEng s.dev c.val
    nget e.pipes pipe.val = some r → r.work.segments = 1 →
    Does (.cipherSegmentEnd c pipe) s
      (grantFree (dropBuf (setEng (bump s.dev .CIPH_CNT c.val 1) c.val { e with pipes := ndel e.pipes pipe.val, ctx := e.ctx.filter (· != r.work.id) }) r.work.buf) c.val)) ∧
  (∀ (s : State) (c : CellNo) (comp : Bool), let e := getEng s.dev c.val
    Does (.compressionDone c comp) s (grantComp (setEng s.dev c.val (if comp then { e with compBusy := none } else { e with decBusy := none })) c.val)) ∧
  (∀ (s : State) (c : CellNo) (slot : Nat), let f := ngetD s.dev.sec.fetching c.val []
    f.contains slot = true →
    Does (.keyScheduleFetchDone c slot) s
      (grantFree (cacheUse (bump { s.dev with sec.fetching := nset s.dev.sec.fetching c.val (f.filter (· != slot)) } .KEY_CNT 0 6) c.val slot) c.val)) ∧
  (∀ (s : State), let d := reachO s.dev (seedTime s.dev)
    s.dev.sec.stopped = false →
    Does .cellGeneratorReseed s { d with sec.nextSeed := d.now + ms 1, sec.seeds := allCells.foldl (fun m c => nset m c d.now) d.sec.seeds }) ∧
  (∀ (s : State) (c : CellNo), let d := reachO s.dev (staleTime s.dev c.val)
    s.dev.sec.engineStopped.contains c.val = false →
    Does (.generatorStaleExpiry c) s
      (raise (fenceCell { d with sec.engineStopped := sinsert d.sec.engineStopped c.val } c.val 0x13) { cls := 2, cause := 0x13, unit := uCiph c.val, addr := 0 }))

/-! ### Chambers and region keys (spec/03_chambers.md) -/

/-- CREATE takes the lowest free number; RESIZE, DELETE and SET_ATTR act on an ACTIVE chamber that this device may change. -/
def Obligations.ChamberCommands : Prop :=
  (∀ (s : State) (w : Writer) (n : Nat), let d := chmAsked s.dev w 1
    let a := carg d 0
    let cls := classOf (fld a 31 30)
    let pages := carg2 d 1 4
    Accepts s.dev w .TIER_CHM_CMD 0 → s.dev.chm.run = none → freeChamber d = some n → cls ≠ .mirrored → fld a 28 27 ≠ 3 → 0 < pages → pages ≤ 2 ^ 36 →
    xtsSlotOk d (fld (carg d 3) 11 0) (fld a 11 0) = true → spaceOk d n 0 pages cls = true →
    Does (.chmCreate w) s
      { d with chm.chambers := nset d.chm.chambers n ⟨.creating, cls, fld a 11 0, fbit a 29, fld (carg d 3) 11 0, fld a 23 16, fld a 28 27, pages, ordinal d, d.cus.pairClaim, false⟩,
               chm.run := some (.create n none false), tier.map := d.tier.map.filter fun p => keyChamber p.1 != n }) ∧
  (∀ (s : State) (w : Writer) (c : Chamber), let d := chmAsked s.dev w 2
    let n := fld (carg d 0) 15 0
    let pages := carg2 d 1 4
    Accepts s.dev w .TIER_CHM_CMD 0 → s.dev.chm.run = none → nget d.chm.chambers n = some c → chamberBar d c = none → 0 < pages → pages ≤ 2 ^ 36 →
    spaceOk d n c.pages pages c.cls = true → ¬ (pages < c.pages ∧ keyBeyond d n pages = true) →
    let d1 := if pages < c.pages then trimFrom d n pages else d
    Does (.chmResize w) s (tellChamber (chmDone { d1 with chm.chambers := nset d1.chm.chambers n { c with pages := pages } } .ok []) n { c with pages := pages })) ∧
  (∀ (s : State) (w : Writer) (c : Chamber), let d := chmAsked s.dev w 3
    let n := fld (carg d 0) 15 0
    Accepts s.dev w .TIER_CHM_CMD 0 → s.dev.chm.run = none → nget d.chm.chambers n = some c → chamberBar d c = none → snapshotOf d n = false →
    Does (.chmDelete w) s
      (tellChamber (planChamberGone { d with chm.chambers := nset d.chm.chambers n { c with state := .draining },
                                             chm.keys := (d.chm.keys.map fun p => (p.1, if p.2.state = .live ∧ p.2.chamber = n then { p.2 with inval := true } else p.2)), chm.run := some (.delete n) } n)
        n { c with state := .draining })) ∧
  (∀ (s : State) (w : Writer) (c : Chamber), let d := chmAsked s.dev w 4
    let a := carg d 0
    let n := fld a 15 0
    let owner := fld (carg d 1) 11 0
    Accepts s.dev w .TIER_CHM_CMD 0 → s.dev.chm.run = none → nget d.chm.chambers n = some c → chamberBar d c = none → fld a 28 27 ≠ 3 → xtsSlotOk d c.xts owner = true →
    let c' := { c with comp := fbit a 29, pref := fld a 28 27, set := fld a 23 16, owner := owner }
    Does (.chmSetAttr w) s (tellChamber (chmDone { d with chm.chambers := nset d.chm.chambers n c' } .ok []) n c'))

/-- A chamber passes from CREATING to ACTIVE, and from DRAINING through RELEASING to FREE. -/
def Sys2Proof.Claims.ChamberLifeCycle : Prop :=
  (∀ (s : State) (n : Fin 65536) (b : Bool) (c : Chamber), let d := s.dev
    d.chm.run = some (.create n.val none b) → nget d.chm.chambers n.val = some c →
    Does (.createReady n) s
      (tellChamber (chmDone { d with chm.chambers := nset d.chm.chambers n.val { c with state := .active } } .ok [(0, n.val)]) n.val { c with state := .active })) ∧
  (∀ (s : State) (n : Fin 65536) (c : Chamber), let d := s.dev
    nget d.chm.chambers n.val = some c → c.state = .draining → unapplied d (fun r => r.chamber == n.val) = false → d.chm.run = some (.delete n.val) →
    (∀ p ∈ d.chm.keys, p.2.chamber ≠ n.val) → c.cls ≠ .mirrored →
    Does (.chamberDrainDone n) s (chmDone { d with chm.chambers := nset d.chm.chambers n.val { c with state := .releasing } } .ok [])) ∧
  (∀ (s : State) (n : Fin 65536) (c : Chamber), nget s.dev.chm.chambers n.val = some c → c.state = .releasing → c.cls ≠ .mirrored →
    Does (.chamberReleaseDone n) s (freeNumber s.dev n.val))

/-- What the two devices of a pair tell each other of a Mirrored create: confirmation, refusal, time-out, and the release of a number that was not confirmed. -/
def Sys2Proof.Claims.MirroredCreate : Prop :=
  (∀ (s : State) (v : CtrlVia) (r : ChmRecord), let d := ctrlOf s.dev v
    Hears s.dev v → xtsSlotOk d r.xts.val r.owner.val = true → nget d.chm.chambers r.number.val = none →
    Does (.mirroredCreateReceived ⟨v, r⟩) s
      (sendCtrl { d with chm.chambers := nset d.chm.chambers r.number.val (recordChamber r .creating true), tier.map := d.tier.map.filter fun p => keyChamber p.1 != r.number.val }
        msgConfirm (twinOrd d) [r.number.val])) ∧
  (∀ (s : State) (v : CtrlVia) (r : ChmRecord), let d := ctrlOf s.dev v
    Hears s.dev v → xtsSlotOk d r.xts.val r.owner.val = false →
    Does (.mirroredCreateReceived ⟨v, r⟩) s (sendCtrl d msgRefuse (twinOrd d) [r.number.val])) ∧
  (∀ (s : State) (n : Fin 65536) (t : Nat) (b : Bool), s.dev.chm.run = some (.create n.val (some t) b) →
    Does (.createTwinTimeout n) s (createFails (reach s.dev t) n.val .twinUnreachable true)) ∧
  (∀ (s : State) (v : CtrlVia) (n : Fin 65536) (t : Nat) (b : Bool), let d := ctrlOf s.dev v
    Hears s.dev v → d.chm.run = some (.create n.val (some t) b) →
    Does (.twinCreateRefusal ⟨v, n⟩) s (createFails d n.val .badArg false)) ∧
  (∀ (s : State) (n : Fin 65536) (t : Nat), let d := reach s.dev t
    nget s.dev.chm.releases n.val = some t → s.dev.cus.state = .joined →
    Does (.createReleaseResend n) s (sendCtrl { d with chm.releases := nset d.chm.releases n.val (d.now + ms 1) } msgRelease (twinOrd d) [n.val])) ∧
  (∀ (s : State) (v : CtrlVia) (n : Fin 65536), let d := ctrlOf s.dev v
    Hears s.dev v → Does (.createReleaseAck ⟨v, n⟩) s { d with chm.releases := ndel d.chm.releases n.val }) ∧
  (∀ (s : State) (v : CtrlVia) (n : Fin 65536) (c : Chamber), let d := ctrlOf s.dev v
    Hears s.dev v → nget d.chm.chambers n.val = some c → c.state = .creating → c.byTwin = true →
    Does (.twinChamberUpdate ⟨v, .release n⟩) s (sendCtrl { d with chm.chambers := ndel d.chm.chambers n.val } msgReleaseAck (twinOrd d) [n.val])) ∧
  (∀ (s : State) (v : CtrlVia) (r : ChmRecord), let d := ctrlOf s.dev v
    Hears s.dev v → r.holder.val ≠ ordinal d → r.state.val = 2 → nget d.chm.chambers r.number.val = none →
    Does (.twinChamberUpdate ⟨v, .chamber r⟩) s { d with chm.chambers := nset d.chm.chambers r.number.val (recordChamber r .active false) })

/-- KEY_ISSUE gives a free index its next generation and a LIVE entry; KEY_INVALIDATE stops its admission and starts its invalidation; the queries answer from the tables; a reserved opcode is
refused. -/
def Sys2Proof.Claims.KeyCommands : Prop :=
  (∀ (s : State) (w : Writer) (c : Chamber) (i : Nat), let d := chmAsked s.dev w 5
    let a := carg d 0
    let n := fld a 15 0
    let base := carg2 d 1 5
    let len := carg2 d 3 5
    let m := carg d 5
    Accepts s.dev w .TIER_CHM_CMD 0 → s.dev.chm.run = none → nget d.chm.chambers n = some c → issueIndex d = some i → chamberBar d c = none →
    ¬ (fbit a 31 = true ∧ c.cls = .volatileC) → 0 < len → base + len ≤ c.pages * 4 → ¬ (fbit m 31 = true ∧ 16383 < (carg d 6).toNat) →
    ∃ e : KeyEnt, e.state = .live ∧ e.chamber = n ∧ e.base = base ∧ e.len = len ∧ e.tenant = fld a 27 16 ∧ e.rd = fbit a 28 ∧ e.wr = fbit a 29 ∧ e.at_ = fbit a 30 ∧ e.ps = fbit a 31 ∧
      e.bound = (if fbit m 31 then some ((carg d 6).toNat, fld m 23 0) else none) ∧ e.inval = false ∧
      e.gen = (if (ngetD d.chm.keys i {}).gen = 255 then 1 else (ngetD d.chm.keys i {}).gen + 1) ∧
      Does (.keyIssue w) s (tellKey (chmDone { d with chm.keys := nset d.chm.keys i e } .ok [(0, i * 256 + e.gen)]) i e)) ∧
  (∀ (s : State) (w : Writer), let d := chmAsked s.dev w 6
    let i := (carg d 0).toNat / 256
    let e := ngetD d.chm.keys i {}
    Accepts s.dev w .TIER_CHM_CMD 0 → s.dev.chm.run = none → e.state = .live → e.gen = (carg d 0).toNat % 256 → (nget d.chm.chambers e.chamber).bind (chamberBar d) = none →
    Does (.keyInvalidate w) s { d with chm.keys := nset d.chm.keys i { e with inval := true }, chm.run := some (.invalidate i) }) ∧
  (∀ (s : State) (w : Writer), let d := chmAsked s.dev w 7
    let e := ngetD d.chm.keys ((carg d 0).toNat / 256) {}
    Accepts s.dev w .TIER_CHM_CMD 0 → s.dev.chm.run = none →
    Does (.keyQuery w) s (chmDone d .ok [(0, at_ e.state.ctorIdx 30 + at_ e.gen 16 + (if e.state = .live then e.chamber else 0)), (1, if e.state = .live then rightsBits e + at_ e.tenant 16 else 0)])) ∧
  (∀ (s : State) (w : Writer) (c : Chamber), let d := chmAsked s.dev w 8
    Accepts s.dev w .TIER_CHM_CMD 0 → s.dev.chm.run = none → nget d.chm.chambers (fld (carg d 0) 15 0) = some c →
    Does (.chmQuery w) s (chmDone d .ok [(0, at_ (chmStateCode c.state) 29 + at_ c.cls.ctorIdx 27 + c.owner), (1, c.pages % 2 ^ 32), (2, c.pages / 2 ^ 32)])) ∧
  (∀ (s : State) (w : Writer) (op : Fin 16), reservedOp 8 op = true → Accepts s.dev w .TIER_CHM_CMD 0 → s.dev.chm.run = none →
    Does (.chmCmdReserved w op) s (chmDone (chmAsked s.dev w op.val) .badArg []))

/-- An invalidated key is quarantined once every admitted change under it is applied, and its index rests after the quarantine. -/
def Sys2Proof.Claims.KeyLifeCycle : Prop :=
  (∀ (s : State) (i : BitVec 24), s.dev.chm.run = some (.invalidate i.toNat) → unapplied s.dev (fun r => r.keyIdx == i.toNat) = false →
    Does (.keyInvalidateComplete i) s (chmDone (quarantineKey s.dev i.toNat) .ok [])) ∧
  (∀ (s : State) (i : BitVec 24) (e : KeyEnt) (t : Nat), let d := reach s.dev t
    nget s.dev.chm.keys i.toNat = some e → e.state = .quarantine → e.qEnd = some t → inService3 s.dev = true →
    Does (.keyQuarantineEnd i) s { d with chm.keys := nset d.chm.keys i.toNat { e with state := .resting } })

/-! ### Connections (spec/04_olisar_transport.md, spec/05_congestion.md) -/

/-- The connection manager: a REQ for this device that passes the checks gets a connection and a REP, one whose service ID is unknown a REJ with reason 8; RTU, DREQ and DREP move the connection that they
name. -/
def Obligations.ConnectionManager : Prop :=
  (∀ (s : State) (q : CmReq) (p : CellNo) (c v t i : Nat), let x := cmArrives s.dev p.val q.pcp.val q.srcAddr.toNat q.sec
    let d := x.1
    q.via = .port p → x.2 = true → cmForMe d q.dst.toNat = true → q.service.toNat = 20301 → inService3 d = true → (portRole d p.val = 1 ∨ q.fromDevice = true) →
    reqCell d p.val = some c → cellFenced d c = false → txOn d c = true →
    chooseVersion (offered q.priv).1 (offered q.priv).2 (minVer d c) (maxVer d c) = some v → tenantOf d q.srcAddr.toNat = some t → connQuotaOk d t = true →
    (((List.range 1023).map (· + 1)).find? fun i => (getConn d (connKey c i)).state == .free) = some i →
    Does (.cmReq q) s (sendRep (allocConn d (connKey c i) t v .data q (min (mtuOf (cfld d .OMT_CFG c 15 12)) (mtuOf q.pmtu.toNat))) (connKey c i))) ∧
  (∀ (s : State) (q : CmReq) (p : CellNo), let x := cmArrives s.dev p.val q.pcp.val q.srcAddr.toNat q.sec
    q.via = .port p → x.2 = true → cmForMe x.1 q.dst.toNat = true → q.service.toNat ≠ 20301 → q.service.toNat ≠ 20302 →
    Does (.cmReq q) s (sendRej x.1 q 8 [])) ∧
  (∀ (s : State) (m : CmMsg) (p : CellNo) (k : Nat), let x := cmArrives s.dev p.val m.pcp.val m.srcAddr.toNat m.sec
    m.via = .port p → x.2 = true → connOfQpn x.1 m.qpn.toNat = some k →
    ((getConn x.1 k).state = .connecting → Does (.cmRtu m) s (enterReady x.1 k)) ∧
    ((getConn x.1 k).state = .ready → Does (.cmDreq m) s (dropSample (modConn x.1 k fun c => { c with state := .draining }) k)) ∧
    Does (.cmDrep m) s x.1) ∧
  (∀ (s : State) (m : CmMsg), m.via = .mgmt → served s.dev (.port 0) = true → (getConn s.dev (portConnKey (m.qpn.toNat % 16))).state = .connecting →
    Does (.cmRtu m) s (enterReady s.dev (portConnKey (m.qpn.toNat % 16))))

/-- A connection ends through QUARANTINE: after 100 ms without RTU, after its last answer with a DREP, after an error with a DREQ; its index is FREE after the quarantine and keeps its
generation. -/
def Sys2Proof.Claims.ConnectionEnds : Prop :=
  (∀ (s : State) (k : Fin 262160), let c := getConn s.dev k.val
    c.state = .connecting → Does (.connectTimeout k) s (quarantineConn (reach s.dev c.deadline) k.val)) ∧
  (∀ (s : State) (k : Fin 262160), let c := getConn s.dev k.val
    c.state = .draining → (s.dev.reqs.all fun r => r.conn != k.val) = true → (s.dev.bulk.cmds.all fun b => b.conn != k.val) = true →
    Does (.connectionDrainDone k) s (sendCmConn (quarantineConn s.dev k.val) k.val cmDrep [] [])) ∧
  (∀ (s : State) (k : Fin 262160), let c := getConn s.dev k.val
    c.state = .error → (s.dev.reqs.all fun r => r.conn != k.val || !isChange r.kind || (r.parts != [] && r.parts.all fun p => !pendingPart p.st)) = true →
    Does (.connectionErrorSettled k) s (sendCmConn (quarantineConn s.dev k.val) k.val cmDreq [] [])) ∧
  (∀ (s : State) (k : Fin 262160), let c := getConn s.dev k.val
    c.state = .quarantine → inService3 s.dev = true → Does (.connectionQuarantineEnd k) s (setConn (reach s.dev c.deadline) k.val { gen := c.gen }))

/-- The timers of a requester and of a responder: a retransmission with the timer doubled, ERROR at the retry limit, the end of an RNR wait, an acknowledgement 1 µs after the oldest request
reached its point, and the pacer. -/
def Sys2Proof.Claims.ConnectionTimers : Prop :=
  (∀ (s : State) (k : ConnNo) (t : Nat), let c := getConn s.dev k.val
    let d := bump (reach s.dev t) .OMT_CNT (connCell k.val) 5
    c.state = .ready → c.timer = some t → c.retries < retryLimit d (connCell k.val) →
    Does (.retransmitTimerExpiry k) s
      (retransmit (setConn d k.val { c with retries := c.retries + 1, timerVal := 2 * c.timerVal, timer := some (d.now + 2 * c.timerVal),
                                            win := if windowed c then { c.win with w := c.pmtu, additive := false } else c.win }) k.val)) ∧
  (∀ (s : State) (k : ConnNo) (t : Nat), let c := getConn s.dev k.val
    let d := bump (reach s.dev t) .OMT_CNT (connCell k.val) 5
    c.state = .ready → c.timer = some t → retryLimit d (connCell k.val) ≤ c.retries → Does (.retransmitTimerExpiry k) s (connError d k.val)) ∧
  (∀ (s : State) (k : ConnNo) (t : Nat), let c := getConn s.dev k.val
    let d := reach s.dev t
    c.rnrUntil = some t → Does (.rnrWaitExpiry k) s (trySend (retransmit (setConn d k.val { c with rnrUntil := none, timer := some (d.now + c.timerVal) }) k.val) k.val)) ∧
  (∀ (s : State) (k : ConnNo) (t : Nat), let c := getConn s.dev k.val
    let d := reach s.dev (t + us 1)
    c.unackedAt = some t → Does (.ackCoalesceTimer k) s (sendAck d k.val ⟨c.ackPsn, c.ackChm, c.ackPersist⟩)) ∧
  (∀ (s : State) (k : ConnNo) (x : Sent), let c := getConn s.dev k.val
    let d := reach s.dev (paceEnd s.dev k.val x.bytes)
    c.sent = [x] → x.left = false → mayLeave d k.val x = true → Does (.pacerRelease k) s (leave d k.val x))

/-! ### Ports: pause and fences (spec/05_congestion.md) -/

/-- Pause of a port: a received PFC frame of one class, the end of its quanta, the refresh of the device's own XOFF, and the two time-outs that fence the port with C2. -/
def Sys2Proof.Claims.PauseAndFences : Prop :=
  (∀ (s : State) (m : PfcFrame) (pcp : Fin 8) (q : BitVec 16), let p := m.port.val
    let d := bump s.dev .PORT_CNG_CNT p 1
    let v := getPort d p
    m.quanta = [(pcp, q)] → pcp.val ≠ 7 → q.toNat ≠ 0 → pfcOn d p = true → nget v.rx pcp.val = none →
    let v' := { v with rx := nset v.rx pcp.val (d.now + q.toNat * 512 / max 1 v.rateGbps, d.now), pauseFrom := some (v.pauseFrom.getD d.now) }
    Does (.pfcFrameReceived m) s (drainPort (pauseEnds (setPort d p v') p) p)) ∧
  (∀ (s : State) (p : CellNo) (pcp : Fin 8) (e t : Nat), nget (getPort s.dev p.val).rx pcp.val = some (e, t) →
    Does (.pauseQuantaExpiry p pcp) s (drainPort (pauseEnds (modPort (reach s.dev e) p.val fun q => { q with rx := ndel q.rx pcp.val }) p.val) p.val)) ∧
  (∀ (s : State) (p : CellNo) (g : Fin 3) (t e : Nat), let d := reach s.dev e
    nget (getPort s.dev p.val).xoff g.val = some (t, e) → pfcOn s.dev p.val = true → txOn s.dev p.val = true →
    Does (.xoffRefresh p g) s
      (bump (sendPfc (modPort d p.val fun q => { q with xoff := nset q.xoff g.val (t, d.now + pauseTime d p.val / 2) }) p.val g.val 0xFFFF) .PORT_CNG_CNT p.val 0)) ∧
  (∀ (s : State) (p : CellNo) (pcp : Fin 8) (e t : Nat), let d := reach s.dev (tickAfter (t + msLimit (cfld s.dev .PORT_PFC_CFG p.val 23 16)))
    nget (getPort s.dev p.val).rx pcp.val = some (e, t) → pfcOn s.dev p.val = true → d.now < e → (getPort s.dev p.val).fence = none →
    Does (.pauseWatchdogExpiry p pcp) s (raise (fencePort d p.val 1 pcp.val) { cls := 2, cause := 0x05, unit := uPort p.val, addr := pcp.val })) ∧
  (∀ (s : State) (p : CellNo) (g : Fin 3) (e t : Nat), let d := reach s.dev (tickAfter (t + msLimit (cfld s.dev .PORT_PFC_CFG p.val 15 8)))
    nget (getPort s.dev p.val).xoff g.val = some (t, e) → (getPort s.dev p.val).fence = none →
    Does (.xoffStormExpiry p g) s (raise (fencePort d p.val 2 g.val) { cls := 2, cause := 0x05, unit := uPort p.val, addr := g.val })) ∧
  (∀ (s : State) (w : Writer) (p : CellNo) (cause cls : Nat), Accepts s.dev w .PORT_FENCE p.val → (getPort s.dev p.val).fence = some (cause, cls) → (cause = 1 ∨ cause = 2) →
    Does (.portFenceRelease w p) s (lsCheck (modPort (asked s.dev w .PORT_FENCE p.val 0) p.val fun q => { q with fence := none, link := .training })))

/-! ### Links, neighbours and routes (spec/06_federation_fabric.md) -/

/-- A fabric link trains, says who is there, and is checked: a HELLO that fits the declared topology lets the port carry traffic, one that names another device fences it with cause 3; silence does
the same; the port tries again every second. -/
def Obligations.NeighbourIdentity : Prop :=
  (∀ (s : State) (p : CellNo) (rate : PortRate) (far fp r : Nat), let q := getPort s.dev p.val
    let d1 := resetControl (setPort s.dev p.val { q with link := .up, passed := false, lastHello := s.dev.now, doze := {}, bucket := bucketNow s.dev p.val, bucketAt := s.dev.now,
                                                         rateGbps := rate.gbps }) p.val
    fabricPort s.dev p.val = true → isDown s.dev = false → q.fence = none → farEnd s.dev (ordinal s.dev) p.val = some (far, fp, r) →
    Does (.linkTrained ⟨p, rate⟩) s
      (lsCheck (sendHello (setConn d1 (connKey p.val 0) { state := .ready, version := 3, service := .control, remoteOrd := far, port := p.val, ackPsn := 2 ^ 24 - 1 }) p.val))) ∧
  (∀ (s : State) (p : CellNo),
    Does (.linkDown p) s
      (lsCheck (moveMirrors s.dev (pauseEnds (modPort (resetControl (dropQueue s.dev p.val .FAB_CNT 0 2) p.val) p.val fun q =>
        { q with link := .down, passed := false, rx := [], xoff := [], doze := {} }) p.val)))) ∧
  (∀ (s : State) (m : Hello) (fp : Nat), let x := macGate s.dev m.port.val m.sec
    x.2 = true → isDown x.1 = false → fabricPort x.1 m.port.val = true → (getPort x.1 m.port.val).link = .up →
    farEnd x.1 (ordinal x.1) m.port.val = some (m.ordinal.val, m.sentPort.val, fp) → m.role.toNat = portRole x.1 m.port.val → m.digest.toNat = x.1.fab.topo.digest →
    Does (.neighbourHello m) s (identityPasses x.1 m.port.val)) ∧
  (∀ (s : State) (m : Hello) (o fp r : Nat), let x := macGate s.dev m.port.val m.sec
    x.2 = true → isDown x.1 = false → fabricPort x.1 m.port.val = true → (getPort x.1 m.port.val).link = .up →
    farEnd x.1 (ordinal x.1) m.port.val = some (o, fp, r) → o ≠ m.ordinal.val →
    Does (.neighbourHello m) s (identityFails x.1 m.port.val 1 m.ordinal.val)) ∧
  (∀ (s : State) (p : CellNo), let d := reach s.dev (getPort s.dev p.val).nextHello
    fabricPort s.dev p.val = true → (getPort s.dev p.val).link = .up → isDown s.dev = false → Does (.helloTimer p) s (sendHello d p.val)) ∧
  (∀ (s : State) (p : CellNo), fabricPort s.dev p.val = true → (getPort s.dev p.val).link = .up → isDown s.dev = false →
    Does (.helloTimeout p) s (identityFails (reach s.dev ((getPort s.dev p.val).lastHello + 3 * helloMs s.dev + 1)) p.val 4 0)) ∧
  (∀ (s : State) (p : CellNo) (t : Nat), let d := reach s.dev t
    (getPort s.dev p.val).retryAt = some t →
    Does (.identityRetryTimer p) s (modPort d p.val fun q => { q with link := .training, retryAt := some (d.now + sec 1) }))

/-- The link-state database: a record with a higher sequence is kept and relayed, any other dropped; the own record goes out every 2 s; one not superseded for 10 s is removed; convergence ends with
the last record or after 2 s. -/
def Sys2Proof.Claims.LinkStateDatabase : Prop :=
  (∀ (s : State) (m : LinkStateMsg), let x := ctrlHeard s.dev m.port.val m.sec
    x.2 = true → nget x.1.fab.db m.origin.val = none →
    Does (.linkState m) s
      (flood (bump (bump { x.1 with fab.db := nset x.1.fab.db m.origin.val ⟨m.seq.toNat, m.states.toNat, x.1.now⟩ } .FAB_CNT 0 7) .FAB_CNT 0 9)
        0xE1 m.port.val (payload (linkStateBytes m.origin.val m.seq.toNat m.states.toNat)))) ∧
  (∀ (s : State) (m : LinkStateMsg) (r : LsRec), let x := ctrlHeard s.dev m.port.val m.sec
    x.2 = true → nget x.1.fab.db m.origin.val = some r → m.seq.toNat ≤ r.seq → Does (.linkState m) s (bump x.1 .FAB_CNT 0 8)) ∧
  (∀ (s : State), 5 ≤ s.dev.ldr.step → isDown s.dev = false → Does .linkStateTimer s (originateLs (reach s.dev s.dev.fab.nextLs))) ∧
  (∀ (s : State) (o : Ordinal) (r : LsRec), let d := reach s.dev (r.at_ + sec 10)
    nget s.dev.fab.db o.val = some r → o.val ≠ ordinal s.dev →
    Does (.linkStateRecordExpiry o) s (bump { d with fab.db := ndel d.fab.db o.val } .FAB_CNT 0 9)) ∧
  (∀ (s : State) (t : Nat), let d := reachO s.dev (convergeTime s.dev)
    s.dev.fab.convFrom = some t → Does .routeConvergenceEnd s { d with fab.converged := true, fab.convFrom := none })

/-- Pair routes: an announcement with a higher claim is entered and relayed, an older one discarded; the holder announces every second; an entry not refreshed for 5 s is invalid. -/
def Sys2Proof.Claims.PairRoutes : Prop :=
  (∀ (s : State) (m : RouteAnn) (e : PairRoute), let x := ctrlHeard s.dev m.port.val m.sec
    x.2 = true → tagOk x.1 (annBytes m) m.tag = true → m.holder.val / 2 = m.pair.toNat → nget x.1.fab.pairs m.pair.toNat = some e → e.claim < m.claim.toNat →
    Does (.routeAnnounce m) s
      (flood (bump { x.1 with fab.pairs := nset x.1.fab.pairs m.pair.toNat ⟨true, m.holder.val, m.claim.toNat, m.seq.toNat, x.1.now⟩ } .FAB_CNT 0 10)
        0xE2 m.port.val (payload (annBytes m ++ beBytes 16 m.tag.toNat)))) ∧
  (∀ (s : State) (m : RouteAnn) (e : PairRoute), let x := ctrlHeard s.dev m.port.val m.sec
    x.2 = true → tagOk x.1 (annBytes m) m.tag = true → m.holder.val / 2 = m.pair.toNat → nget x.1.fab.pairs m.pair.toNat = some e → m.claim.toNat < e.claim →
    Does (.routeAnnounce m) s (bump x.1 .FAB_CNT 0 11)) ∧
  (∀ (s : State) (m : RouteAnn), let x := ctrlHeard s.dev m.port.val m.sec
    x.2 = true → tagOk x.1 (annBytes m) m.tag = false → Does (.routeAnnounce m) s (bump x.1 .FAB_CNT 0 12)) ∧
  (∀ (s : State), holdsHigher s.dev = true → inService3 s.dev = true → Does .routeAnnounceTimer s (announce (reach s.dev s.dev.fab.nextAnn))) ∧
  (∀ (s : State) (pair : BitVec 13) (e : PairRoute), let d := reach s.dev (e.at_ + sec 5)
    nget s.dev.fab.pairs pair.toNat = some e → Does (.pairRouteExpiry pair) s { d with fab.pairs := nset d.fab.pairs pair.toNat { e with valid := false } })

/-- Forwarding: a frame that may be forwarded goes toward the device that its address names; one resident over 500 µs is discarded at egress and counted; hosts are answered and forgotten. -/
def Obligations.ForwardingAndHosts : Prop :=
  (∀ (s : State) (f : FwdFrame) (o : Nat) (x : Dev × Nat), let d0 := entered s.dev (.fwd f)
    let d := learnHost (carried d0 f.port.val f.pcp.val) f.port.val f.src.toNat
    Enters s.dev (.fwd f) → isDown d0 = false → f.mirror = false → (portRole d0 f.port.val = 1 ∨ portRole d0 f.port.val = 3 ∨ portRole d0 f.port.val = 4) → portCarries d0 f.port.val = true →
    takeBufs d f.port.val f.bytes.val 0x2000 f.cm = some x → parseAddr x.1 f.dst.toNat = .device o → o ≠ ordinal x.1 → Does (.forwardFrame f) s (forwardTo x.1 f o (some x.2))) ∧
  (∀ (s : State) (f : FwdFrame), let d0 := entered s.dev (.fwd f)
    let d := learnHost (carried d0 f.port.val f.pcp.val) f.port.val f.src.toNat
    Enters s.dev (.fwd f) → isDown d0 = false → f.mirror = false → (portRole d0 f.port.val = 1 ∨ portRole d0 f.port.val = 3 ∨ portRole d0 f.port.val = 4) → portCarries d0 f.port.val = true →
    takeBufs d f.port.val f.bytes.val 0x2000 f.cm = none → Does (.forwardFrame f) s (bump d .PORT_CNG_CNT f.port.val 6)) ∧
  (∀ (d : Dev) (f : FwdFrame) (o : Nat), portRole d f.port.val ≠ 1 → f.hopLimit.toNat ≤ 1 → forwardTo d f o none = bump d .FAB_CNT 0 5) ∧
  (∀ (s : State) (p : CellNo) (e : Egress), let d := reach s.dev (e.since + us 500 + 1)
    (getPort s.dev p.val).queue = [e] →
    Does (.residenceExpiry p) s (bumpBy (dropBuf (modPort d p.val fun q => { q with queue := [] }) e.buf) .FAB_CNT 0 4 1)) ∧
  (∀ (s : State) (p : CellNo) (a : BitVec 128), portRole s.dev p.val = 1 → a.toNat / 2 ^ 64 = fabPrefix s.dev → isDown s.dev = false →
    Does (.neighbourSolicitation p a) s (sendCtrl s.dev 136 p.val [a.toNat, macAddr s.dev p.val])) ∧
  (∀ (s : State) (a : BitVec 128) (p t : Nat), let d := reach s.dev (t + sec 60)
    nget s.dev.fab.hosts a.toNat = some (p, t) → Does (.hostAttachmentExpiry a) s { d with fab.hosts := ndel d.fab.hosts a.toNat })

/-! ### The persistence domain (spec/07_persistence.md) -/

/-- A power failure: in SERVICE, QUIET and DORMANT the flush begins; a start is abandoned without one; a device that is FLUSHING, HALTED or OFF goes on as it is. An undervoltage without a prior fall
of POWER_FAIL_N is counted and raises C3. -/
def Sys2Proof.Claims.PowerFailure : Prop :=
  (∀ (s : State), inService3 s.dev = true → Does .powerFailNFall s (beginFlush { s.dev with pwr.powerFailN := false } .powerFail)) ∧
  (∀ (s : State), s.dev.pwr.state = .starting → Does .powerFailNFall s (abandonStart { s.dev with pwr.powerFailN := false })) ∧
  (∀ (s : State), isDown s.dev = true → Does .powerFailNFall s { s.dev with pwr.powerFailN := false }) ∧
  (∀ (s : State) (mv : BitVec 16), let d := bump { s.dev with pwr.inputMv := mv.toNat * 10, pwr.inputGood := false } .PWR_CNT 0 7
    inService3 s.dev = true → s.dev.pwr.powerFailN = true →
    Does (.inputUndervoltage mv) s (powerFail (raise d { cls := 3, cause := 0x03, unit := uHub 7, addr := mv.toNat } .stay) .undervoltage)) ∧
  (∀ (s : State) (mv : BitVec 16), s.dev.pwr.state ≠ .off → s.dev.pwr.powerFailN = false →
    Does (.inputUndervoltage mv) s (bump { s.dev with pwr.inputMv := mv.toNat * 10, pwr.inputGood := false } .PWR_CNT 0 7))

/-- A flush applies the last writes, stops everything else that waits and opens the sump set of each live cell: requests, promotions and bulk commands are gone, the state is FLUSHING, a Vault operation is
suspended, and chamber memory, chambers and keys stand as the last writes left them. -/
def Obligations.FlushFrame : Prop :=
  ∀ (d : Dev) (kind : FlushKind), let e := beginFlush d kind
    let l := lastWrites { d with per.falling := none }
    e.pwr.state = .flushing ∧ e.reqs = [] ∧ e.tier.promos = [] ∧ e.bulk = {} ∧ e.snap.holds = [] ∧ e.pwr.move = none ∧ e.pwr.latched = none ∧
    e.mem = l.mem ∧ e.chm = l.chm ∧ e.cus = l.cus ∧ e.tim = l.tim ∧ e.cal = l.cal ∧ e.ldr = l.ldr ∧ e.mode = l.mode ∧ e.now = l.now ∧ e.vlt.op = l.vlt.op.map vaultCut

/-- The flush ends HALTED with its record, or with an automatic restart; a C3 or C4 keeps the device HALTED. -/
def Sys2Proof.Claims.FlushEnds : Prop :=
  (∀ (s : State) (a b r : Bool) (n : Nat) (l w : List (CellNo × Nat)) (f : Flush), s.dev.per.flush = some f → s.dev.pwr.state = .flushing → f.kind = .severe → s.dev.pwr.resetWanted = false →
    ∃ e, Does (.flushComplete a b r n ⟨l, w⟩) s e ∧ e.pwr.state = .halted ∧ e.per.flush = none ∧ e.pwr.powerFailN = a ∧ e.mem = s.dev.mem ∧ e.chm = s.dev.chm) ∧
  (∀ (s : State) (a b r : Bool) (n : Nat) (l w : List (CellNo × Nat)) (f : Flush), s.dev.per.flush = some f → s.dev.pwr.state = .flushing →
    Does (.flushComplete a b r n ⟨l, w⟩) s (afterFlush (flushEnds s.dev f r n l w) f a b)) ∧
  (∀ (d : Dev) (f : Flush) (b : Bool), f.kind = .powerFail → fbit (hreg d .PWR_HOLDUP_CFG) 31 = true → d.flt.grave = false →
    afterFlush d f true true = beginStart { d with pwr.powerFailN := true } true ∧ (d.pwr.resetWanted = false → afterFlush d f false b = { d with pwr.powerFailN := false }))

/-- Dirty credit: a cell short of it asks once, the hub grants a whole or a part credit within the limits, and a cell with more than 20 MiB to spare returns one. -/
def Sys2Proof.Claims.DirtyCredit : Prop :=
  (∀ (s : State) (c : CellNo), inService3 s.dev = true → dirtyCreditOf s.dev c.val < dirtyCount s.dev c.val + 4 * 8192 → s.dev.per.creditAsks.contains c.val = false →
    Does (.dirtyCreditRequest c) s { s.dev with per.creditAsks := s.dev.per.creditAsks ++ [c.val] }) ∧
  (∀ (s : State) (c : Nat) (rest : List Nat), let have0 := dirtyCreditOf s.dev c
    let n := min creditLines (cellMib s.dev * 8192 - have0)
    s.dev.per.creditAsks = c :: rest → n ≠ 0 → grantedLines s.dev + n ≤ devGib s.dev * 1024 * 8192 →
    Does .dirtyCreditGrant s (wakeDirty { s.dev with per.creditAsks := rest, per.dirtyCredit := nset s.dev.per.dirtyCredit c (have0 + n) } c)) ∧
  (∀ (s : State) (c : Nat) (rest : List Nat), let have0 := dirtyCreditOf s.dev c
    let n := min creditLines (cellMib s.dev * 8192 - have0)
    s.dev.per.creditAsks = c :: rest → n ≠ 0 → devGib s.dev * 1024 * 8192 < grantedLines s.dev + n → DoesNothing .dirtyCreditGrant s) ∧
  (∀ (s : State) (c : CellNo), let have0 := dirtyCreditOf s.dev c.val
    dirtyCount s.dev c.val + 20 * 8192 < have0 → have0 % creditLines = 0 →
    Does (.dirtyCreditReturn c) s { s.dev with per.dirtyCredit := nset s.dev.per.dirtyCredit c.val (have0 - creditLines) })

/-- Waits of writes: one that has waited STALL_US for dirty space completes BUSY and is counted; a mirror write that has waited STALL_MS makes the follower yield; in a pair without a witness a write
without mirror acknowledgement completes UNAVAILABLE. -/
def Sys2Proof.Claims.WaitsOfWrites : Prop :=
  (∀ (s : State) (c : CellNo) (r : Req) (p : Part) (t : Nat), let d := reach s.dev t
    s.dev.reqs = [r] → r.parts = [p] → p.cell = c.val → fromTwin r.kind = false → p.st = .waitDirty t →
    Does (.dirtyWaitExpiry c) s (pump (bump { d with reqs := [{ r with parts := [{ p with st := .failed stBusy }] }] } .CELL_FLUSH_CNT c.val 3))) ∧
  (∀ (s : State) (c : CellNo) (r : Req) (p : Part), let d := reach s.dev (p.since + stallMs s.dev)
    s.dev.reqs = [r] → r.parts = [p] → p.cell = c.val → r.kind = .mirrorWrite → p.st = .waitPromo → s.dev.cus.witness.isSome = true →
    Does (.mirrorStallExpiry c) s (sendYield d)) ∧
  (∀ (s : State) (r : Req) (p : Part) (ts : Nat), let d := reach s.dev (p.since + stallMs s.dev)
    s.dev.reqs = [r] → r.parts = [p] → p.st = .mirrored ts → r.stage = .issued → s.dev.cus.witness = none →
    Does .mirrorAckStallExpiry s (pump { d with reqs := [{ r with stage := .over stUnavailable }] })) ∧
  (∀ (s : State) (n : Fin 65536) (page : BitVec 36) (i : Fin 128) (r : Repair), let key := pageKey n.val page.toNat * 128 + i.val
    let d := reach s.dev r.deadline
    nget s.dev.repairs key = some r → r.isSeal = false → Does (.lineRepairTimeout n page (some i)) s (compareAgain { d with repairs := ndel d.repairs key } (pageKey n.val page.toNat)))


/-! ### Tiers, quotas and plans (spec/08_tiers.md) -/

/-- The dies that were erasing a sump set are done with it. Once all have erased it and no block has worn out, the set is ARMED again: it is empty, and no write waits on it for its erase; while
no die erases the set nothing happens. -/
def Sys2Proof.Claims.SumpErase : Prop :=
  (∀ (s : State) (c : CellNo) (b : Bool), let m := getMed s.dev c.val
    let dies := erasingDies m (.eraseSump b)
    let slots := (sumpSlots m b).filter fun k => dies.contains (k / 8192)
    let m' := freeDies (eraseBlocks m slots) dies
    let p := getSump s.dev c.val
    dies ≠ [] → (if b then p.2 else p.1).state = .erasing → ((sbDies m 0).all fun x => dies.contains x) = true → (slots.all fun k => decide (peOf m' (physOf m' k) < 30000)) = true →
    ∃ e, Does (.sumpEraseDone c b []) s (wakeDirty e c.val) ∧ reg e .MED_CNT c.val 3 = reg s.dev .MED_CNT c.val 3 + BitVec.ofNat 32 slots.length ∧ (let q := getSump e c.val
      let t := if b then q.2 else q.1
      t.state = .armed ∧ t.lines = [] ∧ t.refPages = [] ∧ t.opened = false ∧ t.closed = false ∧ (if b then q.1 = p.1 else q.2 = p.2))) ∧
  (∀ (s : State) (c : CellNo) (b : Bool) (l : List Nat), erasingDies (getMed s.dev c.val) (.eraseSump b) = [] → DoesNothing (.sumpEraseDone c b l) s)

/-- Promotions: one whose sectors were read and whose seal matches, or whose seal is not compared, is installed; a mismatch that the twin cannot repair loses the page's lines; one not installed in
PROMO_MS fails with cause 3. -/
def Sys2Proof.Claims.Promotions : Prop :=
  (∀ (s : State) (n : Fin 65536) (page : BitVec 36) (p : Promo) (lost : List Nat) (ok : Bool), let k := pageKey n.val page.toNat
    nget s.dev.tier.promos k = some p → p.readDone = some lost → p.buf.isSome = true → nhas s.dev.repairs (2 ^ 64 + k) = false → agentThrottled s.dev k ⟨0x1001, homeOf k, 6⟩ = false → (lost ≠ [] ∨ ok = true ∨ p.compared = false) →
    Does (.promotionComplete n page ok) s (installPage s.dev k lost false)) ∧
  (∀ (s : State) (n : Fin 65536) (page : BitVec 36) (p : Promo), let k := pageKey n.val page.toNat
    nget s.dev.tier.promos k = some p → p.readDone = some [] → p.buf.isSome = true → nhas s.dev.repairs (2 ^ 64 + k) = false → agentThrottled s.dev k ⟨0x1001, homeOf k, 6⟩ = false → p.compared = true → classOfPage s.dev k ≠ .mirrored →
    Does (.promotionComplete n page false) s (sealLost (bump s.dev .HBM_CNT (homeOf k) 13) k)) ∧
  (∀ (s : State) (n : Fin 65536) (page : BitVec 36) (p : Promo), let k := pageKey n.val page.toNat
    nget s.dev.tier.promos k = some p →
    Does (.promotionTimeout n page) s (let d := reach s.dev p.deadline; promoFails { d with repairs := ndel d.repairs (2 ^ 64 + k) } k 3))

/-- T1 and the merging buffer: a cell short of frames evicts until FREE_HIGH and its waiting requests are tried; a cell with room evicts nothing; a destage takes the oldest modified page; an entry of
the merging buffer drains after its hold. -/
def Sys2Proof.Claims.CellTiers : Prop :=
  (∀ (s : State) (c : CellNo), freeFrames s.dev c.val < freeLow s.dev * liveFrames s.dev c.val / 1000 →
    Does (.evictionSweep c) s (wakeFrame (tryMove (evictUntil (cellFrames s.dev c.val).length s.dev c.val) c.val) c.val)) ∧
  (∀ (s : State) (c : CellNo), freeLow s.dev * liveFrames s.dev c.val / 1000 ≤ freeFrames s.dev c.val → DoesNothing (.evictionSweep c) s) ∧
  (∀ (s : State) (c : CellNo) (w : DestageWork) (x : Dev × Nat), let d := s.dev
    destageStopped d c.val = false → inService3 d = true → (d.res.waits.any fun w => w.cell == c.val && w.use == .destage) = false → nextDestage d c.val = some w → workThrottled d c.val w = false →
    takeBufs d c.val 16384 0x1000 (usesReserve d 0x1000) = some x → Does (.destageStart c) s (startDestage x.1 c.val w x.2)) ∧
  (∀ (s : State) (c : CellNo) (k : Nat) (f : Frame) (x : Dev × Nat), let d := s.dev
    destageStopped d c.val = false → inService3 d = true → d.res.waits = [] → nextDestage d c.val = some (.frame k) → agentThrottled d k ⟨0x1000, c.val, 5⟩ = false →
    takeBufs d c.val 16384 0x1000 (usesReserve d 0x1000) = some x → getFrame x.1 k = some f →
    Does (.destageStart c) s
      (writePage (setFrame { x.1 with tier.volQ := x.1.tier.volQ.filter (· != k) } k { f with destaging := some (x.1.nextReq, f.lines) }) c.val k x.2 false)) ∧
  (∀ (s : State) (c : CellNo) (w : DestageWork), let d := s.dev
    destageStopped d c.val = false → inService3 d = true → d.res.waits = [] → nextDestage d c.val = some w → workThrottled d c.val w = false →
    takeBufs d c.val 16384 0x1000 (usesReserve d 0x1000) = none → Does (.destageStart c) s (addWait d c.val 0x1000 16384 .destage)) ∧
  (∀ (s : State) (c : CellNo) (e : MbEnt), let d := reach s.dev (e.opened + mbHold s.dev c.val)
    (getAlc s.dev c.val).mb = [e] → Does (.mergingBufferHoldExpiry c) s (drainRead d c.val e))

/-- T2 credit: the hub grants a unit while the tenant's quota has room, the remainder when less is left, and refuses once the recall left nothing; a cell with over 2 MiB returns a unit; a wait of
20 µs ends QUOTA. -/
def Sys2Proof.Claims.T2Credit : Prop :=
  (∀ (s : State) (a : CreditAsk) (rest : List CreditAsk), let d : Dev := { s.dev with tier.asks := rest }
    let key := creditKey a.tenant a.cell
    s.dev.tier.asks = a :: rest → t2Left d a.tenant = none →
    Does .t2CreditGrant s (pump (requeue { d with tier.credit := nset d.tier.credit key (ngetD d.tier.credit key 0 + 256) } (waitsCredit d a.tenant a.cell)))) ∧
  (∀ (s : State) (a : CreditAsk) (rest : List CreditAsk) (n : Nat), let d : Dev := { s.dev with tier.asks := rest }
    let key := creditKey a.tenant a.cell
    s.dev.tier.asks = a :: rest → t2Left d a.tenant = some n → n ≠ 0 →
    Does .t2CreditGrant s (pump (requeue { d with tier.credit := nset d.tier.credit key (ngetD d.tier.credit key 0 + min n 256) } (waitsCredit d a.tenant a.cell)))) ∧
  (∀ (s : State) (a : CreditAsk) (rest : List CreditAsk), let d : Dev := recallCredit { s.dev with tier.asks := rest } a.tenant
    s.dev.tier.asks = a :: rest → t2Left { s.dev with tier.asks := rest } a.tenant = some 0 → t2Left d a.tenant = some 0 →
    Does .t2CreditGrant s (quotaFails d a.cell (waitsCredit d a.tenant a.cell))) ∧
  (∀ (s : State) (t : Fin 4096) (c : CellNo), let n := ngetD s.dev.tier.credit (creditKey t.val c.val) 0
    512 < n → Does (.t2CreditReturn t c) s { s.dev with tier.credit := nset s.dev.tier.credit (creditKey t.val c.val) (n - 256) }) ∧
  (∀ (s : State) (t : Fin 4096) (c : CellNo), ngetD s.dev.tier.credit (creditKey t.val c.val) 0 ≤ 512 → DoesNothing (.t2CreditReturn t c) s) ∧
  (∀ (s : State) (c : CellNo) (r : Req) (p : Part) (t : Nat), let d := reach s.dev t
    s.dev.reqs = [r] → r.parts = [p] → p.cell = c.val → p.st = .waitCredit t →
    Does (.t2CreditWaitExpiry c) s (pump (bumpBy { d with reqs := [{ r with parts := [{ p with st := .failed stQuota }] }] } .CELL_TIER_CNT c.val 10 1)))

/-- Plan commands: CREATE takes the lowest free plan and loads its list; CURSOR, LOOKAHEAD and RELEASE act on a plan that stands; the queries answer from it; a reserved code is refused. -/
def Sys2Proof.Claims.PlanCommands : Prop :=
  (∀ (s : State) (w : Writer) (n : Nat), let d := planAsked s.dev w 1
    let count := parg d 1 % 2 ^ 17
    Accepts s.dev w .TIER_PLAN_CMD 0 → s.dev.tier.planRun = none → 0 < count → count ≤ 65536 → 16 ≤ parg d 5 →
    nfreeFrom (d.tier.plans.filter fun p => p.2.state != .free) 0 1024 = some n →
    Does (.planCreate w) s
      { setPlan d n { state := .loading, tenant := fld (reg d .TIER_PLAN_ARG 0 0) 27 16, count := count, key := parg d 2, va := parg d 3 + 2 ^ 32 * parg d 4, look := parg d 5 } with tier.planRun := some n }) ∧
  (∀ (s : State) (w : Writer) (n : Nat) (p : Plan), let d := planAsked s.dev w 2
    let e := parg d 1 % 65536
    Accepts s.dev w .TIER_PLAN_CMD 0 → s.dev.tier.planRun = none → namedPlan d = some (n, p) → e < p.count →
    Does (.planCursor w) s (planDone (setCursor (setPlan d n { p with state := .running }) n (firstSlot p.entries e)) .ok 0 [])) ∧
  (∀ (s : State) (w : Writer) (n : Nat) (p : Plan), let d := planAsked s.dev w 3
    Accepts s.dev w .TIER_PLAN_CMD 0 → s.dev.tier.planRun = none → namedPlan d = some (n, p) → 16 ≤ parg d 5 → p.pinned = [] →
    Does (.planLookahead w) s (planDone (setPlan d n { p with look := parg d 5 }) .ok 0 [])) ∧
  (∀ (s : State) (w : Writer) (n : Nat) (p : Plan), let d := planAsked s.dev w 4
    Accepts s.dev w .TIER_PLAN_CMD 0 → s.dev.tier.planRun = none → namedPlan d = some (n, p) →
    ∃ e, Does (.planRelease w) s (planDone { e with tier.plans := ndel e.tier.plans n } .ok 0 []) ∧ e = forEach p.pinned d fun d s => unpin d n s) ∧
  (∀ (s : State) (w : Writer), let d := planAsked s.dev w 5
    let n := fld (reg d .TIER_PLAN_ARG 0 0) 9 0
    Accepts s.dev w .TIER_PLAN_CMD 0 → s.dev.tier.planRun = none → nget d.tier.plans n = none →
    Does (.planQuery w) s (planDone d .ok 0 [(0, 0), (1, 0), (2, 0), (3, 0)])) ∧
  (∀ (s : State) (w : Writer) (n : Nat) (p : Plan) (e : PlanEnt), let d := planAsked s.dev w 6
    let i := parg d 1 % 65536
    Accepts s.dev w .TIER_PLAN_CMD 0 → s.dev.tier.planRun = none → namedPlan d = some (n, p) → p.entries[i]? = some e →
    Does (.entryQuery w) s (planDone d .ok 0 [(0, at_ (entryState p i e) 30 + at_ (e.failed.getD 0) 16), (1, if e.failed.isSome then e.failedPage else 0)])) ∧
  (∀ (s : State) (w : Writer) (op : Fin 16), reservedOp 6 op = true → Accepts s.dev w .TIER_PLAN_CMD 0 → s.dev.tier.planRun = none →
    Does (.planCmdReserved w op) s (planDone (planAsked s.dev w op.val) .badArg 0 [])) ∧
  (∀ (s : State) (w : Writer) (n : Nat), let d := asked s.dev w .TIER_PLAN_CMD 0 0
    Accepts s.dev w .TIER_PLAN_CMD 0 → s.dev.tier.planRun = some n → Does (.planCreate w) s { d with tier.planOverrun := true })

/-- A plan's list, once read and checked, sets the plan running; a check that fails ends the command LIST_FAIL with the status and frees the plan; the engine pins one slot of the next running plan. -/
def Sys2Proof.Claims.PlanEngine : Prop :=
  (∀ (s : State) (n : Nat) (d1 : Dev), let d := s.dev
    let p := getPlan d n
    let e := ngetD d1.chm.keys (p.key / 256) {}
    let addr := chmAddr e.chamber (e.base * 4096 + p.va)
    let d2 := readSpan d1 addr (p.count * 16) (lineOfAddr addr) [] false (listReader (homeCell e.chamber ((e.base * 4096 + p.va) / 16384)))
    d.tier.planRun = some n → listCheck d p = some stOk → bringList (listPages d p) d = (d1, some true) → (linesOf addr (p.count * 16)).any (poisoned d2) = false →
    ∃ es : List PlanEnt, es.length = p.count ∧ Does .planListLoaded s (planDone (setPlan d2 n { p with state := .running, entries := es }) .ok 0 [(0, n)])) ∧
  (∀ (s : State) (n : Nat) (d1 : Dev), s.dev.tier.planRun = some n → listCheck s.dev (getPlan s.dev n) = some stOk → bringList (listPages s.dev (getPlan s.dev n)) s.dev = (d1, some false) →
    Does .planListLoaded s d1) ∧
  (∀ (s : State) (n : Nat) (d1 : Dev), s.dev.tier.planRun = some n → listCheck s.dev (getPlan s.dev n) = some stOk → bringList (listPages s.dev (getPlan s.dev n)) s.dev = (d1, none) →
    Does .planListLoaded s (listFails d1 n stTierFail)) ∧
  (∀ (s : State) (n st : Nat), let d := s.dev
    d.tier.planRun = some n → listCheck d (getPlan d n) = some st → st ≠ stOk → Does .planListLoaded s (listFails d n st)) ∧
  (∀ (s : State) (n slot i page : Nat) (p : Plan) (e : PlanEnt), let d : Dev := { s.dev with tier.planTurn := n + 1 }
    s.dev.tier.plans = [(n, p)] → p.state = .running → nextSlot d p = some slot → slotAt p.entries 0 slot = some (i, e, page) →
    Does .planEngineTurn s (pinSlot d n slot e (pageKey e.chamber page)))

/-! ### The media tier (spec/09_media.md) -/

/-- Grants of a die: an idle die of a live channel takes the highest-ranked work, in a start only the erase of a sump set; what runs is suspended for a read of rank 1 where the channel allows it; without
work, while the channel is not served, or as the device enters DORMANT, nothing happens. -/
def Sys2Proof.Claims.MediaGrants : Prop :=
  (∀ (s : State) (c : CellNo) (die : Fin 16) (op : MedOp), MayGrant s.dev c.val die.val → (s.dev.pwr.state = .service ∨ s.dev.pwr.state = .quiet) →
    nget (getMed s.dev c.val).running die.val = none → nextWork s.dev c.val die.val = some op → Does (.mediaGrant c die) s (grantOp s.dev c.val die.val op)) ∧
  (∀ (s : State) (c : CellNo) (die : Fin 16), MayGrant s.dev c.val die.val → (s.dev.pwr.state = .service ∨ s.dev.pwr.state = .quiet) →
    nget (getMed s.dev c.val).running die.val = none → nextWork s.dev c.val die.val = none → DoesNothing (.mediaGrant c die) s) ∧
  (∀ (s : State) (c : CellNo) (die : Fin 16) (t : Nat) (op : MedOp), MayGrant s.dev c.val die.val → s.dev.pwr.state = .starting →
    nget (getMed s.dev c.val).running die.val = none → sumpWork4 s.dev c.val die.val = some (t, op) → Does (.mediaGrant c die) s (grantOp s.dev c.val die.val op)) ∧
  (∀ (s : State) (c : CellNo) (die : Fin 16), ¬ MayGrant s.dev c.val die.val → DoesNothing (.mediaGrant c die) s) ∧
  (∀ (s : State) (c : CellNo) (die : Fin 16) (r : DieRun) (op : MedOp), let m := getMed s.dev c.val
    MayGrant s.dev c.val die.val → (s.dev.pwr.state = .service ∨ s.dev.pwr.state = .quiet) → dirtyLevel s.dev c.val < hiPct s.dev →
    nget m.running die.val = some r → isRead r.op = false → r.suspended = false → urgentRead s.dev c.val = some op → nhas m.running (16 + die.val) = false →
    fbit (reg s.dev .MED_CFG c.val 0) 0 = true → r.suspends < suspLimit s.dev c.val r.op →
    Does (.mediaGrant c die) s
      (grantOp (bump (setMed s.dev c.val { m with running := nset m.running die.val { r with suspended := true, suspends := r.suspends + 1 } }) .MED_CNT c.val 4) c.val (16 + die.val) op))

/-- Ends of a die's operations: the last read of a check, the read of a promotion and of a map page that no copy gives, a pass that closes and one that fails, an erase, and a time-out, of which the third in
a row fails the die. -/
def Sys2Proof.Claims.MediaOperationsEnd : Prop :=
  (∀ (s : State) (c : CellNo) (die : Fin 16) (r : DieRun) (b : Nat) (bad : Bool), let m := getMed s.dev c.val
    let d := bumpBy (setMed s.dev c.val { m with running := ndel m.running die.val, timeouts := ndel m.timeouts die.val }) .MED_CNT c.val 0 4
    nget m.running die.val = some r → r.op = .check b 8191 → nhas m.running (16 + die.val) = false →
    Does (.mediaReadDone c die [] bad) s (bump (setMed d c.val { getMed d c.val with checks := ndel (getMed d c.val).checks b }) .MED_CNT c.val 11)) ∧
  (∀ (s : State) (c : CellNo) (die : Fin 16) (r : DieRun) (k : Nat) (ws : List CodeWord) (bad : Bool), nget (getMed s.dev c.val).running die.val = some r → r.op = .promo k →
    nhas (getMed s.dev c.val).running (16 + die.val) = false → (∀ w ∈ ws, w.level = 0 ∧ w.bits = 0) →
    ∃ d, Does (.mediaReadDone c die ws bad) s (promoRead d c.val k ws) ∧ (getMed d c.val).running = ndel (getMed s.dev c.val).running die.val) ∧
  (∀ (s : State) (c : CellNo) (die : Fin 16) (r : DieRun) (mp : Nat) (ws : List CodeWord), nget (getMed s.dev c.val).running die.val = some r → r.op = .mapLoad mp →
    nhas (getMed s.dev c.val).running (16 + die.val) = false → (∀ w ∈ ws, w.level = 0 ∧ w.bits = 0) →
    ∃ d, Does (.mediaReadDone c die ws true) s (mapLoaded d c.val mp true) ∧ (getMed d c.val).running = ndel (getMed s.dev c.val).running die.val) ∧
  (∀ (s : State) (c : CellNo) (die : Fin 16) (plane : Fin 4) (r : DieRun) (stream : Nat), let m := getMed s.dev c.val
    let v := getStream m stream
    let n := nextPass v die.val
    let d := setMed s.dev c.val (setStream (freeDies m [die.val]) stream { v with passes := nset v.passes die.val (n + 1) })
    nget m.running die.val = some r → r.op = .program stream → r.suspended = false →
    Does (.programPassDone c die true plane) s (releaseStream (if firstPass n then d else bumpBy d .MED_CNT c.val 1 16) c.val stream)) ∧
  (∀ (s : State) (c : CellNo) (die : Fin 16) (plane : Fin 4) (r : DieRun) (stream : Nat), let m := getMed s.dev c.val
    let v := getStream m stream
    nget m.running die.val = some r → r.op = .program stream → r.suspended = false →
    ∃ d, Does (.programPassDone c die false plane) s (releaseStream (abandonRows d c.val stream (passRow (nextPass v die.val))) c.val stream) ∧
      physOf m (blockKey die.val plane.val (v.sb.getD 0)) ∈ (getMed d c.val).bad) ∧
  (∀ (s : State) (c : CellNo) (sb : Fin 2048), let m := getMed s.dev c.val
    let dies := erasingDies m (.erase sb.val)
    dies ≠ [] → (getSb m sb.val).st = .erasing → ((sbDies m sb.val).all fun x => dies.contains x) = true → (∀ k ∈ sbSlots m sb.val, physOf m k ∉ m.bad) →
    ∃ d, Does (.eraseDone c sb []) s (fullCheck (wearCheck d c.val) c.val) ∧ (getSb (getMed d c.val) sb.val).st = (if sb.val < 2016 then SbState.free else .spare)) ∧
  (∀ (s : State) (c : CellNo) (sb : Fin 2048) (l : List Nat), erasingDies (getMed s.dev c.val) (.erase sb.val) = [] → DoesNothing (.eraseDone c sb l) s) ∧
  (∀ (s : State) (c : CellNo) (die : Fin 16) (r : DieRun), let m := getMed s.dev c.val
    let d := mediaErr (setMed s.dev c.val { m with running := ndel m.running die.val, timeouts := nset m.timeouts die.val (ngetD m.timeouts die.val 0 + 1) }) c.val 4 die.val 0 0 0
    nget m.running die.val = some r → nhas m.running (16 + die.val) = false → isRead r.op = true → ngetD m.timeouts die.val 0 < 2 →
    Does (.mediaOperationTimeout c die) s (serveByParity d c.val die.val r.op 1)) ∧
  (∀ (s : State) (c : CellNo) (die : Fin 16) (r : DieRun) (sb : Nat), let m := getMed s.dev c.val
    let d := mediaErr (setMed s.dev c.val { m with running := ndel m.running die.val, timeouts := nset m.timeouts die.val (ngetD m.timeouts die.val 0 + 1) }) c.val 4 die.val 0 0 0
    nget m.running die.val = some r → nhas m.running (16 + die.val) = false → r.op = .erase sb →
    (ngetD m.timeouts die.val 0 < 2 → Does (.mediaOperationTimeout c die) s d) ∧ (2 ≤ ngetD m.timeouts die.val 0 → Does (.mediaOperationTimeout c die) s (dieFails d c.val die.val)))

/-- The channel's own work: the rebuild's end, write-back of map pages, the root checkpoint, the patrol's start by interval and by command, the die temperature, and the retirement of a die. -/
def Sys2Proof.Claims.MediaUpkeep : Prop :=
  (∀ (s : State) (c : CellNo) (die : Nat), let m := getMed s.dev c.val
    m.rebuild = some die → m.sbs = [] → m.formatLeft = [] →
    Does (.rebuildEnd c) s (setMed (logEvent s.dev 2 (uDie c.val die) [1]) c.val { m with st := .online, rebuild := none })) ∧
  (∀ (s : State) (c : CellNo) (key t : Nat), let d := reach s.dev (t + 1000000000)
    let m := getMed s.dev c.val
    mediaOn s.dev c.val = true → m.mapDirty = [(key, t)] → overMaps m = false →
    Does (.mapWritebackTimer c) s (writeMap (setMed d c.val { m with mapDirty := [] }) c.val key)) ∧
  (∀ (s : State) (c : CellNo), let m := getMed s.dev c.val
    m.mapWrites ≠ 0 → Does (.rootCheckpointTimer c) s (checkpoint (reach s.dev (m.rootAt + 10000000000)) c.val)) ∧
  (∀ (s : State) (c : CellNo), mediaOn s.dev c.val = true → scrubDue s.dev c.val = true → Does (.mediaScrubPassStart c) s (startScrub s.dev c.val)) ∧
  (∀ (s : State) (w : Writer) (c : CellNo), let d := asked s.dev w .MED_CTRL c.val 0
    Accepts s.dev w .MED_CTRL c.val → Does (.scrubNow w c) s (setMed d c.val { getMed d c.val with scrub := scrubFrom d c.val 0, scrubStart := d.now })) ∧
  (∀ (s : State) (c : CellNo) (t : BitVec 8), let m := getMed s.dev c.val
    Does (.dieTemperatureRead c t) s
      (setMed s.dev c.val { m with temps := (m.temps.filter fun p => decide (s.dev.now < p.1 + 3600 * 1000000000)) ++ [(s.dev.now, t.toNat)] })) ∧
  (∀ (s : State) (w : Writer) (c : CellNo) (die : Fin 16), let m := getMed s.dev c.val
    Accepts s.dev w .MED_CTRL c.val → m.rebuild = none → 12 < diesOf m → dieIn m.diesIn die.val = true →
    Does (.retireDie w c die) s (dieFails (asked s.dev w .MED_CTRL c.val 0) c.val die.val)) ∧
  (∀ (s : State) (w : Writer) (c : CellNo) (die : Fin 16), let m := getMed s.dev c.val
    Accepts s.dev w .MED_CTRL c.val → (m.rebuild.isSome = true ∨ diesOf m ≤ 12) →
    Does (.retireDie w c die) s (setMed (asked s.dev w .MED_CTRL c.val 0) c.val { m with rejected := true }))

/-! ### The DRAM tier (spec/10_dram_tier.md) -/

/-- A channel: a stack fault fails it; the patrol reads its next line and a poisoned one is skipped; a row-disturbance window ends with empty trackers; a throttled access goes on; the channels wake
from self-refresh. -/
def Sys2Proof.Claims.DramChannel : Prop :=
  (∀ (s : State) (c : CellNo), Does (.hbmStackFault c) s (failChannel s.dev c.val 4)) ∧
  (∀ (s : State) (c : CellNo) (what : T1Content) (k i : Nat), let h := getHbm s.dev c.val
    let d0 := reach s.dev h.scrubNext
    let d := setHbm d0 c.val { h with scrubPos := (h.scrubPos + 128) % 2 ^ 31, scrubNext := h.scrubNext + scrubStep d0 c.val }
    h.st = .online → pageAtT1 d c.val h.scrubPos = some (k, i) → poisoned d (k * 128 + i) = true → Does (.hbmScrubRead c ([], []) what) s d) ∧
  (∀ (s : State) (c : CellNo) (what : T1Content) (l : List (Fin 72) × List (Fin 72)), let h := getHbm s.dev c.val
    let d0 := reach s.dev h.scrubNext
    let d := setHbm d0 c.val { h with scrubPos := (h.scrubPos + 128) % 2 ^ 31, scrubNext := h.scrubNext + scrubStep d0 c.val }
    h.st = .online → pageAtT1 d c.val h.scrubPos = none → stagedPoison d c.val h.scrubPos = false →
    Does (.hbmScrubRead c l what) s (patrolRead d c.val h.scrubPos (l.1.map (·.val), l.2.map (·.val)) what)) ∧
  (∀ (s : State) (c : CellNo) (what : T1Content) (l : List (Fin 72) × List (Fin 72)), (getHbm s.dev c.val).st ≠ .online → DoesNothing (.hbmScrubRead c l what) s) ∧
  (∀ (s : State) (c : CellNo), let h := getHbm s.dev c.val
    let d := reach s.dev h.windowEnd
    Does (.rowDisturbWindowEnd c) s
      (pump (requeue (setHbm d c.val { h with trk := [], throttles := [], windowEnd := d.now + ms 32 }) fun _ p => p.cell == c.val && (match p.st with
        | .waitThrottle _ => true
        | _ => false)))) ∧
  (∀ (s : State) (c : CellNo) (r : Req) (p : Part) (t : Nat), let d := reach s.dev t
    s.dev.reqs = [r] → r.parts = [p] → p.cell = c.val → p.st = .waitThrottle t →
    Does (.throttleIntervalEnd c) s (pump { d with reqs := [{ r with parts := [{ p with st := .queued }] }] })) ∧
  (∀ (s : State), let wake (h : Hbm) : Hbm := if h.st = .selfRefresh then { h with st := .online, trk := [], throttles := [], scrubNext := max h.scrubNext s.dev.now } else h
    Does (.selfRefreshExit []) s (pump { s.dev with hbm := nmap s.dev.hbm wake }))

/-- The temperature of a stack decides the refresh rate of its channels: above the limit, or unreadable, it doubles. -/
def Sys2Proof.Claims.StackTemperature : Prop :=
  (∀ (s : State) (stack : Fin 8) (t : BitVec 8), ∃ e, Does (.stackTemperatureRead stack (some t)) s e ∧
    ∀ c, c / 32 = stack.val → (getHbm e c).temp = t.toNat ∧ (getHbm e c).tempBad = false ∧ (hotC s.dev c < t.toNat → (getHbm e c).refresh2x = true)) ∧
  (∀ (s : State) (stack : Fin 8) (t : BitVec 8), ∃ e, Does (.stackTemperatureRead stack (some t)) s e ∧ e.mem = s.dev.mem ∧ e.reqs = s.dev.reqs ∧ e.flt = s.dev.flt ∧ e.log = s.dev.log ∧
    ∀ c, c / 32 ≠ stack.val → getHbm e c = getHbm s.dev c)

/-- Retirement of 4 KiB frames: outside the page area at once, in it by a move; frames of the T1 layout refuse; a release, a query, and the bounds of the argument. -/
def Sys2Proof.Claims.FrameRetirement : Prop :=
  (∀ (s : State) (w : Writer) (c : CellNo), let d := hbmAsked s.dev w c.val 1
    let f := retireTarget d c.val
    Accepts s.dev w .HBM_RETIRE_CMD c.val → (getHbm s.dev c.val).busy = false → f < 2 ^ 19 → t1Area d (f * 4096) = 2 → (getHbm d c.val).retired.length < 4096 →
    nget (getMed d c.val).cache ((f * 4096 - cacheBase) / 16384) = none →
    Does (.retireFrame w c) s (retireDone (retireEnter d c.val f (fbit (reg d .HBM_RETIRE_ARG c.val 0) 31)) c.val rOk)) ∧
  (∀ (s : State) (w : Writer) (c : CellNo) (mp : Nat) (ref : Bool), let d := hbmAsked s.dev w c.val 1
    let f := retireTarget d c.val
    let slot := (f * 4096 - cacheBase) / 16384
    Accepts s.dev w .HBM_RETIRE_CMD c.val → (getHbm s.dev c.val).busy = false → f < 2 ^ 19 → t1Area d (f * 4096) = 2 → cacheBase ≤ f * 4096 → (getHbm d c.val).retired.length < 4096 →
    nget (getMed d c.val).cache slot = some (mp, ref) → nhas (getMed d c.val).mapDirty mp = false →
    Does (.retireFrame w c) s
      (retireDone (retireEnter (setMed d c.val { getMed d c.val with cache := ndel (getMed d c.val).cache slot, mapDirty := ndel (getMed d c.val).mapDirty mp }) c.val f
        (fbit (reg d .HBM_RETIRE_ARG c.val 0) 31)) c.val rOk)) ∧
  (∀ (s : State) (w : Writer) (c : CellNo), let d := hbmAsked s.dev w c.val 1
    let f := retireTarget d c.val
    let p := fbit (reg d .HBM_RETIRE_ARG c.val 0) 31
    let e := setHbm d c.val { getHbm d c.val with busy := true, moving := some (f, p, d.now + ms 10) }
    Accepts s.dev w .HBM_RETIRE_CMD c.val → (getHbm s.dev c.val).busy = false → f < 2 ^ 19 → t1Area d (f * 4096) = 3 → (getHbm d c.val).retired.length < 4096 →
    stagedAt d c.val ((f * 4096 - stagingBase) / 16384) = none →
    Does (.retireFrame w c) s (retireDone (retireEnter e c.val f p) c.val rOk)) ∧
  (∀ (s : State) (w : Writer) (c : CellNo), let d := hbmAsked s.dev w c.val 1
    let f := retireTarget d c.val
    Accepts s.dev w .HBM_RETIRE_CMD c.val → (getHbm s.dev c.val).busy = false → f < 2 ^ 19 → t1Area d (f * 4096) ≤ 1 → Does (.retireFrame w c) s (retireDone d c.val rRefused)) ∧
  (∀ (s : State) (w : Writer) (c : CellNo), let d := hbmAsked s.dev w c.val 2
    let f := retireTarget d c.val
    let h := getHbm d c.val
    Accepts s.dev w .HBM_RETIRE_CMD c.val → h.busy = false → f < 2 ^ 19 → nhas h.retired f = true →
    ∃ e, Does (.releaseFrame w c) s (retireDone e c.val rOk) ∧ (getHbm e c.val).retired = ndel h.retired f) ∧
  (∀ (s : State) (w : Writer) (c : CellNo), let d := hbmAsked s.dev w c.val 3
    let f := retireTarget d c.val
    Accepts s.dev w .HBM_RETIRE_CMD c.val → (getHbm s.dev c.val).busy = false →
    Does (.queryFrame w c) s (retireDone d c.val (if 2 ^ 19 ≤ f then rBadArg else if nhas (getHbm s.dev c.val).retired f then rOk else rNotFound))) ∧
  (∀ (s : State) (w : Writer) (c : CellNo) (op : Fin 16), reservedOp 5 op = true → Accepts s.dev w .HBM_RETIRE_CMD c.val → (getHbm s.dev c.val).busy = false →
    Does (.retireCmdReserved w c op) s (retireDone (hbmAsked s.dev w c.val op.val) c.val rBadArg)) ∧
  (∀ (s : State) (w : Writer) (c : CellNo), Accepts s.dev w .HBM_RETIRE_CMD c.val → (getHbm s.dev c.val).busy = true →
    Does (.queryFrame w c) s (setHbm (asked s.dev w .HBM_RETIRE_CMD c.val 0) c.val { getHbm s.dev c.val with overrun := true })) ∧
  (∀ (s : State) (c : CellNo) (f t : Nat) (b : Bool), (getHbm s.dev c.val).moving = some (f, b, t) → Does (.frameMoveTimeout c) s (retireDone (reach s.dev t) c.val rBusy))

/-- Row repair, the firmware's policy, and the table of correctable errors. -/
def Sys2Proof.Claims.RowRepairAndErrors : Prop :=
  (∀ (s : State) (w : Writer) (c : CellNo), let d := hbmAsked s.dev w c.val 4
    let h := getHbm d c.val
    let x := (retireTarget d c.val / 2 ^ 15, retireTarget d c.val % 2 ^ 15)
    Accepts s.dev w .HBM_RETIRE_CMD c.val → (getHbm s.dev c.val).busy = false → h.ppr.contains x = false → h.ppr.length < 64 →
    Does (.pprRow w c) s
      (if Config.spareRows ≤ ngetD h.spares x.1 0 then retireDone d c.val rNoSpare else retireDone (setHbm d c.val { h with ppr := h.ppr ++ [x] }) c.val rOk)) ∧
  (∀ (s : State) (w : Writer) (c : CellNo), let d := hbmAsked s.dev w c.val 5
    let h := getHbm d c.val
    let x := (retireTarget d c.val / 2 ^ 15, retireTarget d c.val % 2 ^ 15)
    Accepts s.dev w .HBM_RETIRE_CMD c.val → (getHbm s.dev c.val).busy = false → h.ppr.contains x = true →
    Does (.cancelPpr w c) s (retireDone (setHbm d c.val { h with ppr := h.ppr.filter (· != x) }) c.val rOk)) ∧
  (∀ (s : State) (c : CellNo) (f : BitVec 22), let d := setHbm s.dev c.val { getHbm s.dev c.val with lastOp := 1, byPolicy := true }
    fbit (reg s.dev .HBM_POLICY_CFG c.val 0) 31 = true → policyQualifies s.dev c.val f.toNat = true → (getHbm s.dev c.val).busy = false → nhas (getHbm s.dev c.val).retired f.toNat = false →
    fbit (reg s.dev .HBM_POLICY_CFG c.val 0) 29 = false → f.toNat < 2 ^ 19 → t1Area d (f.toNat * 4096) = 2 → (getHbm s.dev c.val).retired.length < 4096 →
    nget (getMed d c.val).cache ((f.toNat * 4096 - cacheBase) / 16384) = none →
    Does (.policyRetireDecision c f) s (logEvent (retireDone (retireEnter d c.val f.toNat true) c.val rOk) 1 (uHbm c.val) [f.toNat])) ∧
  (∀ (s : State) (w : Writer) (c : CellNo), let d := asked s.dev w .HBM_CE_CLEAR c.val 0
    Accepts s.dev w .HBM_CE_CLEAR c.val → Does (.ceClearAll w c) s (setHbm d c.val { getHbm d c.val with ce := [] })) ∧
  (∀ (s : State) (w : Writer) (c : CellNo) (i : Fin 32), let d := asked s.dev w .HBM_CE_CLEAR c.val 0
    Accepts s.dev w .HBM_CE_CLEAR c.val → Does (.ceClearOne w c i) s (setHbm d c.val { getHbm d c.val with ce := ndel (getHbm d c.val).ce i.val }))

/-! ### Mirror traffic (spec/04_olisar_transport.md, spec/11_pair_custody.md) -/

/-- A mirror frame on a READY mirror connection of a TWIN port joins that connection's requests; a DORMANT device wakes by it. The immediate of a write with immediate names a compare marker, a commit marker or a
promotion hint; any other is an invalid request. -/
def Sys2Proof.Claims.MirrorFrames : Prop :=
  (∀ (s : State) (p : Pkt) (a : ChmAddr) (data : List Byte) (copy : Bool), let b : ReqBody := .mirrorWrite a data copy
    let d := frameHeard s.dev p b
    let k := connOf p
    Enters s.dev (.req p b) → portRole s.dev p.port = 2 → data ≠ [] → Expected d p .write true → (getConn d k).service = .mirror →
    Does (.mirrorWrite p a data copy) s
      (twinWake (wholeDone (takeMirror (taken d p) p k (if copy then .copy else .mirrorWrite) a.chamber.toNat a.off.toNat data.length data 0 false)))) ∧
  (∀ (s : State) (p : Pkt) (imm : BitVec 32) (a : ChmAddr) (data : List Byte), let b : ReqBody := .mirrorImm imm a data
    let d := frameHeard s.dev p b
    let e := takeMirror (taken d p) p (connOf p) .marker a.chamber.toNat (a.off.toNat / 16384 * 16384) 8 data (leNat data) false
    Enters s.dev (.req p b) → portRole s.dev p.port = 2 → imm.toNat = 1 → data.length = 8 → Expected d p .writeImm true → (getConn d (connOf p)).service = .mirror →
    Does (.compareMarker p imm a data) s (twinWake e)) ∧
  (∀ (s : State) (p : Pkt) (imm : BitVec 32) (a : ChmAddr), let b : ReqBody := .mirrorImm imm a []
    let d := frameHeard s.dev p b
    let e := takeMirror (taken d p) p (connOf p) .commitMark a.chamber.toNat (a.off.toNat / 16384 * 16384) 8 [] 0 false
    Enters s.dev (.req p b) → portRole s.dev p.port = 2 → imm.toNat = 2 → Expected d p .writeImm false → (getConn d (connOf p)).service = .mirror →
    Does (.commitMarker p imm ⟨a, []⟩) s (twinWake e)) ∧
  (∀ (s : State) (p : Pkt) (imm : BitVec 32) (a : ChmAddr), let b : ReqBody := .mirrorImm imm a []
    let d := frameHeard s.dev p b
    let k := pageKey a.chamber.toNat (a.off.toNat / 16384)
    let e := takeMirror (taken d p) p (connOf p) .commitMark a.chamber.toNat (a.off.toNat / 16384 * 16384) 0 [] 0 false
    Enters s.dev (.req p b) → portRole s.dev p.port = 2 → imm.toNat = 3 → Expected d p .writeImm false → (getConn d (connOf p)).service = .mirror →
    (∃ n raw slot loc, nget e.tier.map k = some (.stored n raw slot loc)) → getFrame e k = none → e.nextReq ≠ d.nextReq →
    Does (.promotionHint p imm ⟨a, []⟩) s (twinWake (startPromo e k .hint).1)) ∧
  (∀ (s : State) (p : Pkt) (imm : BitVec 32) (a : ChmAddr) (data : List Byte), let b : ReqBody := .mirrorImm imm a data
    let d := frameHeard s.dev p b
    let e := twinWake (fatalNak (taken d p) (connOf p) ⟨p.psn.toNat, some a.chamber.toNat, p.oxh.any (·.persist)⟩ synInvalid)
    Enters s.dev (.req p b) → portRole s.dev p.port = 2 → (imm.toNat = 0 ∨ 3 < imm.toNat) → Expected d p .writeImm (data != []) → (getConn d (connOf p)).service = .mirror →
    Does (.compareMarker p imm a data) s e ∧ Does (.commitMarker p imm ⟨a, data⟩) s e ∧ Does (.promotionHint p imm ⟨a, data⟩) s e) ∧
  (∀ (s : State) (p : Pkt) (ch : BitVec 16) (page : BitVec 36) (i : Fin 128), let b : ReqBody := .repair ch page (some i)
    let d := frameHeard s.dev p b
    Enters s.dev (.req p b) → portRole s.dev p.port = 2 → Expected d p .read false → (getConn d (connOf p)).service = .mirror →
    Does (.lineRepairRequest p ch page (some i)) s
      (twinWake (takeMirror (taken d p) p (connOf p) .read ch.toNat (page.toNat * 16384 + i.val * 128) 128 [] 0 false))) ∧
  (∀ (s : State) (p : Pkt) (ch : BitVec 16) (page : BitVec 36), let b : ReqBody := .repair ch page none
    let d := frameHeard s.dev p b
    Enters s.dev (.req p b) → portRole s.dev p.port = 2 → Expected d p .read false → (getConn d (connOf p)).service = .mirror →
    let x := takeMirror (taken d p) p (connOf p) .read ch.toNat (page.toNat * 16384) 16384 [] 0 false
    Does (.lineRepairRequest p ch page none) s (twinWake (if x.nextReq ≠ d.nextReq then takeBack x (pageKey ch.toNat page.toNat) else x)))

/-- A mirror write under this device's claim, above the last one applied, to a chamber that the twin holds is issued; one applied before is acknowledged without effect; an older claim is refused
NOT_CUSTODIAN and counted; one that finds no buffer is discarded and counted at its port. -/
def Sys2Proof.Claims.MirrorAdmission : Prop :=
  (∀ (d : Dev) (p : Pkt) (k chamber off : Nat) (data : List Byte) (y : Dev × Nat), let c := getConn d k
    let pkts := packetsOf data.length c.pmtu
    let d1 := modConn y.1 k fun c => advanceTo c (psnMod (p.psn.toNat + pkts))
    let ts := (p.oxh.map fun y => y.timestamp).getD 0
    let claim := (p.oxh.map fun y => y.claim).getD 0
    let r : Req :=
      { id := d1.nextReq, conn := k, psn := p.psn.toNat, pkts := pkts, kind := .mirrorWrite, ackReq := p.ackReq, persist := p.oxh.any (·.persist), keyIdx := 0, va := 0, chamber := chamber, off := off,
        len := data.length, data := data, mark := msgMarks (chmAddr chamber off) data.length c.pmtu p.pmh, arg := (claim, 0), errs := [], hold := p.oxh.any (·.hold), stage := .issued, parts := [],
        at_ := d1.now, ts := ts, buf := some y.2, dup := false }
    let d2 := addReq (if p.oxh.any (·.hold) then bump d1 .TIME_CNT 0 4 else d1) r
    y.1.reqs = [] → takeBufs d (connCell k) (messageBytes p data.length c.pmtu) (0x400 + (connIdx k - 1)) false = some y → nhas y.1.chm.chambers chamber = true →
    (ngetD y.1.cus.appliedTs (homeCell chamber (off / 16384)) 0 < ts → nhas y.1.cus.dropPages (pageKey chamber (off / 16384)) = false →
      mirrorGate d2 r = .open_ → takeMirror d p k .mirrorWrite chamber off data.length data 0 false = pump (setReq d2 { r with parts := makeParts d2 r })) ∧
    (ts ≤ ngetD y.1.cus.appliedTs (homeCell chamber (off / 16384)) 0 →
      takeMirror d p k .mirrorWrite chamber off data.length data 0 false = pump (setReq d2 { r with stage := .over stOk })) ∧
    (ngetD y.1.cus.appliedTs (homeCell chamber (off / 16384)) 0 < ts → nhas y.1.cus.dropPages (pageKey chamber (off / 16384)) = false →
      claim < y.1.cus.pairClaim → takeMirror d p k .mirrorWrite chamber off data.length data 0 false = pump (refuseMirror d2 r))) ∧
  (∀ (d : Dev) (p : Pkt) (k chamber off : Nat) (data : List Byte),
    takeBufs d (connCell k) (messageBytes p data.length (getConn d k).pmtu) (0x400 + (connIdx k - 1)) false = none →
    takeMirror d p k .mirrorWrite chamber off data.length data 0 false = bump d .PORT_CNG_CNT p.port.val 6)

/-- Responses to the device's own requests: an acknowledgement, a NAK, a status, a congestion notification, the acknowledgements of the twin and the answer to a repair. -/
def Obligations.Responses : Prop :=
  (∀ (s : State) (h : RspPkt) (k : ConnNo) (psn : BitVec 24) (credit : BitVec 5), let d := answerHeard s.dev h (.ack k psn)
    Enters s.dev (.rsp h (.ack k psn)) → RspPasses d h k.val → isDown d = false → Does (.acknowledge h k psn credit) s (ackUpTo d k.val psn.toNat (.ack (rspHops d h)))) ∧
  (∀ (s : State) (h : RspPkt) (k : ConnNo) (psn : BitVec 24), let d := answerHeard s.dev h (.nak k 0x60 psn)
    Enters s.dev (.rsp h (.nak k 0x60 psn)) → RspPasses d h k.val → isDown d = false → (getConn d k.val).state = .ready → Does (.nakReceived h k 0x60 psn) s (nakClaim (seqNak d k.val psn.toNat) k.val (rspClaim h))) ∧
  (∀ (s : State) (h : RspPkt) (k : ConnNo) (syn : BitVec 8) (psn : BitVec 24), let d := answerHeard s.dev h (.nak k syn psn)
    Enters s.dev (.rsp h (.nak k syn psn)) → RspPasses d h k.val → isDown d = false → (getConn d k.val).state = .ready → 0x61 ≤ syn.toNat → Does (.nakReceived h k syn psn) s (nakClaim (connError d k.val) k.val (rspClaim h))) ∧
  (∀ (s : State) (h : RspPkt) (k : ConnNo) (psn : BitVec 24) (detail : BitVec 16) (st : BitVec 8), let d := answerHeard s.dev h (.statusNak k psn st detail)
    Enters s.dev (.rsp h (.statusNak k psn st detail)) → RspPasses d h k.val → isDown d = false → (getConn d k.val).state = .ready → st.toNat = stBusy →
    Does (.statusNakReceived h k psn st detail) s
      (nakClaim (rnrWait (ackUpTo d k.val (psnMod (psn.toNat + 2 ^ 24 - 1)) .nak) k.val (detail.toNat * 10000)) k.val (rspClaim h))) ∧
  (∀ (s : State) (h : RspPkt), let d := entered s.dev (.rsp h .cnp)
    Enters s.dev (.rsp h .cnp) → isDown d = false → Does (.congestionNotificationPacket h) s (bump d .PORT_CNG_CNT h.port.val 5)) ∧
  (∀ (s : State) (h : RspPkt) (k : ConnNo) (psn : BitVec 24) (credit : BitVec 5) (msn : BitVec 24), let d := answerHeard s.dev h (.mirrorAck k psn)
    let e := ackUpTo d k.val psn.toNat (.ack (rspHops d h))
    Enters s.dev (.rsp h (.mirrorAck k psn)) → RspPasses d h k.val → isDown d = false → (getConn d k.val).service = .mirror →
    Does (.mirrorAcknowledge h k psn credit msn) s (custodyTurn (claimSeen e (twinOrd d) (rspClaim h)))) ∧
  (∀ (s : State) (h : RspPkt) (k : ConnNo) (psn : BitVec 24) (credit : BitVec 5) (msn : BitVec 24), let d := answerHeard s.dev h (.copyAck k psn)
    let e := ackUpTo d k.val psn.toNat (.ack (rspHops d h))
    Enters s.dev (.rsp h (.copyAck k psn)) → RspPasses d h k.val → isDown d = false → (getConn d k.val).service = .mirror →
    Does (.resyncCopyAck h k psn credit msn) s (custodyTurn (claimSeen e (twinOrd d) (rspClaim h)))) ∧
  (∀ (s : State) (h : RspPkt) (k : ConnNo) (psn : BitVec 24) (data : List Byte) (pmh : List (Option (BitVec 64))) (x : Sent) (n page i : Nat), let d := answerHeard s.dev h (.repairAns k psn data pmh)
    let e := ackUpTo d k.val (psnMod (x.psn + x.pkts + 2 ^ 24 - 1)) .data
    let l := pageKey n page * 128 + i
    Enters s.dev (.rsp h (.repairAns k psn data pmh)) → RspPasses d h k.val → isDown d = false → (getConn d k.val).sent = [x] → x.left = true → x.psn = psn.toNat → x.kind = .repair n page i →
    Does (.lineRepairAnswer h k psn data pmh) s (pump (compareAgain (applyRepair e l (some data) (msgMarks (lineAddr l) data.length (getConn d k.val).pmtu pmh != [])) (l / 128))))

/-! ### Custody (spec/11_pair_custody.md) -/

/-- Heartbeats, their acknowledgements, STATUS, suspicion and the lease. -/
def Sys2Proof.Claims.HeartbeatsAndLease : Prop :=
  (∀ (s : State), let d := reach s.dev s.dev.cus.nextBeat
    custodyOn s.dev = true → (∀ b ∈ beatPeers s.dev, pathsTo s.dev b.1 = []) → Does .heartbeatTimer s (selfDiagnose { d with cus.nextBeat := d.now + hbNs d })) ∧
  (∀ (s : State) (v : CtrlVia) (o : Ordinal) (claim : BitVec 48) (t : BitVec 64), Hears s.dev v → custodyOn (ctrlOf s.dev v) = true → isPeer (ctrlOf s.dev v) o.val = true → nget (ctrlOf s.dev v).watch (o.val / 2) = none →
    Does (.heartbeat v o claim t) s (custodyTurn (claimSeen (heard (sendClaimed (ctrlOf s.dev v) msgBeatAck v.port.val (ctrlOf s.dev v).cus.pairClaim [o.val, t.toNat]) o.val) o.val claim.toNat))) ∧
  (∀ (s : State) (v : CtrlVia) (o : Ordinal) (claim : BitVec 48) (t : BitVec 64), let d := heard (ctrlOf s.dev v) o.val
    let e := max d.cus.leaseEnd (min t.toNat d.now + leaseNs d)
    Hears s.dev v → custodyOn (ctrlOf s.dev v) = true → o.val = twinOrd (ctrlOf s.dev v) → claim.toNat = (ctrlOf s.dev v).cus.pairClaim → (ctrlOf s.dev v).cus.witness.isSome = true →
    Does (.heartbeatAcknowledge ⟨v, o⟩ claim t) s (custodyTurn { d with cus.leaseEnd := e, cus.leaseLive := d.cus.leaseLive || decide (d.now < e) })) ∧
  (∀ (s : State) (o : Ordinal), custodyOn s.dev = true → o.val = twinOrd s.dev → s.dev.cus.twinSuspect = false →
    Does (.peerSuspicion o) s (suspectTwin (reach s.dev (s.dev.cus.heardTwin + suspectNs s.dev)))) ∧
  (∀ (s : State), custodyOn s.dev = true → Does .statusTimer s (selfDiagnose (sendStatusMsg (reach s.dev s.dev.cus.nextStatus)))) ∧
  (∀ (s : State), let d := reach s.dev s.dev.cus.leaseEnd
    s.dev.cus.leaseLive = true → Does .leaseExpiry s (bump { d with cus.leaseLive := false } .CUS_CNT 0 2))

/-- What waits for custody: a host's request that has waited STALL_MS completes UNAVAILABLE; a frame of the twin held for 1 ms without the record is refused; a formation without an outcome ends. -/
def Sys2Proof.Claims.CustodyWaits : Prop :=
  (∀ (s : State) (r : Req) (t : Nat), let d := reach s.dev t
    s.dev.reqs = [r] → fromTwin r.kind = false → r.bulk = none → r.stage = .waitCustody t → r.parts = [] →
    Does .custodyWaitExpiry s (pump { failReq d r true 2 stUnavailable with reqs := [{ r with stage := .over stUnavailable }] })) ∧
  (∀ (s : State) (r : Req) (t : Nat), let d := reach s.dev t
    s.dev.reqs = [r] → fromTwin r.kind = true → r.stage = .waitCustody t → Does .claimLearnTimeout s (pump (refuseMirror d r))) ∧
  (∀ (s : State), let d := reach s.dev (s.dev.cus.formStart + sec (max 10 (hfld s.dev .CUS_CFG 7 0)))
    let e := if !d.cus.twinSuspect && due d (d.cus.heardTwin + suspectNs d) then suspectTwin d else d
    custodyOn s.dev = true → s.dev.cus.settled = false →
    Does .coldStartExpiry s (custodyTurn { e with cus.coldOver := true, cus.settled := e.cus.witness.isNone && !e.cus.witnessBad }))

/-- The witness: a TAKEOVER of a suspected twin, a FAILBACK, a RECLAIM and a JOIN of a fitting record are granted, and the record rises by one claim; a TAKEOVER of a twin that lives is held; a
kind that does not belong there is answered BAD_KIND; a hold and a yield flag end in their time. -/
def Sys2Proof.Claims.WitnessGrants : Prop :=
  (∀ (s : State) (v : CtrlVia) (m : ClaimReq) (w : Watch), let o := m.requester.val
    Hears s.dev v → Watched (ctrlOf s.dev v) m 1 w → w.stale ≠ staleCode o → heldByOther w o = none → takeoverOk (ctrlOf s.dev v) w o = true →
    Does (.takeover ⟨v, m⟩) s (examineHeld (grantReq (ctrlOf s.dev v) { w with held := none } 1 0 0 o m.number.toNat) (o / 2))) ∧
  (∀ (s : State) (v : CtrlVia) (m : ClaimReq) (w : Watch) (h : HeldTakeover), let o := m.requester.val
    let e := grantReq (ctrlOf s.dev v) { w with held := none } 1 0 0 h.requester h.number
    Hears s.dev v → Watched (ctrlOf s.dev v) m 1 w → w.stale ≠ staleCode o → w.held = some h → h.requester ≠ o →
    Does (.takeover ⟨v, m⟩) s (examineHeld (answerReq e (ngetD e.watch w.pair w) o 1 m.number.toNat 1) (o / 2))) ∧
  (∀ (s : State) (v : CtrlVia) (m : ClaimReq) (w : Watch), let o := m.requester.val
    Hears s.dev v → Watched (ctrlOf s.dev v) m 1 w → w.stale ≠ staleCode o → takeoverOk (ctrlOf s.dev v) w o = false → w.held = none →
    Does (.takeover ⟨v, m⟩) s (examineHeld (setWatch (ctrlOf s.dev v) { w with held := some ⟨o, m.number.toNat, (ctrlOf s.dev v).now, m.cSeen.toNat⟩ }) (o / 2))) ∧
  (∀ (s : State) (v : CtrlVia) (m : ClaimReq) (w : Watch), let o := m.requester.val
    let w' := dropOwnHeld w o
    Hears s.dev v → Watched (ctrlOf s.dev v) m 2 w → w.stale ≠ staleCode o → w.solo = false →
    Does (.failback ⟨v, m⟩) s (examineHeld (grantReq (setWatch (ctrlOf s.dev v) w') w' 2 m.scope.toNat m.chamber.toNat o m.number.toNat) (o / 2))) ∧
  (∀ (s : State) (v : CtrlVia) (m : ClaimReq) (w : Watch), let o := m.requester.val
    let w' := dropOwnHeld w o
    Hears s.dev v → Watched (ctrlOf s.dev v) m 3 w → w.solo = false →
    Does (.reclaim ⟨v, m⟩) s (examineHeld (grantReq (setWatch (ctrlOf s.dev v) w') w' 3 m.scope.toNat m.chamber.toNat o m.number.toNat) (o / 2))) ∧
  (∀ (s : State) (v : CtrlVia) (m : ClaimReq) (w : Watch), let o := m.requester.val
    let w' := dropOwnHeld w o
    Hears s.dev v → Watched (ctrlOf s.dev v) m 4 w → w.stale ≠ staleCode o → w.solo = true →
    Does (.join ⟨v, m⟩) s (examineHeld (grantReq (setWatch (ctrlOf s.dev v) w') w' 4 m.scope.toNat m.chamber.toNat o m.number.toNat) (o / 2))) ∧
  (∀ (s : State) (v : CtrlVia) (m : ClaimReq) (w : Watch), let o := m.requester.val
    let w' := dropOwnHeld w o
    Hears s.dev v → Watched (ctrlOf s.dev v) m 6 w → Does (.query ⟨v, m⟩) s (examineHeld (answerReq (setWatch (ctrlOf s.dev v) w') w' o 6 m.number.toNat 0) (o / 2))) ∧
  (∀ (s : State) (v : CtrlVia) (m : ClaimReq) (w : Watch), let o := m.requester.val
    let w' := dropOwnHeld w o
    let w2 := if o % 2 = 0 then { w' with yieldEven := some (ctrlOf s.dev v).now } else { w' with yieldOdd := some (ctrlOf s.dev v).now }
    Hears s.dev v → Watched (ctrlOf s.dev v) m 5 w → Does (.yield ⟨v, m⟩) s (examineHeld (answerReq (setWatch (ctrlOf s.dev v) w2) w2 o 5 m.number.toNat 0) (o / 2))) ∧
  (∀ (s : State) (v : CtrlVia) (m : ClaimReq) (w : Watch) (k : Fin 16), let o := m.requester.val
    Hears s.dev v → Watched (ctrlOf s.dev v) m k.val w → Does (.claimReservedKind ⟨v, m⟩ k) s (answerReq (ctrlOf s.dev v) w o k.val m.number.toNat 6)) ∧
  (∀ (s : State) (pair : BitVec 13) (w : Watch) (h : HeldTakeover), let d := reach s.dev (h.since + ms 2)
    nget s.dev.watch pair.toNat = some w → w.held = some h → h.cSeen = w.cw → takeoverOk d w h.requester = false →
    Does (.takeoverHoldExpiry pair) s (answerReq (setWatch d { w with held := none }) w h.requester 1 h.number 3)) ∧
  (∀ (s : State) (pair : BitVec 13) (w : Watch) (t : Nat), let d := reach s.dev (t + ms 10)
    nget s.dev.watch pair.toNat = some w → w.yieldEven = some t → w.yieldOdd = none → Does (.witnessYieldFlagExpiry pair) s (setWatch d { w with yieldEven := none }))

/-- Each grant raises the record's claim by exactly one and names the grantee; a TAKEOVER makes the record Solo with the other twin stale, and only a JOIN ends that. -/
def Sys2Proof.Claims.GrantsRaiseTheClaim : Prop :=
  ∀ (d : Dev) (w : Watch) (kind scope chamber o number : Nat), let e := grantReq d w kind scope chamber o number
    ∃ x, nget e.watch w.pair = some x ∧ x.cw = w.cw + 1 ∧ x.last = ⟨kind, scope, chamber, o, number⟩ ∧ x.held = w.held ∧
      (kind = 1 → x.solo = true ∧ x.stale = staleCode (otherOf o)) ∧ (kind = 4 → x.solo = false ∧ x.stale = 0) ∧ (kind ≠ 1 → kind ≠ 4 → x.solo = w.solo ∧ x.stale = w.stale) ∧
      e.cus = d.cus ∧ e.chm = d.chm ∧ e.mem = d.mem ∧ (∀ q, q ≠ w.pair → nget e.watch q = nget d.watch q)

/-- A device with a claim outstanding: the grant it asked for takes effect, a TAKEOVER after LEASE; an answer shows the record; a request without an answer is sent again; a yield lapses; a yield or a
drain of the twin and its STATUS are taken. -/
def Sys2Proof.Claims.ClaimsOutstanding : Prop :=
  (∀ (s : State) (v : CtrlVia) (m : ClaimAns) (o : ClaimOut), let c := m.claim.toNat
    let d := bump (ctrlOf s.dev v) .CUS_CNT 0 4
    Hears s.dev v → custodyOn (ctrlOf s.dev v) = true → ansOk (ctrlOf s.dev v) m = true → (ctrlOf s.dev v).cus.out = some o → o.number = m.number.toNat → kindCode o.kind = m.kind.toNat →
    (ctrlOf s.dev v).cus.pairClaim < c → o.kind = .takeover →
    Does (.claimGrant ⟨v, m⟩) s { d with cus.pairClaim := c, cus.ownClaim := c, cus.out := none, cus.takeover := some ⟨c, d.now + leaseNs d⟩ }) ∧
  (∀ (s : State) (v : CtrlVia) (m : ClaimAns), Hears s.dev v → custodyOn (ctrlOf s.dev v) = true → ansOk (ctrlOf s.dev v) m = false → Does (.claimGrant ⟨v, m⟩) s (bump (ctrlOf s.dev v) .CUS_CNT 0 8)) ∧
  (∀ (s : State) (v : CtrlVia) (m : ClaimAns) (o : ClaimOut), let d := bump (ctrlOf s.dev v) .CUS_CNT 0 5
    Hears s.dev v → custodyOn (ctrlOf s.dev v) = true → ansOk (ctrlOf s.dev v) m = true → m.kind ≠ 7 → (ctrlOf s.dev v).cus.out = some o → o.number = m.number.toNat → o.kind = .query →
    m.claim.toNat = (ctrlOf s.dev v).cus.pairClaim →
    Does (.claimAnswer ⟨v, m⟩) s (custodyTurn (recordLearned { d with cus.out := none, cus.halted := none }))) ∧
  (∀ (s : State) (t : TakeoverWait), s.dev.cus.takeover = some t → Does .takeoverLeaseWaitEnd s (applyGrant (reach s.dev t.applyAt) 1 0 0 t.claim (ordinal s.dev))) ∧
  (∀ (s : State) (o : ClaimOut) (w : Nat), let d := reach s.dev o.next
    s.dev.cus.out = some o → s.dev.cus.witness = some w → causePersists d o.kind = true → o.answered = false →
    Does .claimRequestResend s (putClaim { d with cus.out := some { o with next := d.now + ms 1 } } w (kindCode o.kind) o.scope o.chamber o.number)) ∧
  (∀ (s : State) (t : Nat), let d := reach s.dev (t + ms 10)
    s.dev.cus.yieldedAt = some t → s.dev.cus.out = none → Does .yieldLapse s (custodyTurn (sendStatusMsg { d with cus.yieldedAt := none }))) ∧
  (∀ (s : State) (v : CtrlVia) (m : ClaimReq), let d := ctrlOf s.dev v
    let e := claimSeen d m.requester.val m.cSeen.toNat
    Hears s.dev v → isDown d = false → reqTagOk d m 5 = true → m.requester.val = twinOrd d → standalone d = false → nget d.watch (m.requester.val / 2) = none →
    Does (.yield ⟨v, m⟩) s (custodyTurn { e with cus.twinYield := some e.now })) ∧
  (∀ (s : State) (v : CtrlVia) (m : ClaimReq), let d := ctrlOf s.dev v
    let e := claimSeen d m.requester.val m.cSeen.toNat
    Hears s.dev v → isDown d = false → reqTagOk d m 7 = true → m.requester.val = twinOrd d → standalone d = false → nget d.watch (m.requester.val / 2) = none → e.cus.witness.isSome = true →
    Does (.drain ⟨v, m⟩) s { e with cus.drain := some ⟨m.scope.toNat, m.chamber.toNat, some m.number.toNat, e.now, none⟩ }) ∧
  (∀ (s : State) (v : CtrlVia) (m : StatusAns) (named : Option Ordinal), let d : Dev := { (ctrlOf s.dev v) with cus.twin := some (statusOf m) }
    Hears s.dev v → custodyOn (ctrlOf s.dev v) = true → statusTagOk (ctrlOf s.dev v) m = true → m.pair.toNat = m.sender.val / 2 → m.sender.val = twinOrd (ctrlOf s.dev v) → standalone (ctrlOf s.dev v) = false → (ctrlOf s.dev v).cus.settled = true →
    Does (.claimStatus ⟨v, m⟩ named) s (custodyTurn (wholeDone (claimSeen (twinForms d (ctrlOf s.dev v).cus.twin (statusOf m)) (twinOrd d) (statusOf m).claim))))

/-- Drains, failbacks, resync and compare passes. -/
def Sys2Proof.Claims.DrainsAndResync : Prop :=
  (∀ (s : State) (x : Drain), s.dev.cus.drain = some x → x.reached = none → drainBusy s.dev x = false →
    Does .drainPointReached s (answerDrain { s.dev with cus.drain := some { x with reached := some s.dev.now } } (x.number.getD 0) 0)) ∧
  (∀ (s : State) (x : Drain), s.dev.cus.drain = some x → x.reached = none →
    Does .drainTimeout s (custodyTurn (endDrain (answerDrain (reach s.dev (x.began + ms (clampTo 1 50 (hfld s.dev .CUS_CFG2 23 16)))) (x.number.getD 0) 7)))) ∧
  (∀ (s : State) (x : Drain) (t : Nat), s.dev.cus.drain = some x → x.reached = some t → s.dev.cus.out = none →
    Does .reclaimTimer s (askWitness (reach s.dev (t + ms 5)) .reclaim x.scope x.chamber)) ∧
  (∀ (s : State), let n := hfld s.dev .CUS_CFG2 31 24
    n ≠ 0 → mayFailback s.dev = true → s.dev.cus.state = .joined → preferredAway s.dev = true → s.dev.cus.drainOut = none → s.dev.cus.failback = none →
    Does .failbackTimer s (sendDrain (reach s.dev (s.dev.cus.joinedSince + sec n)))) ∧
  (∀ (s : State) (w : Writer), let d := asked s.dev w .CUS_CTRL 0 0
    Accepts s.dev w .CUS_CTRL 0 → mayFailback d = true → Does (.failbackNow w) s (sendDrain d)) ∧
  (∀ (s : State) (w : Writer), let d := asked s.dev w .CUS_CTRL 0 0
    Accepts s.dev w .CUS_CTRL 0 → custodyOn d = true → d.cus.witness.isSome = true → Does (.handover w) s { d with cus.drain := some ⟨0, 0, none, d.now, none⟩ }) ∧
  (∀ (s : State) (w : Writer), let d := asked s.dev w .CUS_CTRL 0 0
    Accepts s.dev w .CUS_CTRL 0 → d.cus.witness = none → Does (.handover w) s d) ∧
  (∀ (s : State) (w : Writer), let d := asked s.dev w .CUS_CTRL 0 0
    Accepts s.dev w .CUS_CTRL 0 → custodyOn d = true → d.cus.state = .joined → Does (.compareNow w) s (compareStep { d with cus.comparing := some 0 })) ∧
  (∀ (s : State), let days := hfld s.dev .CUS_CFG2 7 0
    let d := reach s.dev s.dev.cus.nextCompare
    custodyOn s.dev = true → s.dev.cus.state = .joined → s.dev.cus.comparing = none → days ≠ 0 →
    Does .comparePassTimer s (compareStep { d with cus.comparing := some 0, cus.nextCompare := d.now + sec (days * 86400) })) ∧
  (∀ (s : State) (c : CellNo) (n : Fin 65536) (r : BitVec 22), let d := reach s.dev s.dev.cus.nextCopy
    custodyOn s.dev = true → s.dev.cus.state = .resync → absentPages d c.val n.val r.toNat = [] →
    Does (.resyncCopy c (some (n, r))) s (sendRegion d c.val n.val r.toNat)) ∧
  (∀ (s : State) (c : CellNo) (k : Nat), let d := reach s.dev s.dev.cus.nextCopy
    custodyOn s.dev = true → s.dev.cus.state = .resync → s.dev.cus.stale = false →
    (d.cus.marks.find? fun p => p.1 / 2 ^ 40 == c.val && !nhas d.cus.copying p.1) = some (k, 0) → absentPages d c.val (k / 2 ^ 22 % 2 ^ 16) (k % 2 ^ 22) = [] →
    Does (.resyncCopy c none) s (sendRegion d c.val (k / 2 ^ 22 % 2 ^ 16) (k % 2 ^ 22)))

/-! ### Time (spec/12_time_and_global_ops.md) -/

/-- IEEE 1588 messages: Sync on the slave port steers by state, Announce moves the root, Delay_Req is answered, Delay_Resp gives the path delay; a message of another domain is counted. -/
def Obligations.TimeMessages : Prop :=
  (∀ (s : State) (h : PtpHdr) (origin : BitVec 64), let x := ptpHeard s.dev h
    let d := x.1
    let off : Int := ((origin.toNat + ngetD d.tim.pathDelay h.port.val 0 : Nat) : Int) - fedTime d
    x.2 = true → d.tim.isRoot = false → d.tim.slave = some h.port.val → d.tim.st = .locked →
    Does (.sync h origin) s (steer { d with tim.syncT := nset d.tim.syncT h.port.val (origin.toNat, fedTime d), tim.lastSync := d.now } off)) ∧
  (∀ (s : State) (h : PtpHdr) (origin : BitVec 64), let x := ptpHeard s.dev h
    let d := x.1
    let target := origin.toNat + ngetD d.tim.pathDelay h.port.val 0
    x.2 = true → d.tim.isRoot = false → d.tim.slave = some h.port.val → d.tim.st = .freerun →
    ∃ e, Does (.sync h origin) s e ∧ e.tim.st = .locking ∧ e.tim.good = 0 ∧ e.tim.lastSync = e.now ∧ e.tim.offset = (target : Int) - d.now ∧ e.tim.everSet = true ∧
      e.free = d.free + 1 ∧ e.tim.uBase = freeVal d % 2 ^ 32) ∧
  (∀ (s : State) (h : PtpHdr) (cls steps : BitVec 8) (ord : Sys2Proof.Ordinal) (utc : BitVec 16), let x := ptpHeard s.dev h
    let a : AnnInfo := ⟨cls.toNat, ord.val, steps.toNat, x.1.now, utc.toNat⟩
    let d : Dev := { x.1 with tim.best := nset x.1.tim.best h.port.val a }
    x.2 = true → portRole x.1 h.port.val = 3 → ord.val ≠ ordinal x.1 → d.tim.isRoot = true → bestAnnounce d = some (h.port.val, a) → annBetter a (ownAnn d) = true →
    d.tim.slave = none → let e := follow d h.port.val a
    Does (.announce h cls ord ⟨steps, utc⟩) s (if mayAnnounce e then announceAll e h.port.val else e)) ∧
  (∀ (s : State) (h : PtpHdr) (cls steps : BitVec 8) (ord : Sys2Proof.Ordinal) (utc : BitVec 16), let x := ptpHeard s.dev h
    x.2 = true → portRole x.1 h.port.val = 1 → Does (.announce h cls ord ⟨steps, utc⟩) s x.1) ∧
  (∀ (s : State) (h : PtpHdr), let x := ptpHeard s.dev h
    x.2 = true → Does (.delayReq h) s (sendCtrl x.1 ptpDelayResp h.port.val [fedTime x.1])) ∧
  (∀ (s : State) (h : PtpHdr) (arrival : BitVec 64) (t1 t2 t3 : Nat), let x := ptpHeard s.dev h
    let p := h.port.val
    x.2 = true → nget x.1.tim.syncT p = some (t1, t2) → nget x.1.tim.delayT1 p = some t3 →
    Does (.delayResp h arrival) s
      { x.1 with tim.pathDelay := nset x.1.tim.pathDelay p ((((t2 : Int) - t1) + ((arrival.toNat : Int) - t3)) / 2).toNat, tim.delayT1 := ndel x.1.tim.delayT1 p }) ∧
  (∀ (s : State) (h : PtpHdr) (origin : BitVec 64), let x := macGate s.dev h.port.val h.sec
    x.2 = true → isDown x.1 = false → ptpPort x.1 h.port.val = true → h.domain.toNat ≠ 24 → Does (.sync h origin) s (bump x.1 .TIME_CNT 0 6))

/-- Timers of federation time: Sync and Announce leave every 62.5 ms, Delay_Req on the slave port, a lost Sync means HOLDOVER, a lost Announce an election, and a slew that is over LOCKED. -/
def Sys2Proof.Claims.TimeTimers : Prop :=
  (∀ (s : State), let d := reach s.dev s.dev.tim.nextSync
    isDown s.dev = false →
    Does .syncTimer s (forEach (allCells.filter (masterPort d)) { d with tim.nextSync := d.now + 62500000 } fun d p => sendAnnounce (sendCtrl d ptpSync p [fedTime d]) p)) ∧
  (∀ (s : State) (p : Nat), let d := reach s.dev s.dev.tim.nextDelay
    isDown s.dev = false → s.dev.tim.slave = some p →
    Does .delayReqTimer s (sendCtrl { d with tim.nextDelay := d.now + 62500000, tim.delayT1 := nset d.tim.delayT1 p (fedTime d) } ptpDelayReq p [fedTime d])) ∧
  (∀ (s : State), s.dev.tim.st = .locked → s.dev.tim.isRoot = false → Does .syncLossExpiry s (enterHoldover (reach s.dev (s.dev.tim.lastSync + 250000000)))) ∧
  (∀ (s : State) (p : Nat) (a : AnnInfo), let d := reach s.dev (a.at_ + annTimeout)
    s.dev.tim.slave = some p → nget s.dev.tim.best p = some a → (∃ q ∈ allCells, portUp s.dev q = true) →
    Does .announceTimeout s (elect { d with tim.best := ndel d.tim.best p, tim.slave := none })) ∧
  (∀ (s : State), s.dev.tim.st = .slewing → s.dev.tim.rem = 0 → Does .slewComplete s (enterLocked (reachO s.dev (slewTime s.dev))))

/-- PPS and the time of day: the eighth good edge locks, a loss of 3 s unlocks, PPS_OUT pulses at the second, a pending step is made there, and a root takes a written time of day. -/
def Sys2Proof.Claims.PpsAndSeconds : Prop :=
  (∀ (s : State) (t : BitVec 64) (w : BitVec 32) (l : Nat), let d := reach s.dev t.toNat
    let c := fedTime d - hfld d .TIME_PPS_CFG 15 0
    fbit (hreg s.dev .TIME_PPS_CFG) 31 = true → 1000 ≤ w.toNat → w.toNat ≤ 500000000 → s.dev.pwr.state ≠ .off → s.dev.tim.isRoot = false → s.dev.tim.pps.locked = false →
    s.dev.tim.pps.last = some l → (phaseErr (d.now - l)).natAbs ≤ 1000 → d.now - l ≤ 1500000000 →
    ∃ e, Does (.ppsInEdge t w) s e ∧ e.tim.pps.good = s.dev.tim.pps.good + 1 ∧ e.tim.pps.last = some d.now ∧ e.tim.pps.locked = decide (8 ≤ s.dev.tim.pps.good + 1) ∧
      e.tim.pps.err = phaseErr c ∧ e.tim.offset = s.dev.tim.offset) ∧
  (∀ (s : State) (l : Nat), let d := reach s.dev (l + sec 3)
    s.dev.tim.pps.last = some l → s.dev.tim.pps.locked = true → Does .ppsLoss s { d with tim.pps := { d.tim.pps with locked := false, good := 0 } }) ∧
  (∀ (s : State), let n := fedTime s.dev / 1000000000
    s.dev.tim.lastSecond < n → s.dev.pwr.state ≠ .off → s.dev.tim.todPending = none → s.dev.tim.st = .locked → fbit (hreg s.dev .TIME_PPS_CFG) 30 = true → s.dev.tim.everSet = true →
    ∃ e, Does .wholeSecond s e ∧ e.tim.lastSecond = n ∧ e.tim.ppsOut = 10000 ∧ e.out = s.dev.out ++ [.ctrl ppsPulse 0 [n, 10000]] ∧ e.tim.offset = s.dev.tim.offset) ∧
  (∀ (s : State), let n := fedTime s.dev / 1000000000
    s.dev.tim.lastSecond < n → s.dev.pwr.state ≠ .off → s.dev.tim.todPending = none → s.dev.tim.st = .stepPending → s.dev.tim.rem = 0 →
    ∃ e, Does .wholeSecond s e ∧ e.tim.offset = s.dev.tim.offset + s.dev.tim.stepPending ∧ e.tim.stepPending = 0 ∧ e.tim.st = .slewing) ∧
  (∀ (s : State) (w : Writer) (v : Word), let d := asked s.dev w .TIME_TOD_CFG 0 1
    let t := cfld d .TIME_TOD_CFG 0 15 0 * 2 ^ 32 + v.toNat
    Accepts s.dev w .TIME_TOD_CFG 0 → s.dev.tim.isRoot = true → s.dev.ldr.step = 15 →
    Does (.timeTodWrite w v) s { d with tim.utcOffset := cfld d .TIME_TOD_CFG 0 31 16, tim.todPending := some t }) ∧
  (∀ (s : State) (w : Writer) (v : Word), Accepts s.dev w .TIME_TOD_CFG 0 → s.dev.tim.isRoot = false → Does (.timeTodWrite w v) s (asked s.dev w .TIME_TOD_CFG 0 1))

/-! ### The calendar and the mode (spec/12_time_and_global_ops.md) -/

/-- Posting: a post that no code of Table TIM-5 refuses becomes a POSTED entry; a refused one changes nothing; a cancel ends the act's entries; a neighbour is answered with the result. -/
def Sys2Proof.Claims.CalendarPosts : Prop :=
  (∀ (d : Dev) (kind flags act time arg : Nat) (ok : Bool), postCode d kind time arg ok = 0 →
    ∃ e, calPost d kind flags act time arg ok = (e, 0) ∧ nget e.cal.ents (calSlot d) = some ⟨.posted, kind, flags, act, time, arg, d.cal.orders⟩ ∧
      (∀ i, i ≠ calSlot d → nget e.cal.ents i = nget d.cal.ents i) ∧ (kind ≠ 2 → e.snap = d.snap)) ∧
  (∀ (d : Dev) (kind flags act time arg : Nat) (ok : Bool), postCode d kind time arg ok ≠ 0 → calPost d kind flags act time arg ok = (d, postCode d kind time arg ok)) ∧
  (∀ (s : State) (w : Writer), let d := asked s.dev w .CAL_CMD 0 0
    let w0 := reg d .CAL_POST 0 0
    let x := calPost d (fld w0 7 4) (fld w0 3 0) (calWord d 1) (calWord d 2 * 2 ^ 32 + calWord d 3) (calWord d 4 * 2 ^ 32 + calWord d 5) (fld w0 31 8 == 0)
    Accepts s.dev w .CAL_CMD 0 → Does (.calPostLocal w) s { x.1 with cal.result := x.2 }) ∧
  (∀ (s : State) (w : Writer), let d := asked s.dev w .CAL_CMD 0 0
    Accepts s.dev w .CAL_CMD 0 → Does (.calCancelLocal w) s (calCancel d (calWord d 1))) ∧
  (∀ (s : State) (m : CalPostMsg), let x := calHeard s.dev m 0
    let y := calPost x.1 m.entry.kind.toNat m.entry.flags.toNat m.act.toNat m.entry.time.toNat m.entry.arg.toNat (m.entry.rsv == 0)
    x.2 = true → Does (.calendarPostPost m) s (sendCalPost y.1 m.port.val m.act.toNat 2 y.2 noEntry)) ∧
  (∀ (s : State) (m : CalPostMsg), let x := calHeard s.dev m 1
    x.2 = true → Does (.calendarPostCancel m) s (sendCalPost (calCancel x.1 m.act.toNat) m.port.val m.act.toNat 2 0 noEntry)) ∧
  (∀ (s : State) (m : CalPostMsg), Does (.calendarPostAnswer m) s (calHeard s.dev m 2).1) ∧
  (∀ (s : State) (m : ModeMsg), let x := modeHeard s.dev m 3
    x.2 = true → Does (.queryMode m) s (sendCalPost x.1 m.port.val 0 4 0 (modeEntry x.1.mode.gen x.1.mode.epoch))) ∧
  (∀ (s : State) (m : ModeMsg), let x := modeHeard s.dev m 4
    let l := nset x.1.mode.answers m.port.val (m.generation.toNat, m.epoch.toNat)
    x.2 = true →
    Does (.modeAnswer m) s
      { x.1 with mode.answers := l, mode.behind := x.1.mode.behind || decide (l.length < 2 * (l.filter fun p => decide (x.1.mode.gen < p.2.1)).length) })

/-- The entry that fires next is POSTED, its time has come, and no POSTED entry whose time has come goes before it. -/
def Obligations.FiringOrder : Prop :=
  ∀ (d : Dev) (i : Nat) (e : CalEnt), nextFiring d = some (i, e) →
    (i, e) ∈ d.cal.ents ∧ e.state = .posted ∧ e.time ≤ fedTime d ∧ ∀ q ∈ d.cal.ents, q.2.state = .posted → q.2.time ≤ fedTime d → firesFirst q.2 e = false

/-- The kinds of entry at their time (Table TIM-4). -/
def Sys2Proof.Claims.CalendarFires : Prop :=
  (∀ (s : State) (i : Nat) (e : CalEnt), let d := firedAt s.dev i e
    FiresAlone s.dev i e 1 → isDown s.dev = false →
    Does .modeCommit s (let c := commitAll d
      { c with mode.oldEpoch := d.mode.epoch, mode.epoch := e.arg % 4, mode.gen := e.arg / 2 ^ 32, mode.graceEnd := some (e.time + epsilon c + graceNs c) })) ∧
  (∀ (s : State) (i : Nat) (e : CalEnt), let d := firedAt s.dev i e
    FiresAlone s.dev i e 2 → participates d = true → Does .snapshotCut s (openCut d e.act e.arg e.time false)) ∧
  (∀ (s : State) (i : Nat) (e : CalEnt), let d := firedAt s.dev i e
    FiresAlone s.dev i e 3 → inService3 d = true → Does .coordRestart s (beginFlush { d with ldr.restartMs := e.arg } .restart)) ∧
  (∀ (s : State) (i : Nat) (e : CalEnt), let d := firedAt s.dev i e
    FiresAlone s.dev i e 4 → (∀ c ∈ allCells, mediaOn s.dev c = false) → custodyOn s.dev = false → Does .scrubWindow s { d with cal.scrubEnd := some (e.time + e.arg * 1000000000) }) ∧
  (∀ (s : State) (i : Nat) (e : CalEnt), let d := firedAt s.dev i e
    FiresAlone s.dev i e 5 → Does .keyRotation s (rotate d (e.arg % 4096) (e.arg / 4096) (e.time + epsilon d + graceNs d))) ∧
  (∀ (s : State) (i : Nat) (e : CalEnt), let d := firedAt s.dev i e
    FiresAlone s.dev i e 6 → Does .dozeWindow s { d with cal.dozeEnd := some (e.time + e.arg * 1000000) }) ∧
  (∀ (s : State) (i : Nat) (e : CalEnt), let d := firedAt s.dev i e
    FiresAlone s.dev i e 7 → Does .startSlot s { d with ldr.posted := some e.arg }) ∧
  (∀ (s : State) (t : Nat), let d := reachFed s.dev t
    s.dev.cal.scrubEnd = some t → t ≤ fedTime d → Does .scrubWindowEnd s { d with cal.scrubEnd := none }) ∧
  (∀ (s : State) (t : Nat), let d := reachFed s.dev t
    s.dev.cal.dozeEnd = some t → t ≤ fedTime d → Does .dozeWindowEnd s { d with cal.dozeEnd := none }) ∧
  (∀ (s : State) (t : Nat), let d := reachFed s.dev t
    s.dev.mode.graceEnd = some t → t ≤ fedTime d → Does .graceWindowEnd s { d with mode.graceEnd := none })

/-! ### Acts, the tree, cuts and commits (spec/12_time_and_global_ops.md) -/

/-- Acts by command: the device becomes coordinator; a running act, an argument that the kind does not allow and a reserved code refuse. -/
def Sys2Proof.Claims.Acts : Prop :=
  (∀ (s : State) (w : Writer), let d := asked s.dev w .TIME_ACT_CMD 0 0
    Accepts s.dev w .TIME_ACT_CMD 0 → s.dev.act.run = none → actTime d = 0 → actArg d = 0 → Does (.actBarrier w) s (startAct d 1 0 0 0 none)) ∧
  (∀ (s : State) (w : Writer), let d := asked s.dev w .TIME_ACT_CMD 0 0
    Accepts s.dev w .TIME_ACT_CMD 0 → s.dev.act.run = none → calArgOk d 2 (actArg d) = true → Does (.actSnapshot w) s (startAct d 2 2 (actTime d) (actArg d) none)) ∧
  (∀ (s : State) (w : Writer), let d := asked s.dev w .TIME_ACT_CMD 0 0
    Accepts s.dev w .TIME_ACT_CMD 0 → s.dev.act.run = none → calArgOk d 1 (actArg d) = true → Does (.actModeCommit w) s (startAct d 3 1 (actTime d) (actArg d) none)) ∧
  (∀ (s : State) (w : Writer), let d := asked s.dev w .TIME_ACT_CMD 0 0
    Accepts s.dev w .TIME_ACT_CMD 0 → s.dev.act.run = none → calArgOk d 3 (actArg d) = true → Does (.actRestart w) s (startAct d 4 3 (actTime d) (actArg d) none)) ∧
  (∀ (s : State) (w : Writer), let d := asked s.dev w .TIME_ACT_CMD 0 0
    let k := fld (reg d .CAL_POST 0 0) 7 4
    Accepts s.dev w .TIME_ACT_CMD 0 → s.dev.act.run = none → calArgOk d k (actArg d) = true → Does (.actPost w) s (startAct d 5 k (actTime d) (actArg d) none)) ∧
  (∀ (s : State) (w : Writer) (op : Fin 16), reservedOp 5 op = true → Accepts s.dev w .TIME_ACT_CMD 0 → s.dev.act.run = none →
    Does (.actCmdReserved w op) s (actBad (asked s.dev w .TIME_ACT_CMD 0 0) op.val)) ∧
  (∀ (s : State) (w : Writer), let d := asked s.dev w .TIME_ACT_CMD 0 0
    Accepts s.dev w .TIME_ACT_CMD 0 → s.dev.act.run.isSome = true → Does (.actSnapshot w) s { d with act.overrun := true })

/-- A device with no one below it in the tree: its own BARRIER ends with itself as the one that accepted, and it answers one of another root with a gather of one. -/
def Sys2Proof.Claims.BarrierAlone : Prop :=
  (∀ (d : Dev), treeKids d (ordinal d) (ordinal d) = [] → d.act.relays = [] → d.act.ready = [] →
    ∃ e, startAct d 1 0 0 0 none = e ∧ e.act.run = none ∧ e.act.result = 0 ∧ e.act.seq = d.act.seq + 1 ∧ e.act.relays = [] ∧ e.act.ready = [] ∧
      e.act.sum = ⟨1, 0, 0, sat (uncertainty d) 0xFFFF, none⟩ ∧ e.mem = d.mem ∧ e.cal = d.cal ∧ e.snap = d.snap ∧ e.chm = d.chm) ∧
  (∀ (d : Dev) (act root p : Nat), treeKids d root (ordinal d) = [] → d.act.relays = [] →
    treeOpen d act treeBarrierOp root (some p) {} = sendCtrl d 0xE8 p (tagged d (gatherBytes act 6 0 1 0 (sat (uncertainty d) 0xFFFF) 0)))

/-- A broadcast that is heard is handled here and relayed to the children; the own one is not taken again; one whose tag fails is counted. -/
def Sys2Proof.Claims.TreeBroadcasts : Prop :=
  (∀ (s : State) (m : TreeMsg), let x := broadcastHeard s.dev m 0
    x.2 = true → m.root.val ≠ ordinal x.1 → Does (.treePost m) s (treeTaken x.1 m 0)) ∧
  (∀ (s : State) (m : TreeMsg), let x := broadcastHeard s.dev m 1
    x.2 = true → m.root.val ≠ ordinal x.1 → Does (.treeCancel m) s (treeTaken x.1 m 1)) ∧
  (∀ (s : State) (m : TreeMsg), let x := broadcastHeard s.dev m 2
    x.2 = true → m.root.val ≠ ordinal x.1 → Does (.treeConfirm m) s (treeTaken x.1 m 2)) ∧
  (∀ (s : State) (m : TreeMsg), let x := broadcastHeard s.dev m 3
    x.2 = true → m.root.val ≠ ordinal x.1 → Does (.treeDiscard m) s (treeTaken x.1 m 3)) ∧
  (∀ (s : State) (m : TreeMsg), let x := broadcastHeard s.dev m 4
    x.2 = true → m.root.val ≠ ordinal x.1 → Does (.treePause m) s (treeTaken x.1 m 4)) ∧
  (∀ (s : State) (m : TreeMsg), let x := broadcastHeard s.dev m 5
    x.2 = true → m.root.val ≠ ordinal x.1 → Does (.treeResume m) s (treeTaken x.1 m 5)) ∧
  (∀ (s : State) (m : TreeMsg), let x := broadcastHeard s.dev m 6
    x.2 = true → m.root.val ≠ ordinal x.1 → Does (.treeBarrier m) s (treeTaken x.1 m 6)) ∧
  (∀ (s : State) (m : TreeMsg), let x := broadcastHeard s.dev m 0
    x.2 = true → m.root.val = ordinal x.1 → Does (.treePost m) s x.1) ∧
  (∀ (s : State) (m : TreeMsg) (d : Dev), ctrlHeard s.dev m.port.val m.sec = (d, true) → tagOk d (treeBytes m.act.toNat 0 m.root.val (wireBroadcast m)) m.tag = false →
    Does (.treePost m) s (bump d .TIME_CNT 0 5))

/-- What an operation does at a device that a broadcast reaches: CONFIRM retains a PENDING snapshot, DISCARD releases one, PAUSE names the set's cut, and a POST or a CANCEL acts on the calendar. -/
def Sys2Proof.Claims.TreeOperations : Prop :=
  ∀ (d : Dev) (act : Nat) (e : TreeEntry) (sn : Snap),
    (nget d.snap.snaps act = some sn → sn.state = .pending → ∃ x, treeLocal d act 2 e = (x, some 0) ∧ nget x.snap.snaps act = some { sn with state := .retained }) ∧
    (nget d.snap.snaps act = some sn → ∃ x, treeLocal d act 3 e = (x, some 0) ∧ nget x.snap.snaps act = some { sn with state := .releasing }) ∧
    (inService3 d = true → ∃ x, treeLocal d act 4 e = (x, none) ∧ nget x.snap.paused e.arg = some act) ∧
    (inService3 d = false → treeLocal d act 4 e = (d, some 4)) ∧
    (treeLocal d act 0 e = ((calPost d e.kind (e.flags ||| 1) act e.time e.arg (e.rsv == 0)).1, some (calPost d e.kind (e.flags ||| 1) act e.time e.arg (e.rsv == 0)).2)) ∧
    (treeLocal d act 1 e = (calCancel d act, some 0))

/-- Gathers: an answer joins its relay, a late one is counted, and at the end of TREE_US the silent children count as refused; a message cut is taken once its set is drained; a hold window ends; the
coordinator gathers the cut's result after T + 2ε. -/
def Sys2Proof.Claims.GathersAndCuts : Prop :=
  (∀ (s : State) (m : GatherMsg) (r : Relay) (k : Nat) (a b : Nat), let x := gatherHeard s.dev m
    let key := m.act.toNat * 8 + m.op.val
    let g : Gather := { acc := m.accepted.toNat, refd := m.refused.toNat, mask := m.mask.toNat, maxU := m.maxUnc.toNat, first := if m.refused = 0 then none else some m.firstRefuser.val }
    x.2 = true → nget x.1.act.relays key = some r → farEnd x.1 (ordinal x.1) m.port.val = some (k, a, b) → r.kids = [k] →
    Does (.treeGather m) s (actTurn actFuel (relayCheck { x.1 with act.relays := nset x.1.act.relays key { r with kids := [], sum := addGather r.sum g } } key))) ∧
  (∀ (s : State) (m : GatherMsg), let x := gatherHeard s.dev m
    x.2 = true → nget x.1.act.relays (m.act.toNat * 8 + m.op.val) = none → Does (.treeGather m) s (bump x.1 .TIME_CNT 0 7)) ∧
  (∀ (s : State) (act : BitVec 32) (op : Fin 7) (r : Relay), let key := act.toNat * 8 + op.val
    let d := reach s.dev r.deadline
    let l := (r.kids.map fun k => treeMembers d r.root 6 k).flatten
    let g : Gather := { refd := l.length, mask := if l = [] then 0 else 2 ^ 7, first := l.foldl (fun b x => some (min x (b.getD x))) none }
    nget s.dev.act.relays key = some r →
    Does (.treeGatherTimeout act op) s (actTurn actFuel (relayCheck { d with act.relays := nset d.act.relays key { r with kids := [], sum := addGather r.sum g } } key))) ∧
  (∀ (s : State) (act : BitVec 32) (set : Nat), let d := openCut s.dev act.toNat set (fedTime s.dev) true
    s.dev.snap.paused = [(set, act.toNat)] → setDrained s.dev set = true → nhas s.dev.snap.snaps act.toNat = false →
    Does (.messageCutDrained act) s (actTurn actFuel (ownPart d (act.toNat * 8 + 4) (if nhas d.snap.snaps act.toNat then 0 else 3)))) ∧
  (∀ (s : State) (act : BitVec 32), s.dev.snap.paused = [] → Does (.messageCutDrained act) s (actTurn actFuel s.dev)) ∧
  (∀ (s : State) (act : BitVec 32) (set t : Nat), let d := reachFed s.dev (t + epsilon s.dev + 1)
    nget s.dev.snap.holds act.toNat = some (set, t) → t + epsilon d < fedTime d → Does (.holdWindowEnd act) s (endHold d act.toNat)) ∧
  (∀ (s : State) (r : ActRun), let d := reachFed s.dev (r.time + 2 * epsilon s.dev + 1)
    s.dev.act.run = some r → r.phase = .wait → r.time + 2 * epsilon d < fedTime d →
    Does .cutResultGatherStart s (actTurn actFuel (treeOpen { d with act.run := some { r with phase := .cut } } r.id 6 (ordinal d) none (runEntry r)))) ∧
  (∀ (d : Dev) (act set t : Nat) (msg : Bool), nhas d.snap.snaps act = false → d.snap.snaps.length < 256 →
    ∃ sn, nget (openCut d act set t msg).snap.snaps act = some sn ∧ sn.state = .pending ∧ sn.set = set ∧ sn.time = t ∧ sn.byMessage = msg ∧ sn.pages = [] ∧
      (∀ n c, (n, c) ∈ d.chm.chambers → c.state = .active → c.set = set → c.cls ≠ .volatileC → n ∈ sn.chambers) ∧
      (∀ a, a ≠ act → nget (openCut d act set t msg).snap.snaps a = nget d.snap.snaps a) ∧ (openCut d act set t msg).mem = d.mem)

/-- Commits: a write of COMMIT makes one pending, a second is joined to it, a device that flushes takes none, and the tick copies every shadow at once; adoption is armed for the next commit. -/
def Obligations.Commits : Prop :=
  (∀ (s : State) (w : Writer) (v : Word), let d := asked s.dev w .HUB_COMMIT 0 0
    Accepts s.dev w .HUB_COMMIT 0 → modePosted s.dev = false → fbit v 31 = true → s.dev.pwr.state = .service → s.dev.mode.commitPending = false →
    Does (.commit w v) s { d with mode.commitPending := true }) ∧
  (∀ (s : State) (w : Writer) (v : Word), let d := asked s.dev w .HUB_COMMIT 0 0
    let x := hreg d .HUB_COMMIT_STATUS
    Accepts s.dev w .HUB_COMMIT 0 → modePosted s.dev = false → fbit v 31 = true → s.dev.pwr.state = .service → s.dev.mode.commitPending = true →
    Does (.commit w v) s (setReg d .HUB_COMMIT_STATUS 0 0 (word (at_ (fld x 31 8) 8 + sat (fld x 7 0 + 1) 255)))) ∧
  (∀ (s : State) (w : Writer) (v : Word), served s.dev w = true → modePosted s.dev = true → w ≠ .i3c → Does (.commit w v) s (accessDone s.dev w (regAddr .HUB_COMMIT 0 0) acDenied)) ∧
  (∀ (s : State), s.dev.mode.commitPending = true → s.dev.pwr.state = .service → Does .shadowCommitTick s (commitAll s.dev)) ∧
  (∀ (s : State), s.dev.mode.commitPending = true → s.dev.pwr.state = .halted → Does .shadowCommitTick s { s.dev with mode.commitPending := false }) ∧
  (∀ (s : State) (w : Writer) (v : Word), let d := asked s.dev w .TIME_MODE_ADOPT 0 1
    Accepts s.dev w .TIME_MODE_ADOPT 0 → Does (.timeModeAdopt w v) s { d with mode.adopt := some ((reg d .TIME_MODE_ADOPT 0 0).toNat, fld v 1 0) })

/-- A commit puts every shadow of a cell that is not fenced into force at one tick, keeps those of a fenced cell for later, and leaves no shadow behind. -/
def Obligations.CommitPutsShadowsInForce : Prop :=
  (∀ (d : Dev) (k : Nat) (v : Word), keyFenced d k = false → (commitOne d k v).regs = nset d.regs k v ∧ (commitOne d k v).kept = d.kept) ∧
  (∀ (d : Dev) (k : Nat) (v : Word), keyFenced d k = true → (commitOne d k v).regs = d.regs ∧ (commitOne d k v).kept = nset d.kept k v) ∧
  (∀ (d : Dev), (∀ p ∈ d.shadow, keyFenced d p.1 = false) → (∀ p ∈ d.shadow, ∀ q ∈ d.shadow, p.1 = q.1 → p = q) → let e := forEach d.shadow d fun d p => commitOne d p.1 p.2
    (∀ p ∈ d.shadow, nget e.regs p.1 = some p.2) ∧ ∀ k, (∀ p ∈ d.shadow, p.1 ≠ k) → nget e.regs k = nget d.regs k)

/-! ### The bulk queue (spec/13_bulk_queue.md) -/

/-- Each bulk command that keeps the rules of its payload is queued and acknowledged in its turn; one of length 0 is complete at once. -/
def Sys2Proof.Claims.BulkAcceptance : Prop :=
  ∀ (s : State) (p : Pkt) (b : BulkPayload),
    (∀ (k : BulkKind), let d := frameHeard s.dev p (.bulk k b)
      Enters s.dev (.req p (.bulk k b)) → BulkFits d p k b → (isRange k = true → b.len ≠ 0) → Does (bulkInstr k p b) s (bulkQueued (taken d p) p k b)) ∧
    (∀ (k : BulkKind), let d := frameHeard s.dev p (.bulk k b)
      Enters s.dev (.req p (.bulk k b)) → BulkFits d p k b → isRange k = true → b.len = 0 →
      Does (bulkInstr k p b) s (dropRef (bulkFinish (bulkStored (taken d p) p k b) (bulkCmd (taken d p) p k b) stOk 0) (bulkFrame (taken d p) p).2))

/-- The queued command waits, under its tag and behind those before it, and the counter of accepted commands rises; chamber memory stands. -/
def Sys2Proof.Claims.BulkQueueGrows : Prop :=
  ∀ (d : Dev) (p : Pkt) (k : BulkKind) (b : BulkPayload), d.reqs = [] → let e := bulkQueued d p k b
    e.bulk.cmds = d.bulk.cmds ++ [bulkCmd d p k b] ∧ (bulkCmd d p k b).state = .waiting ∧ e.mem = d.mem ∧ e.chm = d.chm ∧ e.cus = d.cus ∧ e.snap = d.snap ∧
      reg e .BLK_CNT 0 0 = reg d .BLK_CNT 0 0 + 1

/-- A command that may start: a BARRIER of its connection completes, a SNAPSHOT starts an act, a range command that fails its checks completes with the status, one that passes issues its pieces; a
RELEASE gives its snapshot up and completes once that is FREE. -/
def Sys2Proof.Claims.BulkStart : Prop :=
  (∀ (s : State) (k : ConnNo) (tag : BitVec 16) (c : BulkCmd), findTag s.dev k.val tag.toNat = some c → (s.dev.bulk.cmds.find? (startable s.dev)) = some c → c.kind = .barrier → c.pl.scope = 0 →
    Does (.bulkCommandStart k tag) s (bulkFinish s.dev c stOk 0)) ∧
  (∀ (s : State) (k : ConnNo) (tag : BitVec 16) (c : BulkCmd), findTag s.dev k.val tag.toNat = some c → (s.dev.bulk.cmds.find? (startable s.dev)) = some c → c.kind = .snapshot →
    (getConn s.dev k.val).tenant = 0 → s.dev.act.run = none →
    Does (.bulkCommandStart k tag) s (startAct (setBulk s.dev { c with state := .acting }) 2 2 c.pl.arg.toNat c.pl.set.toNat (some c.id))) ∧
  (∀ (s : State) (k : ConnNo) (tag : BitVec 16) (c : BulkCmd) (st : Nat), findTag s.dev k.val tag.toNat = some c → (s.dev.bulk.cmds.find? (startable s.dev)) = some c → c.kind = .fill →
    targetCheck s.dev c = .fail st → Does (.bulkCommandStart k tag) s (bulkFinish s.dev c st (custodyDetail st))) ∧
  (∀ (s : State) (k : ConnNo) (tag : BitVec 16) (c : BulkCmd) (n off : Nat), findTag s.dev k.val tag.toNat = some c → (s.dev.bulk.cmds.find? (startable s.dev)) = some c → c.kind = .fill →
    targetCheck s.dev c = .ok n off → Does (.bulkCommandStart k tag) s (bulkIssue 64 (setBulk s.dev { c with chamber := n, off := off, state := .running }))) ∧
  (∀ (s : State) (k : ConnNo) (tag : BitVec 16) (c : BulkCmd) (sn : Snap), findTag s.dev k.val tag.toNat = some c → (s.dev.bulk.cmds.find? (startable s.dev)) = some c → c.kind = .release →
    (getConn s.dev k.val).tenant = 0 → nget s.dev.snap.snaps c.pl.snap.toNat = some sn → sn.state = .retained → c.pl.scope = 0 →
    Does (.bulkCommandStart k tag) s (setBulk (releaseSnapshot s.dev c.pl.snap.toNat) { c with state := .acting })) ∧
  (∀ (s : State) (k : ConnNo) (tag : BitVec 16), findTag s.dev k.val tag.toNat = none → DoesNothing (.bulkCommandStart k tag) s)

/-- The end of a piece counts its bytes in DONE and lets the command go on; an abort is acknowledged and answered; a snapshot whose release is over is FREE. -/
def Sys2Proof.Claims.BulkEnds : Prop :=
  (∀ (s : State) (k : ConnNo) (tag : BitVec 16) (lo : BitVec 41) (c : BulkCmd) (r : Req), pieceOf s.dev k.val tag.toNat lo.toNat = some (c, r) → r.bulk = some (c.id, lo.toNat, 1) →
    r.stage = .over stOk → r.kind = .write → r.parts.all (fun p => partOver p.st) = true → c.kind = .fill →
    Does (.bulkPieceDone k tag lo) s (pieceOk (dropBuf (delReq (setBulk s.dev c) r.id) r.buf) c lo.toNat (pieceLen c lo.toNat))) ∧
  (∀ (s : State) (k : ConnNo) (tag : BitVec 16) (lo : BitVec 41) (st : Nat) (c : BulkCmd) (r : Req), pieceOf s.dev k.val tag.toNat lo.toNat = some (c, r) →
    r.stage = .over st → st ≠ stOk → r.kind ≠ .commitMark → r.kind ≠ .verify → r.parts.all (fun p => partOver p.st) = true → (c.kind = .load ∨ c.kind = .verify) → st = stTierFail →
    Does (.bulkPieceDone k tag lo) s (pieceBad (dropBuf (delReq (setBulk s.dev c) r.id) r.buf) c lo.toNat)) ∧
  (∀ (s : State) (k : ConnNo) (tag : BitVec 16) (lo : BitVec 41), pieceOf s.dev k.val tag.toNat lo.toNat = none → DoesNothing (.bulkPieceDone k tag lo) s) ∧
  (∀ (s : State) (p : Pkt) (tag : BitVec 16) (c : BulkCmd), let b : ReqBody := .bulkAbort tag true
    let d := frameHeard s.dev p b
    let x := bulkFrame (taken d p) p
    let e := bump (bulkAck x.1 p (connOf p) none) .BLK_CNT 0 4
    Enters s.dev (.req p b) → Expected d p .bulkAbort false → (getConn d (connOf p)).service = .data → d.pwr.state = .service →
    (takeBufs (taken d p) (connCell (connOf p)) p.bytes (connIdx (connOf p)) false).isSome = true → findTag e (connOf p) tag.toNat = some c →
    Does (.bulkAbort p tag true) s (dropRef (abortCmd e c) x.2)) ∧
  (∀ (s : State) (p : Pkt) (tag : BitVec 16), let b : ReqBody := .bulkAbort tag true
    let d := frameHeard s.dev p b
    let x := bulkFrame (taken d p) p
    let e := bump (bulkAck x.1 p (connOf p) none) .BLK_CNT 0 4
    Enters s.dev (.req p b) → Expected d p .bulkAbort false → (getConn d (connOf p)).service = .data → d.pwr.state = .service →
    (takeBufs (taken d p) (connCell (connOf p)) p.bytes (connIdx (connOf p)) false).isSome = true → findTag e (connOf p) tag.toNat = none →
    ngetD e.bulk.recs (connOf p) [] = [] →
    Does (.bulkAbort p tag true) s (dropRef (sendCompletion (bump e .BLK_CNT 0 8) (connOf p) none (p.oxh.any (·.persist)) ⟨p.psn.toNat, tag.toNat, 0, stOk, 0, 0, 0, 0⟩ 4 true) x.2)) ∧
  (∀ (s : State) (act : BitVec 32) (sn : Snap), nget s.dev.snap.snaps act.toNat = some sn → sn.state = .releasing → s.dev.bulk.cmds = [] →
    Does (.snapshotReleaseDone act) s (stagingFreed (settleKeys { s.dev with snap.snaps := ndel s.dev.snap.snaps act.toNat }) sn))

/-! ### Keys, links and tamper (spec/14_security.md) -/

/-- Key commands: a general slot that is empty takes a drawn, an imported or an agreed key; a LIVE slot without references is destroyed, at once or, while a request of an engine
holds it, once none does; until then another command sets OVERRUN; a query shows its slot; owner fuses are blown once. -/
def Sys2Proof.Claims.KeyStoreCommands : Prop :=
  (∀ (s : State) (w : Writer), let d := asked s.dev w .KEY_CMD 0 0
    let k := kslot d
    let u := fld (karg d 0) 27 24
    let x := drbgDraw d
    Accepts s.dev w .KEY_CMD 0 → s.dev.sec.destroying = none → badTarget d k u = false → targetFull d k u = false → d.sec.stopped = false → u ≠ 1 →
    Does (.keyGenerate w) s (keyDone (bump (fillSlot x.1 k u 0 (fld (karg x.1 0) 23 12) x.2) .KEY_CNT 0 0) 1 .ok [(1, checkOf x.2)])) ∧
  (∀ (s : State) (w : Writer), let d := asked s.dev w .KEY_CMD 0 0
    Accepts s.dev w .KEY_CMD 0 → s.dev.sec.destroying = none → badTarget d (kslot d) (fld (karg d 0) 27 24) = false → targetFull d (kslot d) (fld (karg d 0) 27 24) = false → d.sec.stopped = true →
    Does (.keyGenerate w) s (keyDone d 1 .entropy [])) ∧
  (∀ (s : State) (w : Writer) (e : Dev) (r : KeyResult) (m : Nat), let d := asked s.dev w .KEY_CMD 0 0
    Accepts s.dev w .KEY_CMD 0 → s.dev.sec.destroying = none →
    importInto d (kslot d) (fld (karg d 0) 27 24) true (fld (karg d 0) 23 12) (fld (karg d 1) 11 0) ((List.range 18).map fun i => (karg d (2 + i)).toNat) = (e, r, m) →
    Does (.keyImport w) s (keyDone e 2 r [(1, checkOf m)])) ∧
  (∀ (d : Dev) (k u t kek km : Nat) (l : List Nat), badTarget d k u = false → kekMat d kek = some km → targetFull d k u = false → u ≠ 1 → (l.drop 10).any (· != 0) = false →
    importInto d k u true t kek l = (match Config.unwrap km (l.take 10) with
      | some m => (bump (fillSlot d k u 1 t m) .KEY_CNT 0 1, .ok, m)
      | none => (bump d .KEY_CNT 0 2, .unwrapFail, 0))) ∧
  (∀ (d : Dev) (k u t kek km : Nat) (l : List Nat), badTarget d k u = false → kekMat d kek = some km → targetFull d k u = false →
    importInto d k u false t kek l = (bump d .KEY_CNT 0 2, .unwrapFail, 0)) ∧
  (∀ (s : State) (w : Writer) (x : KeySlot), let d := asked s.dev w .KEY_CMD 0 0
    let k := kslot d
    Accepts s.dev w .KEY_CMD 0 → s.dev.sec.destroying = none → k < 3584 → oddOfPair d k = false → getSlot d k = some x → x.state = .live → slotReferenced d k false = false → d.cal.ents = [] →
    slotHeld d k = false →
    Does (.keyDestroy w) s
      (keyDone (bump { d with sec.slots := ndel d.sec.slots k, sec.destroying := none, sec.keyCache := (d.sec.keyCache.map fun p => (p.1, p.2.filter (· != k))),
                              sec.fetching := (d.sec.fetching.map fun p => (p.1, p.2.filter (· != k))) } .KEY_CNT 0 3) 3 .ok [])) ∧
  (∀ (s : State) (w : Writer) (x : KeySlot), let d := asked s.dev w .KEY_CMD 0 0
    let k := kslot d
    Accepts s.dev w .KEY_CMD 0 → s.dev.sec.destroying = none → k < 3584 → oddOfPair d k = false → getSlot d k = some x → x.state = .live → slotReferenced d k false = true →
    Does (.keyDestroy w) s (keyDone d 3 .inUse [])) ∧
  (∀ (s : State) (w : Writer) (x : KeySlot), let d := asked s.dev w .KEY_CMD 0 0
    let k := kslot d
    Accepts s.dev w .KEY_CMD 0 → s.dev.sec.destroying = none → k < 3584 → oddOfPair d k = false → getSlot d k = some x → x.state = .live → slotReferenced d k false = false → d.cal.ents = [] →
    slotHeld d k = true → Does (.keyDestroy w) s (keyDone { d with sec.destroying := some k } 3 .busy [])) ∧
  (∀ (d : Dev) (k : Nat), d.sec.destroying = some k → slotHeld d k = false → (∀ p ∈ d.sec.slots, p.2.state = .live) → keyTurn d = destroyEnd d k) ∧
  (∀ (s : State) (w : Writer) (b : Bool) (op : Fin 16) (k : Nat), let d := asked s.dev w .KEY_CMD 0 0
    let e : Dev := { d with sec.overrun := true }
    Accepts s.dev w .KEY_CMD 0 → s.dev.sec.destroying = some k →
    Does (.keyGenerate w) s e ∧ Does (.keyImport w) s e ∧ Does (.keyDestroy w) s e ∧ Does (.keySlotQuery w) s e ∧ Does (.keyAgree w) s e ∧ Does (.ownerAdd w b) s e ∧ Does (.ownerRevoke w b) s e ∧
    Does (.keyCmdReserved w op) s e) ∧
  (∀ (s : State) (w : Writer), let d := asked s.dev w .KEY_CMD 0 0
    Accepts s.dev w .KEY_CMD 0 → s.dev.sec.destroying = none → kslot d < 3584 → oddOfPair d (kslot d) = false → getSlot d (kslot d) = none → Does (.keySlotQuery w) s (keyDone d 4 .ok [(0, 0), (1, 0), (2, 0)])) ∧
  (∀ (s : State) (w : Writer) (e : Dev) (r : KeyResult) (m : Nat), let d := asked s.dev w .KEY_CMD 0 0
    Accepts s.dev w .KEY_CMD 0 → s.dev.sec.destroying = none → agreeInto d (kslot d) ((List.range 24).map fun i => (reg d .KEY_PUB_ARG 0 i).toNat) = (e, r, m) → Does (.keyAgree w) s (keyDone e 5 r [(1, checkOf m)])) ∧
  (∀ (d : Dev) (k : Nat) (l : List Nat), badTarget d k 5 = false → targetFull d k 5 = false →
    agreeInto d k l = (match Config.agree (l ++ [ordinal d, k]) with
      | some m => (bump (fillSlot d k 5 2 0 (m % 2 ^ 256)) .KEY_CNT 0 1, .ok, m % 2 ^ 256)
      | none => (d, .badArg, 0))) ∧
  (∀ (s : State) (w : Writer), let d := asked s.dev w .KEY_CMD 0 0
    let i := fld (karg d 0) 1 0
    Accepts s.dev w .KEY_CMD 0 → s.dev.sec.destroying = none → nhas d.sec.owners i = false →
    Does (.ownerAdd w true) s (keyDone { d with sec.owners := nset d.sec.owners i ((List.range 12).map fun j => (reg d .KEY_PUB_ARG 0 j).toNat) } 6 .ok [])) ∧
  (∀ (s : State) (w : Writer) (b : Bool), let d := asked s.dev w .KEY_CMD 0 0
    Accepts s.dev w .KEY_CMD 0 → s.dev.sec.destroying = none → nhas d.sec.owners (fld (karg d 0) 1 0) = true → Does (.ownerAdd w b) s (keyDone d 6 .refused [])) ∧
  (∀ (s : State) (w : Writer), let d := asked s.dev w .KEY_CMD 0 0
    let i := fld (karg d 0) 1 0
    Accepts s.dev w .KEY_CMD 0 → s.dev.sec.destroying = none → i ≠ d.sec.active → (∃ p ∈ d.sec.owners, p.1 ≠ i ∧ p.1 ∉ d.sec.revoked) →
    Does (.ownerRevoke w true) s (keyDone { d with sec.revoked := sinsert d.sec.revoked i } 7 .ok [])) ∧
  (∀ (s : State) (w : Writer) (op : Fin 16), reservedOp 7 op = true → Accepts s.dev w .KEY_CMD 0 → s.dev.sec.destroying = none → Does (.keyCmdReserved w op) s (keyDone (asked s.dev w .KEY_CMD 0 0) op.val .badArg []))

/-- Generators: the DRBG reseeds after a second; an entropy failure stops it with C3. -/
def Sys2Proof.Claims.Generators : Prop :=
  (∀ (s : State), s.dev.sec.stopped = false → s.dev.sec.requests < 2 ^ 20 → Does .drbgReseed s (reseed (reach s.dev (s.dev.sec.seededAt + sec 1)))) ∧
  (∀ (s : State), s.dev.sec.stopped = true → DoesNothing .drbgReseed s) ∧
  (∀ (s : State), Does .entropyHealthFailure s (raise (bump { s.dev with sec.stopped := true } .KEY_CNT 0 5) { cls := 3, cause := 0x14, unit := uHub 8 }))

/-- MKA of a port: a verified MKPDU brings its partner's SAK, a hello leaves every 2 s, a key server renews its SAK at the packet-number limit. A
protected frame passes above the replay window; an unprotected one, one whose ICV fails and one below the window are discarded and counted. -/
def Sys2Proof.Claims.MacsecSessions : Prop :=
  (∀ (s : State) (m : Mkpdu) (k : Nat), let p := m.port.val
    let d := s.dev
    cakOf d p = some m.cak → cknOf d p = m.ckn.toNat → m.prio.toNat < cfld d .PORT_MACSEC_CFG p 23 16 → m.sak = some k → m.txNew = false →
    Does (.mkpdu m) s (installSak (setMka d p { getMka d p with heard := some d.now, keyServer := false }) p k)) ∧
  (∀ (s : State) (m : Mkpdu), cakOf s.dev m.port.val = none → DoesNothing (.mkpdu m) s) ∧
  (∀ (s : State) (p : CellNo), let d := reach s.dev (getMka s.dev p.val).nextHello
    (cakOf s.dev p.val).isSome = true → (getMka s.dev p.val).live = false →
    Does (.mkaHelloTimer p) s (sendCtrl (setMka d p.val { getMka d p.val with nextHello := d.now + sec 2 }) 0x888E p.val [0])) ∧
  (∀ (s : State) (p : CellNo) (pn : Nat), (getMka s.dev p.val).live = true → (getMka s.dev p.val).keyServer = true → 0xC000000000000000 ≤ pn →
    Does (.sakRenewal p pn) s (serveSak s.dev p.val)) ∧
  (∀ (d : Dev) (p mat : Nat), let e := installSak d p mat
    (getMka e p).live = true ∧ (getMka e p).saks = (getMka d p).saks + 1 ∧ nget e.sec.slots (sakSlot p ((getMka d p).saks + 1)) = some { usage := 3, origin := 0, tenant := 0, mat := mat } ∧
      (∀ q, q ≠ p → getMka e q = getMka d q)) ∧
  (∀ (d : Dev) (p : Nat), macsecOn d p = false → macGate d p .plain = (d, true)) ∧
  (∀ (d : Dev) (p : Nat), macsecOn d p = true → macGate d p .plain = (bump d .CIPH_CNT p 7, false) ∧ macGate d p .badIcv = (bump d .CIPH_CNT p 5, false)) ∧
  (∀ (d : Dev) (p : Nat) (pn : BitVec 64), let m := getMka d p
    macsecOn d p = true → macCarries d p = true → pn ≠ 0 →
    (replayLow d p m.rxNext ≤ pn.toNat → macGate d p (.protect false pn) = (setMka d p { m with rxNext := max m.rxNext (pn.toNat + 1) }, true)) ∧
    (pn.toNat < replayLow d p m.rxNext → macGate d p (.protect false pn) = (bump d .CIPH_CNT p 4, false)))

/-- Tamper: a trip is C4 with cause 0x15 and clears the SRAM keys at HALTED; the lid with LID_ERASE clears every key at once, advances the media epoch and halts without a flush; it acts only while rail[31] is up. -/
def Sys2Proof.Claims.Tamper : Prop :=
  (∀ (s : State), s.dev.pwr.state ≠ .off →
    Does .tamperVoltage s (raise { s.dev with sec.tamper := 1, sec.clearAtHalt := true } { cls := 4, cause := 0x15, unit := uHub 8, addr := 1 })) ∧
  (∀ (s : State), s.dev.pwr.state ≠ .off →
    Does .tamperClock s (raise { s.dev with sec.tamper := 2, sec.clearAtHalt := true } { cls := 4, cause := 0x15, unit := uHub 8, addr := 2 })) ∧
  (∀ (s : State), s.dev.pwr.state ≠ .off → (getRail s.dev 31).st = .up → fbit (hreg s.dev .KEY_TAMPER_CFG) 31 = false →
    Does .tamperLid s (raise { s.dev with sec.tamper := 3, sec.clearAtHalt := true } { cls := 4, cause := 0x15, unit := uHub 8, addr := 3 })) ∧
  (∀ (s : State), s.dev.pwr.state ≠ .off → (getRail s.dev 31).st = .up → fbit (hreg s.dev .KEY_TAMPER_CFG) 31 = true →
    ∃ e, Does .tamperLid s e ∧ e.pwr.state = .halted ∧ e.reqs = [] ∧ e.sec.slots = [] ∧ e.sec.keyCache = [] ∧ e.sec.mka = [] ∧ e.sec.mediaEpoch = s.dev.sec.mediaEpoch + 1 ∧ e.sec.mediaErased = true) ∧
  (∀ (s : State), (getRail s.dev 31).st ≠ .up → DoesNothing .tamperLid s)
/-! ### Start, rails and power states (spec/15_startup.md, spec/16_power.md) -/

/-- Power-up: power good begins the start and switches on rail[31]; the groups of Timing PWR-1 follow at their times; at the end of the stagger the course cores and media I/O rails are switched on; a
rail in its window is UP, one that has not risen in its time is FAILED with cause 1. -/
def Sys2Proof.Claims.PowerUp : Prop :=
  (∀ (s : State) (mv : BitVec 16), let d := { freshDev { s.dev with pwr.inputGood := true, pwr.inputMv := mv.toNat * 10 } false with pwr.state := .starting }
    (s.dev.pwr.state = .off ∨ (s.dev.pwr.state = .starting ∧ s.dev.pwr.inputGood = false)) → s.dev.pwr.resetN = true →
    Does (.powerGood mv) s (enableRail { d with ldr.trigger := d.now, ldr.stepAt := d.now, pwr.upping := true, pwr.upFrom := d.now, pwr.upStep := 0 } 31)) ∧
  (∀ (s : State), let d := reach s.dev (s.dev.pwr.upFrom + ms 5)
    s.dev.pwr.state = .starting → s.dev.pwr.upping = true → s.dev.pwr.upStep = 0 → (getRail s.dev 30).st = .off → (getRail s.dev 30).enabledAt = none →
    d.now < s.dev.pwr.upFrom + ms 50 → Does .powerUpStep s (enableRail d 30)) ∧
  (∀ (s : State), let d := reach s.dev (s.dev.pwr.upFrom + ms 50)
    s.dev.pwr.state = .starting → s.dev.pwr.upping = true → s.dev.pwr.upStep = 0 → (getRail s.dev 30).st = .up →
    Does .powerUpStep s (tellPast (beginStagger d (s.dev.pwr.upFrom + ms 50)))) ∧
  (∀ (s : State) (n : Nat), let d := reach s.dev (s.dev.pwr.upFrom + ms (upGroup n).1)
    s.dev.pwr.state = .starting → s.dev.pwr.upping = true → s.dev.pwr.upStep = n → 2 ≤ n → n < 12 →
    Does .powerUpStep s { forEach (upGroup n).2 d enableRail with pwr.upStep := n + 1 }) ∧
  (∀ (s : State) (t : Nat), let d := reach s.dev t
    s.dev.ldr.staggerEnd = some t → s.dev.pwr.state = .starting → s.dev.pwr.upping = true → s.dev.pwr.upStep = 1 →
    Does .staggerEnd s { forEach (List.range 16 ++ [28, 29]) d enableRail with pwr.upStep := 2, pwr.upFrom := d.now, ldr.staggerEnd := none }) ∧
  (∀ (s : State) (n : Fin 64) (mv : BitVec 16) (mw t : Nat), (getRail s.dev n.val).enabledAt = some t → (getRail s.dev n.val).st = .off →
    Does (.railRisen n mv mw) s (setRail s.dev n.val { getRail s.dev n.val with st := .up, cause := 0, mv := mv.toNat, mw := mw, enabledAt := none })) ∧
  (∀ (s : State) (n : Fin 64) (mv : BitVec 16) (t : Nat), (getRail s.dev n.val).enabledAt = some t → (getRail s.dev n.val).st = .off →
    Does (.railRiseTimeout n mv) s (railFails (bump (reach s.dev (t + riseNs s.dev n.val)) .PWR_CNT 0 2) n.val 1 mv.toNat))

/-- The stagger ends a slot number of STAGGER times after its beginning, and the posted slot is used up. -/
def Sys2Proof.Claims.StaggerSlot : Prop :=
  ∀ (d : Dev) (t : Nat), let e := beginStagger d t
    e.ldr.staggerEnd = some (t + startSlotOf d * staggerNs d) ∧ e.ldr.slot = startSlotOf d ∧ e.ldr.posted = none ∧ staggerNs d ≤ 500000000 ∧
    (∀ s, d.ldr.posted = some s → startSlotOf d = s) ∧ (∀ s, d.ldr.posted = none → d.ldr.vaultSlot = some s → startSlotOf d = s)

/-- Power-down: the group that has fallen is off and the next follows; a rail that does not fall in time is marked with cause 4, kept for the Vault, and the next group follows at once. -/
def Sys2Proof.Claims.PowerDown : Prop :=
  (∀ (s : State), s.dev.pwr.state = .flushing → s.dev.pwr.down < 5 →
    Does .railFallen s { groupOff s.dev s.dev.pwr.down (downKeeps30 s.dev) with pwr.down := s.dev.pwr.down + 1, pwr.downAt := s.dev.now }) ∧
  (∀ (s : State) (n : Fin 64) (mv : BitVec 16), let d := reach s.dev (s.dev.pwr.downAt + fallNs s.dev n.val)
    let x := groupOff d d.pwr.down (downKeeps30 d)
    let y := bump (setRail x n.val { getRail x n.val with cause := 4, mv := mv.toNat }) .PWR_CNT 0 5
    s.dev.pwr.state = .flushing → (downGroup s.dev.pwr.down).contains n.val = true → ¬ (n.val = 30 ∧ downKeeps30 s.dev = true) → (s.dev.pwr.downFail >>> n.val) % 2 = 0 →
    Does (.railFallTimeout n mv) s { y with pwr.down := y.pwr.down + 1, pwr.downAt := y.now, pwr.downFail := y.pwr.downFail + 2 ^ n.val }) ∧
  (∀ (s : State), s.dev.pwr.state ≠ .flushing → DoesNothing .railFallen s)

/-- A rail outside its window for its filter time fails with cause 2 or 3; a shorter crossing is counted. Loss of the input below 36 V and a thermal trip leave the device OFF without a flush; an
overvoltage longer than the filter is C0; a lost clock domain and a failed hub function raise their class. -/
def Sys2Proof.Claims.RailsAndInput : Prop :=
  (∀ (s : State) (n : Fin 64) (mv us : BitVec 16), (getRail s.dev n.val).st = .up → mv.toNat < railUv s.dev n.val → railFilter s.dev n.val ≤ us.toNat →
    Does (.railWindowViolation n mv us) s (railFails (bump s.dev .PWR_CNT 0 3) n.val 2 mv.toNat)) ∧
  (∀ (s : State) (n : Fin 64) (mv us : BitVec 16), (getRail s.dev n.val).st = .up → railUv s.dev n.val ≤ mv.toNat → railOv s.dev n.val < mv.toNat → railFilter s.dev n.val ≤ us.toNat →
    Does (.railWindowViolation n mv us) s (railFails (bump s.dev .PWR_CNT 0 3) n.val 3 mv.toNat)) ∧
  (∀ (s : State) (n : Fin 64) (mv us : BitVec 16), let r := getRail s.dev n.val
    r.st = .up → (mv.toNat < railUv s.dev n.val ∨ railOv s.dev n.val < mv.toNat) → us.toNat < railFilter s.dev n.val →
    Does (.railWindowViolation n mv us) s (bump (setRail s.dev n.val { r with glitches := sat (r.glitches + 1) 0xFFFF, mv := mv.toNat }) .PWR_CNT 0 4)) ∧
  (∀ (s : State) (mv : BitVec 16), s.dev.pwr.state ≠ .off →
    ∃ e, Does (.inputBelow36V mv) s e ∧ e.pwr.state = .off ∧ e.reqs = [] ∧ e.per.flush = none ∧ e.pwr.inputMv = mv.toNat * 10 ∧ e.mem = s.dev.mem ∧ (∀ p ∈ e.pwr.rails, p.2.st = .off)) ∧
  (∀ (s : State), s.dev.pwr.state ≠ .off →
    ∃ e, Does .thermalTrip s e ∧ e.pwr.state = .off ∧ e.reqs = [] ∧ e.per.flush = none ∧ e.mem = s.dev.mem ∧ (∀ p ∈ e.pwr.rails, p.2.st = .off)) ∧
  (∀ (s : State) (mv us : BitVec 16), s.dev.pwr.state ≠ .off → 6100 < mv.toNat → zeroAs 1 (hfld s.dev .PWR_INPUT_CFG 7 0) < us.toNat →
    Does (.inputOvervoltage mv us) s (raise { s.dev with pwr.inputMv := mv.toNat * 10 } { cls := 0, cause := 0x04, unit := uHub 7, addr := mv.toNat, sev := some 2 })) ∧
  (∀ (s : State) (n : Fin 100), s.dev.pwr.state ≠ .off → n.val < 16 →
    Does (.clockDomainLoss n) s
      (raise (fenceCourse { s.dev with flt.unlocked := sinsert s.dev.flt.unlocked n.val } n.val 0x01) { cls := 2, cause := 0x01, unit := uCourse n.val, addr := n.val })) ∧
  (∀ (s : State) (n : Fin 100), s.dev.pwr.state ≠ .off → n.val = 92 →
    Does (.clockDomainLoss n) s (clocksStop { s.dev with flt.unlocked := sinsert s.dev.flt.unlocked n.val } 0x01 (uHub 0) 92)) ∧
  (∀ (s : State) (n : Fin 100), s.dev.pwr.state ≠ .off → 88 ≤ n.val → n.val < 90 →
    Does (.clockDomainLoss n) s (raise { s.dev with flt.unlocked := sinsert s.dev.flt.unlocked n.val } { cls := 3, cause := 0x01, unit := uHub 0, addr := n.val } .noFlush)) ∧
  (∀ (s : State) (i : Fin 13), s.dev.pwr.state ≠ .off →
    Does (.hubFunctionFailure i) s (raise { s.dev with flt.hubFailed := sinsert s.dev.flt.hubFailed i.val } { cls := 3, cause := 0x19, unit := uHub i.val }))

/-- The reset pin: asserted in SERVICE it begins a flush that ends in a warm reset, during a flush it is remembered, at HALTED without a cause that only power-on clears it restarts at once; released it
lets a held start go on. -/
def Obligations.ResetPin : Prop :=
  (∀ (s : State), inService3 s.dev = true → Does .resetNAssert s (beginFlush { s.dev with pwr.resetN := false } .warmReset)) ∧
  (∀ (s : State), s.dev.pwr.state = .flushing → Does .resetNAssert s { s.dev with pwr.resetN := false, pwr.resetWanted := true }) ∧
  (∀ (s : State), s.dev.pwr.state = .halted → s.dev.flt.grave = false → Does .resetNAssert s { freshDev { s.dev with pwr.resetN := false } true with pwr.state := .starting }) ∧
  (∀ (s : State), s.dev.pwr.state = .halted → s.dev.flt.grave = true → Does .resetNAssert s { s.dev with pwr.resetN := false }) ∧
  (∀ (s : State), s.dev.pwr.state = .starting → s.dev.pwr.inputGood = true → s.dev.pwr.upping = false → s.dev.ldr.step = 1 →
    Does .resetNRelease s (beginOrder { s.dev with pwr.resetN := true } true)) ∧
  (∀ (s : State), s.dev.pwr.state ≠ .starting → Does .resetNRelease s { s.dev with pwr.resetN := true })

/-- A warm reset keeps the registers of class ST and the calendar and no other register; a power-on keeps neither; both keep memory, chambers, keys of chambers, T2 maps, sump sets, the claims and the start
count. -/
def Obligations.WhatAResetKeeps : Prop :=
  (∀ (d : Dev) (warm : Bool), let e := freshDev d warm
    e.mem = d.mem ∧ e.poison = d.poison ∧ e.tier.map = d.tier.map ∧ e.per.sump = d.per.sump ∧ e.cus.pairClaim = d.cus.pairClaim ∧ e.cus.ownClaim = d.cus.ownClaim ∧
    e.ldr.startCount = d.ldr.startCount ∧ e.reqs = [] ∧ e.shadow = [] ∧ e.tier.frames = [] ∧ e.bulk.cmds = [] ∧ e.mode.epoch = d.mode.epoch ∧ e.pwr.gated = allCells ∧
    (∀ p ∈ e.snap.snaps, p.2.state ≠ .pending) ∧ (∀ p ∈ e.conns, p.2.state = .free ∨ p.2.state = .quarantine) ∧ (∀ p ∈ e.chm.keys, p.2.inval = false) ∧
    (∀ p ∈ e.chm.chambers, p.2.state ≠ .draining ∧ p.2.state ≠ .creating)) ∧
  (∀ (d : Dev) (p : Nat × Word), p ∈ (freshDev d true).regs ↔ p ∈ d.regs ∧ ∃ r, keyReg p.1 = some r ∧ (regInfo r).cls = .st) ∧
  (∀ (d : Dev), (freshDev d true).cal.ents = d.cal.ents ∧ (freshDev d false).cal.ents = [] ∧ (freshDev d false).regs = [])

/-- The start order: training ends step 1, an image that passes ends step 2 and a bad one holds it for 10 s, replay ends step 5, and the bounds of the steps end the others. -/
def Obligations.StartSteps : Prop :=
  (∀ (s : State) (hb : List CellNo) (md : List (CellNo × MediaFound)), let d1 := forEach allCells s.dev fun d c => startHbm d c (hb.any fun b => b.val == c)
    s.dev.pwr.state = .starting → s.dev.ldr.step = 1 → s.dev.pwr.upStep = 12 → (s.dev.pwr.gated.any fun c => !cellFenced s.dev c) = false →
    (s.dev.pwr.rails.any fun p => p.2.enabledAt.isSome) = false →
    Does (.channelTrainingDone hb md) s
      (enterStep { (forEach allCells d1 fun d c => startMedia d c (foundOn d md c)) with pwr.upping := false, pwr.gated := [] } 2)) ∧
  (∀ (s : State) (a b : ImgCopy) (r : IdRec), let x := chooseCopy s.dev a b
    s.dev.pwr.state = .starting → s.dev.ldr.step = 2 → s.dev.ldr.retryAt = none → x.chosen = some false → x.divergent = false → chosenCheck a = 0 → ownRec a = some r →
    Does (.imageLoadComplete a b) s (enterStep (applyImage { s.dev with ldr.copyA := x.a, ldr.copyB := x.b } a r false) 3)) ∧
  (∀ (s : State) (a b : ImgCopy), let x := chooseCopy s.dev a b
    s.dev.pwr.state = .starting → s.dev.ldr.step = 2 → s.dev.ldr.retryAt = none → x.chosen = none →
    Does (.imageLoadComplete a b) s { s.dev with ldr.copyA := x.a, ldr.copyB := x.b, ldr.cause := 12, ldr.retryAt := some (s.dev.now + sec 10) }) ∧
  (∀ (s : State) (t : Nat), s.dev.ldr.retryAt = some t → Does .imageRetryTimer s { reach s.dev t with ldr.retryAt := none }) ∧
  (∀ (s : State) (metaBad : List CellNo) (bad : List Nat) (t : Nat), s.dev.pwr.state = .starting → s.dev.ldr.step = 5 → s.dev.ldr.replayed = false → s.dev.ldr.format = some t →
    Does (.replayComplete metaBad bad) s (formatDevice s.dev t)) ∧
  (∀ (s : State) (bad : List Nat), s.dev.pwr.state = .starting → s.dev.ldr.step = 5 → s.dev.ldr.replayed = false → s.dev.ldr.format = none →
    Does (.replayComplete [] bad) s (let d := (replayAll s.dev [] bad).1; { forEach (allCells.filter (mediaOn d)) d resumeReads with ldr.replayed := true })) ∧
  (∀ (s : State), let d := reach s.dev (s.dev.ldr.stepAt + ms 500)
    s.dev.pwr.state = .starting → s.dev.ldr.step = 3 → Does .startStepTimeout s (goStep d 4)) ∧
  (∀ (s : State), let d := reach s.dev (s.dev.ldr.stepAt + ms 200)
    s.dev.pwr.state = .starting → s.dev.ldr.step = 6 → Does .startStepTimeout s (goStep d 7)) ∧
  (∀ (s : State), let d := reach s.dev (s.dev.ldr.stepAt + ms 100)
    s.dev.pwr.state = .starting → s.dev.ldr.step = 8 → Does .startStepTimeout s (goStep (elect d) 9)) ∧
  (∀ (s : State) (t : Nat), s.dev.pwr.state = .halted → s.dev.ldr.delayUntil = some t → Does .restartDelayExpiry s (beginStart (reach s.dev t) true)) ∧
  (∀ (s : State), let d := reach s.dev s.dev.ldr.rereadAt
    s.dev.ldr.imageLoaded = true → isDown s.dev = false → Does (.moduleRereadTimer false) s { d with ldr.rereadAt := d.now + sec 10 }) ∧
  (∀ (s : State), let d := reach s.dev s.dev.ldr.rereadAt
    s.dev.ldr.imageLoaded = true → isDown s.dev = false → s.dev.ldr.moduleWritten = false →
    Does (.moduleRereadTimer true) s (logEvent { d with ldr.rereadAt := d.now + sec 10, ldr.moduleWritten := true } 1 (uHub 1) [])) ∧
  (∀ (s : State) (t : Nat), let d := reach s.dev (s.dev.ldr.trigger + ms t + sec 10)
    nget s.dev.ldr.stepEnds 8 = some t → isLeader s.dev = true → s.dev.ldr.complete = false → s.dev.ldr.leaderTold = false → isDown s.dev = false →
    Does .leaderWaitExpiry s (logEvent { d with ldr.leaderTold := true } 1 (uHub 1) [absentMembers s.dev]))

/-- Service opens at step 10 when the pair is settled or may start cold, the device is not behind in mode, and every live cell has an armed sump set; and not before. -/
def Obligations.ServiceOpens : Prop :=
  (∀ (d : Dev), d.pwr.state = .starting → mayOpen d = true → startProgress d = openService d) ∧
  (∀ (d : Dev), standalone d = true → let e := openService d
    e.ldr.step = 15 ∧ e.pwr.state = .service ∧ e.per.owed = some d.ldr.startCount ∧ e.mem = d.mem ∧ e.ldr.vaultSlot = some d.ldr.idSlot) ∧
  (∀ (d : Dev), d.pwr.state ≠ .starting → startProgress d = d) ∧
  (∀ (d : Dev), mayOpen d = false → (d.ldr.step < 3 ∨ 10 ≤ d.ldr.step ∨ stepOver d = false) → startProgress d = d) ∧
  (∀ (d : Dev), mayOpen d = true ↔ d.ldr.step = 10 ∧ (d.cus.settled = true ∨ d.cus.coldOver = true) ∧ d.mode.behind = false ∧ ∀ c ∈ allCells, liveCell d c = true → hasArmed d c = true)

/-- Power states: a GOTO begins an entry or exit, or is latched while one runs; each ends where it leads; DORMANT puts the channels in self-refresh; cells wake one per course and slot. -/
def Sys2Proof.Claims.PowerStates : Prop :=
  (∀ (s : State) (w : Writer), let d := asked s.dev w .PWR_STATE_CTRL 0 0
    Accepts s.dev w .PWR_STATE_CTRL 0 → s.dev.pwr.state = .service → s.dev.pwr.move = none → s.dev.pwr.maint = false →
    Does (.gotoQuiet w false) s { d with pwr.move := some ⟨true, .quiet, d.now, d.now + (promoMs d + ms 1)⟩ } ∧
    Does (.gotoDormant w false) s { d with pwr.move := some ⟨true, .quiet, d.now, d.now + (promoMs d + ms 1)⟩, pwr.latched := some .dormant } ∧
    Does (.gotoService w false) s d) ∧
  (∀ (s : State) (w : Writer), let d := asked s.dev w .PWR_STATE_CTRL 0 0
    Accepts s.dev w .PWR_STATE_CTRL 0 → s.dev.pwr.state = .dormant → s.dev.pwr.move = none → s.dev.pwr.maint = false →
    Does (.gotoService w false) s { d with pwr.move := some ⟨false, .service, d.now, d.now + us 850⟩ } ∧
    Does (.gotoQuiet w false) s { d with pwr.move := some ⟨false, .quiet, d.now, d.now + us 820⟩ }) ∧
  (∀ (s : State) (w : Writer) (m : Move), let d := asked s.dev w .PWR_STATE_CTRL 0 0
    Accepts s.dev w .PWR_STATE_CTRL 0 → inService3 s.dev = true → s.dev.pwr.move = some m → s.dev.pwr.maint = false →
    Does (.gotoService w false) s { d with pwr.latched := some .service } ∧ Does (.gotoQuiet w false) s { d with pwr.latched := some .quiet } ∧
    Does (.gotoDormant w false) s { d with pwr.latched := some .dormant }) ∧
  (∀ (s : State) (m : Move), s.dev.pwr.state = .service → s.dev.pwr.move = some m → m.entry = true → m.target = .quiet → s.dev.pwr.latched = none → hostBusy s.dev = false →
    Does .quietEntryDone s (bump { s.dev with pwr.state := .quiet, pwr.move := none } .PWR_CNT 0 0)) ∧
  (∀ (s : State), hostBusy s.dev = true → DoesNothing .quietEntryDone s) ∧
  (∀ (s : State) (m : Move), s.dev.pwr.state = .quiet → s.dev.pwr.move = some m → m.entry = false → m.target = .service → s.dev.pwr.latched = none → s.dev.bulk.cmds = [] →
    Does .quietExitDone s (pump { s.dev with pwr.state := .service, pwr.move := none })) ∧
  (∀ (s : State) (m : Move), let d := forEach (s.dev.tier.alc.map (·.1)) (leaveProving s.dev 5) drainCell
    s.dev.pwr.state = .quiet → s.dev.pwr.move = some m → m.entry = true → m.target = .dormant → s.dev.pwr.latched = none →
    passRuns s.dev = false → d.reqs = [] →
    ∃ e, Does .dormantEntryDone s e ∧ e.pwr.state = .dormant ∧ e.pwr.move = none ∧ hbmAwake e = hbmAwake { d with hbm := nmap d.hbm sleepHbm } ∧ e.mem = d.mem) ∧
  (∀ (s : State), passRuns s.dev = true → DoesNothing .dormantEntryDone s) ∧
  (∀ (s : State) (m : Move), s.dev.pwr.state = .dormant → s.dev.pwr.move = some m → m.entry = false → s.dev.pwr.gated = [] → hbmAwake s.dev = true → s.dev.pwr.latched = none →
    s.dev.bulk.cmds = [] → Does .dormantExitDone s (pump { s.dev with pwr.state := m.target, pwr.move := none, pwr.wakeFirst := [], med := nmap s.dev.med resumeErases })) ∧
  (∀ (s : State) (m : Move) (c : CellNo), s.dev.pwr.state = .dormant → s.dev.pwr.move = some m → m.entry = false → s.dev.pwr.gated = [c.val] → cellFenced s.dev c.val = false →
    nget s.dev.pwr.lastWake (c.val / 16) = none →
    Does .cellWakeSlot s (pump (bump { s.dev with pwr.gated := [], pwr.lastWake := nset s.dev.pwr.lastWake (c.val / 16) s.dev.now } .PWR_CNT 0 6)))

/-- Maintenance: entered in QUIET, it lets margins be written, and its end returns every margin to 0; outside it a margin write is denied. -/
def Sys2Proof.Claims.Maintenance : Prop :=
  (∀ (s : State) (w : Writer), let d := asked s.dev w .PWR_STATE_CTRL 0 0
    Accepts s.dev w .PWR_STATE_CTRL 0 → s.dev.pwr.state = .quiet → s.dev.pwr.move = none → Does (.maintEnter w) s { d with pwr.maint := true }) ∧
  (∀ (s : State) (w : Writer), let d := asked s.dev w .PWR_STATE_CTRL 0 0
    Accepts s.dev w .PWR_STATE_CTRL 0 → s.dev.pwr.maint = true → Does (.maintEnd w) s (endMaint d)) ∧
  (∀ (d : Dev) (n : Fin 64), reg (endMaint d) .PWR_MARGIN 0 n.val = 0) ∧
  (∀ (s : State) (w : Writer) (n : Fin 64) (v : Word), let d := asked s.dev w .PWR_MARGIN 0 n.val
    Accepts s.dev w .PWR_MARGIN 0 → s.dev.pwr.state = .quiet → s.dev.pwr.maint = true → Does (.marginWrite w n v) s (followTarget (setReg d .PWR_MARGIN 0 n.val (v &&& regMask .PWR_MARGIN n.val)) n.val)) ∧
  (∀ (d : Dev) (n : Nat), (getRail d n).st = .up → (getRail (followTarget d n) n).mv = railNominal n * (1000 + 5 * marginStep d n).toNat / 1000) ∧
  (∀ (s : State) (w : Writer) (n : Fin 64) (v : Word), served s.dev w = true → s.dev.pwr.maint = false →
    Does (.marginWrite w n v) s (accessDone s.dev w (regAddr .PWR_MARGIN 0 n.val) acDenied))

/-- Link doze: an idle port that may doze asks, the other end agrees or not, silence keeps the port awake, and a wake ends doze. -/
def Sys2Proof.Claims.LinkDoze : Prop :=
  (∀ (s : State) (p : CellNo), let z := (getPort s.dev p.val).doze
    let d := reach s.dev (z.idleSince + us (max 5 (cfld s.dev .PORT_DOZE_CFG p.val 7 0)))
    let q := (z.seq + 1) % 256
    z.st = .active → mayDoze d p.val = true → dataQueued s.dev p.val = false → isDown s.dev = false →
    Does (.dozeIdleTimer p) s (sendCtrl (modDoze d p.val fun z => { z with st := .requested, seq := q, deadline := d.now + us 10 }) 0xEA p.val (payload (dozeBytes q 0)))) ∧
  (∀ (s : State) (p : CellNo) (sec : SecTag) (seq : BitVec 8), let x := ctrlHeard s.dev p.val sec
    x.2 = true → (getPort x.1 p.val).doze.st = .active → mayDoze x.1 p.val = true → dataQueued x.1 p.val = false →
    Does (.dozeReq p sec seq) s (enterDoze (sendCtrl x.1 0xEB p.val (payload (dozeBytes seq.toNat 0))) p.val)) ∧
  (∀ (s : State) (p : CellNo) (sec : SecTag) (seq : BitVec 8), let x := ctrlHeard s.dev p.val sec
    x.2 = true → (getPort x.1 p.val).doze.st = .active → (mayDoze x.1 p.val = false ∨ dataQueued x.1 p.val = true) →
    Does (.dozeReq p sec seq) s (bump (sendCtrl x.1 0xEB p.val (payload (dozeBytes seq.toNat 1))) .PORT_DOZE_CNT p.val 1)) ∧
  (∀ (s : State) (p : CellNo) (sec : SecTag) (seq res : BitVec 8), let x := ctrlHeard s.dev p.val sec
    x.2 = true → (getPort x.1 p.val).doze.st = .requested → (getPort x.1 p.val).doze.seq = seq.toNat →
    (res = 0 → Does (.dozeAck p sec seq res) s (enterDoze x.1 p.val)) ∧
    (res ≠ 0 → Does (.dozeAck p sec seq res) s (bump (stayAwake x.1 p.val) .PORT_DOZE_CNT p.val 1))) ∧
  (∀ (s : State) (p : CellNo), (getPort s.dev p.val).doze.st = .requested →
    Does (.dozeReqTimeout p) s (stayAwake (reach s.dev (getPort s.dev p.val).doze.deadline) p.val)) ∧
  (∀ (s : State) (p : CellNo), let z := (getPort s.dev p.val).doze
    z.st = .doze → Does (.dozeWake p) s
      (bumpBy (modDoze s.dev p.val fun z => { z with st := .exiting, deadline := s.dev.now + us 1 }) .PORT_DOZE_CNT p.val 3 ((s.dev.now - z.deadline) / 1000))) ∧
  (∀ (s : State) (p : CellNo), (getPort s.dev p.val).doze.st = .entering → (getPort s.dev p.val).doze.latched = false →
    Does (.dozeWake p) s (bump (modDoze s.dev p.val fun z => { z with latched := true }) .PORT_DOZE_CNT p.val 2))

/-! ### Faults, proving, management and the Vault (spec/17_faults_and_events.md, spec/18_management.md) -/

/-- The release of a fence begins for a unit whose cause has gone, and ends with a cell whose pools are whole and whose engines are empty; a clear empties the capture, and class bits clear unless their
condition remains. -/
def Sys2Proof.Claims.FencesAndClears : Prop :=
  (∀ (s : State) (w : Writer) (u : BitVec 16) (b : Bool), let d := asked s.dev w .FLT_UNFENCE 0 0
    let i := u.toNat % 4096
    let d1 := if b then relock d (i / 16) else d
    Accepts s.dev w .FLT_UNFENCE 0 → s.dev.flt.unfencing = none → u.toNat / 4096 = 1 → i < 256 → cellFenced d1 i = true → nhas d1.flt.courses (i / 16) = false →
    courseBars d1 (i / 16) = false → cellBars d1 i = false → Does (.fltUnfence w u b) s { d1 with flt.unfencing := some u.toNat }) ∧
  (∀ (s : State) (w : Writer) (u : BitVec 16), let d := asked s.dev w .FLT_UNFENCE 0 0
    let i := u.toNat % 4096
    Accepts s.dev w .FLT_UNFENCE 0 → s.dev.flt.unfencing = none → u.toNat / 4096 = 1 → i < 256 → cellFenced d i = true → cellBars d i = true →
    Does (.fltUnfence w u false) s { d with flt.unfenceResult := 1 }) ∧
  (∀ (s : State) (w : Writer) (u : BitVec 16) (b : Bool), let d := asked s.dev w .FLT_UNFENCE 0 0
    Accepts s.dev w .FLT_UNFENCE 0 → s.dev.flt.unfencing = none → u.toNat / 4096 ≠ 1 → u.toNat / 4096 ≠ 10 → Does (.fltUnfence w u b) s { d with flt.unfenceResult := 2 }) ∧
  (∀ (s : State) (u : Nat), s.dev.flt.unfencing = some u → u / 4096 = 1 →
    Does .cellReleaseDone s (pump (releaseCell { s.dev with flt.unfencing := none, flt.unfenceResult := 0 } (u % 4096)))) ∧
  (∀ (s : State) (w : Writer), let d := asked s.dev w .FLT_FIRST 0 0
    Accepts s.dev w .FLT_FIRST 0 → Does (.fltFirstClear w) s { d with flt.first := emptied d fun _ => true }) ∧
  (∀ (d : Dev) (mine : Capture → Bool), (∀ x ∈ d.flt.cycle, x.at_ ≠ d.now) → emptied d mine = none) ∧
  (∀ (s : State) (w : Writer) (a : BitVec 32) (c : CellNo) (v : Word) (env : Env), let d := asked s.dev w .FLT_CELL_FIRST c.val 0
    a.toNat = regAddr .FLT_CELL_FIRST c.val 0 → Accepts s.dev w .FLT_CELL_FIRST c.val → fbit v 31 = true → (∀ x ∈ d.flt.cycle, x.at_ ≠ d.now) →
    Does (.registerWrite w a v env) s { d with flt.cellFirst := ndel d.flt.cellFirst c.val }) ∧
  (∀ (s : State) (w : Writer) (v : Word), let d := asked s.dev w .FLT_STATUS 0 0
    let named := BitVec.ofNat 5 (v.toNat % 16)
    Accepts s.dev w .FLT_STATUS 0 → Does (.fltStatusClear w v) s { d with flt.bits := (d.flt.bits &&& ~~~named) ||| (conditions d &&& named) })

/-- Injection arms the flip that its fields name, and is denied without TEST_MODE; a permitted port enters PROVING, others are refused; it leaves by EXIT or after LIMIT_S; a held frame goes on after 10 µs. -/
def Sys2Proof.Claims.InjectionAndProving : Prop :=
  (∀ (s : State) (w : Writer) (v : Word) (j : Injection), let d := asked s.dev w .TST_INJECT_CTRL 0 0
    Accepts s.dev w .TST_INJECT_CTRL 0 → s.dev.tst.testMode = true → flipOf v (hreg d .TST_INJECT_ADDR) = some j → Does (.inject w v) s { d with tst.inject := d.tst.inject ++ [j] }) ∧
  (∀ (s : State) (w : Writer) (v : Word), served s.dev w = true → s.dev.tst.testMode = false →
    Does (.inject w v) s (accessDone s.dev w (regAddr .TST_INJECT_CTRL 0 0) acDenied)) ∧
  (∀ (s : State) (w : Writer) (p : CellNo), let d := asked s.dev w .TST_PROVE_CTRL 0 0
    Accepts s.dev w .TST_PROVE_CTRL 0 → mayProve d p.val = true →
    Does (.proveEnter w p) s { d with tst.proving := some p.val, tst.lastPort := p.val, tst.entered := d.now, tst.draws := 0,
                                      tst.limitS := 16 * clampTo 1 225 (hfld d .TST_PROVE_CFG 31 20), tst.seed := zeroAs 1 (hfld d .TST_PROVE_CFG 15 0) }) ∧
  (∀ (s : State) (w : Writer) (p : CellNo), let d := asked s.dev w .TST_PROVE_CTRL 0 0
    Accepts s.dev w .TST_PROVE_CTRL 0 → mayProve d p.val = false → Does (.proveEnter w p) s { d with tst.refused := true }) ∧
  (∀ (s : State) (w : Writer) (p : Nat), let d := asked s.dev w .TST_PROVE_CTRL 0 0
    Accepts s.dev w .TST_PROVE_CTRL 0 → s.dev.tst.proving = some p → Does (.proveExit w) s { d with tst.proving := none, tst.lastPort := p, tst.ended := 1 }) ∧
  (∀ (s : State) (p : Nat), let d := reach s.dev (s.dev.tst.entered + sec s.dev.tst.limitS)
    s.dev.tst.proving = some p → Does .proveLimitExpiry s { d with tst.proving := none, tst.lastPort := p, tst.ended := 2 }) ∧
  (∀ (s : State) (h : HeldFrame), let d := reach s.dev (h.since + us 10)
    s.dev.tst.held = [h] → Does .proveReorderTimeout s (runFrame { d with tst.held := [] } h.frame))

/-- A write of a register by a client of tenant 0: an RW or ST register takes the value at its writable bits at once, an SH register takes it into its shadow, an RO register ignores it; the access is
denied to other tenants and to I3C, and completes NO_UNIT where no register is. A write at a register's own address, outside windows and views, reaches that register unless it is one with commands; one at
an address of many cells reaches the shadow of each. -/
def Sys2Proof.Claims.RegisterWrites : Prop :=
  (∀ (s : State) (w : Writer) (a : BitVec 32) (v : Word) (env : Env), let d := asked s.dev w .CAL_POST 0 0
    a.toNat = regAddr .CAL_POST 0 0 → Accepts s.dev w .CAL_POST 0 → Does (.registerWrite w a v env) s (setReg d .CAL_POST 0 0 (v &&& regMask .CAL_POST 0))) ∧
  (∀ (s : State) (w : Writer) (a : BitVec 32) (v : Word) (env : Env) (c : CellNo), let d := asked s.dev w .HBM_POLICY_CFG c.val 0
    a.toNat = regAddr .HBM_POLICY_CFG c.val 0 → Accepts s.dev w .HBM_POLICY_CFG c.val →
    Does (.registerWrite w a v env) s (stageMasked d .HBM_POLICY_CFG c.val 0 (regMask .HBM_POLICY_CFG 0) v)) ∧
  (∀ (s : State) (w : Writer) (a : BitVec 32) (v : Word) (env : Env), a.toNat = regAddr .TIME_STATUS 0 0 → Accepts s.dev w .TIME_STATUS 0 →
    Does (.registerWrite w a v env) s (asked s.dev w .TIME_STATUS 0 0)) ∧
  (∀ (s : State) (w : Writer) (a : BitVec 32) (v : Word) (env : Env), a.toNat = regAddr .CAL_POST 0 0 → served s.dev w = true → operator s.dev w = false →
    Does (.registerWrite w a v env) s (accessDone s.dev w a.toNat acDenied)) ∧
  (∀ (s : State) (w : Writer) (a : BitVec 32) (v : Word) (env : Env), served s.dev w = true → inWindow a.toNat = false → placeAt a.toNat = none →
    Does (.registerWrite w a v env) s (accessDone s.dev w a.toNat acNoUnit)) ∧
  (∀ (s : State) (w : Writer) (a : BitVec 32) (v : Word) (env : Env), served s.dev w = false → DoesNothing (.registerWrite w a v env) s) ∧
  (∀ (s : State) (w : Writer) (a : BitVec 32) (v : Word) (env : Env) (c i : Nat) (r : RegId), inWindow a.toNat = false → inView a.toNat = false → placeAt a.toNat = some (.cell c r i) →
    Accepts s.dev w r c → r ∉ [.PORT_FENCE, .MED_CTRL, .HBM_CE_CLEAR, .HBM_RETIRE_CMD, .FLT_CELL_FIRST] →
    Does (.registerWrite w a v env) s (plainWrite (asked s.dev w r c i) w r c i v)) ∧
  (∀ (s : State) (w : Writer) (a : BitVec 32) (v : Word) (env : Env) (i : Nat) (r : RegId), inWindow a.toNat = false → inView a.toNat = false → placeAt a.toNat = some (.hub r i) →
    Accepts s.dev w r 0 → r ∉ [.TIER_CHM_CMD, .TIER_PLAN_CMD, .KEY_CMD, .TIME_ACT_CMD, .CAL_CMD, .CUS_CTRL, .PWR_STATE_CTRL, .PWR_MARGIN, .HUB_COMMIT, .TIME_TOD_CFG, .TIME_MODE_ADOPT,
      .FLT_UNFENCE, .FLT_FIRST, .FLT_STATUS, .TST_INJECT_CTRL, .TST_INJECT_ADDR, .TST_PROVE_CTRL, .VLT_UNLOCK, .VLT_CMD, .VLT_ADDR, .VLT_DATA, .VLT_CTRL] →
    Does (.registerWrite w a v env) s (plainWrite (asked s.dev w r 0 i) w r 0 i v)) ∧
  (∀ (s : State) (w : Writer) (a : BitVec 32) (v : Word) (env : Env) (l : List Nat) (i : Nat) (r : RegId), inWindow a.toNat = false → inView a.toNat = false → placeAt a.toNat = some (.many l r i) →
    served s.dev w = true → answering s.dev (.many l r i) ≠ [] → operator s.dev w = true → (regInfo r).cls = .sh →
    Does (.registerWrite w a v env) s (accessDone (forEach l s.dev fun d c => stageMasked d r c i (regMask r i) v) w a.toNat acOk))

/-- An accepted access changes nothing but HUB_ACCESS_STATUS of its path; a denied one also counts in HUB_MGT_CNT. -/
def Obligations.AccessFrame : Prop :=
  (∀ (d : Dev) (w : Writer) (r : RegId) (c i : Nat), { asked d w r c i with regs := d.regs } = d) ∧
  (∀ (d : Dev) (w : Writer) (r q : RegId) (c i e j : Nat), q ≠ .HUB_ACCESS_STATUS → e < 256 → j < 8192 → reg (asked d w r c i) q e j = reg d q e j) ∧
  (∀ (d : Dev) (w : Writer) (a st : Nat), { accessDone d w a st with regs := d.regs } = d) ∧
  (∀ (d : Dev) (w : Writer) (a : Nat), a < 2 ^ 32 → reg (accessDone d w a acDenied) .HUB_ACCESS_STATUS 0 (2 * pathIdx w + 1) = BitVec.ofNat 32 a ∧
    fld (reg (accessDone d w a acDenied) .HUB_ACCESS_STATUS 0 (2 * pathIdx w)) 31 28 = 3)

/-- A management request is answered: one that is malformed, has a wrong tag, or is out of sequence executes nothing; the next sequence follows an executed one. I3C takes its address, and a read without an
address gives the summary. -/
def Sys2Proof.Claims.ManagementMessages : Prop :=
  (∀ (s : State) (c : Fin 16) (m : MgmtMsg) (env : Env), let k := portConnKey c.val
    served s.dev (.port c) = true → (getConn s.dev k).state = .ready → (getConn s.dev k).service = .mgmt →
    Does (.managementRequest (.port c) m env) s (mgmtRun env s.dev (.port c) k m)) ∧
  (∀ (env : Env) (d : Dev) (c : Fin 16) (k : Nat) (m : MgmtMsg), parseRequest m.bytes = none →
    ∃ e, mgmtRun env d (.port c) k m = e ∧ e.conns = d.conns ∧ e.mem = d.mem ∧ reg e .HUB_MGT_CNT 0 3 = reg d .HUB_MGT_CNT 0 3 + 1) ∧
  (∀ (env : Env) (d : Dev) (c : Fin 16) (k : Nat) (m : MgmtMsg) (x : Nat × List MgmtOp) (mat : Nat), parseRequest m.bytes = some x → mgmtMat d = some mat → m.tag ≠ Config.cmac mat m.bytes →
    ∃ e, mgmtRun env d (.port c) k m = e ∧ e.conns = d.conns ∧ e.mem = d.mem ∧ reg e .HUB_MGT_CNT 0 1 = reg d .HUB_MGT_CNT 0 1 + 1) ∧
  (∀ (s : State) (a : BitVec 7), s.dev.pwr.state ≠ .off → Does (.i3cDynamicAddress a) s { s.dev with i3c.dynAddr := some a.toNat }) ∧
  (∀ (s : State) (a : BitVec 32), s.dev.pwr.state ≠ .off → summaryOnly s.dev = false → Does (.i3cAddressWrite a) s { s.dev with i3c.addr := some a.toNat }) ∧
  (∀ (s : State) (n : Nat), let d := { s.dev with i3c.addr := none }
    s.dev.pwr.state ≠ .off → (s.dev.i3c.addr = none ∨ summaryOnly s.dev = true) →
    Does (.i3cPrivateRead n) s (sendCtrl (freeStep (bump (accessDone d .i3c (regAddr .FLT_STATUS 0 0) acOk) .HUB_MGT_CNT 0 7)) i3cOut 0
      ((((summaryWords d).flatMap fun v => leBytes 4 v.toNat).take n).map (·.toNat))))

/-- The sequence of the Vault: two unlock words, the command, the address and for a program eight words in order open, carry and complete it; any other write closes it with SEQ_ERR, as 1 ms does. -/
def Sys2Proof.Claims.VaultSequence : Prop :=
  (∀ (s : State) (w : Writer) (v : Word), let d := asked s.dev w .VLT_UNLOCK 0 0
    Accepts s.dev w .VLT_UNLOCK 0 → s.dev.vlt.seq = none → v.toNat % 2 ^ 16 = 0xA55A →
    Does (.vaultUnlock w v) s { d with vlt.seq := some { owner := vaultOwner w, stage := 1, since := d.now } }) ∧
  (∀ (s : State) (w : Writer) (v : Word) (q : VaultSeq), let d := asked s.dev w .VLT_UNLOCK 0 0
    Accepts s.dev w .VLT_UNLOCK 0 → s.dev.vlt.seq = some q → q.owner = vaultOwner w → q.stage = 1 → v.toNat % 2 ^ 16 = 0x5AA5 →
    Does (.vaultUnlock w v) s { d with vlt.seq := some { q with stage := 2 } }) ∧
  (∀ (s : State) (w : Writer) (q : VaultSeq), let d := asked s.dev w .VLT_CMD 0 0
    Accepts s.dev w .VLT_CMD 0 → s.dev.vlt.seq = some q → q.owner = vaultOwner w → q.stage = 2 →
    Does (.vaultCmdProgram w) s { d with vlt.seq := some { q with stage := 3, erase := false } } ∧
    Does (.vaultCmdErase w) s { d with vlt.seq := some { q with stage := 3, erase := true } }) ∧
  (∀ (s : State) (w : Writer) (q : VaultSeq), let d := asked s.dev w .VLT_CMD 0 0
    Accepts s.dev w .VLT_CMD 0 → s.dev.vlt.seq = some q → q.owner = vaultOwner w → q.stage ≠ 2 → Does (.vaultCmdErase w) s { d with vlt.seq := none, vlt.seqErr := true }) ∧
  (∀ (s : State) (w : Writer) (v : Word) (q : VaultSeq), let d := asked s.dev w .VLT_ADDR 0 0
    Accepts s.dev w .VLT_ADDR 0 → s.dev.vlt.seq = some q → q.owner = vaultOwner w → q.stage = 3 → v.toNat < 2 ^ 21 →
    (q.erase = false → v.toNat % 32 = 0 → Does (.vaultAddr w v) s { d with vlt.seq := some { q with stage := 4, off := v.toNat } }) ∧
    (q.erase = true → v.toNat % 65536 = 0 → Does (.vaultAddr w v) s (vaultComplete { d with vlt.seq := none } { kind := 2, off := v.toNat }))) ∧
  (∀ (s : State) (w : Writer) (i : Fin 8) (v : Word) (q : VaultSeq), let d := asked s.dev w .VLT_DATA 0 i.val
    Accepts s.dev w .VLT_DATA 0 → s.dev.vlt.seq = some q → q.owner = vaultOwner w → q.stage = 4 → q.data.length = i.val →
    (i.val < 7 → Does (.vaultData w i v) s { d with vlt.seq := some { q with data := q.data ++ [v] } }) ∧
    (i.val = 7 → Does (.vaultData w i v) s (vaultComplete { d with vlt.seq := none } { kind := 1, off := q.off, data := q.data ++ [v] }))) ∧
  (∀ (s : State) (q : VaultSeq), let d := reach s.dev (q.since + ms 1)
    s.dev.vlt.seq = some q → Does .vaultSequenceTimeout s { d with vlt.seq := none, vlt.seqErr := true })

/-- What a completed sequence does: alone it starts with its first pulse, during an internal operation it waits, during a running operation it is an overrun, and during a suspended erase a program of another
sector runs inside. A pulse that passes ends the operation; the last allowed one that fails ends it with FAIL. SUSPEND cuts the pulse that runs, RESUME begins another. -/
def Sys2Proof.Claims.VaultOperations : Prop :=
  (∀ (d : Dev) (o : VaultOp), vaultInternal d = false → d.vlt.op = none → vaultComplete d o = vaultStart d o false) ∧
  (∀ (d : Dev) (o : VaultOp), vaultInternal d = true → d.vlt.waits = none → vaultComplete d o = { d with vlt.waits := some o }) ∧
  (∀ (d : Dev) (o r : VaultOp), vaultInternal d = false → d.vlt.op = some r → r.suspended = false → vaultComplete d o = { d with vlt.overrun := true }) ∧
  (∀ (d : Dev) (o r : VaultOp), vaultInternal d = false → d.vlt.op = some r → r.suspended = true → r.kind = 2 → o.kind = 1 → vaultSector o.off ≠ vaultSector r.off → d.vlt.inner = none →
    vaultComplete d o = vaultStart d o true) ∧
  (∀ (s : State) (o : VaultOp), isDown s.dev = false → s.dev.vlt.inner = none → s.dev.vlt.op = some o → o.suspended = false →
    Does (.vaultPulseDone true) s (vaultNext { vaultPassed s.dev o with vlt.op := none })) ∧
  (∀ (s : State) (o : VaultOp), let v := s.dev.vlt
    isDown s.dev = false → v.inner = none → v.op = some o → o.suspended = false → (o.kind = 1 → o.pulses < 12) → o.pulses < 40 →
    Does (.vaultPulseDone false) s
      { s.dev with vlt := { v with lastOp := o.kind, lastPulses := o.pulses + 1, lastSector := vaultSector o.off, op := some { o with pulses := o.pulses + 1 } } }) ∧
  (∀ (s : State) (o : VaultOp), isDown s.dev = false → s.dev.vlt.inner = none → s.dev.vlt.op = some o → o.suspended = false → 40 ≤ o.pulses →
    Does (.vaultPulseDone false) s (vaultNext { vaultGaveUp s.dev o with vlt.op := none })) ∧
  (∀ (s : State) (w : Writer) (o : VaultOp), let d := asked s.dev w .VLT_CTRL 0 0
    Accepts s.dev w .VLT_CTRL 0 → s.dev.vlt.inner = none → s.dev.vlt.op = some o → o.suspended = false → o.kind ≠ 4 →
    Does (.vaultSuspend w) s (bump { d with vlt.op := some { o with suspended := true, pulses := o.pulses - 1 } } .VLT_CNT 0 3)) ∧
  (∀ (s : State) (w : Writer) (o : VaultOp), let d := asked s.dev w .VLT_CTRL 0 0
    Accepts s.dev w .VLT_CTRL 0 → s.dev.vlt.inner = none → s.dev.vlt.op = some o → o.suspended = true →
    Does (.vaultResume w) s { d with vlt.op := some { o with suspended := false, pulses := o.pulses + 1 } })

/-- A user word reads what was last programmed into it: a program whose last pulse passed leaves its eight words as given, an erased sector reads all ones, and every other word stays. -/
def Obligations.VaultContents : Prop :=
  (∀ (d : Dev) (o : VaultOp) (i : Nat), o.kind = 1 → o.data.length = 8 → d.vlt.undef = [] → i < 8 → nget d.vlt.user (o.off / 4 + i) = none →
    vaultWord (vaultPassed d o).vlt (o.off / 4 + i) = o.data.getD i 0) ∧
  (∀ (d : Dev) (o : VaultOp) (i : Nat), o.kind = 1 → o.data.length = 8 → (i < o.off / 4 ∨ o.off / 4 + 8 ≤ i) → vaultWord (vaultPassed d o).vlt i = vaultWord d.vlt i) ∧
  (∀ (d : Dev) (o : VaultOp) (i : Nat), o.kind = 2 → d.vlt.undef = [] → (vaultWord (vaultPassed d o).vlt i = if i / 16384 = o.off / 65536 then 0xFFFFFFFF else vaultWord d.vlt i))

/-- The journal of S3 records: the oldest waiting record is programmed where a sector stands erased; the end of a sector's erase lets the waiting records follow. -/
def Sys2Proof.Claims.VaultJournal : Prop :=
  (∀ (s : State) (r : LogRec) (t : List LogRec), s.dev.pwr.state = .service → s.dev.log.jrn.waiting = r :: t → jrnReady s.dev = true → jrnBank s.dev = 0 →
    Does .journalProgramDone s (jrnPut { s.dev with log.jrn.waiting := t } r)) ∧
  (∀ (s : State), s.dev.pwr.state = .service → jrnReady s.dev = false → DoesNothing .journalProgramDone s) ∧
  (∀ (s : State), s.dev.pwr.state = .service → s.dev.log.jrn.erasing = true → s.dev.log.jrn.waiting = [] →
    Does .journalSectorEraseDone s (vaultNext { s.dev with log.jrn := { s.dev.log.jrn with erasing := false, nextErased := true } })) ∧
  (∀ (d : Dev) (r : LogRec), let e := jrnPut d r
    e.log.jrn.programmed = d.log.jrn.programmed + 1 ∧ e.log.jrn.recs.getLast? = some r ∧ reg e .LOG_CNT 0 5 = reg d .LOG_CNT 0 5 + 1 ∧
    (e.log.jrn.programmed % 1024 ≠ 512 → e.log.jrn.recs = d.log.jrn.recs ++ [r]))

/-- The grace after a key rotation ends with the old slot settled. A LIVE slot and one held by a grace stay; a RETIRING or LINKED one that no chamber names becomes EMPTY; a RETIRING one becomes LINKED
once no sector under it and no request that holds it remains. -/
def Sys2Proof.Claims.RotationGrace : Prop :=
  (∀ (s : State) (k t : Nat), let d := reachFed s.dev t
    s.dev.sec.ctrlOld = some (k, t) → t ≤ fedTime d → Does .rotationGraceEnd s (settleKeys { d with sec.ctrlOld := none })) ∧
  (∀ (d : Dev) (k : Nat) (x : KeySlot), (x.state = .live ∨ graceHolds d k = true) → settleSlot d k x = d) ∧
  (∀ (d : Dev) (k : Nat) (x : KeySlot), x.state ≠ .live → graceHolds d k = false → chamberNames d k = false → nwf d.sec.slots = true → nget (settleSlot d k x).sec.slots k = none) ∧
  (∀ (d : Dev) (k : Nat) (x : KeySlot), x.state = .retiring → graceHolds d k = false → chamberNames d k = true → slotSectors d k = false → slotHeld d k = false →
    nget (settleSlot d k x).sec.slots k = some { x with state := .linked, check := checkOf x.mat, mat := 0 }) ∧
  (∀ (d : Dev) (k : Nat) (x : KeySlot), x.state ≠ .live → chamberNames d k = true → (slotSectors d k = true ∨ slotHeld d k = true) → settleSlot d k x = d)

/-! ### Memory requests of hosts (spec/03_chambers.md, spec/04_olisar_transport.md, spec/08_tiers.md) -/

/-- An RDMA WRITE of bytes of one page that passes every check stores exactly its bytes, from the address that key and virtual address give, and changes no other byte. -/
def Obligations.HostWrites : Prop :=
  ∀ (s : State) (p : Pkt) (r : Reth) (data : List Byte) (c : Chamber) (f : Frame), let b : ReqBody := .write r data
    let d0 := frameHeard s.dev p b
    let d := taken d0 p
    let a := chmAddr (keyOf d r).chamber (offOf d r)
    let op : OpKind := if p.opcode.toNat = 0x0B ∨ p.opcode.toNat = 0xCB then .writeImm else .write
    Enters s.dev (.req p b) → Expected d0 p op (data != []) → (getConn d (connOf p)).service = .data → Quiet d p data.length → Granted d p r c → Fits d p r .write data.length → AtHand d r f →
    Writable d r f data.length →
    ∃ e, Does (.rdmaWrite p r data) s e ∧ e.mem = memWrite s.dev.mem a data ∧ (∀ x, (x < a ∨ a + data.length ≤ x) → memByte e.mem x = memByte s.dev.mem x) ∧
      ((getFrame e (pageOf d r)).any fun g => g.st == .modified) = true ∧ e.chm.chambers = s.dev.chm.chambers ∧ e.chm.keys = s.dev.chm.keys ∧ e.pwr = s.dev.pwr ∧ e.flt = s.dev.flt ∧
      e.sec.slots = s.dev.sec.slots ∧ e.vlt = s.dev.vlt ∧ e.cal = s.dev.cal

/-- An RDMA READ of bytes of one page answers, packet by packet, the bytes that memory holds there, with no poison mark, and changes no byte. -/
def Obligations.HostReads : Prop :=
  ∀ (s : State) (p : Pkt) (r : Reth) (c : Chamber) (f : Frame), let b : ReqBody := .read r []
    let d0 := frameHeard s.dev p b
    let d := taken d0 p
    let bytes := memRead s.dev.mem (chmAddr (keyOf d r).chamber (offOf d r)) r.len.toNat
    Enters s.dev (.req p b) → Expected d0 p .read false → (getConn d (connOf p)).service = .data → Quiet d p 0 → Granted d p r c → Fits d p r .read r.len.toNat → AtHand d r f →
    ∃ e, Does (.rdmaReadRequest p r []) s e ∧ e.mem = s.dev.mem ∧ e.poison = [] ∧
      (Reachable d (connOf p) → ∀ x ∈ packetSpans r.len.toNat (getConn d (connOf p)).pmtu, SentOut e fun o => ∃ h, o = .readData h ((bytes.drop x.1).take x.2) none)

/-- The atomics: COMPARE AND SWAP stores its swap value when the eight bytes equal its compare value and else changes nothing, FETCH AND ADD stores the sum modulo 2^64; both answer the original value. -/
def Obligations.HostAtomics : Prop :=
  ∀ (s : State) (p : Pkt) (r : Reth) (c : Chamber) (f : Frame),
    (∀ (cmp swp : BitVec 64), let b : ReqBody := .cas r cmp swp []
      let d0 := frameHeard s.dev p b
      let d := taken d0 p
      let a := chmAddr (keyOf d r).chamber (offOf d r)
      let old := leNat (memRead s.dev.mem a 8)
      Enters s.dev (.req p b) → Expected d0 p .cas false → (getConn d (connOf p)).service = .data → Quiet d p 0 → Granted d p r c → Fits d p r .cas 8 → AtHand d r f → Writable d r f 8 →
      persistOf p .cas = false →
      ∃ e, Does (.compareAndSwap p r cmp swp []) s e ∧ e.mem = (if old = cmp.toNat then memWrite s.dev.mem a (leBytes 8 swp.toNat) else s.dev.mem) ∧ (∀ x, (x < a ∨ a + 8 ≤ x) → memByte e.mem x = memByte s.dev.mem x) ∧
        (Reachable d (connOf p) → SentOut e fun o => ∃ h, o = .atomicAck h old)) ∧
    (∀ (add : BitVec 64), let b : ReqBody := .faa r add []
      let d0 := frameHeard s.dev p b
      let d := taken d0 p
      let a := chmAddr (keyOf d r).chamber (offOf d r)
      let old := leNat (memRead s.dev.mem a 8)
      Enters s.dev (.req p b) → Expected d0 p .faa false → (getConn d (connOf p)).service = .data → Quiet d p 0 → Granted d p r c → Fits d p r .faa 8 → AtHand d r f → Writable d r f 8 →
      persistOf p .faa = false →
      ∃ e, Does (.fetchAndAdd p r add []) s e ∧ e.mem = memWrite s.dev.mem a (leBytes 8 ((old + add.toNat) % 2 ^ 64)) ∧ (∀ x, (x < a ∨ a + 8 ≤ x) → memByte e.mem x = memByte s.dev.mem x) ∧
        (Reachable d (connOf p) → SentOut e fun o => ∃ h, o = .atomicAck h old))

/-- A PERSIST COMMIT with no earlier change of its range outstanding is acknowledged; no byte changes. A SEND takes a receive buffer of a management connection and the next PSNs. -/
def Obligations.CommitsAndSends : Prop :=
  (∀ (s : State) (p : Pkt) (r : Reth) (c : Chamber), let b : ReqBody := .commit r
    let d0 := frameHeard s.dev p b
    let d := taken d0 p
    Enters s.dev (.req p b) → Expected d0 p .commit false → (getConn d (connOf p)).service = .data → Quiet d p 0 → Granted d p r c → c.cls ≠ .reference →
    Fits d p r .commit r.len.toNat → d.poison = [] → d.blanket = [] →
    ∃ e, Does (.persistCommit p r) s e ∧ e.mem = s.dev.mem ∧ (Reachable d (connOf p) → SentOut e fun o => ∃ h, o = .ack h)) ∧
  (∀ (s : State) (p : Pkt) (n : Nat), let b : ReqBody := .send n
    let d0 := frameHeard s.dev p b
    let d := taken d0 p
    Enters s.dev (.req p b) → Expected d0 p .send (decide (n ≠ 0)) → (getConn d (connOf p)).service = .mgmt → cellAwake d (connCell (connOf p)) = true → 0 < (getConn d (connOf p)).recvFree →
    d.reqs = [] → (takeBufs d (connCell (connOf p)) p.bytes (connIdx (connOf p)) false).isSome = true →
    ∃ e, Does (.send p n) s e ∧ e.mem = s.dev.mem ∧ (getConn e (connOf p)).recvFree = (getConn d (connOf p)).recvFree - 1 ∧
      (getConn e (connOf p)).epsn = psnMod (p.psn.toNat + packetsOf n (getConn d (connOf p)).pmtu))

/-- A request that fails an access check is answered on a connection of version 2 or 3 with the status of the first check that failed, in the order of Table CHM-6: key, chamber, bounds, rights. It
changes no byte. -/
def Obligations.AccessChecks : Prop :=
  ∀ (s : State) (p : Pkt) (r : Reth) (data : List Byte) (c : Chamber), let b : ReqBody := .write r data
    let d0 := frameHeard s.dev p b
    let d := taken d0 p
    let refused (st : Nat) := ∃ e, Does (.rdmaWrite p r data) s e ∧ e.mem = s.dev.mem ∧ (Reachable d (connOf p) → SentOut e fun o => ∃ h y, o = .statusNak h y st 0)
    Enters s.dev (.req p b) → Expected d0 p .write (data != []) → p.opcode.toNat ≠ 0x0B → p.opcode.toNat ≠ 0xCB → (getConn d (connOf p)).service = .data →
    2 ≤ (getConn d (connOf p)).version → Quiet d p data.length →
    (∀ st, keyClass d r.key.toNat = some st → refused st) ∧
    (keyClass d r.key.toNat = none → bindingOk (keyOf d r) (getConn d (connOf p)).tenant (ordinal d) (qpnOf (getConn d (connOf p)).gen (connOf p)) = true →
      nget d.chm.chambers (keyOf d r).chamber = some c → c.state ≠ .active → refused stUnavailable) ∧
    (Granted d p r c → boundsOk (keyOf d r) .write r.va.toNat data.length = false → refused stBounds) ∧
    (Granted d p r c → boundsOk (keyOf d r) .write r.va.toNat data.length = true → rightsOk (keyOf d r) .write (persistOf p .write) = false → refused stRights)

/-! ### Reset and what every step leaves (spec/15_startup.md, spec/16_power.md) -/

/-- Right after power-on reset: STARTING in step 1 with the input not yet good, every register at its reset value, no rail up, no cell clocked, no chamber, key, connection, request, frame, pair
record or calendar entry, empty memory, nothing fenced, no fault captured, and nothing waits. -/
def Obligations.ResetState : Prop :=
  let d := State.reset.dev
  State.reset.pending = [] ∧ d.pwr.state = .starting ∧ d.ldr.step = 1 ∧ d.pwr.inputGood = false ∧ d.now = 0 ∧ (∀ r c i, reg d r c i = regReset r i) ∧ (∀ n, (getRail d n).st = .off) ∧
  d.pwr.gated = allCells ∧ d.chm.chambers = [] ∧ d.chm.keys = [] ∧ (∀ k, (getConn d k).state = .free) ∧ d.reqs = [] ∧ d.tier.frames = [] ∧ d.tier.map = [] ∧ d.cal.ents = [] ∧
  d.mem = [] ∧ (∀ a, memByte d.mem a = 0) ∧ d.poison = [] ∧ d.flt.fences = [] ∧ d.flt.courses = [] ∧ d.flt.bits = 0 ∧ d.flt.first = none ∧ d.sec.slots = [] ∧ (∀ i, vaultWord d.vlt i = 0xFFFFFFFF) ∧
  d.mode.commitPending = false ∧ d.tst.proving = none ∧ d.i3c.dynAddr = none

/-- The device is settled at reset. -/
def Obligations.ResetIsSettled : Prop := Settled State.reset

/-- Every step leaves the device settled: after any command, and after a step with no command, the Vault does not stand idle while a sequence waits, and no port stands in the entry or exit of doze
after its time. -/
def Obligations.EveryStepSettles : Prop := ∀ (s t : State), Settled s → step s = .next t → Settled t

/-- With no command waiting, one nanosecond of local time passes (the model's choice, see the log), and chamber memory and registers stand but for what the device does by itself. -/
def Sys2Proof.Claims.IdleStep : Prop :=
  ∀ (s : State), s.pending = [] → step s = .next { s with dev := afterStep { s.dev with now := s.dev.now + 1 } }

/-! ### Rules stated whole -/

/-- The home cell of page p of chamber c is the XOR of the seven bytes of p and c (R14). -/
def Obligations.HomeCellOfAPage : Prop :=
  ∀ (c : BitVec 16) (p : BitVec 36),
    homeCell c.toNat p.toNat =
      (p.extractLsb' 0 8 ^^^ p.extractLsb' 8 8 ^^^ p.extractLsb' 16 8 ^^^ p.extractLsb' 24 8 ^^^ (p.extractLsb' 32 4).setWidth 8 ^^^ c.extractLsb' 0 8 ^^^ c.extractLsb' 8 8).toNat

/-- A fill of the Alcove takes the first invalid way of the line's set, searching from the set's pointer in ascending order modulo 16, and with every way valid the way at the pointer; the pointer moves
to the way after the one taken and stays below 16; other sets stand. A read that hits moves no pointer (R161). -/
def Obligations.AlcoveFill : Prop :=
  (∀ (al : Alcove) (a j : Nat) (p : Bool), let s := alcSet a
    let ptr := ngetD al.ptr s 0
    let w := (ptr + j) % 16
    let e := alcFill al a p
    ptr < 16 → j < 16 → (∀ i ∈ List.range j, nhas al.ways (s * 16 + (ptr + i) % 16) = true) → nhas al.ways (s * 16 + w) = false →
    nget e.ways (s * 16 + w) = some ⟨a / 128, p⟩ ∧ (∀ k, k ≠ s * 16 + w → nget e.ways k = nget al.ways k) ∧ ngetD e.ptr s 0 = (w + 1) % 16 ∧ (∀ t, t ≠ s → ngetD e.ptr t 0 = ngetD al.ptr t 0)) ∧
  (∀ (al : Alcove) (a : Nat) (p : Bool), let s := alcSet a
    let ptr := ngetD al.ptr s 0
    let e := alcFill al a p
    ptr < 16 → (∀ w ∈ List.range 16, nhas al.ways (s * 16 + w) = true) →
    nget e.ways (s * 16 + ptr) = some ⟨a / 128, p⟩ ∧ (∀ k, k ≠ s * 16 + ptr → nget e.ways k = nget al.ways k) ∧ ngetD e.ptr s 0 = (ptr + 1) % 16 ∧ (∀ t, t ≠ s → ngetD e.ptr t 0 = ngetD al.ptr t 0)) ∧
  (∀ (d : Dev) (line base : Nat) (span : Nat × Nat) (f : Frame) (r : Requester), let c := homeOf (line / 128)
    let a := frameAddr d f.slot (line % 128)
    getFrame d (line / 128) = some f → (getAlc d c).mb = [] → (getAlc d c).disabled = false → (alcWay (getAlc d c) a).isSome = true → nget d.latent0 (latentKey c a) = none →
    getAlc (readLine d line base span [] false r) c = getAlc d c)

/-- The groups that a port pauses follow the cell's general free space F and the committed thresholds as they are written, but for an XON at or below XOFF, in whose place XOFF + 16 KiB is used (R34):
a group not paused is paused when F is below XOFF, a paused one goes on when F is above XON. -/
def Obligations.PauseThresholds : Prop :=
  ∀ (d : Dev) (c : CellNo) (g : Fin 3), let v := reg d .POOL_PFC c.val g.val
    let xoff := (v.extractLsb' 0 10).toNat * 1024
    let xon := (v.extractLsb' 16 10).toNat * 1024
    let on := if xon ≤ xoff then xoff + 16384 else xon
    pfcOn d c.val = true → txOn d c.val = true → nwf (getPort d c.val).xoff = true →
    nhas (getPort (pfcUpdate d c.val) c.val).xoff g.val = (if nhas (getPort d c.val).xoff g.val then !decide (on < generalFree d c.val) else decide (generalFree d c.val < xoff))

/-! ### Completion: in every state and with every operand a command answers a next state, and this one: the device after the operation that its meaning is -/

/-- Rows 0 to 14 of the table, host requests, responses, and the buffers and engines behind them (spec/02 to spec/05): every command completes, in every state and with every operand. -/
def Sys2Proof.Claims.HostCommandsComplete : Prop :=
  (∀ (s : State) (w : Writer) (a : BitVec 32) (v : Word) (env : Env), Does (.registerWrite w a v env) s (registerWrite s.dev w a.toNat v env)) ∧
  (∀ (s : State) (p : Pkt) (r : Reth) (data : List Byte), Does (.rdmaWrite p r data) s (frameIn s.dev (.req p (.write r data)))) ∧
  (∀ (s : State) (p : Pkt) (r : Reth) (errs : List LineErr), Does (.rdmaReadRequest p r errs) s (frameIn s.dev (.req p (.read r errs)))) ∧
  (∀ (s : State) (p : Pkt) (r : Reth) (cmp : BitVec 64) (swp : BitVec 64) (errs : List LineErr), Does (.compareAndSwap p r cmp swp errs) s (frameIn s.dev (.req p (.cas r cmp swp errs)))) ∧
  (∀ (s : State) (p : Pkt) (r : Reth) (add : BitVec 64) (errs : List LineErr), Does (.fetchAndAdd p r add errs) s (frameIn s.dev (.req p (.faa r add errs)))) ∧
  (∀ (s : State) (p : Pkt) (bytes : Nat), Does (.send p bytes) s (frameIn s.dev (.req p (.send bytes)))) ∧
  (∀ (s : State) (p : Pkt) (r : Reth), Does (.persistCommit p r) s (frameIn s.dev (.req p (.commit r)))) ∧
  (∀ (s : State) (h : RspPkt) (k : ConnNo) (psn : BitVec 24) (_credit : BitVec 5), Does (.acknowledge h k psn _credit) s (frameIn s.dev (.rsp h (.ack k psn)))) ∧
  (∀ (s : State) (h : RspPkt) (k : ConnNo) (syn : BitVec 8) (psn : BitVec 24), Does (.nakReceived h k syn psn) s (frameIn s.dev (.rsp h (.nak k syn psn)))) ∧
  (∀ (s : State) (h : RspPkt) (k : ConnNo) (psn : BitVec 24) (st : BitVec 8) (detail : BitVec 16), Does (.statusNakReceived h k psn st detail) s (frameIn s.dev (.rsp h (.statusNak k psn st detail)))) ∧
  (∀ (s : State) (h : RspPkt), Does (.congestionNotificationPacket h) s (frameIn s.dev (.rsp h .cnp))) ∧
  (∀ (s : State) (c : CellNo) (who : Nat), Does (.internalRetryTimer c who) s (internalRetryTimer (reachO s.dev (retryTime s.dev c.val who)) c.val who)) ∧
  (∀ (s : State) (c : CellNo) (who : Nat), Does (.bufferWaitNotice c who) s (bufferWaitNotice (reachO s.dev (noticeTime s.dev c.val who)) c.val who)) ∧
  (∀ (s : State) (c : CellNo) (pipe : Fin 9), Does (.cipherSegmentEnd c pipe) s (cipherSegmentEnd s.dev c.val pipe.val)) ∧
  (∀ (s : State) (c : CellNo) (comp : Bool), Does (.compressionDone c comp) s (compressionDone s.dev c.val comp))

/-- Rows 15 to 32 of the table, chambers and region keys (spec/03): every command completes, in every state and with every operand. -/
def Sys2Proof.Claims.ChamberCommandsComplete : Prop :=
  (∀ (s : State) (w : Writer), Does (.chmCreate w) s (chmCreate s.dev w)) ∧
  (∀ (s : State) (w : Writer), Does (.chmResize w) s (chmResize s.dev w)) ∧
  (∀ (s : State) (w : Writer), Does (.chmDelete w) s (chmDelete s.dev w)) ∧
  (∀ (s : State) (w : Writer), Does (.chmSetAttr w) s (chmSetAttr s.dev w)) ∧
  (∀ (s : State) (w : Writer), Does (.keyIssue w) s (keyIssue s.dev w)) ∧
  (∀ (s : State) (w : Writer), Does (.keyInvalidate w) s (keyInvalidate s.dev w)) ∧
  (∀ (s : State) (w : Writer), Does (.keyQuery w) s (keyQuery s.dev w)) ∧
  (∀ (s : State) (w : Writer), Does (.chmQuery w) s (chmQuery s.dev w)) ∧
  (∀ (s : State) (w : Writer) (op : Fin 16), Does (.chmCmdReserved w op) s (chmCmdReserved s.dev w op.val)) ∧
  (∀ (s : State) (n : Fin 65536), Does (.createReady n) s (createReady s.dev n.val)) ∧
  (∀ (s : State) (r : Heard ChmRecord), Does (.mirroredCreateReceived r) s (ctrlIn s.dev r.via fun d => mirroredCreateReceived d r.msg)) ∧
  (∀ (s : State) (n : Fin 65536), Does (.createTwinTimeout n) s (createTwinTimeout (reachO s.dev (createTime s.dev)) n.val)) ∧
  (∀ (s : State) (n : Fin 65536), Does (.createReleaseResend n) s (createReleaseResend (reachO s.dev (nget s.dev.chm.releases n.val)) n.val)) ∧
  (∀ (s : State) (n : Heard (Fin 65536)), Does (.createReleaseAck n) s (ctrlIn s.dev n.via fun d => createReleaseAck d n.msg.val)) ∧
  (∀ (s : State) (n : Fin 65536), Does (.chamberDrainDone n) s (chamberDrainDone s.dev n.val)) ∧
  (∀ (s : State) (n : Fin 65536), Does (.chamberReleaseDone n) s (chamberReleaseDone s.dev n.val)) ∧
  (∀ (s : State) (idx : BitVec 24), Does (.keyInvalidateComplete idx) s (keyInvalidateComplete s.dev idx.toNat)) ∧
  (∀ (s : State) (idx : BitVec 24), Does (.keyQuarantineEnd idx) s (keyQuarantineEnd (reachO s.dev (quarantineTime s.dev idx.toNat)) idx.toNat))

/-- Rows 33 to 66 of the table, connections, congestion, fabric and routing (spec/04 to spec/06): every command completes, in every state and with every operand. -/
def Sys2Proof.Claims.ConnectionCommandsComplete : Prop :=
  (∀ (s : State) (q : CmReq), Does (.cmReq q) s (cmReq s.dev q)) ∧
  (∀ (s : State) (m : CmMsg), Does (.cmRtu m) s (cmRtu s.dev m)) ∧
  (∀ (s : State) (m : CmMsg), Does (.cmDreq m) s (cmDreqReceived s.dev m)) ∧
  (∀ (s : State) (m : CmMsg), Does (.cmDrep m) s (cmDrepReceived s.dev m)) ∧
  (∀ (s : State) (k : Fin 262160), Does (.connectTimeout k) s (connectTimeout (reachO s.dev (connTime s.dev k.val .connecting)) k.val)) ∧
  (∀ (s : State) (k : Fin 262160), Does (.connectionDrainDone k) s (connectionDrainDone s.dev k.val)) ∧
  (∀ (s : State) (k : Fin 262160), Does (.connectionErrorSettled k) s (connectionErrorSettled s.dev k.val)) ∧
  (∀ (s : State) (k : Fin 262160), Does (.connectionQuarantineEnd k) s (connectionQuarantineEnd (reachO s.dev (connTime s.dev k.val .quarantine)) k.val)) ∧
  (∀ (s : State) (k : ConnNo), Does (.retransmitTimerExpiry k) s (retransmitTimerExpiry (reachO s.dev ((getConn s.dev k.val).timer)) k.val)) ∧
  (∀ (s : State) (k : ConnNo), Does (.rnrWaitExpiry k) s (rnrWaitExpiry (reachO s.dev ((getConn s.dev k.val).rnrUntil)) k.val)) ∧
  (∀ (s : State) (k : ConnNo), Does (.ackCoalesceTimer k) s (ackCoalesceTimer (reachO s.dev (ackTime s.dev k.val)) k.val)) ∧
  (∀ (s : State) (k : ConnNo), Does (.pacerRelease k) s (pacerRelease (reachO s.dev (pacerTime s.dev k.val)) k.val)) ∧
  (∀ (s : State) (m : PfcFrame), Does (.pfcFrameReceived m) s (pfcFrameReceived s.dev m)) ∧
  (∀ (s : State) (p : CellNo) (g : Fin 3), Does (.xoffRefresh p g) s (xoffRefresh (reachO s.dev (refreshTime s.dev p.val g.val)) p.val g.val)) ∧
  (∀ (s : State) (p : CellNo) (pcp : Fin 8), Does (.pauseWatchdogExpiry p pcp) s (pauseWatchdogExpiry (reachO s.dev (watchdogTime s.dev p.val pcp.val)) p.val pcp.val)) ∧
  (∀ (s : State) (p : CellNo) (g : Fin 3), Does (.xoffStormExpiry p g) s (xoffStormExpiry (reachO s.dev (stormTime s.dev p.val g.val)) p.val g.val)) ∧
  (∀ (s : State) (w : Writer) (p : CellNo), Does (.portFenceRelease w p) s (portFenceRelease s.dev w p.val)) ∧
  (∀ (s : State) (l : Trained), Does (.linkTrained l) s (linkTrained s.dev l.port.val l.rate)) ∧
  (∀ (s : State) (p : CellNo), Does (.linkDown p) s (linkDown s.dev p.val)) ∧
  (∀ (s : State) (m : Hello), Does (.neighbourHello m) s (neighbourHello s.dev m)) ∧
  (∀ (s : State) (p : CellNo), Does (.helloTimer p) s (helloTimer (reachO s.dev (helloTime s.dev p.val)) p.val)) ∧
  (∀ (s : State) (p : CellNo), Does (.helloTimeout p) s (helloTimeout (reachO s.dev (silentTime s.dev p.val)) p.val)) ∧
  (∀ (s : State) (p : CellNo), Does (.identityRetryTimer p) s (identityRetryTimer (reachO s.dev ((getPort s.dev p.val).retryAt)) p.val)) ∧
  (∀ (s : State) (m : LinkStateMsg), Does (.linkState m) s (linkState s.dev m)) ∧
  (∀ (s : State), Does .linkStateTimer s (linkStateTimer (reachO s.dev (some s.dev.fab.nextLs)))) ∧
  (∀ (s : State) (o : Ordinal), Does (.linkStateRecordExpiry o) s (linkStateRecordExpiry (reachO s.dev ((nget s.dev.fab.db o.val).map fun r => r.at_ + sec 10)) o.val)) ∧
  (∀ (s : State), Does .routeConvergenceEnd s (routeConvergenceEnd (reachO s.dev (convergeTime s.dev)))) ∧
  (∀ (s : State) (m : RouteAnn), Does (.routeAnnounce m) s (routeAnnounce s.dev m)) ∧
  (∀ (s : State), Does .routeAnnounceTimer s (routeAnnounceTimer (reachO s.dev (some s.dev.fab.nextAnn)))) ∧
  (∀ (s : State) (pair : BitVec 13), Does (.pairRouteExpiry pair) s (pairRouteExpiry (reachO s.dev ((nget s.dev.fab.pairs pair.toNat).map fun r => r.at_ + sec 5)) pair.toNat)) ∧
  (∀ (s : State) (f : FwdFrame), Does (.forwardFrame f) s (frameIn s.dev (.fwd f))) ∧
  (∀ (s : State) (p : CellNo), Does (.residenceExpiry p) s (residenceExpiry (reachO s.dev (residenceTime s.dev p.val)) p.val)) ∧
  (∀ (s : State) (p : CellNo) (target : BitVec 128), Does (.neighbourSolicitation p target) s (neighbourSolicitation s.dev p.val target.toNat)) ∧
  (∀ (s : State) (addr : BitVec 128), Does (.hostAttachmentExpiry addr) s (hostAttachmentExpiry (reachO s.dev ((nget s.dev.fab.hosts addr.toNat).map fun r => r.2 + sec 60)) addr.toNat))

/-- Rows 67 to 74 of the table, mirror traffic and repairs (spec/10, spec/11): every command completes, in every state and with every operand. -/
def Sys2Proof.Claims.MirrorCommandsComplete : Prop :=
  (∀ (s : State) (p : Pkt) (dst : ChmAddr) (data : List Byte) (copy : Bool), Does (.mirrorWrite p dst data copy) s (frameIn s.dev (.req p (.mirrorWrite dst data copy)))) ∧
  (∀ (s : State) (h : RspPkt) (k : ConnNo) (psn : BitVec 24) (_credit : BitVec 5) (_msn : BitVec 24), Does (.mirrorAcknowledge h k psn _credit _msn) s (frameIn s.dev (.rsp h (.mirrorAck k psn)))) ∧
  (∀ (s : State) (p : Pkt) (imm : BitVec 32) (dst : ChmAddr) (data : List Byte), Does (.compareMarker p imm dst data) s (frameIn s.dev (.req p (.mirrorImm imm dst data)))) ∧
  (∀ (s : State) (p : Pkt) (imm : BitVec 32) (w : ChmWrite), Does (.commitMarker p imm w) s (frameIn s.dev (.req p (.mirrorImm imm w.dst w.data)))) ∧
  (∀ (s : State) (p : Pkt) (imm : BitVec 32) (w : ChmWrite), Does (.promotionHint p imm w) s (frameIn s.dev (.req p (.mirrorImm imm w.dst w.data)))) ∧
  (∀ (s : State) (p : Pkt) (chamber : BitVec 16) (page : BitVec 36) (line : Option (Fin 128)), Does (.lineRepairRequest p chamber page line) s (frameIn s.dev (.req p (.repair chamber page line)))) ∧
  (∀ (s : State) (h : RspPkt) (k : ConnNo) (psn : BitVec 24) (data : List Byte) (pmh : List (Option (BitVec 64))), Does (.lineRepairAnswer h k psn data pmh) s (frameIn s.dev (.rsp h (.repairAns k psn data pmh)))) ∧
  (∀ (s : State) (chamber : Fin 65536) (page : BitVec 36) (line : Option (Fin 128)), Does (.lineRepairTimeout chamber page line) s (lineRepairTimeout (reachO s.dev (repairTime s.dev chamber.val page.toNat (line.map (·.val)))) chamber.val page.toNat (line.map (·.val))))

/-- Rows 75 to 84 of the table, the persistence domain (spec/07): every command completes, in every state and with every operand. -/
def Sys2Proof.Claims.PersistenceCommandsComplete : Prop :=
  (∀ (s : State), Does .powerFailNFall s (powerFailNFall s.dev)) ∧
  (∀ (s : State) (mv10 : BitVec 16), Does (.inputUndervoltage mv10) s (inputUndervoltage s.dev mv10.toNat)) ∧
  (∀ (s : State) (pfHigh : Bool) (inputOk : Bool) (recordOk : Bool) (micros : Nat) (cells : FlushCells), Does (.flushComplete pfHigh inputOk recordOk micros cells) s (flushComplete s.dev pfHigh inputOk recordOk micros cells.short cells.worn)) ∧
  (∀ (s : State) (c : CellNo), Does (.dirtyCreditRequest c) s (dirtyCreditRequest s.dev c.val)) ∧
  (∀ (s : State), Does .dirtyCreditGrant s (dirtyCreditGrant s.dev)) ∧
  (∀ (s : State) (c : CellNo), Does (.dirtyCreditReturn c) s (dirtyCreditReturn s.dev c.val)) ∧
  (∀ (s : State) (c : CellNo), Does (.dirtyWaitExpiry c) s (dirtyWaitExpiry (reachO s.dev (dirtyTime s.dev c.val)) c.val)) ∧
  (∀ (s : State) (c : CellNo), Does (.mirrorStallExpiry c) s (mirrorStallExpiry (reachO s.dev (mirrorStallTime s.dev c.val)) c.val)) ∧
  (∀ (s : State), Does .mirrorAckStallExpiry s (mirrorAckStallExpiry (reachO s.dev (mirrorAckTime s.dev)))) ∧
  (∀ (s : State) (c : CellNo) (set1 : Bool) (failed : List Nat), Does (.sumpEraseDone c set1 failed) s (sumpEraseDone s.dev c.val set1 failed))

/-- Rows 85 to 101 of the table, tiers, quotas and plans (spec/08): every command completes, in every state and with every operand. -/
def Sys2Proof.Claims.TierCommandsComplete : Prop :=
  (∀ (s : State) (chamber : Fin 65536) (page : BitVec 36) (sealOk : Bool), Does (.promotionComplete chamber page sealOk) s (promotionComplete s.dev (pageKey chamber.val page.toNat) sealOk)) ∧
  (∀ (s : State) (chamber : Fin 65536) (page : BitVec 36), Does (.promotionTimeout chamber page) s (promotionTimeout (reachO s.dev ((nget s.dev.tier.promos (pageKey chamber.val page.toNat)).map (·.deadline))) (pageKey chamber.val page.toNat))) ∧
  (∀ (s : State) (c : CellNo), Does (.evictionSweep c) s (evictionSweep s.dev c.val)) ∧
  (∀ (s : State) (c : CellNo), Does (.destageStart c) s (destageStart s.dev c.val)) ∧
  (∀ (s : State) (c : CellNo), Does (.mergingBufferHoldExpiry c) s (mergingBufferHoldExpiry (reachO s.dev (holdTime s.dev c.val)) c.val)) ∧
  (∀ (s : State), Does .t2CreditGrant s (t2CreditGrant s.dev)) ∧
  (∀ (s : State) (t : Fin 4096) (c : CellNo), Does (.t2CreditReturn t c) s (t2CreditReturn s.dev t.val c.val)) ∧
  (∀ (s : State) (c : CellNo), Does (.t2CreditWaitExpiry c) s (t2CreditWaitExpiry (reachO s.dev (creditTime s.dev c.val)) c.val)) ∧
  (∀ (s : State) (w : Writer), Does (.planCreate w) s (planCreate s.dev w)) ∧
  (∀ (s : State) (w : Writer), Does (.planCursor w) s (planCursor s.dev w)) ∧
  (∀ (s : State) (w : Writer), Does (.planLookahead w) s (planLookahead s.dev w)) ∧
  (∀ (s : State) (w : Writer), Does (.planRelease w) s (planRelease s.dev w)) ∧
  (∀ (s : State) (w : Writer), Does (.planQuery w) s (planQuery s.dev w)) ∧
  (∀ (s : State) (w : Writer), Does (.entryQuery w) s (entryQuery s.dev w)) ∧
  (∀ (s : State) (w : Writer) (op : Fin 16), Does (.planCmdReserved w op) s (planCmdReserved s.dev w op.val)) ∧
  (∀ (s : State), Does .planListLoaded s (planListLoaded s.dev)) ∧
  (∀ (s : State), Does .planEngineTurn s (planEngineTurn s.dev))

/-- Rows 102 to 113 of the table, media channels (spec/09): every command completes, in every state and with every operand. -/
def Sys2Proof.Claims.MediaCommandsComplete : Prop :=
  (∀ (s : State) (c : CellNo) (die : Fin 16), Does (.mediaGrant c die) s (mediaGrant s.dev c.val die.val)) ∧
  (∀ (s : State) (c : CellNo) (die : Fin 16) (ws : List CodeWord) (mapBad : Bool), Does (.mediaReadDone c die ws mapBad) s (mediaReadDone s.dev c.val die.val ws mapBad)) ∧
  (∀ (s : State) (c : CellNo) (die : Fin 16) (ok : Bool) (plane : Fin 4), Does (.programPassDone c die ok plane) s (programPassDone s.dev c.val die.val ok plane.val)) ∧
  (∀ (s : State) (c : CellNo) (sb : Fin 2048) (failed : List Nat), Does (.eraseDone c sb failed) s (eraseDone s.dev c.val sb.val failed)) ∧
  (∀ (s : State) (c : CellNo) (die : Fin 16), Does (.mediaOperationTimeout c die) s (mediaOperationTimeout s.dev c.val die.val)) ∧
  (∀ (s : State) (c : CellNo), Does (.rebuildEnd c) s (rebuildEnd s.dev c.val)) ∧
  (∀ (s : State) (c : CellNo), Does (.mapWritebackTimer c) s (mapWritebackTimer (reachO s.dev (writebackTime s.dev c.val)) c.val)) ∧
  (∀ (s : State) (c : CellNo), Does (.rootCheckpointTimer c) s (rootCheckpointTimer (reachO s.dev (checkpointTime s.dev c.val)) c.val)) ∧
  (∀ (s : State) (c : CellNo), Does (.mediaScrubPassStart c) s (mediaScrubPassStart (reachO s.dev (scrubTime s.dev c.val)) c.val)) ∧
  (∀ (s : State) (c : CellNo) (t : BitVec 8), Does (.dieTemperatureRead c t) s (dieTemperatureRead s.dev c.val t.toNat)) ∧
  (∀ (s : State) (w : Writer) (c : CellNo), Does (.scrubNow w c) s (scrubNow s.dev w c.val)) ∧
  (∀ (s : State) (w : Writer) (c : CellNo) (die : Fin 16), Does (.retireDie w c die) s (retireDie s.dev w c.val die.val))

/-- Rows 114 to 128 of the table, the DRAM tier (spec/10): every command completes, in every state and with every operand. -/
def Sys2Proof.Claims.DramCommandsComplete : Prop :=
  (∀ (s : State) (c : CellNo), Does (.hbmStackFault c) s (hbmStackFault s.dev c.val)) ∧
  (∀ (s : State) (c : CellNo) (lanes : List (Fin 72) × List (Fin 72)) (what : T1Content), Does (.hbmScrubRead c lanes what) s (hbmScrubRead (reachO s.dev (patrolTime s.dev c.val)) c.val (lanes.1.map (·.val), lanes.2.map (·.val)) what)) ∧
  (∀ (s : State) (stack : Fin 8) (t : Option (BitVec 8)), Does (.stackTemperatureRead stack t) s (stackTemperatureRead s.dev stack.val (t.map (·.toNat)))) ∧
  (∀ (s : State) (c : CellNo), Does (.rowDisturbWindowEnd c) s (rowDisturbWindowEnd (reachO s.dev (some (getHbm s.dev c.val).windowEnd)) c.val)) ∧
  (∀ (s : State) (failed : List CellNo), Does (.selfRefreshExit failed) s (selfRefreshExit s.dev (failed.map (·.val)))) ∧
  (∀ (s : State) (w : Writer) (c : CellNo), Does (.retireFrame w c) s (retireFrame s.dev w c.val)) ∧
  (∀ (s : State) (w : Writer) (c : CellNo), Does (.releaseFrame w c) s (releaseFrame s.dev w c.val)) ∧
  (∀ (s : State) (w : Writer) (c : CellNo), Does (.queryFrame w c) s (queryFrame s.dev w c.val)) ∧
  (∀ (s : State) (w : Writer) (c : CellNo), Does (.pprRow w c) s (pprRow s.dev w c.val)) ∧
  (∀ (s : State) (w : Writer) (c : CellNo), Does (.cancelPpr w c) s (cancelPpr s.dev w c.val)) ∧
  (∀ (s : State) (w : Writer) (c : CellNo) (op : Fin 16), Does (.retireCmdReserved w c op) s (retireCmdReserved s.dev w c.val op.val)) ∧
  (∀ (s : State) (c : CellNo), Does (.frameMoveTimeout c) s (frameMoveTimeout (reachO s.dev (moveTime s.dev c.val)) c.val)) ∧
  (∀ (s : State) (c : CellNo) (f : BitVec 22), Does (.policyRetireDecision c f) s (policyRetireDecision s.dev c.val f.toNat)) ∧
  (∀ (s : State) (w : Writer) (c : CellNo), Does (.ceClearAll w c) s (ceClearAll s.dev w c.val)) ∧
  (∀ (s : State) (w : Writer) (c : CellNo) (ent : Fin 32), Does (.ceClearOne w c ent) s (ceClearOne s.dev w c.val ent.val))

/-- Rows 129 to 163 of the table, pair and custody (spec/11): every command completes, in every state and with every operand. -/
def Sys2Proof.Claims.CustodyCommandsComplete : Prop :=
  (∀ (s : State), Does .heartbeatTimer s (heartbeatTimer (reachO s.dev (beatTime s.dev)))) ∧
  (∀ (s : State) (via : CtrlVia) (o : Ordinal) (claim : BitVec 48) (sentAt : BitVec 64), Does (.heartbeat via o claim sentAt) s (ctrlIn s.dev via fun d => heartbeat d o.val via.port.val claim.toNat sentAt.toNat)) ∧
  (∀ (s : State) (o : Heard Ordinal) (claim : BitVec 48) (sentAt : BitVec 64), Does (.heartbeatAcknowledge o claim sentAt) s (ctrlIn s.dev o.via fun d => heartbeatAcknowledge d o.msg.val claim.toNat sentAt.toNat)) ∧
  (∀ (s : State) (o : Ordinal), Does (.peerSuspicion o) s (peerSuspicion (reachO s.dev (suspicionTime s.dev o.val)) o.val)) ∧
  (∀ (s : State), Does .statusTimer s (statusTimer (reachO s.dev (statusTime s.dev)))) ∧
  (∀ (s : State), Does .leaseExpiry s (leaseExpiry (reachO s.dev (leaseTime s.dev)))) ∧
  (∀ (s : State), Does .custodyWaitExpiry s (custodyWaitExpiry (reachO s.dev (custodyWaitTime s.dev)))) ∧
  (∀ (s : State), Does .claimLearnTimeout s (claimLearnTimeout (reachO s.dev (custodyTime s.dev true)))) ∧
  (∀ (s : State) (m : Heard ClaimReq), Does (.takeover m) s (ctrlIn s.dev m.via fun d => takeoverRequest d m.msg)) ∧
  (∀ (s : State) (m : Heard ClaimReq), Does (.failback m) s (ctrlIn s.dev m.via fun d => failbackRequest d m.msg)) ∧
  (∀ (s : State) (m : Heard ClaimReq), Does (.reclaim m) s (ctrlIn s.dev m.via fun d => reclaimRequest d m.msg)) ∧
  (∀ (s : State) (m : Heard ClaimReq), Does (.join m) s (ctrlIn s.dev m.via fun d => joinRequest d m.msg)) ∧
  (∀ (s : State) (m : Heard ClaimReq), Does (.yield m) s (ctrlIn s.dev m.via fun d => yieldRequest d m.msg)) ∧
  (∀ (s : State) (m : Heard ClaimReq), Does (.query m) s (ctrlIn s.dev m.via fun d => queryRequest d m.msg)) ∧
  (∀ (s : State) (m : Heard ClaimReq), Does (.drain m) s (ctrlIn s.dev m.via fun d => drainCommand d m.msg)) ∧
  (∀ (s : State) (m : Heard ClaimReq) (kind : Fin 16), Does (.claimReservedKind m kind) s (ctrlIn s.dev m.via fun d => claimReservedKind d m.msg kind.val)) ∧
  (∀ (s : State) (m : Heard ClaimAns), Does (.claimGrant m) s (ctrlIn s.dev m.via fun d => claimGrant d m.msg)) ∧
  (∀ (s : State) (m : Heard ClaimAns), Does (.claimAnswer m) s (ctrlIn s.dev m.via fun d => claimAnswer d m.msg)) ∧
  (∀ (s : State) (m : Heard StatusAns) (named : Option Ordinal), Does (.claimStatus m named) s (ctrlIn s.dev m.via fun d => claimStatus d m.msg (named.map (·.val)))) ∧
  (∀ (s : State) (pair : BitVec 13), Does (.takeoverHoldExpiry pair) s (takeoverHoldExpiry (reachO s.dev (heldTime s.dev pair.toNat)) pair.toNat)) ∧
  (∀ (s : State), Does .claimRequestResend s (claimRequestResend (reachO s.dev (s.dev.cus.out.map (·.next))))) ∧
  (∀ (s : State), Does .takeoverLeaseWaitEnd s (takeoverLeaseWaitEnd (reachO s.dev (s.dev.cus.takeover.map (·.applyAt))))) ∧
  (∀ (s : State), Does .yieldLapse s (yieldLapse (reachO s.dev (s.dev.cus.yieldedAt.map (· + ms 10))))) ∧
  (∀ (s : State) (pair : BitVec 13), Does (.witnessYieldFlagExpiry pair) s (witnessYieldFlagExpiry (reachO s.dev (yieldFlagTime s.dev pair.toNat)) pair.toNat)) ∧
  (∀ (s : State) (c : CellNo) (pulled : Option (Fin 65536 × BitVec 22)), Does (.resyncCopy c pulled) s (resyncCopy (reachO s.dev (resyncTime s.dev)) c.val (pulled.map fun x => (x.1.val, x.2.toNat)))) ∧
  (∀ (s : State) (h : RspPkt) (k : ConnNo) (psn : BitVec 24) (_credit : BitVec 5) (_msn : BitVec 24), Does (.resyncCopyAck h k psn _credit _msn) s (frameIn s.dev (.rsp h (.copyAck k psn)))) ∧
  (∀ (s : State), Does .failbackTimer s (failbackTimer (reachO s.dev (failbackTime s.dev)))) ∧
  (∀ (s : State) (w : Writer), Does (.failbackNow w) s (failbackNow s.dev w)) ∧
  (∀ (s : State) (w : Writer), Does (.handover w) s (handover s.dev w)) ∧
  (∀ (s : State) (w : Writer), Does (.compareNow w) s (compareNow s.dev w)) ∧
  (∀ (s : State), Does .drainPointReached s (drainPointReached s.dev)) ∧
  (∀ (s : State), Does .drainTimeout s (drainTimeout (reachO s.dev (drainTime s.dev)))) ∧
  (∀ (s : State), Does .reclaimTimer s (reclaimTimer (reachO s.dev (reclaimTime s.dev)))) ∧
  (∀ (s : State), Does .comparePassTimer s (comparePassTimer (reachO s.dev (compareTime s.dev)))) ∧
  (∀ (s : State), Does .coldStartExpiry s (coldStartExpiry (reachO s.dev (coldTime s.dev))))

/-- Rows 164 to 191 of the table, time, calendar and mode (spec/12): every command completes, in every state and with every operand. -/
def Sys2Proof.Claims.TimeCommandsComplete : Prop :=
  (∀ (s : State) (h : PtpHdr) (origin : BitVec 64), Does (.sync h origin) s (syncReceived s.dev h origin.toNat)) ∧
  (∀ (s : State) (h : PtpHdr) (cls : BitVec 8) (ord : Ordinal) (rest : AnnRest), Does (.announce h cls ord rest) s (announceReceived s.dev h cls.toNat ord.val rest.steps.toNat rest.utc.toNat)) ∧
  (∀ (s : State) (h : PtpHdr), Does (.delayReq h) s (delayReq s.dev h)) ∧
  (∀ (s : State) (h : PtpHdr) (arrival : BitVec 64), Does (.delayResp h arrival) s (delayResp s.dev h arrival.toNat)) ∧
  (∀ (s : State), Does .syncTimer s (syncTimer (reachO s.dev (some s.dev.tim.nextSync)))) ∧
  (∀ (s : State), Does .announceTimeout s (announceTimeout (reachO s.dev (announceTime s.dev)))) ∧
  (∀ (s : State), Does .syncLossExpiry s (syncLossExpiry (reachO s.dev (syncLossTime s.dev)))) ∧
  (∀ (s : State) (at_ : BitVec 64) (width : BitVec 32), Does (.ppsInEdge at_ width) s (ppsInEdge (reach s.dev at_.toNat) width.toNat)) ∧
  (∀ (s : State), Does .ppsLoss s (ppsLoss (reachO s.dev (ppsTime s.dev)))) ∧
  (∀ (s : State), Does .wholeSecond s (wholeSecond (reachFedO s.dev (secondTime s.dev)))) ∧
  (∀ (s : State), Does .slewComplete s (slewComplete (reachO s.dev (slewTime s.dev)))) ∧
  (∀ (s : State) (w : Writer) (v : Word), Does (.timeTodWrite w v) s (timeTodWrite s.dev w v.toNat)) ∧
  (∀ (s : State), Does .modeCommit s (modeCommit (reachFedO s.dev (fireTime s.dev 1)))) ∧
  (∀ (s : State), Does .snapshotCut s (snapshotCut (reachFedO s.dev (fireTime s.dev 2)))) ∧
  (∀ (s : State), Does .coordRestart s (coordRestart (reachFedO s.dev (fireTime s.dev 3)))) ∧
  (∀ (s : State), Does .scrubWindow s (scrubWindow (reachFedO s.dev (fireTime s.dev 4)))) ∧
  (∀ (s : State), Does .scrubWindowEnd s (scrubWindowEnd (reachFedO s.dev (s.dev.cal.scrubEnd)))) ∧
  (∀ (s : State), Does .keyRotation s (keyRotation (reachFedO s.dev (fireTime s.dev 5)))) ∧
  (∀ (s : State), Does .dozeWindow s (dozeWindow (reachFedO s.dev (fireTime s.dev 6)))) ∧
  (∀ (s : State), Does .dozeWindowEnd s (dozeWindowEnd (reachFedO s.dev (s.dev.cal.dozeEnd)))) ∧
  (∀ (s : State), Does .startSlot s (startSlot (reachFedO s.dev (fireTime s.dev 7)))) ∧
  (∀ (s : State) (w : Writer), Does (.calPostLocal w) s (calPostLocal s.dev w)) ∧
  (∀ (s : State) (w : Writer), Does (.calCancelLocal w) s (calCancelLocal s.dev w)) ∧
  (∀ (s : State) (m : CalPostMsg), Does (.calendarPostPost m) s (calendarPostPost s.dev m)) ∧
  (∀ (s : State) (m : CalPostMsg), Does (.calendarPostCancel m) s (calendarPostCancel s.dev m)) ∧
  (∀ (s : State) (m : CalPostMsg), Does (.calendarPostAnswer m) s (calendarPostAnswer s.dev m)) ∧
  (∀ (s : State) (m : ModeMsg), Does (.queryMode m) s (queryModeReceived s.dev m)) ∧
  (∀ (s : State) (m : ModeMsg), Does (.modeAnswer m) s (modeAnswer s.dev m))

/-- Rows 192 to 212 of the table, acts, the tree, cuts and commits (spec/12): every command completes, in every state and with every operand. -/
def Sys2Proof.Claims.ActCommandsComplete : Prop :=
  (∀ (s : State) (w : Writer), Does (.actBarrier w) s (actBarrier s.dev w)) ∧
  (∀ (s : State) (w : Writer), Does (.actSnapshot w) s (actSnapshot s.dev w)) ∧
  (∀ (s : State) (w : Writer), Does (.actModeCommit w) s (actModeCommit s.dev w)) ∧
  (∀ (s : State) (w : Writer), Does (.actRestart w) s (actRestart s.dev w)) ∧
  (∀ (s : State) (w : Writer), Does (.actPost w) s (actPost s.dev w)) ∧
  (∀ (s : State) (w : Writer) (op : Fin 16), Does (.actCmdReserved w op) s (actCmdReserved s.dev w op.val)) ∧
  (∀ (s : State) (m : TreeMsg), Does (.treePost m) s (treeReceived s.dev m Machine.treePost)) ∧
  (∀ (s : State) (m : TreeMsg), Does (.treeCancel m) s (treeReceived s.dev m Machine.treeCancelOp)) ∧
  (∀ (s : State) (m : TreeMsg), Does (.treeConfirm m) s (treeReceived s.dev m Machine.treeConfirmOp)) ∧
  (∀ (s : State) (m : TreeMsg), Does (.treeDiscard m) s (treeReceived s.dev m Machine.treeDiscardOp)) ∧
  (∀ (s : State) (m : TreeMsg), Does (.treePause m) s (treeReceived s.dev m Machine.treePauseOp)) ∧
  (∀ (s : State) (m : TreeMsg), Does (.treeResume m) s (treeReceived s.dev m Machine.treeResumeOp)) ∧
  (∀ (s : State) (m : TreeMsg), Does (.treeBarrier m) s (treeReceived s.dev m Machine.treeBarrierOp)) ∧
  (∀ (s : State) (m : GatherMsg), Does (.treeGather m) s (treeGather s.dev m)) ∧
  (∀ (s : State) (act : BitVec 32) (op : Fin 7), Does (.treeGatherTimeout act op) s (treeGatherTimeout (reachO s.dev (gatherTime s.dev act.toNat op.val)) act.toNat op.val)) ∧
  (∀ (s : State) (act : BitVec 32), Does (.messageCutDrained act) s (messageCut s.dev act.toNat)) ∧
  (∀ (s : State) (act : BitVec 32), Does (.holdWindowEnd act) s (holdWindowEnd (reachFedO s.dev (holdEndTime s.dev act.toNat)) act.toNat)) ∧
  (∀ (s : State), Does .cutResultGatherStart s (cutResultGatherStart (reachFedO s.dev (cutTime s.dev)))) ∧
  (∀ (s : State), Does .graceWindowEnd s (graceWindowEnd (reachFedO s.dev (s.dev.mode.graceEnd)))) ∧
  (∀ (s : State) (w : Writer) (v : Word), Does (.timeModeAdopt w v) s (timeModeAdopt s.dev w v)) ∧
  (∀ (s : State) (w : Writer) (v : Word), Does (.commit w v) s (commitWrite s.dev w v))

/-- Rows 213 to 224 of the table, the bulk queue (spec/13): every command completes, in every state and with every operand. -/
def Sys2Proof.Claims.BulkCommandsComplete : Prop :=
  (∀ (s : State) (p : Pkt) (b : BulkPayload), Does (.bulkCopy p b) s (frameIn s.dev (.req p (.bulk .copy b)))) ∧
  (∀ (s : State) (p : Pkt) (b : BulkPayload), Does (.bulkFill p b) s (frameIn s.dev (.req p (.bulk .fill b)))) ∧
  (∀ (s : State) (p : Pkt) (b : BulkPayload), Does (.bulkCommit p b) s (frameIn s.dev (.req p (.bulk .commit b)))) ∧
  (∀ (s : State) (p : Pkt) (b : BulkPayload), Does (.bulkLoad p b) s (frameIn s.dev (.req p (.bulk .load b)))) ∧
  (∀ (s : State) (p : Pkt) (b : BulkPayload), Does (.bulkTrim p b) s (frameIn s.dev (.req p (.bulk .trim b)))) ∧
  (∀ (s : State) (p : Pkt) (b : BulkPayload), Does (.bulkVerify p b) s (frameIn s.dev (.req p (.bulk .verify b)))) ∧
  (∀ (s : State) (p : Pkt) (b : BulkPayload), Does (.bulkSnapshot p b) s (frameIn s.dev (.req p (.bulk .snapshot b)))) ∧
  (∀ (s : State) (p : Pkt) (b : BulkPayload), Does (.bulkRelease p b) s (frameIn s.dev (.req p (.bulk .release b)))) ∧
  (∀ (s : State) (p : Pkt) (b : BulkPayload), Does (.bulkBarrier p b) s (frameIn s.dev (.req p (.bulk .barrier b)))) ∧
  (∀ (s : State) (p : Pkt) (tag : BitVec 16) (wellFormed : Bool), Does (.bulkAbort p tag wellFormed) s (frameIn s.dev (.req p (.bulkAbort tag wellFormed)))) ∧
  (∀ (s : State) (k : ConnNo) (tag : BitVec 16), Does (.bulkCommandStart k tag) s (bulkCommandStart s.dev k.val tag.toNat)) ∧
  (∀ (s : State) (k : ConnNo) (tag : BitVec 16) (lo : BitVec 41), Does (.bulkPieceDone k tag lo) s (bulkPieceDone s.dev k.val tag.toNat lo.toNat))

/-- Rows 225 to 243 of the table, keys, engines and tamper (spec/14): every command completes, in every state and with every operand. -/
def Sys2Proof.Claims.KeyCommandsComplete : Prop :=
  (∀ (s : State) (w : Writer), Does (.keyGenerate w) s (keyGenerate s.dev w)) ∧
  (∀ (s : State) (w : Writer), Does (.keyImport w) s (keyImport s.dev w)) ∧
  (∀ (s : State) (w : Writer), Does (.keyDestroy w) s (keyDestroy s.dev w)) ∧
  (∀ (s : State) (w : Writer), Does (.keySlotQuery w) s (keySlotQuery s.dev w)) ∧
  (∀ (s : State) (w : Writer), Does (.keyAgree w) s (keyAgree s.dev w)) ∧
  (∀ (s : State) (w : Writer) (readBack : Bool), Does (.ownerAdd w readBack) s (ownerAdd s.dev w readBack)) ∧
  (∀ (s : State) (w : Writer) (readBack : Bool), Does (.ownerRevoke w readBack) s (ownerRevoke s.dev w readBack)) ∧
  (∀ (s : State) (w : Writer) (op : Fin 16), Does (.keyCmdReserved w op) s (keyCmdReserved s.dev w op.val)) ∧
  (∀ (s : State), Does .drbgReseed s (drbgReseed (reachO s.dev (reseedTime s.dev)))) ∧
  (∀ (s : State), Does .entropyHealthFailure s (entropyHealthFailure s.dev)) ∧
  (∀ (s : State) (c : CellNo) (slot : Nat), Does (.keyScheduleFetchDone c slot) s (keyScheduleFetchDone s.dev c.val slot)) ∧
  (∀ (s : State), Does .cellGeneratorReseed s (cellGeneratorReseed (reachO s.dev (seedTime s.dev)))) ∧
  (∀ (s : State) (c : CellNo), Does (.generatorStaleExpiry c) s (generatorStaleExpiry (reachO s.dev (staleTime s.dev c.val)) c.val)) ∧
  (∀ (s : State), Does .tamperVoltage s (tamperVoltage s.dev)) ∧
  (∀ (s : State), Does .tamperClock s (tamperClock s.dev)) ∧
  (∀ (s : State), Does .tamperLid s (tamperLid s.dev)) ∧
  (∀ (s : State) (m : Mkpdu), Does (.mkpdu m) s (mkpdu s.dev m)) ∧
  (∀ (s : State) (p : CellNo), Does (.mkaHelloTimer p) s (mkaHelloTimer (reachO s.dev (mkaTime s.dev p.val)) p.val)) ∧
  (∀ (s : State) (p : CellNo) (pn : Nat), Does (.sakRenewal p pn) s (sakRenewal (reachO s.dev (renewTime s.dev p.val pn)) p.val pn))

/-- Rows 244 to 260 of the table, start-up, rails, clocks and the Vault journal (spec/15 to spec/17): every command completes, in every state and with every operand. -/
def Sys2Proof.Claims.StartCommandsComplete : Prop :=
  (∀ (s : State) (mv10 : BitVec 16), Does (.powerGood mv10) s (powerGood s.dev mv10.toNat)) ∧
  (∀ (s : State), Does .powerUpStep s (powerUpStep (reachO s.dev (upTime s.dev)))) ∧
  (∀ (s : State), Does .staggerEnd s (staggerEnd (reachO s.dev (s.dev.ldr.staggerEnd)))) ∧
  (∀ (s : State), Does .imageRetryTimer s (imageRetryTimer (reachO s.dev (s.dev.ldr.retryAt)))) ∧
  (∀ (s : State) (differs : Bool), Does (.moduleRereadTimer differs) s (moduleRereadTimer (reachO s.dev (rereadTime s.dev)) differs)) ∧
  (∀ (s : State), Does .leaderWaitExpiry s (leaderWaitExpiry (reachO s.dev (leaderTime s.dev)))) ∧
  (∀ (s : State), Does .resetNAssert s (resetNAssert s.dev)) ∧
  (∀ (s : State), Does .resetNRelease s (resetNRelease s.dev)) ∧
  (∀ (s : State) (n : Fin 64) (mv : BitVec 16) (micros : BitVec 16), Does (.railWindowViolation n mv micros) s (railWindowViolation s.dev n.val mv.toNat micros.toNat)) ∧
  (∀ (s : State) (n : Fin 64) (mv : BitVec 16), Does (.railRiseTimeout n mv) s (railRiseTimeout (reachO s.dev (riseTime s.dev n.val)) n.val mv.toNat)) ∧
  (∀ (s : State) (n : Fin 64) (mv : BitVec 16), Does (.railFallTimeout n mv) s (railFallTimeout (reachO s.dev (fallTime s.dev n.val)) n.val mv.toNat)) ∧
  (∀ (s : State) (mv10 : BitVec 16) (micros : BitVec 16), Does (.inputOvervoltage mv10 micros) s (inputOvervoltage s.dev mv10.toNat micros.toNat)) ∧
  (∀ (s : State) (mv10 : BitVec 16), Does (.inputBelow36V mv10) s (inputBelow36V s.dev mv10.toNat)) ∧
  (∀ (s : State) (n : Fin 100), Does (.clockDomainLoss n) s (clockDomainLoss s.dev n.val)) ∧
  (∀ (s : State) (fn : Fin 13), Does (.hubFunctionFailure fn) s (hubFunctionFailure s.dev fn.val)) ∧
  (∀ (s : State), Does .journalProgramDone s (journalProgramDone s.dev)) ∧
  (∀ (s : State), Does .journalSectorEraseDone s (journalSectorEraseDone s.dev))

/-- Rows 261 to 275 of the table, power states and doze (spec/16): every command completes, in every state and with every operand. -/
def Sys2Proof.Claims.PowerCommandsComplete : Prop :=
  (∀ (s : State) (w : Writer) (maint : Bool), Does (.gotoService w maint) s (gotoService s.dev w maint)) ∧
  (∀ (s : State) (w : Writer) (maint : Bool), Does (.gotoQuiet w maint) s (gotoQuiet s.dev w maint)) ∧
  (∀ (s : State) (w : Writer) (maint : Bool), Does (.gotoDormant w maint) s (gotoDormant s.dev w maint)) ∧
  (∀ (s : State) (w : Writer), Does (.maintEnter w) s (maintEnter s.dev w)) ∧
  (∀ (s : State) (w : Writer), Does (.maintEnd w) s (maintEnd s.dev w)) ∧
  (∀ (s : State) (w : Writer) (n : Fin 64) (v : Word), Does (.marginWrite w n v) s (marginWrite s.dev w n.val v)) ∧
  (∀ (s : State), Does .quietEntryDone s (quietEntryDone s.dev)) ∧
  (∀ (s : State), Does .dormantEntryDone s (dormantEntryDone s.dev)) ∧
  (∀ (s : State), Does .dormantExitDone s (dormantExitDone s.dev)) ∧
  (∀ (s : State), Does .cellWakeSlot s (cellWakeSlot (reachO s.dev (wakeTime s.dev)))) ∧
  (∀ (s : State) (p : CellNo), Does (.dozeIdleTimer p) s (dozeIdleTimer (reachO s.dev (idleTime s.dev p.val)) p.val)) ∧
  (∀ (s : State) (p : CellNo) (sec : SecTag) (seq : BitVec 8), Does (.dozeReq p sec seq) s (dozeReq s.dev p.val sec seq.toNat)) ∧
  (∀ (s : State) (p : CellNo) (sec : SecTag) (seq : BitVec 8) (result : BitVec 8), Does (.dozeAck p sec seq result) s (dozeAck s.dev p.val sec seq.toNat result.toNat)) ∧
  (∀ (s : State) (p : CellNo), Does (.dozeReqTimeout p) s (dozeReqTimeout (reachO s.dev (dozeReqTime s.dev p.val)) p.val)) ∧
  (∀ (s : State) (p : CellNo), Does (.dozeWake p) s (dozeWake s.dev p.val))

/-- Rows 276 to 296 of the table, faults, proving, management and the Vault (spec/17, spec/18): every command completes, in every state and with every operand. -/
def Sys2Proof.Claims.FaultCommandsComplete : Prop :=
  (∀ (s : State) (w : Writer) (unit : BitVec 16) (locked : Bool), Does (.fltUnfence w unit locked) s (fltUnfence s.dev w unit.toNat locked)) ∧
  (∀ (s : State) (w : Writer), Does (.fltFirstClear w) s (fltFirstClear s.dev w)) ∧
  (∀ (s : State) (w : Writer) (v : Word), Does (.fltStatusClear w v) s (fltStatusClear s.dev w v)) ∧
  (∀ (s : State) (w : Writer) (v : Word), Does (.inject w v) s (inject s.dev w v)) ∧
  (∀ (s : State) (w : Writer) (p : CellNo), Does (.proveEnter w p) s (proveEnter s.dev w p.val)) ∧
  (∀ (s : State) (w : Writer), Does (.proveExit w) s (proveExit s.dev w)) ∧
  (∀ (s : State), Does .proveLimitExpiry s (proveLimitExpiry (reachO s.dev (limitTime s.dev)))) ∧
  (∀ (s : State), Does .proveReorderTimeout s (proveReorderTimeout (reachO s.dev (heldFrameTime s.dev)))) ∧
  (∀ (s : State) (w : Writer) (m : MgmtMsg) (env : Env), Does (.managementRequest w m env) s (managementRequest s.dev w m env)) ∧
  (∀ (s : State) (addr : BitVec 7), Does (.i3cDynamicAddress addr) s (i3cDynamicAddress s.dev addr.toNat)) ∧
  (∀ (s : State) (addr : BitVec 32), Does (.i3cAddressWrite addr) s (i3cAddressWrite s.dev addr.toNat)) ∧
  (∀ (s : State) (n : Nat), Does (.i3cPrivateRead n) s (i3cPrivateRead s.dev n)) ∧
  (∀ (s : State) (w : Writer) (v : Word), Does (.vaultUnlock w v) s (vaultUnlock s.dev w v)) ∧
  (∀ (s : State) (w : Writer), Does (.vaultCmdProgram w) s (vaultCmdProgram s.dev w)) ∧
  (∀ (s : State) (w : Writer), Does (.vaultCmdErase w) s (vaultCmdErase s.dev w)) ∧
  (∀ (s : State) (w : Writer) (v : Word), Does (.vaultAddr w v) s (vaultAddr s.dev w v)) ∧
  (∀ (s : State) (w : Writer) (ix : Fin 8) (v : Word), Does (.vaultData w ix v) s (vaultData s.dev w ix.val v)) ∧
  (∀ (s : State), Does .vaultSequenceTimeout s (vaultSequenceTimeout (reachO s.dev (sequenceTime s.dev)))) ∧
  (∀ (s : State) (ok : Bool), Does (.vaultPulseDone ok) s (vaultPulseDone s.dev ok)) ∧
  (∀ (s : State) (w : Writer), Does (.vaultSuspend w) s (vaultSuspend s.dev w)) ∧
  (∀ (s : State) (w : Writer), Does (.vaultResume w) s (vaultResume s.dev w))

/-- Rows 297 to 314 of the table, the remaining timers and completions (spec/05 to spec/17): every command completes, in every state and with every operand. -/
def Sys2Proof.Claims.OtherCommandsComplete : Prop :=
  (∀ (s : State) (p : CellNo) (pcp : Fin 8), Does (.pauseQuantaExpiry p pcp) s (pauseQuantaExpiry (reachO s.dev (pauseTimeEnd s.dev p.val pcp.val)) p.val pcp.val)) ∧
  (∀ (s : State), Does .thermalTrip s (thermalTrip s.dev)) ∧
  (∀ (s : State) (act : BitVec 32), Does (.snapshotReleaseDone act) s (snapshotReleaseDone s.dev act.toNat)) ∧
  (∀ (s : State) (a : ImgCopy) (b : ImgCopy), Does (.imageLoadComplete a b) s (imageLoadComplete s.dev a b)) ∧
  (∀ (s : State) (metaBad : List CellNo) (bad : List Nat), Does (.replayComplete metaBad bad) s (replayComplete s.dev metaBad bad)) ∧
  (∀ (s : State) (hbmBad : List CellNo) (media : List (CellNo × MediaFound)), Does (.channelTrainingDone hbmBad media) s (channelTrainingDone s.dev hbmBad media)) ∧
  (∀ (s : State), Does .startStepTimeout s (startStepTimeout (reachO s.dev (stepBound s.dev)))) ∧
  (∀ (s : State), Does .restartDelayExpiry s (restartDelayExpiry (reachO s.dev (delayTime s.dev)))) ∧
  (∀ (s : State), Does .quietExitDone s (quietExitDone s.dev)) ∧
  (∀ (s : State), Does .shadowCommitTick s (shadowCommitTick s.dev)) ∧
  (∀ (s : State) (c : CellNo), Does (.throttleIntervalEnd c) s (throttleIntervalEnd (reachO s.dev (throttleTime s.dev c.val)) c.val)) ∧
  (∀ (s : State) (n : Fin 64) (mv : BitVec 16) (mw : Nat), Does (.railRisen n mv mw) s (railRisen s.dev n.val mv.toNat mw)) ∧
  (∀ (s : State), Does .railFallen s (railFallen s.dev)) ∧
  (∀ (s : State), Does .delayReqTimer s (delayReqTimer (reachO s.dev (some s.dev.tim.nextDelay)))) ∧
  (∀ (s : State), Does .cellReleaseDone s (cellReleaseDone s.dev)) ∧
  (∀ (s : State) (n : Heard (Fin 65536)), Does (.twinCreateRefusal n) s (ctrlIn s.dev n.via fun d => twinCreateRefusal d n.msg.val)) ∧
  (∀ (s : State) (u : Heard ChmUpdate), Does (.twinChamberUpdate u) s (ctrlIn s.dev u.via fun d => twinChamberUpdate d u.msg)) ∧
  (∀ (s : State), Does .rotationGraceEnd s (rotationGraceEnd (reachFedO s.dev (s.dev.sec.ctrlOld.map (·.2)))))

/-! ### The statements of groups of commands -/

/-- Waits for buffers at a home cell, and the turns of its cipher and compression engines. Its commands complete in every state. -/
def Obligations.CellResources : Prop := Claims.InternalWaits ∧ Claims.EngineTurns ∧ Claims.HostCommandsComplete

/-- A chamber passes through its states, and the two devices of a pair agree on a Mirrored create. Its commands complete in every state. -/
def Obligations.ChamberLife : Prop := Claims.ChamberLifeCycle ∧ Claims.MirroredCreate ∧ Claims.ChamberCommandsComplete

/-- Region keys: their commands, and what becomes of an invalidated key. -/
def Obligations.RegionKeys : Prop := Claims.KeyCommands ∧ Claims.KeyLifeCycle

/-- The timers of a connection, and its ways to end. Its commands complete in every state. -/
def Obligations.ConnectionTimersAndEnds : Prop := Claims.ConnectionTimers ∧ Claims.ConnectionEnds ∧ Claims.ConnectionCommandsComplete

/-- Pause and fences of a port, and link doze. -/
def Obligations.PauseAndDoze : Prop := Claims.PauseAndFences ∧ Claims.LinkDoze

/-- The link-state database and the pair routes. -/
def Obligations.RoutesOfTheFederation : Prop := Claims.LinkStateDatabase ∧ Claims.PairRoutes

/-- A power failure in each state, and the end of a flush. -/
def Obligations.PowerFailureAndFlush : Prop := Claims.PowerFailure ∧ Claims.FlushEnds

/-- Dirty credits, the waits of writes for space, and the erase of a sump set. Its commands complete in every state. -/
def Obligations.DirtySpace : Prop := Claims.DirtyCredit ∧ Claims.WaitsOfWrites ∧ Claims.SumpErase ∧ Claims.PersistenceCommandsComplete

/-- Promotions, timers of the tiers at a cell, and T2 credit. Its commands complete in every state. -/
def Obligations.TiersAndCredit : Prop := Claims.Promotions ∧ Claims.CellTiers ∧ Claims.T2Credit ∧ Claims.TierCommandsComplete

/-- Plan commands and the plan engine. -/
def Obligations.Plans : Prop := Claims.PlanCommands ∧ Claims.PlanEngine

/-- Media operations: grants, ends, and upkeep of the channel. Its commands complete in every state. -/
def Obligations.MediaChannel : Prop := Claims.MediaGrants ∧ Claims.MediaOperationsEnd ∧ Claims.MediaUpkeep ∧ Claims.MediaCommandsComplete

/-- Upkeep of a DRAM channel and temperature of its stack. Its commands complete in every state. -/
def Obligations.DramUpkeep : Prop := Claims.DramChannel ∧ Claims.StackTemperature ∧ Claims.DramCommandsComplete

/-- Frame retirement, row repair and the table of correctable errors. -/
def Obligations.FramesAndRows : Prop := Claims.FrameRetirement ∧ Claims.RowRepairAndErrors

/-- Frames of the twin and their admission. Its commands complete in every state. -/
def Obligations.MirrorTraffic : Prop := Claims.MirrorFrames ∧ Claims.MirrorAdmission ∧ Claims.MirrorCommandsComplete

/-- Heartbeats, the lease, and requests that wait for custody. -/
def Obligations.CustodyTimers : Prop := Claims.HeartbeatsAndLease ∧ Claims.CustodyWaits

/-- What a witness grants, and that a grant raises the claim. -/
def Obligations.WitnessAndClaims : Prop := Claims.WitnessGrants ∧ Claims.GrantsRaiseTheClaim

/-- Claims outstanding, drains and resync. Its commands complete in every state. -/
def Obligations.ClaimsDrainsResync : Prop := Claims.ClaimsOutstanding ∧ Claims.DrainsAndResync ∧ Claims.CustodyCommandsComplete

/-- Timers of the time service, the PPS pins, and the seconds. Its commands complete in every state. -/
def Obligations.Clocks : Prop := Claims.TimeTimers ∧ Claims.PpsAndSeconds ∧ Claims.TimeCommandsComplete

/-- Posts to the calendar, and what entries do when they fire. -/
def Obligations.Calendar : Prop := Claims.CalendarPosts ∧ Claims.CalendarFires

/-- Acts by command, and a device that is alone in its tree. -/
def Obligations.ActsOfTheTree : Prop := Claims.Acts ∧ Claims.BarrierAlone

/-- Broadcasts of the tree and what their operations do, gathers and cuts. Its commands complete in every state. -/
def Obligations.TreeMessages : Prop := Claims.TreeBroadcasts ∧ Claims.TreeOperations ∧ Claims.GathersAndCuts ∧ Claims.ActCommandsComplete

/-- Bulk commands are queued; the queue grows by exactly the one taken. -/
def Obligations.BulkCommands : Prop := Claims.BulkAcceptance ∧ Claims.BulkQueueGrows

/-- Bulk commands start, their pieces end, and they complete. Its commands complete in every state. -/
def Obligations.BulkProgress : Prop := Claims.BulkStart ∧ Claims.BulkEnds ∧ Claims.BulkCommandsComplete

/-- Commands of the key store, and the end of a rotation grace. Its commands complete in every state. -/
def Obligations.KeyStore : Prop := Claims.KeyStoreCommands ∧ Claims.RotationGrace ∧ Claims.KeyCommandsComplete

/-- Generators, MACsec sessions and tamper trips. -/
def Obligations.GeneratorsLinksTamper : Prop := Claims.Generators ∧ Claims.MacsecSessions ∧ Claims.Tamper

/-- The order of power-up and the stagger of the start. Its commands complete in every state. -/
def Obligations.PowerUpOrder : Prop := Claims.PowerUp ∧ Claims.StaggerSlot ∧ Claims.StartCommandsComplete

/-- Rails and input while the device runs, and the order of power-down. Its commands complete in every state. -/
def Obligations.RailsAndPowerDown : Prop := Claims.RailsAndInput ∧ Claims.PowerDown ∧ Claims.OtherCommandsComplete

/-- Power states and maintenance. Its commands complete in every state. -/
def Obligations.PowerStatesAndMaintenance : Prop := Claims.PowerStates ∧ Claims.Maintenance ∧ Claims.PowerCommandsComplete

/-- Releases of fences, clears, fault injection and link proving. Its commands complete in every state. -/
def Obligations.FaultHubAndTests : Prop := Claims.FencesAndClears ∧ Claims.InjectionAndProving ∧ Claims.FaultCommandsComplete

/-- Register writes and management messages. -/
def Obligations.RegisterAccess : Prop := Claims.RegisterWrites ∧ Claims.ManagementMessages

/-- The sequence of the Vault, its operations and its journal. -/
def Obligations.VaultCommands : Prop := Claims.VaultSequence ∧ Claims.VaultOperations ∧ Claims.VaultJournal

/-- A step runs the command at the front of the queue with the queue's rest; with none waiting, a nanosecond of local time passes (the model's choice). -/
def Obligations.StepRunsTheFront : Prop := Claims.StepRunsTheFrontCommand ∧ Claims.IdleStep
end

