-- ==== Sys2Proof/Laws/State.lean ====
section
/-!
SUPPORT. What each shared update of the device leaves as it was, one lemma for a field and an update.
-/
namespace Sys2Proof.Machine
open Sys2Proof

@[simp] theorem setReg_now (d : Dev) (r : RegId) (c i : Nat) (v : Word) : (setReg d r c i v).now = d.now := rfl
@[simp] theorem setReg_free (d : Dev) (r : RegId) (c i : Nat) (v : Word) : (setReg d r c i v).free = d.free := rfl
@[simp] theorem setReg_out (d : Dev) (r : RegId) (c i : Nat) (v : Word) : (setReg d r c i v).out = d.out := rfl
@[simp] theorem setReg_shadow (d : Dev) (r : RegId) (c i : Nat) (v : Word) : (setReg d r c i v).shadow = d.shadow := rfl
@[simp] theorem setReg_kept (d : Dev) (r : RegId) (c i : Nat) (v : Word) : (setReg d r c i v).kept = d.kept := rfl
@[simp] theorem setReg_latch (d : Dev) (r : RegId) (c i : Nat) (v : Word) : (setReg d r c i v).latch = d.latch := rfl
@[simp] theorem setReg_flt (d : Dev) (r : RegId) (c i : Nat) (v : Word) : (setReg d r c i v).flt = d.flt := rfl
@[simp] theorem setReg_log (d : Dev) (r : RegId) (c i : Nat) (v : Word) : (setReg d r c i v).log = d.log := rfl
@[simp] theorem setReg_tst (d : Dev) (r : RegId) (c i : Nat) (v : Word) : (setReg d r c i v).tst = d.tst := rfl
@[simp] theorem setReg_chm (d : Dev) (r : RegId) (c i : Nat) (v : Word) : (setReg d r c i v).chm = d.chm := rfl
@[simp] theorem setReg_conns (d : Dev) (r : RegId) (c i : Nat) (v : Word) : (setReg d r c i v).conns = d.conns := rfl
@[simp] theorem setReg_reqs (d : Dev) (r : RegId) (c i : Nat) (v : Word) : (setReg d r c i v).reqs = d.reqs := rfl
@[simp] theorem setReg_nextReq (d : Dev) (r : RegId) (c i : Nat) (v : Word) : (setReg d r c i v).nextReq = d.nextReq := rfl
@[simp] theorem setReg_nextArr (d : Dev) (r : RegId) (c i : Nat) (v : Word) : (setReg d r c i v).nextArr = d.nextArr := rfl
@[simp] theorem setReg_mem (d : Dev) (r : RegId) (c i : Nat) (v : Word) : (setReg d r c i v).mem = d.mem := rfl
@[simp] theorem setReg_poison (d : Dev) (r : RegId) (c i : Nat) (v : Word) : (setReg d r c i v).poison = d.poison := rfl
@[simp] theorem setReg_blanket (d : Dev) (r : RegId) (c i : Nat) (v : Word) : (setReg d r c i v).blanket = d.blanket := rfl
@[simp] theorem setReg_cured (d : Dev) (r : RegId) (c i : Nat) (v : Word) : (setReg d r c i v).cured = d.cured := rfl
@[simp] theorem setReg_tier (d : Dev) (r : RegId) (c i : Nat) (v : Word) : (setReg d r c i v).tier = d.tier := rfl
@[simp] theorem setReg_per (d : Dev) (r : RegId) (c i : Nat) (v : Word) : (setReg d r c i v).per = d.per := rfl
@[simp] theorem setReg_res (d : Dev) (r : RegId) (c i : Nat) (v : Word) : (setReg d r c i v).res = d.res := rfl
@[simp] theorem setReg_cus (d : Dev) (r : RegId) (c i : Nat) (v : Word) : (setReg d r c i v).cus = d.cus := rfl
@[simp] theorem setReg_watch (d : Dev) (r : RegId) (c i : Nat) (v : Word) : (setReg d r c i v).watch = d.watch := rfl
@[simp] theorem setReg_repairs (d : Dev) (r : RegId) (c i : Nat) (v : Word) : (setReg d r c i v).repairs = d.repairs := rfl
@[simp] theorem setReg_tim (d : Dev) (r : RegId) (c i : Nat) (v : Word) : (setReg d r c i v).tim = d.tim := rfl
@[simp] theorem setReg_mode (d : Dev) (r : RegId) (c i : Nat) (v : Word) : (setReg d r c i v).mode = d.mode := rfl
@[simp] theorem setReg_cal (d : Dev) (r : RegId) (c i : Nat) (v : Word) : (setReg d r c i v).cal = d.cal := rfl
@[simp] theorem setReg_act (d : Dev) (r : RegId) (c i : Nat) (v : Word) : (setReg d r c i v).act = d.act := rfl
@[simp] theorem setReg_bulk (d : Dev) (r : RegId) (c i : Nat) (v : Word) : (setReg d r c i v).bulk = d.bulk := rfl
@[simp] theorem setReg_ldr (d : Dev) (r : RegId) (c i : Nat) (v : Word) : (setReg d r c i v).ldr = d.ldr := rfl
@[simp] theorem setReg_snap (d : Dev) (r : RegId) (c i : Nat) (v : Word) : (setReg d r c i v).snap = d.snap := rfl
@[simp] theorem setReg_ports (d : Dev) (r : RegId) (c i : Nat) (v : Word) : (setReg d r c i v).ports = d.ports := rfl
@[simp] theorem setReg_fab (d : Dev) (r : RegId) (c i : Nat) (v : Word) : (setReg d r c i v).fab = d.fab := rfl
@[simp] theorem setReg_pwr (d : Dev) (r : RegId) (c i : Nat) (v : Word) : (setReg d r c i v).pwr = d.pwr := rfl
@[simp] theorem setReg_sec (d : Dev) (r : RegId) (c i : Nat) (v : Word) : (setReg d r c i v).sec = d.sec := rfl
@[simp] theorem setReg_vlt (d : Dev) (r : RegId) (c i : Nat) (v : Word) : (setReg d r c i v).vlt = d.vlt := rfl
@[simp] theorem setReg_i3c (d : Dev) (r : RegId) (c i : Nat) (v : Word) : (setReg d r c i v).i3c = d.i3c := rfl
@[simp] theorem setReg_hbm (d : Dev) (r : RegId) (c i : Nat) (v : Word) : (setReg d r c i v).hbm = d.hbm := rfl
@[simp] theorem setReg_med (d : Dev) (r : RegId) (c i : Nat) (v : Word) : (setReg d r c i v).med = d.med := rfl
@[simp] theorem setReg_latent (d : Dev) (r : RegId) (c i : Nat) (v : Word) : (setReg d r c i v).latent = d.latent := rfl
@[simp] theorem setReg_latent0 (d : Dev) (r : RegId) (c i : Nat) (v : Word) : (setReg d r c i v).latent0 = d.latent0 := rfl

@[simp] theorem bumpBy_now (d : Dev) (r : RegId) (c i n : Nat) : (bumpBy d r c i n).now = d.now := rfl
@[simp] theorem bumpBy_free (d : Dev) (r : RegId) (c i n : Nat) : (bumpBy d r c i n).free = d.free := rfl
@[simp] theorem bumpBy_out (d : Dev) (r : RegId) (c i n : Nat) : (bumpBy d r c i n).out = d.out := rfl
@[simp] theorem bumpBy_shadow (d : Dev) (r : RegId) (c i n : Nat) : (bumpBy d r c i n).shadow = d.shadow := rfl
@[simp] theorem bumpBy_kept (d : Dev) (r : RegId) (c i n : Nat) : (bumpBy d r c i n).kept = d.kept := rfl
@[simp] theorem bumpBy_latch (d : Dev) (r : RegId) (c i n : Nat) : (bumpBy d r c i n).latch = d.latch := rfl
@[simp] theorem bumpBy_flt (d : Dev) (r : RegId) (c i n : Nat) : (bumpBy d r c i n).flt = d.flt := rfl
@[simp] theorem bumpBy_log (d : Dev) (r : RegId) (c i n : Nat) : (bumpBy d r c i n).log = d.log := rfl
@[simp] theorem bumpBy_tst (d : Dev) (r : RegId) (c i n : Nat) : (bumpBy d r c i n).tst = d.tst := rfl
@[simp] theorem bumpBy_chm (d : Dev) (r : RegId) (c i n : Nat) : (bumpBy d r c i n).chm = d.chm := rfl
@[simp] theorem bumpBy_conns (d : Dev) (r : RegId) (c i n : Nat) : (bumpBy d r c i n).conns = d.conns := rfl
@[simp] theorem bumpBy_reqs (d : Dev) (r : RegId) (c i n : Nat) : (bumpBy d r c i n).reqs = d.reqs := rfl
@[simp] theorem bumpBy_nextReq (d : Dev) (r : RegId) (c i n : Nat) : (bumpBy d r c i n).nextReq = d.nextReq := rfl
@[simp] theorem bumpBy_nextArr (d : Dev) (r : RegId) (c i n : Nat) : (bumpBy d r c i n).nextArr = d.nextArr := rfl
@[simp] theorem bumpBy_mem (d : Dev) (r : RegId) (c i n : Nat) : (bumpBy d r c i n).mem = d.mem := rfl
@[simp] theorem bumpBy_poison (d : Dev) (r : RegId) (c i n : Nat) : (bumpBy d r c i n).poison = d.poison := rfl
@[simp] theorem bumpBy_blanket (d : Dev) (r : RegId) (c i n : Nat) : (bumpBy d r c i n).blanket = d.blanket := rfl
@[simp] theorem bumpBy_cured (d : Dev) (r : RegId) (c i n : Nat) : (bumpBy d r c i n).cured = d.cured := rfl
@[simp] theorem bumpBy_tier (d : Dev) (r : RegId) (c i n : Nat) : (bumpBy d r c i n).tier = d.tier := rfl
@[simp] theorem bumpBy_per (d : Dev) (r : RegId) (c i n : Nat) : (bumpBy d r c i n).per = d.per := rfl
@[simp] theorem bumpBy_res (d : Dev) (r : RegId) (c i n : Nat) : (bumpBy d r c i n).res = d.res := rfl
@[simp] theorem bumpBy_cus (d : Dev) (r : RegId) (c i n : Nat) : (bumpBy d r c i n).cus = d.cus := rfl
@[simp] theorem bumpBy_watch (d : Dev) (r : RegId) (c i n : Nat) : (bumpBy d r c i n).watch = d.watch := rfl
@[simp] theorem bumpBy_repairs (d : Dev) (r : RegId) (c i n : Nat) : (bumpBy d r c i n).repairs = d.repairs := rfl
@[simp] theorem bumpBy_tim (d : Dev) (r : RegId) (c i n : Nat) : (bumpBy d r c i n).tim = d.tim := rfl
@[simp] theorem bumpBy_mode (d : Dev) (r : RegId) (c i n : Nat) : (bumpBy d r c i n).mode = d.mode := rfl
@[simp] theorem bumpBy_cal (d : Dev) (r : RegId) (c i n : Nat) : (bumpBy d r c i n).cal = d.cal := rfl
@[simp] theorem bumpBy_act (d : Dev) (r : RegId) (c i n : Nat) : (bumpBy d r c i n).act = d.act := rfl
@[simp] theorem bumpBy_bulk (d : Dev) (r : RegId) (c i n : Nat) : (bumpBy d r c i n).bulk = d.bulk := rfl
@[simp] theorem bumpBy_ldr (d : Dev) (r : RegId) (c i n : Nat) : (bumpBy d r c i n).ldr = d.ldr := rfl
@[simp] theorem bumpBy_snap (d : Dev) (r : RegId) (c i n : Nat) : (bumpBy d r c i n).snap = d.snap := rfl
@[simp] theorem bumpBy_ports (d : Dev) (r : RegId) (c i n : Nat) : (bumpBy d r c i n).ports = d.ports := rfl
@[simp] theorem bumpBy_fab (d : Dev) (r : RegId) (c i n : Nat) : (bumpBy d r c i n).fab = d.fab := rfl
@[simp] theorem bumpBy_pwr (d : Dev) (r : RegId) (c i n : Nat) : (bumpBy d r c i n).pwr = d.pwr := rfl
@[simp] theorem bumpBy_sec (d : Dev) (r : RegId) (c i n : Nat) : (bumpBy d r c i n).sec = d.sec := rfl
@[simp] theorem bumpBy_vlt (d : Dev) (r : RegId) (c i n : Nat) : (bumpBy d r c i n).vlt = d.vlt := rfl
@[simp] theorem bumpBy_i3c (d : Dev) (r : RegId) (c i n : Nat) : (bumpBy d r c i n).i3c = d.i3c := rfl
@[simp] theorem bumpBy_hbm (d : Dev) (r : RegId) (c i n : Nat) : (bumpBy d r c i n).hbm = d.hbm := rfl
@[simp] theorem bumpBy_med (d : Dev) (r : RegId) (c i n : Nat) : (bumpBy d r c i n).med = d.med := rfl
@[simp] theorem bumpBy_latent (d : Dev) (r : RegId) (c i n : Nat) : (bumpBy d r c i n).latent = d.latent := rfl
@[simp] theorem bumpBy_latent0 (d : Dev) (r : RegId) (c i n : Nat) : (bumpBy d r c i n).latent0 = d.latent0 := rfl

@[simp] theorem bump_now (d : Dev) (r : RegId) (c i : Nat) : (bump d r c i).now = d.now := rfl
@[simp] theorem bump_free (d : Dev) (r : RegId) (c i : Nat) : (bump d r c i).free = d.free := rfl
@[simp] theorem bump_out (d : Dev) (r : RegId) (c i : Nat) : (bump d r c i).out = d.out := rfl
@[simp] theorem bump_shadow (d : Dev) (r : RegId) (c i : Nat) : (bump d r c i).shadow = d.shadow := rfl
@[simp] theorem bump_kept (d : Dev) (r : RegId) (c i : Nat) : (bump d r c i).kept = d.kept := rfl
@[simp] theorem bump_latch (d : Dev) (r : RegId) (c i : Nat) : (bump d r c i).latch = d.latch := rfl
@[simp] theorem bump_flt (d : Dev) (r : RegId) (c i : Nat) : (bump d r c i).flt = d.flt := rfl
@[simp] theorem bump_log (d : Dev) (r : RegId) (c i : Nat) : (bump d r c i).log = d.log := rfl
@[simp] theorem bump_tst (d : Dev) (r : RegId) (c i : Nat) : (bump d r c i).tst = d.tst := rfl
@[simp] theorem bump_chm (d : Dev) (r : RegId) (c i : Nat) : (bump d r c i).chm = d.chm := rfl
@[simp] theorem bump_conns (d : Dev) (r : RegId) (c i : Nat) : (bump d r c i).conns = d.conns := rfl
@[simp] theorem bump_reqs (d : Dev) (r : RegId) (c i : Nat) : (bump d r c i).reqs = d.reqs := rfl
@[simp] theorem bump_nextReq (d : Dev) (r : RegId) (c i : Nat) : (bump d r c i).nextReq = d.nextReq := rfl
@[simp] theorem bump_nextArr (d : Dev) (r : RegId) (c i : Nat) : (bump d r c i).nextArr = d.nextArr := rfl
@[simp] theorem bump_mem (d : Dev) (r : RegId) (c i : Nat) : (bump d r c i).mem = d.mem := rfl
@[simp] theorem bump_poison (d : Dev) (r : RegId) (c i : Nat) : (bump d r c i).poison = d.poison := rfl
@[simp] theorem bump_blanket (d : Dev) (r : RegId) (c i : Nat) : (bump d r c i).blanket = d.blanket := rfl
@[simp] theorem bump_cured (d : Dev) (r : RegId) (c i : Nat) : (bump d r c i).cured = d.cured := rfl
@[simp] theorem bump_tier (d : Dev) (r : RegId) (c i : Nat) : (bump d r c i).tier = d.tier := rfl
@[simp] theorem bump_per (d : Dev) (r : RegId) (c i : Nat) : (bump d r c i).per = d.per := rfl
@[simp] theorem bump_res (d : Dev) (r : RegId) (c i : Nat) : (bump d r c i).res = d.res := rfl
@[simp] theorem bump_cus (d : Dev) (r : RegId) (c i : Nat) : (bump d r c i).cus = d.cus := rfl
@[simp] theorem bump_watch (d : Dev) (r : RegId) (c i : Nat) : (bump d r c i).watch = d.watch := rfl
@[simp] theorem bump_repairs (d : Dev) (r : RegId) (c i : Nat) : (bump d r c i).repairs = d.repairs := rfl
@[simp] theorem bump_tim (d : Dev) (r : RegId) (c i : Nat) : (bump d r c i).tim = d.tim := rfl
@[simp] theorem bump_mode (d : Dev) (r : RegId) (c i : Nat) : (bump d r c i).mode = d.mode := rfl
@[simp] theorem bump_cal (d : Dev) (r : RegId) (c i : Nat) : (bump d r c i).cal = d.cal := rfl
@[simp] theorem bump_act (d : Dev) (r : RegId) (c i : Nat) : (bump d r c i).act = d.act := rfl
@[simp] theorem bump_bulk (d : Dev) (r : RegId) (c i : Nat) : (bump d r c i).bulk = d.bulk := rfl
@[simp] theorem bump_ldr (d : Dev) (r : RegId) (c i : Nat) : (bump d r c i).ldr = d.ldr := rfl
@[simp] theorem bump_snap (d : Dev) (r : RegId) (c i : Nat) : (bump d r c i).snap = d.snap := rfl
@[simp] theorem bump_ports (d : Dev) (r : RegId) (c i : Nat) : (bump d r c i).ports = d.ports := rfl
@[simp] theorem bump_fab (d : Dev) (r : RegId) (c i : Nat) : (bump d r c i).fab = d.fab := rfl
@[simp] theorem bump_pwr (d : Dev) (r : RegId) (c i : Nat) : (bump d r c i).pwr = d.pwr := rfl
@[simp] theorem bump_sec (d : Dev) (r : RegId) (c i : Nat) : (bump d r c i).sec = d.sec := rfl
@[simp] theorem bump_vlt (d : Dev) (r : RegId) (c i : Nat) : (bump d r c i).vlt = d.vlt := rfl
@[simp] theorem bump_i3c (d : Dev) (r : RegId) (c i : Nat) : (bump d r c i).i3c = d.i3c := rfl
@[simp] theorem bump_hbm (d : Dev) (r : RegId) (c i : Nat) : (bump d r c i).hbm = d.hbm := rfl
@[simp] theorem bump_med (d : Dev) (r : RegId) (c i : Nat) : (bump d r c i).med = d.med := rfl
@[simp] theorem bump_latent (d : Dev) (r : RegId) (c i : Nat) : (bump d r c i).latent = d.latent := rfl
@[simp] theorem bump_latent0 (d : Dev) (r : RegId) (c i : Nat) : (bump d r c i).latent0 = d.latent0 := rfl

@[simp] theorem send_now (d : Dev) (o : Out) : (send d o).now = d.now := rfl
@[simp] theorem send_free (d : Dev) (o : Out) : (send d o).free = d.free := rfl
@[simp] theorem send_regs (d : Dev) (o : Out) : (send d o).regs = d.regs := rfl
@[simp] theorem send_shadow (d : Dev) (o : Out) : (send d o).shadow = d.shadow := rfl
@[simp] theorem send_kept (d : Dev) (o : Out) : (send d o).kept = d.kept := rfl
@[simp] theorem send_latch (d : Dev) (o : Out) : (send d o).latch = d.latch := rfl
@[simp] theorem send_flt (d : Dev) (o : Out) : (send d o).flt = d.flt := rfl
@[simp] theorem send_log (d : Dev) (o : Out) : (send d o).log = d.log := rfl
@[simp] theorem send_tst (d : Dev) (o : Out) : (send d o).tst = d.tst := rfl
@[simp] theorem send_chm (d : Dev) (o : Out) : (send d o).chm = d.chm := rfl
@[simp] theorem send_conns (d : Dev) (o : Out) : (send d o).conns = d.conns := rfl
@[simp] theorem send_reqs (d : Dev) (o : Out) : (send d o).reqs = d.reqs := rfl
@[simp] theorem send_nextReq (d : Dev) (o : Out) : (send d o).nextReq = d.nextReq := rfl
@[simp] theorem send_nextArr (d : Dev) (o : Out) : (send d o).nextArr = d.nextArr := rfl
@[simp] theorem send_mem (d : Dev) (o : Out) : (send d o).mem = d.mem := rfl
@[simp] theorem send_poison (d : Dev) (o : Out) : (send d o).poison = d.poison := rfl
@[simp] theorem send_blanket (d : Dev) (o : Out) : (send d o).blanket = d.blanket := rfl
@[simp] theorem send_cured (d : Dev) (o : Out) : (send d o).cured = d.cured := rfl
@[simp] theorem send_tier (d : Dev) (o : Out) : (send d o).tier = d.tier := rfl
@[simp] theorem send_per (d : Dev) (o : Out) : (send d o).per = d.per := rfl
@[simp] theorem send_res (d : Dev) (o : Out) : (send d o).res = d.res := rfl
@[simp] theorem send_cus (d : Dev) (o : Out) : (send d o).cus = d.cus := rfl
@[simp] theorem send_watch (d : Dev) (o : Out) : (send d o).watch = d.watch := rfl
@[simp] theorem send_repairs (d : Dev) (o : Out) : (send d o).repairs = d.repairs := rfl
@[simp] theorem send_tim (d : Dev) (o : Out) : (send d o).tim = d.tim := rfl
@[simp] theorem send_mode (d : Dev) (o : Out) : (send d o).mode = d.mode := rfl
@[simp] theorem send_cal (d : Dev) (o : Out) : (send d o).cal = d.cal := rfl
@[simp] theorem send_act (d : Dev) (o : Out) : (send d o).act = d.act := rfl
@[simp] theorem send_bulk (d : Dev) (o : Out) : (send d o).bulk = d.bulk := rfl
@[simp] theorem send_ldr (d : Dev) (o : Out) : (send d o).ldr = d.ldr := rfl
@[simp] theorem send_snap (d : Dev) (o : Out) : (send d o).snap = d.snap := rfl
@[simp] theorem send_ports (d : Dev) (o : Out) : (send d o).ports = d.ports := rfl
@[simp] theorem send_fab (d : Dev) (o : Out) : (send d o).fab = d.fab := rfl
@[simp] theorem send_pwr (d : Dev) (o : Out) : (send d o).pwr = d.pwr := rfl
@[simp] theorem send_sec (d : Dev) (o : Out) : (send d o).sec = d.sec := rfl
@[simp] theorem send_vlt (d : Dev) (o : Out) : (send d o).vlt = d.vlt := rfl
@[simp] theorem send_i3c (d : Dev) (o : Out) : (send d o).i3c = d.i3c := rfl
@[simp] theorem send_hbm (d : Dev) (o : Out) : (send d o).hbm = d.hbm := rfl
@[simp] theorem send_med (d : Dev) (o : Out) : (send d o).med = d.med := rfl
@[simp] theorem send_latent (d : Dev) (o : Out) : (send d o).latent = d.latent := rfl
@[simp] theorem send_latent0 (d : Dev) (o : Out) : (send d o).latent0 = d.latent0 := rfl

@[simp] theorem freeStep_now (d : Dev) : (freeStep d).now = d.now := rfl
@[simp] theorem freeStep_out (d : Dev) : (freeStep d).out = d.out := rfl
@[simp] theorem freeStep_regs (d : Dev) : (freeStep d).regs = d.regs := rfl
@[simp] theorem freeStep_shadow (d : Dev) : (freeStep d).shadow = d.shadow := rfl
@[simp] theorem freeStep_kept (d : Dev) : (freeStep d).kept = d.kept := rfl
@[simp] theorem freeStep_latch (d : Dev) : (freeStep d).latch = d.latch := rfl
@[simp] theorem freeStep_flt (d : Dev) : (freeStep d).flt = d.flt := rfl
@[simp] theorem freeStep_log (d : Dev) : (freeStep d).log = d.log := rfl
@[simp] theorem freeStep_tst (d : Dev) : (freeStep d).tst = d.tst := rfl
@[simp] theorem freeStep_chm (d : Dev) : (freeStep d).chm = d.chm := rfl
@[simp] theorem freeStep_conns (d : Dev) : (freeStep d).conns = d.conns := rfl
@[simp] theorem freeStep_reqs (d : Dev) : (freeStep d).reqs = d.reqs := rfl
@[simp] theorem freeStep_nextReq (d : Dev) : (freeStep d).nextReq = d.nextReq := rfl
@[simp] theorem freeStep_nextArr (d : Dev) : (freeStep d).nextArr = d.nextArr := rfl
@[simp] theorem freeStep_mem (d : Dev) : (freeStep d).mem = d.mem := rfl
@[simp] theorem freeStep_poison (d : Dev) : (freeStep d).poison = d.poison := rfl
@[simp] theorem freeStep_blanket (d : Dev) : (freeStep d).blanket = d.blanket := rfl
@[simp] theorem freeStep_cured (d : Dev) : (freeStep d).cured = d.cured := rfl
@[simp] theorem freeStep_tier (d : Dev) : (freeStep d).tier = d.tier := rfl
@[simp] theorem freeStep_per (d : Dev) : (freeStep d).per = d.per := rfl
@[simp] theorem freeStep_res (d : Dev) : (freeStep d).res = d.res := rfl
@[simp] theorem freeStep_cus (d : Dev) : (freeStep d).cus = d.cus := rfl
@[simp] theorem freeStep_watch (d : Dev) : (freeStep d).watch = d.watch := rfl
@[simp] theorem freeStep_repairs (d : Dev) : (freeStep d).repairs = d.repairs := rfl
@[simp] theorem freeStep_tim (d : Dev) : (freeStep d).tim = d.tim := rfl
@[simp] theorem freeStep_mode (d : Dev) : (freeStep d).mode = d.mode := rfl
@[simp] theorem freeStep_cal (d : Dev) : (freeStep d).cal = d.cal := rfl
@[simp] theorem freeStep_act (d : Dev) : (freeStep d).act = d.act := rfl
@[simp] theorem freeStep_bulk (d : Dev) : (freeStep d).bulk = d.bulk := rfl
@[simp] theorem freeStep_ldr (d : Dev) : (freeStep d).ldr = d.ldr := rfl
@[simp] theorem freeStep_snap (d : Dev) : (freeStep d).snap = d.snap := rfl
@[simp] theorem freeStep_ports (d : Dev) : (freeStep d).ports = d.ports := rfl
@[simp] theorem freeStep_fab (d : Dev) : (freeStep d).fab = d.fab := rfl
@[simp] theorem freeStep_pwr (d : Dev) : (freeStep d).pwr = d.pwr := rfl
@[simp] theorem freeStep_sec (d : Dev) : (freeStep d).sec = d.sec := rfl
@[simp] theorem freeStep_vlt (d : Dev) : (freeStep d).vlt = d.vlt := rfl
@[simp] theorem freeStep_i3c (d : Dev) : (freeStep d).i3c = d.i3c := rfl
@[simp] theorem freeStep_hbm (d : Dev) : (freeStep d).hbm = d.hbm := rfl
@[simp] theorem freeStep_med (d : Dev) : (freeStep d).med = d.med := rfl
@[simp] theorem freeStep_latent (d : Dev) : (freeStep d).latent = d.latent := rfl
@[simp] theorem freeStep_latent0 (d : Dev) : (freeStep d).latent0 = d.latent0 := rfl

@[simp] theorem stamped_now (d : Dev) : (stamped d).now = d.now := rfl
@[simp] theorem stamped_free (d : Dev) : (stamped d).free = d.free := rfl
@[simp] theorem stamped_out (d : Dev) : (stamped d).out = d.out := rfl
@[simp] theorem stamped_regs (d : Dev) : (stamped d).regs = d.regs := rfl
@[simp] theorem stamped_shadow (d : Dev) : (stamped d).shadow = d.shadow := rfl
@[simp] theorem stamped_kept (d : Dev) : (stamped d).kept = d.kept := rfl
@[simp] theorem stamped_latch (d : Dev) : (stamped d).latch = d.latch := rfl
@[simp] theorem stamped_flt (d : Dev) : (stamped d).flt = d.flt := rfl
@[simp] theorem stamped_log (d : Dev) : (stamped d).log = d.log := rfl
@[simp] theorem stamped_tst (d : Dev) : (stamped d).tst = d.tst := rfl
@[simp] theorem stamped_chm (d : Dev) : (stamped d).chm = d.chm := rfl
@[simp] theorem stamped_conns (d : Dev) : (stamped d).conns = d.conns := rfl
@[simp] theorem stamped_reqs (d : Dev) : (stamped d).reqs = d.reqs := rfl
@[simp] theorem stamped_nextReq (d : Dev) : (stamped d).nextReq = d.nextReq := rfl
@[simp] theorem stamped_nextArr (d : Dev) : (stamped d).nextArr = d.nextArr := rfl
@[simp] theorem stamped_mem (d : Dev) : (stamped d).mem = d.mem := rfl
@[simp] theorem stamped_poison (d : Dev) : (stamped d).poison = d.poison := rfl
@[simp] theorem stamped_blanket (d : Dev) : (stamped d).blanket = d.blanket := rfl
@[simp] theorem stamped_cured (d : Dev) : (stamped d).cured = d.cured := rfl
@[simp] theorem stamped_tier (d : Dev) : (stamped d).tier = d.tier := rfl
@[simp] theorem stamped_per (d : Dev) : (stamped d).per = d.per := rfl
@[simp] theorem stamped_res (d : Dev) : (stamped d).res = d.res := rfl
@[simp] theorem stamped_cus (d : Dev) : (stamped d).cus = d.cus := rfl
@[simp] theorem stamped_watch (d : Dev) : (stamped d).watch = d.watch := rfl
@[simp] theorem stamped_repairs (d : Dev) : (stamped d).repairs = d.repairs := rfl
@[simp] theorem stamped_mode (d : Dev) : (stamped d).mode = d.mode := rfl
@[simp] theorem stamped_cal (d : Dev) : (stamped d).cal = d.cal := rfl
@[simp] theorem stamped_act (d : Dev) : (stamped d).act = d.act := rfl
@[simp] theorem stamped_bulk (d : Dev) : (stamped d).bulk = d.bulk := rfl
@[simp] theorem stamped_ldr (d : Dev) : (stamped d).ldr = d.ldr := rfl
@[simp] theorem stamped_snap (d : Dev) : (stamped d).snap = d.snap := rfl
@[simp] theorem stamped_ports (d : Dev) : (stamped d).ports = d.ports := rfl
@[simp] theorem stamped_fab (d : Dev) : (stamped d).fab = d.fab := rfl
@[simp] theorem stamped_pwr (d : Dev) : (stamped d).pwr = d.pwr := rfl
@[simp] theorem stamped_sec (d : Dev) : (stamped d).sec = d.sec := rfl
@[simp] theorem stamped_vlt (d : Dev) : (stamped d).vlt = d.vlt := rfl
@[simp] theorem stamped_i3c (d : Dev) : (stamped d).i3c = d.i3c := rfl
@[simp] theorem stamped_hbm (d : Dev) : (stamped d).hbm = d.hbm := rfl
@[simp] theorem stamped_med (d : Dev) : (stamped d).med = d.med := rfl
@[simp] theorem stamped_latent (d : Dev) : (stamped d).latent = d.latent := rfl
@[simp] theorem stamped_latent0 (d : Dev) : (stamped d).latent0 = d.latent0 := rfl

@[simp] theorem setPoison_now (d : Dev) (l : Nat) : (setPoison d l).now = d.now := rfl
@[simp] theorem setPoison_free (d : Dev) (l : Nat) : (setPoison d l).free = d.free := rfl
@[simp] theorem setPoison_out (d : Dev) (l : Nat) : (setPoison d l).out = d.out := rfl
@[simp] theorem setPoison_regs (d : Dev) (l : Nat) : (setPoison d l).regs = d.regs := rfl
@[simp] theorem setPoison_shadow (d : Dev) (l : Nat) : (setPoison d l).shadow = d.shadow := rfl
@[simp] theorem setPoison_kept (d : Dev) (l : Nat) : (setPoison d l).kept = d.kept := rfl
@[simp] theorem setPoison_latch (d : Dev) (l : Nat) : (setPoison d l).latch = d.latch := rfl
@[simp] theorem setPoison_flt (d : Dev) (l : Nat) : (setPoison d l).flt = d.flt := rfl
@[simp] theorem setPoison_log (d : Dev) (l : Nat) : (setPoison d l).log = d.log := rfl
@[simp] theorem setPoison_tst (d : Dev) (l : Nat) : (setPoison d l).tst = d.tst := rfl
@[simp] theorem setPoison_chm (d : Dev) (l : Nat) : (setPoison d l).chm = d.chm := rfl
@[simp] theorem setPoison_conns (d : Dev) (l : Nat) : (setPoison d l).conns = d.conns := rfl
@[simp] theorem setPoison_reqs (d : Dev) (l : Nat) : (setPoison d l).reqs = d.reqs := rfl
@[simp] theorem setPoison_nextReq (d : Dev) (l : Nat) : (setPoison d l).nextReq = d.nextReq := rfl
@[simp] theorem setPoison_nextArr (d : Dev) (l : Nat) : (setPoison d l).nextArr = d.nextArr := rfl
@[simp] theorem setPoison_mem (d : Dev) (l : Nat) : (setPoison d l).mem = d.mem := rfl
@[simp] theorem setPoison_blanket (d : Dev) (l : Nat) : (setPoison d l).blanket = d.blanket := rfl
@[simp] theorem setPoison_cured (d : Dev) (l : Nat) : (setPoison d l).cured = d.cured := rfl
@[simp] theorem setPoison_tier (d : Dev) (l : Nat) : (setPoison d l).tier = d.tier := rfl
@[simp] theorem setPoison_per (d : Dev) (l : Nat) : (setPoison d l).per = d.per := rfl
@[simp] theorem setPoison_res (d : Dev) (l : Nat) : (setPoison d l).res = d.res := rfl
@[simp] theorem setPoison_cus (d : Dev) (l : Nat) : (setPoison d l).cus = d.cus := rfl
@[simp] theorem setPoison_watch (d : Dev) (l : Nat) : (setPoison d l).watch = d.watch := rfl
@[simp] theorem setPoison_repairs (d : Dev) (l : Nat) : (setPoison d l).repairs = d.repairs := rfl
@[simp] theorem setPoison_tim (d : Dev) (l : Nat) : (setPoison d l).tim = d.tim := rfl
@[simp] theorem setPoison_mode (d : Dev) (l : Nat) : (setPoison d l).mode = d.mode := rfl
@[simp] theorem setPoison_cal (d : Dev) (l : Nat) : (setPoison d l).cal = d.cal := rfl
@[simp] theorem setPoison_act (d : Dev) (l : Nat) : (setPoison d l).act = d.act := rfl
@[simp] theorem setPoison_bulk (d : Dev) (l : Nat) : (setPoison d l).bulk = d.bulk := rfl
@[simp] theorem setPoison_ldr (d : Dev) (l : Nat) : (setPoison d l).ldr = d.ldr := rfl
@[simp] theorem setPoison_snap (d : Dev) (l : Nat) : (setPoison d l).snap = d.snap := rfl
@[simp] theorem setPoison_ports (d : Dev) (l : Nat) : (setPoison d l).ports = d.ports := rfl
@[simp] theorem setPoison_fab (d : Dev) (l : Nat) : (setPoison d l).fab = d.fab := rfl
@[simp] theorem setPoison_pwr (d : Dev) (l : Nat) : (setPoison d l).pwr = d.pwr := rfl
@[simp] theorem setPoison_sec (d : Dev) (l : Nat) : (setPoison d l).sec = d.sec := rfl
@[simp] theorem setPoison_vlt (d : Dev) (l : Nat) : (setPoison d l).vlt = d.vlt := rfl
@[simp] theorem setPoison_i3c (d : Dev) (l : Nat) : (setPoison d l).i3c = d.i3c := rfl
@[simp] theorem setPoison_hbm (d : Dev) (l : Nat) : (setPoison d l).hbm = d.hbm := rfl
@[simp] theorem setPoison_med (d : Dev) (l : Nat) : (setPoison d l).med = d.med := rfl
@[simp] theorem setPoison_latent (d : Dev) (l : Nat) : (setPoison d l).latent = d.latent := rfl
@[simp] theorem setPoison_latent0 (d : Dev) (l : Nat) : (setPoison d l).latent0 = d.latent0 := rfl

@[simp] theorem clearPoison_now (d : Dev) (l : Nat) : (clearPoison d l).now = d.now := rfl
@[simp] theorem clearPoison_free (d : Dev) (l : Nat) : (clearPoison d l).free = d.free := rfl
@[simp] theorem clearPoison_out (d : Dev) (l : Nat) : (clearPoison d l).out = d.out := rfl
@[simp] theorem clearPoison_regs (d : Dev) (l : Nat) : (clearPoison d l).regs = d.regs := rfl
@[simp] theorem clearPoison_shadow (d : Dev) (l : Nat) : (clearPoison d l).shadow = d.shadow := rfl
@[simp] theorem clearPoison_kept (d : Dev) (l : Nat) : (clearPoison d l).kept = d.kept := rfl
@[simp] theorem clearPoison_latch (d : Dev) (l : Nat) : (clearPoison d l).latch = d.latch := rfl
@[simp] theorem clearPoison_flt (d : Dev) (l : Nat) : (clearPoison d l).flt = d.flt := rfl
@[simp] theorem clearPoison_log (d : Dev) (l : Nat) : (clearPoison d l).log = d.log := rfl
@[simp] theorem clearPoison_tst (d : Dev) (l : Nat) : (clearPoison d l).tst = d.tst := rfl
@[simp] theorem clearPoison_chm (d : Dev) (l : Nat) : (clearPoison d l).chm = d.chm := rfl
@[simp] theorem clearPoison_conns (d : Dev) (l : Nat) : (clearPoison d l).conns = d.conns := rfl
@[simp] theorem clearPoison_reqs (d : Dev) (l : Nat) : (clearPoison d l).reqs = d.reqs := rfl
@[simp] theorem clearPoison_nextReq (d : Dev) (l : Nat) : (clearPoison d l).nextReq = d.nextReq := rfl
@[simp] theorem clearPoison_nextArr (d : Dev) (l : Nat) : (clearPoison d l).nextArr = d.nextArr := rfl
@[simp] theorem clearPoison_mem (d : Dev) (l : Nat) : (clearPoison d l).mem = d.mem := rfl
@[simp] theorem clearPoison_blanket (d : Dev) (l : Nat) : (clearPoison d l).blanket = d.blanket := rfl
@[simp] theorem clearPoison_tier (d : Dev) (l : Nat) : (clearPoison d l).tier = d.tier := rfl
@[simp] theorem clearPoison_per (d : Dev) (l : Nat) : (clearPoison d l).per = d.per := rfl
@[simp] theorem clearPoison_res (d : Dev) (l : Nat) : (clearPoison d l).res = d.res := rfl
@[simp] theorem clearPoison_cus (d : Dev) (l : Nat) : (clearPoison d l).cus = d.cus := rfl
@[simp] theorem clearPoison_watch (d : Dev) (l : Nat) : (clearPoison d l).watch = d.watch := rfl
@[simp] theorem clearPoison_repairs (d : Dev) (l : Nat) : (clearPoison d l).repairs = d.repairs := rfl
@[simp] theorem clearPoison_tim (d : Dev) (l : Nat) : (clearPoison d l).tim = d.tim := rfl
@[simp] theorem clearPoison_mode (d : Dev) (l : Nat) : (clearPoison d l).mode = d.mode := rfl
@[simp] theorem clearPoison_cal (d : Dev) (l : Nat) : (clearPoison d l).cal = d.cal := rfl
@[simp] theorem clearPoison_act (d : Dev) (l : Nat) : (clearPoison d l).act = d.act := rfl
@[simp] theorem clearPoison_bulk (d : Dev) (l : Nat) : (clearPoison d l).bulk = d.bulk := rfl
@[simp] theorem clearPoison_ldr (d : Dev) (l : Nat) : (clearPoison d l).ldr = d.ldr := rfl
@[simp] theorem clearPoison_snap (d : Dev) (l : Nat) : (clearPoison d l).snap = d.snap := rfl
@[simp] theorem clearPoison_ports (d : Dev) (l : Nat) : (clearPoison d l).ports = d.ports := rfl
@[simp] theorem clearPoison_fab (d : Dev) (l : Nat) : (clearPoison d l).fab = d.fab := rfl
@[simp] theorem clearPoison_pwr (d : Dev) (l : Nat) : (clearPoison d l).pwr = d.pwr := rfl
@[simp] theorem clearPoison_sec (d : Dev) (l : Nat) : (clearPoison d l).sec = d.sec := rfl
@[simp] theorem clearPoison_vlt (d : Dev) (l : Nat) : (clearPoison d l).vlt = d.vlt := rfl
@[simp] theorem clearPoison_i3c (d : Dev) (l : Nat) : (clearPoison d l).i3c = d.i3c := rfl
@[simp] theorem clearPoison_hbm (d : Dev) (l : Nat) : (clearPoison d l).hbm = d.hbm := rfl
@[simp] theorem clearPoison_med (d : Dev) (l : Nat) : (clearPoison d l).med = d.med := rfl
@[simp] theorem clearPoison_latent (d : Dev) (l : Nat) : (clearPoison d l).latent = d.latent := rfl
@[simp] theorem clearPoison_latent0 (d : Dev) (l : Nat) : (clearPoison d l).latent0 = d.latent0 := rfl

@[simp] theorem setConn_now (d : Dev) (k : Nat) (c : Conn) : (setConn d k c).now = d.now := rfl
@[simp] theorem setConn_free (d : Dev) (k : Nat) (c : Conn) : (setConn d k c).free = d.free := rfl
@[simp] theorem setConn_out (d : Dev) (k : Nat) (c : Conn) : (setConn d k c).out = d.out := rfl
@[simp] theorem setConn_regs (d : Dev) (k : Nat) (c : Conn) : (setConn d k c).regs = d.regs := rfl
@[simp] theorem setConn_shadow (d : Dev) (k : Nat) (c : Conn) : (setConn d k c).shadow = d.shadow := rfl
@[simp] theorem setConn_kept (d : Dev) (k : Nat) (c : Conn) : (setConn d k c).kept = d.kept := rfl
@[simp] theorem setConn_latch (d : Dev) (k : Nat) (c : Conn) : (setConn d k c).latch = d.latch := rfl
@[simp] theorem setConn_flt (d : Dev) (k : Nat) (c : Conn) : (setConn d k c).flt = d.flt := rfl
@[simp] theorem setConn_log (d : Dev) (k : Nat) (c : Conn) : (setConn d k c).log = d.log := rfl
@[simp] theorem setConn_tst (d : Dev) (k : Nat) (c : Conn) : (setConn d k c).tst = d.tst := rfl
@[simp] theorem setConn_chm (d : Dev) (k : Nat) (c : Conn) : (setConn d k c).chm = d.chm := rfl
@[simp] theorem setConn_reqs (d : Dev) (k : Nat) (c : Conn) : (setConn d k c).reqs = d.reqs := rfl
@[simp] theorem setConn_nextReq (d : Dev) (k : Nat) (c : Conn) : (setConn d k c).nextReq = d.nextReq := rfl
@[simp] theorem setConn_nextArr (d : Dev) (k : Nat) (c : Conn) : (setConn d k c).nextArr = d.nextArr := rfl
@[simp] theorem setConn_mem (d : Dev) (k : Nat) (c : Conn) : (setConn d k c).mem = d.mem := rfl
@[simp] theorem setConn_poison (d : Dev) (k : Nat) (c : Conn) : (setConn d k c).poison = d.poison := rfl
@[simp] theorem setConn_blanket (d : Dev) (k : Nat) (c : Conn) : (setConn d k c).blanket = d.blanket := rfl
@[simp] theorem setConn_cured (d : Dev) (k : Nat) (c : Conn) : (setConn d k c).cured = d.cured := rfl
@[simp] theorem setConn_tier (d : Dev) (k : Nat) (c : Conn) : (setConn d k c).tier = d.tier := rfl
@[simp] theorem setConn_per (d : Dev) (k : Nat) (c : Conn) : (setConn d k c).per = d.per := rfl
@[simp] theorem setConn_res (d : Dev) (k : Nat) (c : Conn) : (setConn d k c).res = d.res := rfl
@[simp] theorem setConn_cus (d : Dev) (k : Nat) (c : Conn) : (setConn d k c).cus = d.cus := rfl
@[simp] theorem setConn_watch (d : Dev) (k : Nat) (c : Conn) : (setConn d k c).watch = d.watch := rfl
@[simp] theorem setConn_repairs (d : Dev) (k : Nat) (c : Conn) : (setConn d k c).repairs = d.repairs := rfl
@[simp] theorem setConn_tim (d : Dev) (k : Nat) (c : Conn) : (setConn d k c).tim = d.tim := rfl
@[simp] theorem setConn_mode (d : Dev) (k : Nat) (c : Conn) : (setConn d k c).mode = d.mode := rfl
@[simp] theorem setConn_cal (d : Dev) (k : Nat) (c : Conn) : (setConn d k c).cal = d.cal := rfl
@[simp] theorem setConn_act (d : Dev) (k : Nat) (c : Conn) : (setConn d k c).act = d.act := rfl
@[simp] theorem setConn_bulk (d : Dev) (k : Nat) (c : Conn) : (setConn d k c).bulk = d.bulk := rfl
@[simp] theorem setConn_ldr (d : Dev) (k : Nat) (c : Conn) : (setConn d k c).ldr = d.ldr := rfl
@[simp] theorem setConn_snap (d : Dev) (k : Nat) (c : Conn) : (setConn d k c).snap = d.snap := rfl
@[simp] theorem setConn_ports (d : Dev) (k : Nat) (c : Conn) : (setConn d k c).ports = d.ports := rfl
@[simp] theorem setConn_fab (d : Dev) (k : Nat) (c : Conn) : (setConn d k c).fab = d.fab := rfl
@[simp] theorem setConn_pwr (d : Dev) (k : Nat) (c : Conn) : (setConn d k c).pwr = d.pwr := rfl
@[simp] theorem setConn_sec (d : Dev) (k : Nat) (c : Conn) : (setConn d k c).sec = d.sec := rfl
@[simp] theorem setConn_vlt (d : Dev) (k : Nat) (c : Conn) : (setConn d k c).vlt = d.vlt := rfl
@[simp] theorem setConn_i3c (d : Dev) (k : Nat) (c : Conn) : (setConn d k c).i3c = d.i3c := rfl
@[simp] theorem setConn_hbm (d : Dev) (k : Nat) (c : Conn) : (setConn d k c).hbm = d.hbm := rfl
@[simp] theorem setConn_med (d : Dev) (k : Nat) (c : Conn) : (setConn d k c).med = d.med := rfl
@[simp] theorem setConn_latent (d : Dev) (k : Nat) (c : Conn) : (setConn d k c).latent = d.latent := rfl
@[simp] theorem setConn_latent0 (d : Dev) (k : Nat) (c : Conn) : (setConn d k c).latent0 = d.latent0 := rfl

@[simp] theorem modConn_now (d : Dev) (k : Nat) (f : Conn → Conn) : (modConn d k f).now = d.now := rfl
@[simp] theorem modConn_free (d : Dev) (k : Nat) (f : Conn → Conn) : (modConn d k f).free = d.free := rfl
@[simp] theorem modConn_out (d : Dev) (k : Nat) (f : Conn → Conn) : (modConn d k f).out = d.out := rfl
@[simp] theorem modConn_regs (d : Dev) (k : Nat) (f : Conn → Conn) : (modConn d k f).regs = d.regs := rfl
@[simp] theorem modConn_shadow (d : Dev) (k : Nat) (f : Conn → Conn) : (modConn d k f).shadow = d.shadow := rfl
@[simp] theorem modConn_kept (d : Dev) (k : Nat) (f : Conn → Conn) : (modConn d k f).kept = d.kept := rfl
@[simp] theorem modConn_latch (d : Dev) (k : Nat) (f : Conn → Conn) : (modConn d k f).latch = d.latch := rfl
@[simp] theorem modConn_flt (d : Dev) (k : Nat) (f : Conn → Conn) : (modConn d k f).flt = d.flt := rfl
@[simp] theorem modConn_log (d : Dev) (k : Nat) (f : Conn → Conn) : (modConn d k f).log = d.log := rfl
@[simp] theorem modConn_tst (d : Dev) (k : Nat) (f : Conn → Conn) : (modConn d k f).tst = d.tst := rfl
@[simp] theorem modConn_chm (d : Dev) (k : Nat) (f : Conn → Conn) : (modConn d k f).chm = d.chm := rfl
@[simp] theorem modConn_reqs (d : Dev) (k : Nat) (f : Conn → Conn) : (modConn d k f).reqs = d.reqs := rfl
@[simp] theorem modConn_nextReq (d : Dev) (k : Nat) (f : Conn → Conn) : (modConn d k f).nextReq = d.nextReq := rfl
@[simp] theorem modConn_nextArr (d : Dev) (k : Nat) (f : Conn → Conn) : (modConn d k f).nextArr = d.nextArr := rfl
@[simp] theorem modConn_mem (d : Dev) (k : Nat) (f : Conn → Conn) : (modConn d k f).mem = d.mem := rfl
@[simp] theorem modConn_poison (d : Dev) (k : Nat) (f : Conn → Conn) : (modConn d k f).poison = d.poison := rfl
@[simp] theorem modConn_blanket (d : Dev) (k : Nat) (f : Conn → Conn) : (modConn d k f).blanket = d.blanket := rfl
@[simp] theorem modConn_cured (d : Dev) (k : Nat) (f : Conn → Conn) : (modConn d k f).cured = d.cured := rfl
@[simp] theorem modConn_tier (d : Dev) (k : Nat) (f : Conn → Conn) : (modConn d k f).tier = d.tier := rfl
@[simp] theorem modConn_per (d : Dev) (k : Nat) (f : Conn → Conn) : (modConn d k f).per = d.per := rfl
@[simp] theorem modConn_res (d : Dev) (k : Nat) (f : Conn → Conn) : (modConn d k f).res = d.res := rfl
@[simp] theorem modConn_cus (d : Dev) (k : Nat) (f : Conn → Conn) : (modConn d k f).cus = d.cus := rfl
@[simp] theorem modConn_watch (d : Dev) (k : Nat) (f : Conn → Conn) : (modConn d k f).watch = d.watch := rfl
@[simp] theorem modConn_repairs (d : Dev) (k : Nat) (f : Conn → Conn) : (modConn d k f).repairs = d.repairs := rfl
@[simp] theorem modConn_tim (d : Dev) (k : Nat) (f : Conn → Conn) : (modConn d k f).tim = d.tim := rfl
@[simp] theorem modConn_mode (d : Dev) (k : Nat) (f : Conn → Conn) : (modConn d k f).mode = d.mode := rfl
@[simp] theorem modConn_cal (d : Dev) (k : Nat) (f : Conn → Conn) : (modConn d k f).cal = d.cal := rfl
@[simp] theorem modConn_act (d : Dev) (k : Nat) (f : Conn → Conn) : (modConn d k f).act = d.act := rfl
@[simp] theorem modConn_bulk (d : Dev) (k : Nat) (f : Conn → Conn) : (modConn d k f).bulk = d.bulk := rfl
@[simp] theorem modConn_ldr (d : Dev) (k : Nat) (f : Conn → Conn) : (modConn d k f).ldr = d.ldr := rfl
@[simp] theorem modConn_snap (d : Dev) (k : Nat) (f : Conn → Conn) : (modConn d k f).snap = d.snap := rfl
@[simp] theorem modConn_ports (d : Dev) (k : Nat) (f : Conn → Conn) : (modConn d k f).ports = d.ports := rfl
@[simp] theorem modConn_fab (d : Dev) (k : Nat) (f : Conn → Conn) : (modConn d k f).fab = d.fab := rfl
@[simp] theorem modConn_pwr (d : Dev) (k : Nat) (f : Conn → Conn) : (modConn d k f).pwr = d.pwr := rfl
@[simp] theorem modConn_sec (d : Dev) (k : Nat) (f : Conn → Conn) : (modConn d k f).sec = d.sec := rfl
@[simp] theorem modConn_vlt (d : Dev) (k : Nat) (f : Conn → Conn) : (modConn d k f).vlt = d.vlt := rfl
@[simp] theorem modConn_i3c (d : Dev) (k : Nat) (f : Conn → Conn) : (modConn d k f).i3c = d.i3c := rfl
@[simp] theorem modConn_hbm (d : Dev) (k : Nat) (f : Conn → Conn) : (modConn d k f).hbm = d.hbm := rfl
@[simp] theorem modConn_med (d : Dev) (k : Nat) (f : Conn → Conn) : (modConn d k f).med = d.med := rfl
@[simp] theorem modConn_latent (d : Dev) (k : Nat) (f : Conn → Conn) : (modConn d k f).latent = d.latent := rfl
@[simp] theorem modConn_latent0 (d : Dev) (k : Nat) (f : Conn → Conn) : (modConn d k f).latent0 = d.latent0 := rfl

@[simp] theorem setHbm_now (d : Dev) (c : Nat) (h : Hbm) : (setHbm d c h).now = d.now := rfl
@[simp] theorem setHbm_free (d : Dev) (c : Nat) (h : Hbm) : (setHbm d c h).free = d.free := rfl
@[simp] theorem setHbm_out (d : Dev) (c : Nat) (h : Hbm) : (setHbm d c h).out = d.out := rfl
@[simp] theorem setHbm_regs (d : Dev) (c : Nat) (h : Hbm) : (setHbm d c h).regs = d.regs := rfl
@[simp] theorem setHbm_shadow (d : Dev) (c : Nat) (h : Hbm) : (setHbm d c h).shadow = d.shadow := rfl
@[simp] theorem setHbm_kept (d : Dev) (c : Nat) (h : Hbm) : (setHbm d c h).kept = d.kept := rfl
@[simp] theorem setHbm_latch (d : Dev) (c : Nat) (h : Hbm) : (setHbm d c h).latch = d.latch := rfl
@[simp] theorem setHbm_flt (d : Dev) (c : Nat) (h : Hbm) : (setHbm d c h).flt = d.flt := rfl
@[simp] theorem setHbm_log (d : Dev) (c : Nat) (h : Hbm) : (setHbm d c h).log = d.log := rfl
@[simp] theorem setHbm_tst (d : Dev) (c : Nat) (h : Hbm) : (setHbm d c h).tst = d.tst := rfl
@[simp] theorem setHbm_chm (d : Dev) (c : Nat) (h : Hbm) : (setHbm d c h).chm = d.chm := rfl
@[simp] theorem setHbm_conns (d : Dev) (c : Nat) (h : Hbm) : (setHbm d c h).conns = d.conns := rfl
@[simp] theorem setHbm_reqs (d : Dev) (c : Nat) (h : Hbm) : (setHbm d c h).reqs = d.reqs := rfl
@[simp] theorem setHbm_nextReq (d : Dev) (c : Nat) (h : Hbm) : (setHbm d c h).nextReq = d.nextReq := rfl
@[simp] theorem setHbm_nextArr (d : Dev) (c : Nat) (h : Hbm) : (setHbm d c h).nextArr = d.nextArr := rfl
@[simp] theorem setHbm_mem (d : Dev) (c : Nat) (h : Hbm) : (setHbm d c h).mem = d.mem := rfl
@[simp] theorem setHbm_poison (d : Dev) (c : Nat) (h : Hbm) : (setHbm d c h).poison = d.poison := rfl
@[simp] theorem setHbm_blanket (d : Dev) (c : Nat) (h : Hbm) : (setHbm d c h).blanket = d.blanket := rfl
@[simp] theorem setHbm_cured (d : Dev) (c : Nat) (h : Hbm) : (setHbm d c h).cured = d.cured := rfl
@[simp] theorem setHbm_tier (d : Dev) (c : Nat) (h : Hbm) : (setHbm d c h).tier = d.tier := rfl
@[simp] theorem setHbm_per (d : Dev) (c : Nat) (h : Hbm) : (setHbm d c h).per = d.per := rfl
@[simp] theorem setHbm_res (d : Dev) (c : Nat) (h : Hbm) : (setHbm d c h).res = d.res := rfl
@[simp] theorem setHbm_cus (d : Dev) (c : Nat) (h : Hbm) : (setHbm d c h).cus = d.cus := rfl
@[simp] theorem setHbm_watch (d : Dev) (c : Nat) (h : Hbm) : (setHbm d c h).watch = d.watch := rfl
@[simp] theorem setHbm_repairs (d : Dev) (c : Nat) (h : Hbm) : (setHbm d c h).repairs = d.repairs := rfl
@[simp] theorem setHbm_tim (d : Dev) (c : Nat) (h : Hbm) : (setHbm d c h).tim = d.tim := rfl
@[simp] theorem setHbm_mode (d : Dev) (c : Nat) (h : Hbm) : (setHbm d c h).mode = d.mode := rfl
@[simp] theorem setHbm_cal (d : Dev) (c : Nat) (h : Hbm) : (setHbm d c h).cal = d.cal := rfl
@[simp] theorem setHbm_act (d : Dev) (c : Nat) (h : Hbm) : (setHbm d c h).act = d.act := rfl
@[simp] theorem setHbm_bulk (d : Dev) (c : Nat) (h : Hbm) : (setHbm d c h).bulk = d.bulk := rfl
@[simp] theorem setHbm_ldr (d : Dev) (c : Nat) (h : Hbm) : (setHbm d c h).ldr = d.ldr := rfl
@[simp] theorem setHbm_snap (d : Dev) (c : Nat) (h : Hbm) : (setHbm d c h).snap = d.snap := rfl
@[simp] theorem setHbm_ports (d : Dev) (c : Nat) (h : Hbm) : (setHbm d c h).ports = d.ports := rfl
@[simp] theorem setHbm_fab (d : Dev) (c : Nat) (h : Hbm) : (setHbm d c h).fab = d.fab := rfl
@[simp] theorem setHbm_pwr (d : Dev) (c : Nat) (h : Hbm) : (setHbm d c h).pwr = d.pwr := rfl
@[simp] theorem setHbm_sec (d : Dev) (c : Nat) (h : Hbm) : (setHbm d c h).sec = d.sec := rfl
@[simp] theorem setHbm_vlt (d : Dev) (c : Nat) (h : Hbm) : (setHbm d c h).vlt = d.vlt := rfl
@[simp] theorem setHbm_i3c (d : Dev) (c : Nat) (h : Hbm) : (setHbm d c h).i3c = d.i3c := rfl
@[simp] theorem setHbm_med (d : Dev) (c : Nat) (h : Hbm) : (setHbm d c h).med = d.med := rfl
@[simp] theorem setHbm_latent (d : Dev) (c : Nat) (h : Hbm) : (setHbm d c h).latent = d.latent := rfl
@[simp] theorem setHbm_latent0 (d : Dev) (c : Nat) (h : Hbm) : (setHbm d c h).latent0 = d.latent0 := rfl

@[simp] theorem setMed_now (d : Dev) (c : Nat) (m : Media) : (setMed d c m).now = d.now := rfl
@[simp] theorem setMed_free (d : Dev) (c : Nat) (m : Media) : (setMed d c m).free = d.free := rfl
@[simp] theorem setMed_out (d : Dev) (c : Nat) (m : Media) : (setMed d c m).out = d.out := rfl
@[simp] theorem setMed_regs (d : Dev) (c : Nat) (m : Media) : (setMed d c m).regs = d.regs := rfl
@[simp] theorem setMed_shadow (d : Dev) (c : Nat) (m : Media) : (setMed d c m).shadow = d.shadow := rfl
@[simp] theorem setMed_kept (d : Dev) (c : Nat) (m : Media) : (setMed d c m).kept = d.kept := rfl
@[simp] theorem setMed_latch (d : Dev) (c : Nat) (m : Media) : (setMed d c m).latch = d.latch := rfl
@[simp] theorem setMed_flt (d : Dev) (c : Nat) (m : Media) : (setMed d c m).flt = d.flt := rfl
@[simp] theorem setMed_log (d : Dev) (c : Nat) (m : Media) : (setMed d c m).log = d.log := rfl
@[simp] theorem setMed_tst (d : Dev) (c : Nat) (m : Media) : (setMed d c m).tst = d.tst := rfl
@[simp] theorem setMed_chm (d : Dev) (c : Nat) (m : Media) : (setMed d c m).chm = d.chm := rfl
@[simp] theorem setMed_conns (d : Dev) (c : Nat) (m : Media) : (setMed d c m).conns = d.conns := rfl
@[simp] theorem setMed_reqs (d : Dev) (c : Nat) (m : Media) : (setMed d c m).reqs = d.reqs := rfl
@[simp] theorem setMed_nextReq (d : Dev) (c : Nat) (m : Media) : (setMed d c m).nextReq = d.nextReq := rfl
@[simp] theorem setMed_nextArr (d : Dev) (c : Nat) (m : Media) : (setMed d c m).nextArr = d.nextArr := rfl
@[simp] theorem setMed_mem (d : Dev) (c : Nat) (m : Media) : (setMed d c m).mem = d.mem := rfl
@[simp] theorem setMed_poison (d : Dev) (c : Nat) (m : Media) : (setMed d c m).poison = d.poison := rfl
@[simp] theorem setMed_blanket (d : Dev) (c : Nat) (m : Media) : (setMed d c m).blanket = d.blanket := rfl
@[simp] theorem setMed_cured (d : Dev) (c : Nat) (m : Media) : (setMed d c m).cured = d.cured := rfl
@[simp] theorem setMed_tier (d : Dev) (c : Nat) (m : Media) : (setMed d c m).tier = d.tier := rfl
@[simp] theorem setMed_per (d : Dev) (c : Nat) (m : Media) : (setMed d c m).per = d.per := rfl
@[simp] theorem setMed_res (d : Dev) (c : Nat) (m : Media) : (setMed d c m).res = d.res := rfl
@[simp] theorem setMed_cus (d : Dev) (c : Nat) (m : Media) : (setMed d c m).cus = d.cus := rfl
@[simp] theorem setMed_watch (d : Dev) (c : Nat) (m : Media) : (setMed d c m).watch = d.watch := rfl
@[simp] theorem setMed_repairs (d : Dev) (c : Nat) (m : Media) : (setMed d c m).repairs = d.repairs := rfl
@[simp] theorem setMed_tim (d : Dev) (c : Nat) (m : Media) : (setMed d c m).tim = d.tim := rfl
@[simp] theorem setMed_mode (d : Dev) (c : Nat) (m : Media) : (setMed d c m).mode = d.mode := rfl
@[simp] theorem setMed_cal (d : Dev) (c : Nat) (m : Media) : (setMed d c m).cal = d.cal := rfl
@[simp] theorem setMed_act (d : Dev) (c : Nat) (m : Media) : (setMed d c m).act = d.act := rfl
@[simp] theorem setMed_bulk (d : Dev) (c : Nat) (m : Media) : (setMed d c m).bulk = d.bulk := rfl
@[simp] theorem setMed_ldr (d : Dev) (c : Nat) (m : Media) : (setMed d c m).ldr = d.ldr := rfl
@[simp] theorem setMed_snap (d : Dev) (c : Nat) (m : Media) : (setMed d c m).snap = d.snap := rfl
@[simp] theorem setMed_ports (d : Dev) (c : Nat) (m : Media) : (setMed d c m).ports = d.ports := rfl
@[simp] theorem setMed_fab (d : Dev) (c : Nat) (m : Media) : (setMed d c m).fab = d.fab := rfl
@[simp] theorem setMed_pwr (d : Dev) (c : Nat) (m : Media) : (setMed d c m).pwr = d.pwr := rfl
@[simp] theorem setMed_sec (d : Dev) (c : Nat) (m : Media) : (setMed d c m).sec = d.sec := rfl
@[simp] theorem setMed_vlt (d : Dev) (c : Nat) (m : Media) : (setMed d c m).vlt = d.vlt := rfl
@[simp] theorem setMed_i3c (d : Dev) (c : Nat) (m : Media) : (setMed d c m).i3c = d.i3c := rfl
@[simp] theorem setMed_hbm (d : Dev) (c : Nat) (m : Media) : (setMed d c m).hbm = d.hbm := rfl
@[simp] theorem setMed_latent (d : Dev) (c : Nat) (m : Media) : (setMed d c m).latent = d.latent := rfl
@[simp] theorem setMed_latent0 (d : Dev) (c : Nat) (m : Media) : (setMed d c m).latent0 = d.latent0 := rfl

@[simp] theorem setAlc_now (d : Dev) (c : Nat) (a : Alcove) : (setAlc d c a).now = d.now := rfl
@[simp] theorem setAlc_free (d : Dev) (c : Nat) (a : Alcove) : (setAlc d c a).free = d.free := rfl
@[simp] theorem setAlc_out (d : Dev) (c : Nat) (a : Alcove) : (setAlc d c a).out = d.out := rfl
@[simp] theorem setAlc_regs (d : Dev) (c : Nat) (a : Alcove) : (setAlc d c a).regs = d.regs := rfl
@[simp] theorem setAlc_shadow (d : Dev) (c : Nat) (a : Alcove) : (setAlc d c a).shadow = d.shadow := rfl
@[simp] theorem setAlc_kept (d : Dev) (c : Nat) (a : Alcove) : (setAlc d c a).kept = d.kept := rfl
@[simp] theorem setAlc_latch (d : Dev) (c : Nat) (a : Alcove) : (setAlc d c a).latch = d.latch := rfl
@[simp] theorem setAlc_flt (d : Dev) (c : Nat) (a : Alcove) : (setAlc d c a).flt = d.flt := rfl
@[simp] theorem setAlc_log (d : Dev) (c : Nat) (a : Alcove) : (setAlc d c a).log = d.log := rfl
@[simp] theorem setAlc_tst (d : Dev) (c : Nat) (a : Alcove) : (setAlc d c a).tst = d.tst := rfl
@[simp] theorem setAlc_chm (d : Dev) (c : Nat) (a : Alcove) : (setAlc d c a).chm = d.chm := rfl
@[simp] theorem setAlc_conns (d : Dev) (c : Nat) (a : Alcove) : (setAlc d c a).conns = d.conns := rfl
@[simp] theorem setAlc_reqs (d : Dev) (c : Nat) (a : Alcove) : (setAlc d c a).reqs = d.reqs := rfl
@[simp] theorem setAlc_nextReq (d : Dev) (c : Nat) (a : Alcove) : (setAlc d c a).nextReq = d.nextReq := rfl
@[simp] theorem setAlc_nextArr (d : Dev) (c : Nat) (a : Alcove) : (setAlc d c a).nextArr = d.nextArr := rfl
@[simp] theorem setAlc_mem (d : Dev) (c : Nat) (a : Alcove) : (setAlc d c a).mem = d.mem := rfl
@[simp] theorem setAlc_poison (d : Dev) (c : Nat) (a : Alcove) : (setAlc d c a).poison = d.poison := rfl
@[simp] theorem setAlc_blanket (d : Dev) (c : Nat) (a : Alcove) : (setAlc d c a).blanket = d.blanket := rfl
@[simp] theorem setAlc_cured (d : Dev) (c : Nat) (a : Alcove) : (setAlc d c a).cured = d.cured := rfl
@[simp] theorem setAlc_per (d : Dev) (c : Nat) (a : Alcove) : (setAlc d c a).per = d.per := rfl
@[simp] theorem setAlc_res (d : Dev) (c : Nat) (a : Alcove) : (setAlc d c a).res = d.res := rfl
@[simp] theorem setAlc_cus (d : Dev) (c : Nat) (a : Alcove) : (setAlc d c a).cus = d.cus := rfl
@[simp] theorem setAlc_watch (d : Dev) (c : Nat) (a : Alcove) : (setAlc d c a).watch = d.watch := rfl
@[simp] theorem setAlc_repairs (d : Dev) (c : Nat) (a : Alcove) : (setAlc d c a).repairs = d.repairs := rfl
@[simp] theorem setAlc_tim (d : Dev) (c : Nat) (a : Alcove) : (setAlc d c a).tim = d.tim := rfl
@[simp] theorem setAlc_mode (d : Dev) (c : Nat) (a : Alcove) : (setAlc d c a).mode = d.mode := rfl
@[simp] theorem setAlc_cal (d : Dev) (c : Nat) (a : Alcove) : (setAlc d c a).cal = d.cal := rfl
@[simp] theorem setAlc_act (d : Dev) (c : Nat) (a : Alcove) : (setAlc d c a).act = d.act := rfl
@[simp] theorem setAlc_bulk (d : Dev) (c : Nat) (a : Alcove) : (setAlc d c a).bulk = d.bulk := rfl
@[simp] theorem setAlc_ldr (d : Dev) (c : Nat) (a : Alcove) : (setAlc d c a).ldr = d.ldr := rfl
@[simp] theorem setAlc_snap (d : Dev) (c : Nat) (a : Alcove) : (setAlc d c a).snap = d.snap := rfl
@[simp] theorem setAlc_ports (d : Dev) (c : Nat) (a : Alcove) : (setAlc d c a).ports = d.ports := rfl
@[simp] theorem setAlc_fab (d : Dev) (c : Nat) (a : Alcove) : (setAlc d c a).fab = d.fab := rfl
@[simp] theorem setAlc_pwr (d : Dev) (c : Nat) (a : Alcove) : (setAlc d c a).pwr = d.pwr := rfl
@[simp] theorem setAlc_sec (d : Dev) (c : Nat) (a : Alcove) : (setAlc d c a).sec = d.sec := rfl
@[simp] theorem setAlc_vlt (d : Dev) (c : Nat) (a : Alcove) : (setAlc d c a).vlt = d.vlt := rfl
@[simp] theorem setAlc_i3c (d : Dev) (c : Nat) (a : Alcove) : (setAlc d c a).i3c = d.i3c := rfl
@[simp] theorem setAlc_hbm (d : Dev) (c : Nat) (a : Alcove) : (setAlc d c a).hbm = d.hbm := rfl
@[simp] theorem setAlc_med (d : Dev) (c : Nat) (a : Alcove) : (setAlc d c a).med = d.med := rfl
@[simp] theorem setAlc_latent (d : Dev) (c : Nat) (a : Alcove) : (setAlc d c a).latent = d.latent := rfl
@[simp] theorem setAlc_latent0 (d : Dev) (c : Nat) (a : Alcove) : (setAlc d c a).latent0 = d.latent0 := rfl

@[simp] theorem setEng_now (d : Dev) (c : Nat) (e : Engines) : (setEng d c e).now = d.now := rfl
@[simp] theorem setEng_free (d : Dev) (c : Nat) (e : Engines) : (setEng d c e).free = d.free := rfl
@[simp] theorem setEng_out (d : Dev) (c : Nat) (e : Engines) : (setEng d c e).out = d.out := rfl
@[simp] theorem setEng_regs (d : Dev) (c : Nat) (e : Engines) : (setEng d c e).regs = d.regs := rfl
@[simp] theorem setEng_shadow (d : Dev) (c : Nat) (e : Engines) : (setEng d c e).shadow = d.shadow := rfl
@[simp] theorem setEng_kept (d : Dev) (c : Nat) (e : Engines) : (setEng d c e).kept = d.kept := rfl
@[simp] theorem setEng_latch (d : Dev) (c : Nat) (e : Engines) : (setEng d c e).latch = d.latch := rfl
@[simp] theorem setEng_flt (d : Dev) (c : Nat) (e : Engines) : (setEng d c e).flt = d.flt := rfl
@[simp] theorem setEng_log (d : Dev) (c : Nat) (e : Engines) : (setEng d c e).log = d.log := rfl
@[simp] theorem setEng_tst (d : Dev) (c : Nat) (e : Engines) : (setEng d c e).tst = d.tst := rfl
@[simp] theorem setEng_chm (d : Dev) (c : Nat) (e : Engines) : (setEng d c e).chm = d.chm := rfl
@[simp] theorem setEng_conns (d : Dev) (c : Nat) (e : Engines) : (setEng d c e).conns = d.conns := rfl
@[simp] theorem setEng_reqs (d : Dev) (c : Nat) (e : Engines) : (setEng d c e).reqs = d.reqs := rfl
@[simp] theorem setEng_nextReq (d : Dev) (c : Nat) (e : Engines) : (setEng d c e).nextReq = d.nextReq := rfl
@[simp] theorem setEng_nextArr (d : Dev) (c : Nat) (e : Engines) : (setEng d c e).nextArr = d.nextArr := rfl
@[simp] theorem setEng_mem (d : Dev) (c : Nat) (e : Engines) : (setEng d c e).mem = d.mem := rfl
@[simp] theorem setEng_poison (d : Dev) (c : Nat) (e : Engines) : (setEng d c e).poison = d.poison := rfl
@[simp] theorem setEng_blanket (d : Dev) (c : Nat) (e : Engines) : (setEng d c e).blanket = d.blanket := rfl
@[simp] theorem setEng_cured (d : Dev) (c : Nat) (e : Engines) : (setEng d c e).cured = d.cured := rfl
@[simp] theorem setEng_tier (d : Dev) (c : Nat) (e : Engines) : (setEng d c e).tier = d.tier := rfl
@[simp] theorem setEng_per (d : Dev) (c : Nat) (e : Engines) : (setEng d c e).per = d.per := rfl
@[simp] theorem setEng_cus (d : Dev) (c : Nat) (e : Engines) : (setEng d c e).cus = d.cus := rfl
@[simp] theorem setEng_watch (d : Dev) (c : Nat) (e : Engines) : (setEng d c e).watch = d.watch := rfl
@[simp] theorem setEng_repairs (d : Dev) (c : Nat) (e : Engines) : (setEng d c e).repairs = d.repairs := rfl
@[simp] theorem setEng_tim (d : Dev) (c : Nat) (e : Engines) : (setEng d c e).tim = d.tim := rfl
@[simp] theorem setEng_mode (d : Dev) (c : Nat) (e : Engines) : (setEng d c e).mode = d.mode := rfl
@[simp] theorem setEng_cal (d : Dev) (c : Nat) (e : Engines) : (setEng d c e).cal = d.cal := rfl
@[simp] theorem setEng_act (d : Dev) (c : Nat) (e : Engines) : (setEng d c e).act = d.act := rfl
@[simp] theorem setEng_bulk (d : Dev) (c : Nat) (e : Engines) : (setEng d c e).bulk = d.bulk := rfl
@[simp] theorem setEng_ldr (d : Dev) (c : Nat) (e : Engines) : (setEng d c e).ldr = d.ldr := rfl
@[simp] theorem setEng_snap (d : Dev) (c : Nat) (e : Engines) : (setEng d c e).snap = d.snap := rfl
@[simp] theorem setEng_ports (d : Dev) (c : Nat) (e : Engines) : (setEng d c e).ports = d.ports := rfl
@[simp] theorem setEng_fab (d : Dev) (c : Nat) (e : Engines) : (setEng d c e).fab = d.fab := rfl
@[simp] theorem setEng_pwr (d : Dev) (c : Nat) (e : Engines) : (setEng d c e).pwr = d.pwr := rfl
@[simp] theorem setEng_sec (d : Dev) (c : Nat) (e : Engines) : (setEng d c e).sec = d.sec := rfl
@[simp] theorem setEng_vlt (d : Dev) (c : Nat) (e : Engines) : (setEng d c e).vlt = d.vlt := rfl
@[simp] theorem setEng_i3c (d : Dev) (c : Nat) (e : Engines) : (setEng d c e).i3c = d.i3c := rfl
@[simp] theorem setEng_hbm (d : Dev) (c : Nat) (e : Engines) : (setEng d c e).hbm = d.hbm := rfl
@[simp] theorem setEng_med (d : Dev) (c : Nat) (e : Engines) : (setEng d c e).med = d.med := rfl
@[simp] theorem setEng_latent (d : Dev) (c : Nat) (e : Engines) : (setEng d c e).latent = d.latent := rfl
@[simp] theorem setEng_latent0 (d : Dev) (c : Nat) (e : Engines) : (setEng d c e).latent0 = d.latent0 := rfl

@[simp] theorem setSump_now (d : Dev) (c : Nat) (v : SumpSet × SumpSet) : (setSump d c v).now = d.now := rfl
@[simp] theorem setSump_free (d : Dev) (c : Nat) (v : SumpSet × SumpSet) : (setSump d c v).free = d.free := rfl
@[simp] theorem setSump_out (d : Dev) (c : Nat) (v : SumpSet × SumpSet) : (setSump d c v).out = d.out := rfl
@[simp] theorem setSump_regs (d : Dev) (c : Nat) (v : SumpSet × SumpSet) : (setSump d c v).regs = d.regs := rfl
@[simp] theorem setSump_shadow (d : Dev) (c : Nat) (v : SumpSet × SumpSet) : (setSump d c v).shadow = d.shadow := rfl
@[simp] theorem setSump_kept (d : Dev) (c : Nat) (v : SumpSet × SumpSet) : (setSump d c v).kept = d.kept := rfl
@[simp] theorem setSump_latch (d : Dev) (c : Nat) (v : SumpSet × SumpSet) : (setSump d c v).latch = d.latch := rfl
@[simp] theorem setSump_flt (d : Dev) (c : Nat) (v : SumpSet × SumpSet) : (setSump d c v).flt = d.flt := rfl
@[simp] theorem setSump_log (d : Dev) (c : Nat) (v : SumpSet × SumpSet) : (setSump d c v).log = d.log := rfl
@[simp] theorem setSump_tst (d : Dev) (c : Nat) (v : SumpSet × SumpSet) : (setSump d c v).tst = d.tst := rfl
@[simp] theorem setSump_chm (d : Dev) (c : Nat) (v : SumpSet × SumpSet) : (setSump d c v).chm = d.chm := rfl
@[simp] theorem setSump_conns (d : Dev) (c : Nat) (v : SumpSet × SumpSet) : (setSump d c v).conns = d.conns := rfl
@[simp] theorem setSump_reqs (d : Dev) (c : Nat) (v : SumpSet × SumpSet) : (setSump d c v).reqs = d.reqs := rfl
@[simp] theorem setSump_nextReq (d : Dev) (c : Nat) (v : SumpSet × SumpSet) : (setSump d c v).nextReq = d.nextReq := rfl
@[simp] theorem setSump_nextArr (d : Dev) (c : Nat) (v : SumpSet × SumpSet) : (setSump d c v).nextArr = d.nextArr := rfl
@[simp] theorem setSump_mem (d : Dev) (c : Nat) (v : SumpSet × SumpSet) : (setSump d c v).mem = d.mem := rfl
@[simp] theorem setSump_poison (d : Dev) (c : Nat) (v : SumpSet × SumpSet) : (setSump d c v).poison = d.poison := rfl
@[simp] theorem setSump_blanket (d : Dev) (c : Nat) (v : SumpSet × SumpSet) : (setSump d c v).blanket = d.blanket := rfl
@[simp] theorem setSump_cured (d : Dev) (c : Nat) (v : SumpSet × SumpSet) : (setSump d c v).cured = d.cured := rfl
@[simp] theorem setSump_tier (d : Dev) (c : Nat) (v : SumpSet × SumpSet) : (setSump d c v).tier = d.tier := rfl
@[simp] theorem setSump_res (d : Dev) (c : Nat) (v : SumpSet × SumpSet) : (setSump d c v).res = d.res := rfl
@[simp] theorem setSump_cus (d : Dev) (c : Nat) (v : SumpSet × SumpSet) : (setSump d c v).cus = d.cus := rfl
@[simp] theorem setSump_watch (d : Dev) (c : Nat) (v : SumpSet × SumpSet) : (setSump d c v).watch = d.watch := rfl
@[simp] theorem setSump_repairs (d : Dev) (c : Nat) (v : SumpSet × SumpSet) : (setSump d c v).repairs = d.repairs := rfl
@[simp] theorem setSump_tim (d : Dev) (c : Nat) (v : SumpSet × SumpSet) : (setSump d c v).tim = d.tim := rfl
@[simp] theorem setSump_mode (d : Dev) (c : Nat) (v : SumpSet × SumpSet) : (setSump d c v).mode = d.mode := rfl
@[simp] theorem setSump_cal (d : Dev) (c : Nat) (v : SumpSet × SumpSet) : (setSump d c v).cal = d.cal := rfl
@[simp] theorem setSump_act (d : Dev) (c : Nat) (v : SumpSet × SumpSet) : (setSump d c v).act = d.act := rfl
@[simp] theorem setSump_bulk (d : Dev) (c : Nat) (v : SumpSet × SumpSet) : (setSump d c v).bulk = d.bulk := rfl
@[simp] theorem setSump_ldr (d : Dev) (c : Nat) (v : SumpSet × SumpSet) : (setSump d c v).ldr = d.ldr := rfl
@[simp] theorem setSump_snap (d : Dev) (c : Nat) (v : SumpSet × SumpSet) : (setSump d c v).snap = d.snap := rfl
@[simp] theorem setSump_ports (d : Dev) (c : Nat) (v : SumpSet × SumpSet) : (setSump d c v).ports = d.ports := rfl
@[simp] theorem setSump_fab (d : Dev) (c : Nat) (v : SumpSet × SumpSet) : (setSump d c v).fab = d.fab := rfl
@[simp] theorem setSump_pwr (d : Dev) (c : Nat) (v : SumpSet × SumpSet) : (setSump d c v).pwr = d.pwr := rfl
@[simp] theorem setSump_sec (d : Dev) (c : Nat) (v : SumpSet × SumpSet) : (setSump d c v).sec = d.sec := rfl
@[simp] theorem setSump_vlt (d : Dev) (c : Nat) (v : SumpSet × SumpSet) : (setSump d c v).vlt = d.vlt := rfl
@[simp] theorem setSump_i3c (d : Dev) (c : Nat) (v : SumpSet × SumpSet) : (setSump d c v).i3c = d.i3c := rfl
@[simp] theorem setSump_hbm (d : Dev) (c : Nat) (v : SumpSet × SumpSet) : (setSump d c v).hbm = d.hbm := rfl
@[simp] theorem setSump_med (d : Dev) (c : Nat) (v : SumpSet × SumpSet) : (setSump d c v).med = d.med := rfl
@[simp] theorem setSump_latent (d : Dev) (c : Nat) (v : SumpSet × SumpSet) : (setSump d c v).latent = d.latent := rfl
@[simp] theorem setSump_latent0 (d : Dev) (c : Nat) (v : SumpSet × SumpSet) : (setSump d c v).latent0 = d.latent0 := rfl

@[simp] theorem setRail_now (d : Dev) (n : Nat) (r : Rail) : (setRail d n r).now = d.now := rfl
@[simp] theorem setRail_free (d : Dev) (n : Nat) (r : Rail) : (setRail d n r).free = d.free := rfl
@[simp] theorem setRail_out (d : Dev) (n : Nat) (r : Rail) : (setRail d n r).out = d.out := rfl
@[simp] theorem setRail_regs (d : Dev) (n : Nat) (r : Rail) : (setRail d n r).regs = d.regs := rfl
@[simp] theorem setRail_shadow (d : Dev) (n : Nat) (r : Rail) : (setRail d n r).shadow = d.shadow := rfl
@[simp] theorem setRail_kept (d : Dev) (n : Nat) (r : Rail) : (setRail d n r).kept = d.kept := rfl
@[simp] theorem setRail_latch (d : Dev) (n : Nat) (r : Rail) : (setRail d n r).latch = d.latch := rfl
@[simp] theorem setRail_flt (d : Dev) (n : Nat) (r : Rail) : (setRail d n r).flt = d.flt := rfl
@[simp] theorem setRail_log (d : Dev) (n : Nat) (r : Rail) : (setRail d n r).log = d.log := rfl
@[simp] theorem setRail_tst (d : Dev) (n : Nat) (r : Rail) : (setRail d n r).tst = d.tst := rfl
@[simp] theorem setRail_chm (d : Dev) (n : Nat) (r : Rail) : (setRail d n r).chm = d.chm := rfl
@[simp] theorem setRail_conns (d : Dev) (n : Nat) (r : Rail) : (setRail d n r).conns = d.conns := rfl
@[simp] theorem setRail_reqs (d : Dev) (n : Nat) (r : Rail) : (setRail d n r).reqs = d.reqs := rfl
@[simp] theorem setRail_nextReq (d : Dev) (n : Nat) (r : Rail) : (setRail d n r).nextReq = d.nextReq := rfl
@[simp] theorem setRail_nextArr (d : Dev) (n : Nat) (r : Rail) : (setRail d n r).nextArr = d.nextArr := rfl
@[simp] theorem setRail_mem (d : Dev) (n : Nat) (r : Rail) : (setRail d n r).mem = d.mem := rfl
@[simp] theorem setRail_poison (d : Dev) (n : Nat) (r : Rail) : (setRail d n r).poison = d.poison := rfl
@[simp] theorem setRail_blanket (d : Dev) (n : Nat) (r : Rail) : (setRail d n r).blanket = d.blanket := rfl
@[simp] theorem setRail_cured (d : Dev) (n : Nat) (r : Rail) : (setRail d n r).cured = d.cured := rfl
@[simp] theorem setRail_tier (d : Dev) (n : Nat) (r : Rail) : (setRail d n r).tier = d.tier := rfl
@[simp] theorem setRail_per (d : Dev) (n : Nat) (r : Rail) : (setRail d n r).per = d.per := rfl
@[simp] theorem setRail_res (d : Dev) (n : Nat) (r : Rail) : (setRail d n r).res = d.res := rfl
@[simp] theorem setRail_cus (d : Dev) (n : Nat) (r : Rail) : (setRail d n r).cus = d.cus := rfl
@[simp] theorem setRail_watch (d : Dev) (n : Nat) (r : Rail) : (setRail d n r).watch = d.watch := rfl
@[simp] theorem setRail_repairs (d : Dev) (n : Nat) (r : Rail) : (setRail d n r).repairs = d.repairs := rfl
@[simp] theorem setRail_tim (d : Dev) (n : Nat) (r : Rail) : (setRail d n r).tim = d.tim := rfl
@[simp] theorem setRail_mode (d : Dev) (n : Nat) (r : Rail) : (setRail d n r).mode = d.mode := rfl
@[simp] theorem setRail_cal (d : Dev) (n : Nat) (r : Rail) : (setRail d n r).cal = d.cal := rfl
@[simp] theorem setRail_act (d : Dev) (n : Nat) (r : Rail) : (setRail d n r).act = d.act := rfl
@[simp] theorem setRail_bulk (d : Dev) (n : Nat) (r : Rail) : (setRail d n r).bulk = d.bulk := rfl
@[simp] theorem setRail_ldr (d : Dev) (n : Nat) (r : Rail) : (setRail d n r).ldr = d.ldr := rfl
@[simp] theorem setRail_snap (d : Dev) (n : Nat) (r : Rail) : (setRail d n r).snap = d.snap := rfl
@[simp] theorem setRail_ports (d : Dev) (n : Nat) (r : Rail) : (setRail d n r).ports = d.ports := rfl
@[simp] theorem setRail_fab (d : Dev) (n : Nat) (r : Rail) : (setRail d n r).fab = d.fab := rfl
@[simp] theorem setRail_sec (d : Dev) (n : Nat) (r : Rail) : (setRail d n r).sec = d.sec := rfl
@[simp] theorem setRail_vlt (d : Dev) (n : Nat) (r : Rail) : (setRail d n r).vlt = d.vlt := rfl
@[simp] theorem setRail_i3c (d : Dev) (n : Nat) (r : Rail) : (setRail d n r).i3c = d.i3c := rfl
@[simp] theorem setRail_hbm (d : Dev) (n : Nat) (r : Rail) : (setRail d n r).hbm = d.hbm := rfl
@[simp] theorem setRail_med (d : Dev) (n : Nat) (r : Rail) : (setRail d n r).med = d.med := rfl
@[simp] theorem setRail_latent (d : Dev) (n : Nat) (r : Rail) : (setRail d n r).latent = d.latent := rfl
@[simp] theorem setRail_latent0 (d : Dev) (n : Nat) (r : Rail) : (setRail d n r).latent0 = d.latent0 := rfl

@[simp] theorem setPort_now (d : Dev) (p : Nat) (v : Port) : (setPort d p v).now = d.now := rfl
@[simp] theorem setPort_free (d : Dev) (p : Nat) (v : Port) : (setPort d p v).free = d.free := rfl
@[simp] theorem setPort_out (d : Dev) (p : Nat) (v : Port) : (setPort d p v).out = d.out := rfl
@[simp] theorem setPort_regs (d : Dev) (p : Nat) (v : Port) : (setPort d p v).regs = d.regs := rfl
@[simp] theorem setPort_shadow (d : Dev) (p : Nat) (v : Port) : (setPort d p v).shadow = d.shadow := rfl
@[simp] theorem setPort_kept (d : Dev) (p : Nat) (v : Port) : (setPort d p v).kept = d.kept := rfl
@[simp] theorem setPort_latch (d : Dev) (p : Nat) (v : Port) : (setPort d p v).latch = d.latch := rfl
@[simp] theorem setPort_flt (d : Dev) (p : Nat) (v : Port) : (setPort d p v).flt = d.flt := rfl
@[simp] theorem setPort_log (d : Dev) (p : Nat) (v : Port) : (setPort d p v).log = d.log := rfl
@[simp] theorem setPort_tst (d : Dev) (p : Nat) (v : Port) : (setPort d p v).tst = d.tst := rfl
@[simp] theorem setPort_chm (d : Dev) (p : Nat) (v : Port) : (setPort d p v).chm = d.chm := rfl
@[simp] theorem setPort_conns (d : Dev) (p : Nat) (v : Port) : (setPort d p v).conns = d.conns := rfl
@[simp] theorem setPort_reqs (d : Dev) (p : Nat) (v : Port) : (setPort d p v).reqs = d.reqs := rfl
@[simp] theorem setPort_nextReq (d : Dev) (p : Nat) (v : Port) : (setPort d p v).nextReq = d.nextReq := rfl
@[simp] theorem setPort_nextArr (d : Dev) (p : Nat) (v : Port) : (setPort d p v).nextArr = d.nextArr := rfl
@[simp] theorem setPort_mem (d : Dev) (p : Nat) (v : Port) : (setPort d p v).mem = d.mem := rfl
@[simp] theorem setPort_poison (d : Dev) (p : Nat) (v : Port) : (setPort d p v).poison = d.poison := rfl
@[simp] theorem setPort_blanket (d : Dev) (p : Nat) (v : Port) : (setPort d p v).blanket = d.blanket := rfl
@[simp] theorem setPort_cured (d : Dev) (p : Nat) (v : Port) : (setPort d p v).cured = d.cured := rfl
@[simp] theorem setPort_tier (d : Dev) (p : Nat) (v : Port) : (setPort d p v).tier = d.tier := rfl
@[simp] theorem setPort_per (d : Dev) (p : Nat) (v : Port) : (setPort d p v).per = d.per := rfl
@[simp] theorem setPort_res (d : Dev) (p : Nat) (v : Port) : (setPort d p v).res = d.res := rfl
@[simp] theorem setPort_cus (d : Dev) (p : Nat) (v : Port) : (setPort d p v).cus = d.cus := rfl
@[simp] theorem setPort_watch (d : Dev) (p : Nat) (v : Port) : (setPort d p v).watch = d.watch := rfl
@[simp] theorem setPort_repairs (d : Dev) (p : Nat) (v : Port) : (setPort d p v).repairs = d.repairs := rfl
@[simp] theorem setPort_tim (d : Dev) (p : Nat) (v : Port) : (setPort d p v).tim = d.tim := rfl
@[simp] theorem setPort_mode (d : Dev) (p : Nat) (v : Port) : (setPort d p v).mode = d.mode := rfl
@[simp] theorem setPort_cal (d : Dev) (p : Nat) (v : Port) : (setPort d p v).cal = d.cal := rfl
@[simp] theorem setPort_act (d : Dev) (p : Nat) (v : Port) : (setPort d p v).act = d.act := rfl
@[simp] theorem setPort_bulk (d : Dev) (p : Nat) (v : Port) : (setPort d p v).bulk = d.bulk := rfl
@[simp] theorem setPort_ldr (d : Dev) (p : Nat) (v : Port) : (setPort d p v).ldr = d.ldr := rfl
@[simp] theorem setPort_snap (d : Dev) (p : Nat) (v : Port) : (setPort d p v).snap = d.snap := rfl
@[simp] theorem setPort_fab (d : Dev) (p : Nat) (v : Port) : (setPort d p v).fab = d.fab := rfl
@[simp] theorem setPort_pwr (d : Dev) (p : Nat) (v : Port) : (setPort d p v).pwr = d.pwr := rfl
@[simp] theorem setPort_sec (d : Dev) (p : Nat) (v : Port) : (setPort d p v).sec = d.sec := rfl
@[simp] theorem setPort_vlt (d : Dev) (p : Nat) (v : Port) : (setPort d p v).vlt = d.vlt := rfl
@[simp] theorem setPort_i3c (d : Dev) (p : Nat) (v : Port) : (setPort d p v).i3c = d.i3c := rfl
@[simp] theorem setPort_hbm (d : Dev) (p : Nat) (v : Port) : (setPort d p v).hbm = d.hbm := rfl
@[simp] theorem setPort_med (d : Dev) (p : Nat) (v : Port) : (setPort d p v).med = d.med := rfl
@[simp] theorem setPort_latent (d : Dev) (p : Nat) (v : Port) : (setPort d p v).latent = d.latent := rfl
@[simp] theorem setPort_latent0 (d : Dev) (p : Nat) (v : Port) : (setPort d p v).latent0 = d.latent0 := rfl

@[simp] theorem modPort_now (d : Dev) (p : Nat) (f : Port → Port) : (modPort d p f).now = d.now := rfl
@[simp] theorem modPort_free (d : Dev) (p : Nat) (f : Port → Port) : (modPort d p f).free = d.free := rfl
@[simp] theorem modPort_out (d : Dev) (p : Nat) (f : Port → Port) : (modPort d p f).out = d.out := rfl
@[simp] theorem modPort_regs (d : Dev) (p : Nat) (f : Port → Port) : (modPort d p f).regs = d.regs := rfl
@[simp] theorem modPort_shadow (d : Dev) (p : Nat) (f : Port → Port) : (modPort d p f).shadow = d.shadow := rfl
@[simp] theorem modPort_kept (d : Dev) (p : Nat) (f : Port → Port) : (modPort d p f).kept = d.kept := rfl
@[simp] theorem modPort_latch (d : Dev) (p : Nat) (f : Port → Port) : (modPort d p f).latch = d.latch := rfl
@[simp] theorem modPort_flt (d : Dev) (p : Nat) (f : Port → Port) : (modPort d p f).flt = d.flt := rfl
@[simp] theorem modPort_log (d : Dev) (p : Nat) (f : Port → Port) : (modPort d p f).log = d.log := rfl
@[simp] theorem modPort_tst (d : Dev) (p : Nat) (f : Port → Port) : (modPort d p f).tst = d.tst := rfl
@[simp] theorem modPort_chm (d : Dev) (p : Nat) (f : Port → Port) : (modPort d p f).chm = d.chm := rfl
@[simp] theorem modPort_conns (d : Dev) (p : Nat) (f : Port → Port) : (modPort d p f).conns = d.conns := rfl
@[simp] theorem modPort_reqs (d : Dev) (p : Nat) (f : Port → Port) : (modPort d p f).reqs = d.reqs := rfl
@[simp] theorem modPort_nextReq (d : Dev) (p : Nat) (f : Port → Port) : (modPort d p f).nextReq = d.nextReq := rfl
@[simp] theorem modPort_nextArr (d : Dev) (p : Nat) (f : Port → Port) : (modPort d p f).nextArr = d.nextArr := rfl
@[simp] theorem modPort_mem (d : Dev) (p : Nat) (f : Port → Port) : (modPort d p f).mem = d.mem := rfl
@[simp] theorem modPort_poison (d : Dev) (p : Nat) (f : Port → Port) : (modPort d p f).poison = d.poison := rfl
@[simp] theorem modPort_blanket (d : Dev) (p : Nat) (f : Port → Port) : (modPort d p f).blanket = d.blanket := rfl
@[simp] theorem modPort_cured (d : Dev) (p : Nat) (f : Port → Port) : (modPort d p f).cured = d.cured := rfl
@[simp] theorem modPort_tier (d : Dev) (p : Nat) (f : Port → Port) : (modPort d p f).tier = d.tier := rfl
@[simp] theorem modPort_per (d : Dev) (p : Nat) (f : Port → Port) : (modPort d p f).per = d.per := rfl
@[simp] theorem modPort_res (d : Dev) (p : Nat) (f : Port → Port) : (modPort d p f).res = d.res := rfl
@[simp] theorem modPort_cus (d : Dev) (p : Nat) (f : Port → Port) : (modPort d p f).cus = d.cus := rfl
@[simp] theorem modPort_watch (d : Dev) (p : Nat) (f : Port → Port) : (modPort d p f).watch = d.watch := rfl
@[simp] theorem modPort_repairs (d : Dev) (p : Nat) (f : Port → Port) : (modPort d p f).repairs = d.repairs := rfl
@[simp] theorem modPort_tim (d : Dev) (p : Nat) (f : Port → Port) : (modPort d p f).tim = d.tim := rfl
@[simp] theorem modPort_mode (d : Dev) (p : Nat) (f : Port → Port) : (modPort d p f).mode = d.mode := rfl
@[simp] theorem modPort_cal (d : Dev) (p : Nat) (f : Port → Port) : (modPort d p f).cal = d.cal := rfl
@[simp] theorem modPort_act (d : Dev) (p : Nat) (f : Port → Port) : (modPort d p f).act = d.act := rfl
@[simp] theorem modPort_bulk (d : Dev) (p : Nat) (f : Port → Port) : (modPort d p f).bulk = d.bulk := rfl
@[simp] theorem modPort_ldr (d : Dev) (p : Nat) (f : Port → Port) : (modPort d p f).ldr = d.ldr := rfl
@[simp] theorem modPort_snap (d : Dev) (p : Nat) (f : Port → Port) : (modPort d p f).snap = d.snap := rfl
@[simp] theorem modPort_fab (d : Dev) (p : Nat) (f : Port → Port) : (modPort d p f).fab = d.fab := rfl
@[simp] theorem modPort_pwr (d : Dev) (p : Nat) (f : Port → Port) : (modPort d p f).pwr = d.pwr := rfl
@[simp] theorem modPort_sec (d : Dev) (p : Nat) (f : Port → Port) : (modPort d p f).sec = d.sec := rfl
@[simp] theorem modPort_vlt (d : Dev) (p : Nat) (f : Port → Port) : (modPort d p f).vlt = d.vlt := rfl
@[simp] theorem modPort_i3c (d : Dev) (p : Nat) (f : Port → Port) : (modPort d p f).i3c = d.i3c := rfl
@[simp] theorem modPort_hbm (d : Dev) (p : Nat) (f : Port → Port) : (modPort d p f).hbm = d.hbm := rfl
@[simp] theorem modPort_med (d : Dev) (p : Nat) (f : Port → Port) : (modPort d p f).med = d.med := rfl
@[simp] theorem modPort_latent (d : Dev) (p : Nat) (f : Port → Port) : (modPort d p f).latent = d.latent := rfl
@[simp] theorem modPort_latent0 (d : Dev) (p : Nat) (f : Port → Port) : (modPort d p f).latent0 = d.latent0 := rfl

@[simp] theorem setFrame_now (d : Dev) (k : Nat) (f : Frame) : (setFrame d k f).now = d.now := rfl
@[simp] theorem setFrame_free (d : Dev) (k : Nat) (f : Frame) : (setFrame d k f).free = d.free := rfl
@[simp] theorem setFrame_out (d : Dev) (k : Nat) (f : Frame) : (setFrame d k f).out = d.out := rfl
@[simp] theorem setFrame_regs (d : Dev) (k : Nat) (f : Frame) : (setFrame d k f).regs = d.regs := rfl
@[simp] theorem setFrame_shadow (d : Dev) (k : Nat) (f : Frame) : (setFrame d k f).shadow = d.shadow := rfl
@[simp] theorem setFrame_kept (d : Dev) (k : Nat) (f : Frame) : (setFrame d k f).kept = d.kept := rfl
@[simp] theorem setFrame_latch (d : Dev) (k : Nat) (f : Frame) : (setFrame d k f).latch = d.latch := rfl
@[simp] theorem setFrame_flt (d : Dev) (k : Nat) (f : Frame) : (setFrame d k f).flt = d.flt := rfl
@[simp] theorem setFrame_log (d : Dev) (k : Nat) (f : Frame) : (setFrame d k f).log = d.log := rfl
@[simp] theorem setFrame_tst (d : Dev) (k : Nat) (f : Frame) : (setFrame d k f).tst = d.tst := rfl
@[simp] theorem setFrame_chm (d : Dev) (k : Nat) (f : Frame) : (setFrame d k f).chm = d.chm := rfl
@[simp] theorem setFrame_conns (d : Dev) (k : Nat) (f : Frame) : (setFrame d k f).conns = d.conns := rfl
@[simp] theorem setFrame_reqs (d : Dev) (k : Nat) (f : Frame) : (setFrame d k f).reqs = d.reqs := rfl
@[simp] theorem setFrame_nextReq (d : Dev) (k : Nat) (f : Frame) : (setFrame d k f).nextReq = d.nextReq := rfl
@[simp] theorem setFrame_nextArr (d : Dev) (k : Nat) (f : Frame) : (setFrame d k f).nextArr = d.nextArr := rfl
@[simp] theorem setFrame_mem (d : Dev) (k : Nat) (f : Frame) : (setFrame d k f).mem = d.mem := rfl
@[simp] theorem setFrame_poison (d : Dev) (k : Nat) (f : Frame) : (setFrame d k f).poison = d.poison := rfl
@[simp] theorem setFrame_blanket (d : Dev) (k : Nat) (f : Frame) : (setFrame d k f).blanket = d.blanket := rfl
@[simp] theorem setFrame_cured (d : Dev) (k : Nat) (f : Frame) : (setFrame d k f).cured = d.cured := rfl
@[simp] theorem setFrame_per (d : Dev) (k : Nat) (f : Frame) : (setFrame d k f).per = d.per := rfl
@[simp] theorem setFrame_res (d : Dev) (k : Nat) (f : Frame) : (setFrame d k f).res = d.res := rfl
@[simp] theorem setFrame_cus (d : Dev) (k : Nat) (f : Frame) : (setFrame d k f).cus = d.cus := rfl
@[simp] theorem setFrame_watch (d : Dev) (k : Nat) (f : Frame) : (setFrame d k f).watch = d.watch := rfl
@[simp] theorem setFrame_repairs (d : Dev) (k : Nat) (f : Frame) : (setFrame d k f).repairs = d.repairs := rfl
@[simp] theorem setFrame_tim (d : Dev) (k : Nat) (f : Frame) : (setFrame d k f).tim = d.tim := rfl
@[simp] theorem setFrame_mode (d : Dev) (k : Nat) (f : Frame) : (setFrame d k f).mode = d.mode := rfl
@[simp] theorem setFrame_cal (d : Dev) (k : Nat) (f : Frame) : (setFrame d k f).cal = d.cal := rfl
@[simp] theorem setFrame_act (d : Dev) (k : Nat) (f : Frame) : (setFrame d k f).act = d.act := rfl
@[simp] theorem setFrame_bulk (d : Dev) (k : Nat) (f : Frame) : (setFrame d k f).bulk = d.bulk := rfl
@[simp] theorem setFrame_ldr (d : Dev) (k : Nat) (f : Frame) : (setFrame d k f).ldr = d.ldr := rfl
@[simp] theorem setFrame_snap (d : Dev) (k : Nat) (f : Frame) : (setFrame d k f).snap = d.snap := rfl
@[simp] theorem setFrame_ports (d : Dev) (k : Nat) (f : Frame) : (setFrame d k f).ports = d.ports := rfl
@[simp] theorem setFrame_fab (d : Dev) (k : Nat) (f : Frame) : (setFrame d k f).fab = d.fab := rfl
@[simp] theorem setFrame_pwr (d : Dev) (k : Nat) (f : Frame) : (setFrame d k f).pwr = d.pwr := rfl
@[simp] theorem setFrame_sec (d : Dev) (k : Nat) (f : Frame) : (setFrame d k f).sec = d.sec := rfl
@[simp] theorem setFrame_vlt (d : Dev) (k : Nat) (f : Frame) : (setFrame d k f).vlt = d.vlt := rfl
@[simp] theorem setFrame_i3c (d : Dev) (k : Nat) (f : Frame) : (setFrame d k f).i3c = d.i3c := rfl
@[simp] theorem setFrame_hbm (d : Dev) (k : Nat) (f : Frame) : (setFrame d k f).hbm = d.hbm := rfl
@[simp] theorem setFrame_med (d : Dev) (k : Nat) (f : Frame) : (setFrame d k f).med = d.med := rfl
@[simp] theorem setFrame_latent (d : Dev) (k : Nat) (f : Frame) : (setFrame d k f).latent = d.latent := rfl
@[simp] theorem setFrame_latent0 (d : Dev) (k : Nat) (f : Frame) : (setFrame d k f).latent0 = d.latent0 := rfl

@[simp] theorem setReq_now (d : Dev) (r : Req) : (setReq d r).now = d.now := rfl
@[simp] theorem setReq_free (d : Dev) (r : Req) : (setReq d r).free = d.free := rfl
@[simp] theorem setReq_out (d : Dev) (r : Req) : (setReq d r).out = d.out := rfl
@[simp] theorem setReq_regs (d : Dev) (r : Req) : (setReq d r).regs = d.regs := rfl
@[simp] theorem setReq_shadow (d : Dev) (r : Req) : (setReq d r).shadow = d.shadow := rfl
@[simp] theorem setReq_kept (d : Dev) (r : Req) : (setReq d r).kept = d.kept := rfl
@[simp] theorem setReq_latch (d : Dev) (r : Req) : (setReq d r).latch = d.latch := rfl
@[simp] theorem setReq_flt (d : Dev) (r : Req) : (setReq d r).flt = d.flt := rfl
@[simp] theorem setReq_log (d : Dev) (r : Req) : (setReq d r).log = d.log := rfl
@[simp] theorem setReq_tst (d : Dev) (r : Req) : (setReq d r).tst = d.tst := rfl
@[simp] theorem setReq_chm (d : Dev) (r : Req) : (setReq d r).chm = d.chm := rfl
@[simp] theorem setReq_conns (d : Dev) (r : Req) : (setReq d r).conns = d.conns := rfl
@[simp] theorem setReq_nextReq (d : Dev) (r : Req) : (setReq d r).nextReq = d.nextReq := rfl
@[simp] theorem setReq_nextArr (d : Dev) (r : Req) : (setReq d r).nextArr = d.nextArr := rfl
@[simp] theorem setReq_mem (d : Dev) (r : Req) : (setReq d r).mem = d.mem := rfl
@[simp] theorem setReq_poison (d : Dev) (r : Req) : (setReq d r).poison = d.poison := rfl
@[simp] theorem setReq_blanket (d : Dev) (r : Req) : (setReq d r).blanket = d.blanket := rfl
@[simp] theorem setReq_cured (d : Dev) (r : Req) : (setReq d r).cured = d.cured := rfl
@[simp] theorem setReq_tier (d : Dev) (r : Req) : (setReq d r).tier = d.tier := rfl
@[simp] theorem setReq_per (d : Dev) (r : Req) : (setReq d r).per = d.per := rfl
@[simp] theorem setReq_res (d : Dev) (r : Req) : (setReq d r).res = d.res := rfl
@[simp] theorem setReq_cus (d : Dev) (r : Req) : (setReq d r).cus = d.cus := rfl
@[simp] theorem setReq_watch (d : Dev) (r : Req) : (setReq d r).watch = d.watch := rfl
@[simp] theorem setReq_repairs (d : Dev) (r : Req) : (setReq d r).repairs = d.repairs := rfl
@[simp] theorem setReq_tim (d : Dev) (r : Req) : (setReq d r).tim = d.tim := rfl
@[simp] theorem setReq_mode (d : Dev) (r : Req) : (setReq d r).mode = d.mode := rfl
@[simp] theorem setReq_cal (d : Dev) (r : Req) : (setReq d r).cal = d.cal := rfl
@[simp] theorem setReq_act (d : Dev) (r : Req) : (setReq d r).act = d.act := rfl
@[simp] theorem setReq_bulk (d : Dev) (r : Req) : (setReq d r).bulk = d.bulk := rfl
@[simp] theorem setReq_ldr (d : Dev) (r : Req) : (setReq d r).ldr = d.ldr := rfl
@[simp] theorem setReq_snap (d : Dev) (r : Req) : (setReq d r).snap = d.snap := rfl
@[simp] theorem setReq_ports (d : Dev) (r : Req) : (setReq d r).ports = d.ports := rfl
@[simp] theorem setReq_fab (d : Dev) (r : Req) : (setReq d r).fab = d.fab := rfl
@[simp] theorem setReq_pwr (d : Dev) (r : Req) : (setReq d r).pwr = d.pwr := rfl
@[simp] theorem setReq_sec (d : Dev) (r : Req) : (setReq d r).sec = d.sec := rfl
@[simp] theorem setReq_vlt (d : Dev) (r : Req) : (setReq d r).vlt = d.vlt := rfl
@[simp] theorem setReq_i3c (d : Dev) (r : Req) : (setReq d r).i3c = d.i3c := rfl
@[simp] theorem setReq_hbm (d : Dev) (r : Req) : (setReq d r).hbm = d.hbm := rfl
@[simp] theorem setReq_med (d : Dev) (r : Req) : (setReq d r).med = d.med := rfl
@[simp] theorem setReq_latent (d : Dev) (r : Req) : (setReq d r).latent = d.latent := rfl
@[simp] theorem setReq_latent0 (d : Dev) (r : Req) : (setReq d r).latent0 = d.latent0 := rfl

@[simp] theorem delReq_now (d : Dev) (i : Nat) : (delReq d i).now = d.now := rfl
@[simp] theorem delReq_free (d : Dev) (i : Nat) : (delReq d i).free = d.free := rfl
@[simp] theorem delReq_out (d : Dev) (i : Nat) : (delReq d i).out = d.out := rfl
@[simp] theorem delReq_regs (d : Dev) (i : Nat) : (delReq d i).regs = d.regs := rfl
@[simp] theorem delReq_shadow (d : Dev) (i : Nat) : (delReq d i).shadow = d.shadow := rfl
@[simp] theorem delReq_kept (d : Dev) (i : Nat) : (delReq d i).kept = d.kept := rfl
@[simp] theorem delReq_latch (d : Dev) (i : Nat) : (delReq d i).latch = d.latch := rfl
@[simp] theorem delReq_flt (d : Dev) (i : Nat) : (delReq d i).flt = d.flt := rfl
@[simp] theorem delReq_log (d : Dev) (i : Nat) : (delReq d i).log = d.log := rfl
@[simp] theorem delReq_tst (d : Dev) (i : Nat) : (delReq d i).tst = d.tst := rfl
@[simp] theorem delReq_chm (d : Dev) (i : Nat) : (delReq d i).chm = d.chm := rfl
@[simp] theorem delReq_conns (d : Dev) (i : Nat) : (delReq d i).conns = d.conns := rfl
@[simp] theorem delReq_nextReq (d : Dev) (i : Nat) : (delReq d i).nextReq = d.nextReq := rfl
@[simp] theorem delReq_nextArr (d : Dev) (i : Nat) : (delReq d i).nextArr = d.nextArr := rfl
@[simp] theorem delReq_mem (d : Dev) (i : Nat) : (delReq d i).mem = d.mem := rfl
@[simp] theorem delReq_poison (d : Dev) (i : Nat) : (delReq d i).poison = d.poison := rfl
@[simp] theorem delReq_blanket (d : Dev) (i : Nat) : (delReq d i).blanket = d.blanket := rfl
@[simp] theorem delReq_cured (d : Dev) (i : Nat) : (delReq d i).cured = d.cured := rfl
@[simp] theorem delReq_tier (d : Dev) (i : Nat) : (delReq d i).tier = d.tier := rfl
@[simp] theorem delReq_per (d : Dev) (i : Nat) : (delReq d i).per = d.per := rfl
@[simp] theorem delReq_res (d : Dev) (i : Nat) : (delReq d i).res = d.res := rfl
@[simp] theorem delReq_cus (d : Dev) (i : Nat) : (delReq d i).cus = d.cus := rfl
@[simp] theorem delReq_watch (d : Dev) (i : Nat) : (delReq d i).watch = d.watch := rfl
@[simp] theorem delReq_repairs (d : Dev) (i : Nat) : (delReq d i).repairs = d.repairs := rfl
@[simp] theorem delReq_tim (d : Dev) (i : Nat) : (delReq d i).tim = d.tim := rfl
@[simp] theorem delReq_mode (d : Dev) (i : Nat) : (delReq d i).mode = d.mode := rfl
@[simp] theorem delReq_cal (d : Dev) (i : Nat) : (delReq d i).cal = d.cal := rfl
@[simp] theorem delReq_act (d : Dev) (i : Nat) : (delReq d i).act = d.act := rfl
@[simp] theorem delReq_bulk (d : Dev) (i : Nat) : (delReq d i).bulk = d.bulk := rfl
@[simp] theorem delReq_ldr (d : Dev) (i : Nat) : (delReq d i).ldr = d.ldr := rfl
@[simp] theorem delReq_snap (d : Dev) (i : Nat) : (delReq d i).snap = d.snap := rfl
@[simp] theorem delReq_ports (d : Dev) (i : Nat) : (delReq d i).ports = d.ports := rfl
@[simp] theorem delReq_fab (d : Dev) (i : Nat) : (delReq d i).fab = d.fab := rfl
@[simp] theorem delReq_pwr (d : Dev) (i : Nat) : (delReq d i).pwr = d.pwr := rfl
@[simp] theorem delReq_sec (d : Dev) (i : Nat) : (delReq d i).sec = d.sec := rfl
@[simp] theorem delReq_vlt (d : Dev) (i : Nat) : (delReq d i).vlt = d.vlt := rfl
@[simp] theorem delReq_i3c (d : Dev) (i : Nat) : (delReq d i).i3c = d.i3c := rfl
@[simp] theorem delReq_hbm (d : Dev) (i : Nat) : (delReq d i).hbm = d.hbm := rfl
@[simp] theorem delReq_med (d : Dev) (i : Nat) : (delReq d i).med = d.med := rfl
@[simp] theorem delReq_latent (d : Dev) (i : Nat) : (delReq d i).latent = d.latent := rfl
@[simp] theorem delReq_latent0 (d : Dev) (i : Nat) : (delReq d i).latent0 = d.latent0 := rfl

@[simp] theorem addReq_now (d : Dev) (r : Req) : (addReq d r).now = d.now := rfl
@[simp] theorem addReq_free (d : Dev) (r : Req) : (addReq d r).free = d.free := rfl
@[simp] theorem addReq_out (d : Dev) (r : Req) : (addReq d r).out = d.out := rfl
@[simp] theorem addReq_regs (d : Dev) (r : Req) : (addReq d r).regs = d.regs := rfl
@[simp] theorem addReq_shadow (d : Dev) (r : Req) : (addReq d r).shadow = d.shadow := rfl
@[simp] theorem addReq_kept (d : Dev) (r : Req) : (addReq d r).kept = d.kept := rfl
@[simp] theorem addReq_latch (d : Dev) (r : Req) : (addReq d r).latch = d.latch := rfl
@[simp] theorem addReq_flt (d : Dev) (r : Req) : (addReq d r).flt = d.flt := rfl
@[simp] theorem addReq_log (d : Dev) (r : Req) : (addReq d r).log = d.log := rfl
@[simp] theorem addReq_tst (d : Dev) (r : Req) : (addReq d r).tst = d.tst := rfl
@[simp] theorem addReq_chm (d : Dev) (r : Req) : (addReq d r).chm = d.chm := rfl
@[simp] theorem addReq_conns (d : Dev) (r : Req) : (addReq d r).conns = d.conns := rfl
@[simp] theorem addReq_nextArr (d : Dev) (r : Req) : (addReq d r).nextArr = d.nextArr := rfl
@[simp] theorem addReq_mem (d : Dev) (r : Req) : (addReq d r).mem = d.mem := rfl
@[simp] theorem addReq_poison (d : Dev) (r : Req) : (addReq d r).poison = d.poison := rfl
@[simp] theorem addReq_blanket (d : Dev) (r : Req) : (addReq d r).blanket = d.blanket := rfl
@[simp] theorem addReq_cured (d : Dev) (r : Req) : (addReq d r).cured = d.cured := rfl
@[simp] theorem addReq_tier (d : Dev) (r : Req) : (addReq d r).tier = d.tier := rfl
@[simp] theorem addReq_per (d : Dev) (r : Req) : (addReq d r).per = d.per := rfl
@[simp] theorem addReq_res (d : Dev) (r : Req) : (addReq d r).res = d.res := rfl
@[simp] theorem addReq_cus (d : Dev) (r : Req) : (addReq d r).cus = d.cus := rfl
@[simp] theorem addReq_watch (d : Dev) (r : Req) : (addReq d r).watch = d.watch := rfl
@[simp] theorem addReq_repairs (d : Dev) (r : Req) : (addReq d r).repairs = d.repairs := rfl
@[simp] theorem addReq_tim (d : Dev) (r : Req) : (addReq d r).tim = d.tim := rfl
@[simp] theorem addReq_mode (d : Dev) (r : Req) : (addReq d r).mode = d.mode := rfl
@[simp] theorem addReq_cal (d : Dev) (r : Req) : (addReq d r).cal = d.cal := rfl
@[simp] theorem addReq_act (d : Dev) (r : Req) : (addReq d r).act = d.act := rfl
@[simp] theorem addReq_bulk (d : Dev) (r : Req) : (addReq d r).bulk = d.bulk := rfl
@[simp] theorem addReq_ldr (d : Dev) (r : Req) : (addReq d r).ldr = d.ldr := rfl
@[simp] theorem addReq_snap (d : Dev) (r : Req) : (addReq d r).snap = d.snap := rfl
@[simp] theorem addReq_ports (d : Dev) (r : Req) : (addReq d r).ports = d.ports := rfl
@[simp] theorem addReq_fab (d : Dev) (r : Req) : (addReq d r).fab = d.fab := rfl
@[simp] theorem addReq_pwr (d : Dev) (r : Req) : (addReq d r).pwr = d.pwr := rfl
@[simp] theorem addReq_sec (d : Dev) (r : Req) : (addReq d r).sec = d.sec := rfl
@[simp] theorem addReq_vlt (d : Dev) (r : Req) : (addReq d r).vlt = d.vlt := rfl
@[simp] theorem addReq_i3c (d : Dev) (r : Req) : (addReq d r).i3c = d.i3c := rfl
@[simp] theorem addReq_hbm (d : Dev) (r : Req) : (addReq d r).hbm = d.hbm := rfl
@[simp] theorem addReq_med (d : Dev) (r : Req) : (addReq d r).med = d.med := rfl
@[simp] theorem addReq_latent (d : Dev) (r : Req) : (addReq d r).latent = d.latent := rfl
@[simp] theorem addReq_latent0 (d : Dev) (r : Req) : (addReq d r).latent0 = d.latent0 := rfl

@[simp] theorem reach_free (d : Dev) (t : Nat) : (reach d t).free = d.free := by unfold reach; split <;> rfl
@[simp] theorem reach_out (d : Dev) (t : Nat) : (reach d t).out = d.out := by unfold reach; split <;> rfl
@[simp] theorem reach_regs (d : Dev) (t : Nat) : (reach d t).regs = d.regs := by unfold reach; split <;> rfl
@[simp] theorem reach_shadow (d : Dev) (t : Nat) : (reach d t).shadow = d.shadow := by unfold reach; split <;> rfl
@[simp] theorem reach_kept (d : Dev) (t : Nat) : (reach d t).kept = d.kept := by unfold reach; split <;> rfl
@[simp] theorem reach_latch (d : Dev) (t : Nat) : (reach d t).latch = d.latch := by unfold reach; split <;> rfl
@[simp] theorem reach_flt (d : Dev) (t : Nat) : (reach d t).flt = d.flt := by unfold reach; split <;> rfl
@[simp] theorem reach_log (d : Dev) (t : Nat) : (reach d t).log = d.log := by unfold reach; split <;> rfl
@[simp] theorem reach_tst (d : Dev) (t : Nat) : (reach d t).tst = d.tst := by unfold reach; split <;> rfl
@[simp] theorem reach_chm (d : Dev) (t : Nat) : (reach d t).chm = d.chm := by unfold reach; split <;> rfl
@[simp] theorem reach_conns (d : Dev) (t : Nat) : (reach d t).conns = d.conns := by unfold reach; split <;> rfl
@[simp] theorem reach_reqs (d : Dev) (t : Nat) : (reach d t).reqs = d.reqs := by unfold reach; split <;> rfl
@[simp] theorem reach_nextReq (d : Dev) (t : Nat) : (reach d t).nextReq = d.nextReq := by unfold reach; split <;> rfl
@[simp] theorem reach_nextArr (d : Dev) (t : Nat) : (reach d t).nextArr = d.nextArr := by unfold reach; split <;> rfl
@[simp] theorem reach_mem (d : Dev) (t : Nat) : (reach d t).mem = d.mem := by unfold reach; split <;> rfl
@[simp] theorem reach_poison (d : Dev) (t : Nat) : (reach d t).poison = d.poison := by unfold reach; split <;> rfl
@[simp] theorem reach_blanket (d : Dev) (t : Nat) : (reach d t).blanket = d.blanket := by unfold reach; split <;> rfl
@[simp] theorem reach_cured (d : Dev) (t : Nat) : (reach d t).cured = d.cured := by unfold reach; split <;> rfl
@[simp] theorem reach_tier (d : Dev) (t : Nat) : (reach d t).tier = d.tier := by unfold reach; split <;> rfl
@[simp] theorem reach_per (d : Dev) (t : Nat) : (reach d t).per = d.per := by unfold reach; split <;> rfl
@[simp] theorem reach_res (d : Dev) (t : Nat) : (reach d t).res = d.res := by unfold reach; split <;> rfl
@[simp] theorem reach_cus (d : Dev) (t : Nat) : (reach d t).cus = d.cus := by unfold reach; split <;> rfl
@[simp] theorem reach_watch (d : Dev) (t : Nat) : (reach d t).watch = d.watch := by unfold reach; split <;> rfl
@[simp] theorem reach_repairs (d : Dev) (t : Nat) : (reach d t).repairs = d.repairs := by unfold reach; split <;> rfl
@[simp] theorem reach_tim (d : Dev) (t : Nat) : (reach d t).tim = d.tim := by unfold reach; split <;> rfl
@[simp] theorem reach_mode (d : Dev) (t : Nat) : (reach d t).mode = d.mode := by unfold reach; split <;> rfl
@[simp] theorem reach_cal (d : Dev) (t : Nat) : (reach d t).cal = d.cal := by unfold reach; split <;> rfl
@[simp] theorem reach_act (d : Dev) (t : Nat) : (reach d t).act = d.act := by unfold reach; split <;> rfl
@[simp] theorem reach_bulk (d : Dev) (t : Nat) : (reach d t).bulk = d.bulk := by unfold reach; split <;> rfl
@[simp] theorem reach_ldr (d : Dev) (t : Nat) : (reach d t).ldr = d.ldr := by unfold reach; split <;> rfl
@[simp] theorem reach_snap (d : Dev) (t : Nat) : (reach d t).snap = d.snap := by unfold reach; split <;> rfl
@[simp] theorem reach_ports (d : Dev) (t : Nat) : (reach d t).ports = d.ports := by unfold reach; split <;> rfl
@[simp] theorem reach_fab (d : Dev) (t : Nat) : (reach d t).fab = d.fab := by unfold reach; split <;> rfl
@[simp] theorem reach_pwr (d : Dev) (t : Nat) : (reach d t).pwr = d.pwr := by unfold reach; split <;> rfl
@[simp] theorem reach_sec (d : Dev) (t : Nat) : (reach d t).sec = d.sec := by unfold reach; split <;> rfl
@[simp] theorem reach_vlt (d : Dev) (t : Nat) : (reach d t).vlt = d.vlt := by unfold reach; split <;> rfl
@[simp] theorem reach_i3c (d : Dev) (t : Nat) : (reach d t).i3c = d.i3c := by unfold reach; split <;> rfl
@[simp] theorem reach_hbm (d : Dev) (t : Nat) : (reach d t).hbm = d.hbm := by unfold reach; split <;> rfl
@[simp] theorem reach_med (d : Dev) (t : Nat) : (reach d t).med = d.med := by unfold reach; split <;> rfl
@[simp] theorem reach_latent (d : Dev) (t : Nat) : (reach d t).latent = d.latent := by unfold reach; split <;> rfl
@[simp] theorem reach_latent0 (d : Dev) (t : Nat) : (reach d t).latent0 = d.latent0 := by unfold reach; split <;> rfl

@[simp] theorem reachO_free (d : Dev) (t : Option Nat) : (reachO d t).free = d.free := by unfold reachO; split <;> simp
@[simp] theorem reachO_out (d : Dev) (t : Option Nat) : (reachO d t).out = d.out := by unfold reachO; split <;> simp
@[simp] theorem reachO_regs (d : Dev) (t : Option Nat) : (reachO d t).regs = d.regs := by unfold reachO; split <;> simp
@[simp] theorem reachO_shadow (d : Dev) (t : Option Nat) : (reachO d t).shadow = d.shadow := by unfold reachO; split <;> simp
@[simp] theorem reachO_kept (d : Dev) (t : Option Nat) : (reachO d t).kept = d.kept := by unfold reachO; split <;> simp
@[simp] theorem reachO_latch (d : Dev) (t : Option Nat) : (reachO d t).latch = d.latch := by unfold reachO; split <;> simp
@[simp] theorem reachO_flt (d : Dev) (t : Option Nat) : (reachO d t).flt = d.flt := by unfold reachO; split <;> simp
@[simp] theorem reachO_log (d : Dev) (t : Option Nat) : (reachO d t).log = d.log := by unfold reachO; split <;> simp
@[simp] theorem reachO_tst (d : Dev) (t : Option Nat) : (reachO d t).tst = d.tst := by unfold reachO; split <;> simp
@[simp] theorem reachO_chm (d : Dev) (t : Option Nat) : (reachO d t).chm = d.chm := by unfold reachO; split <;> simp
@[simp] theorem reachO_conns (d : Dev) (t : Option Nat) : (reachO d t).conns = d.conns := by unfold reachO; split <;> simp
@[simp] theorem reachO_reqs (d : Dev) (t : Option Nat) : (reachO d t).reqs = d.reqs := by unfold reachO; split <;> simp
@[simp] theorem reachO_nextReq (d : Dev) (t : Option Nat) : (reachO d t).nextReq = d.nextReq := by unfold reachO; split <;> simp
@[simp] theorem reachO_nextArr (d : Dev) (t : Option Nat) : (reachO d t).nextArr = d.nextArr := by unfold reachO; split <;> simp
@[simp] theorem reachO_mem (d : Dev) (t : Option Nat) : (reachO d t).mem = d.mem := by unfold reachO; split <;> simp
@[simp] theorem reachO_poison (d : Dev) (t : Option Nat) : (reachO d t).poison = d.poison := by unfold reachO; split <;> simp
@[simp] theorem reachO_blanket (d : Dev) (t : Option Nat) : (reachO d t).blanket = d.blanket := by unfold reachO; split <;> simp
@[simp] theorem reachO_cured (d : Dev) (t : Option Nat) : (reachO d t).cured = d.cured := by unfold reachO; split <;> simp
@[simp] theorem reachO_tier (d : Dev) (t : Option Nat) : (reachO d t).tier = d.tier := by unfold reachO; split <;> simp
@[simp] theorem reachO_per (d : Dev) (t : Option Nat) : (reachO d t).per = d.per := by unfold reachO; split <;> simp
@[simp] theorem reachO_res (d : Dev) (t : Option Nat) : (reachO d t).res = d.res := by unfold reachO; split <;> simp
@[simp] theorem reachO_cus (d : Dev) (t : Option Nat) : (reachO d t).cus = d.cus := by unfold reachO; split <;> simp
@[simp] theorem reachO_watch (d : Dev) (t : Option Nat) : (reachO d t).watch = d.watch := by unfold reachO; split <;> simp
@[simp] theorem reachO_repairs (d : Dev) (t : Option Nat) : (reachO d t).repairs = d.repairs := by unfold reachO; split <;> simp
@[simp] theorem reachO_tim (d : Dev) (t : Option Nat) : (reachO d t).tim = d.tim := by unfold reachO; split <;> simp
@[simp] theorem reachO_mode (d : Dev) (t : Option Nat) : (reachO d t).mode = d.mode := by unfold reachO; split <;> simp
@[simp] theorem reachO_cal (d : Dev) (t : Option Nat) : (reachO d t).cal = d.cal := by unfold reachO; split <;> simp
@[simp] theorem reachO_act (d : Dev) (t : Option Nat) : (reachO d t).act = d.act := by unfold reachO; split <;> simp
@[simp] theorem reachO_bulk (d : Dev) (t : Option Nat) : (reachO d t).bulk = d.bulk := by unfold reachO; split <;> simp
@[simp] theorem reachO_ldr (d : Dev) (t : Option Nat) : (reachO d t).ldr = d.ldr := by unfold reachO; split <;> simp
@[simp] theorem reachO_snap (d : Dev) (t : Option Nat) : (reachO d t).snap = d.snap := by unfold reachO; split <;> simp
@[simp] theorem reachO_ports (d : Dev) (t : Option Nat) : (reachO d t).ports = d.ports := by unfold reachO; split <;> simp
@[simp] theorem reachO_fab (d : Dev) (t : Option Nat) : (reachO d t).fab = d.fab := by unfold reachO; split <;> simp
@[simp] theorem reachO_pwr (d : Dev) (t : Option Nat) : (reachO d t).pwr = d.pwr := by unfold reachO; split <;> simp
@[simp] theorem reachO_sec (d : Dev) (t : Option Nat) : (reachO d t).sec = d.sec := by unfold reachO; split <;> simp
@[simp] theorem reachO_vlt (d : Dev) (t : Option Nat) : (reachO d t).vlt = d.vlt := by unfold reachO; split <;> simp
@[simp] theorem reachO_i3c (d : Dev) (t : Option Nat) : (reachO d t).i3c = d.i3c := by unfold reachO; split <;> simp
@[simp] theorem reachO_hbm (d : Dev) (t : Option Nat) : (reachO d t).hbm = d.hbm := by unfold reachO; split <;> simp
@[simp] theorem reachO_med (d : Dev) (t : Option Nat) : (reachO d t).med = d.med := by unfold reachO; split <;> simp
@[simp] theorem reachO_latent (d : Dev) (t : Option Nat) : (reachO d t).latent = d.latent := by unfold reachO; split <;> simp
@[simp] theorem reachO_latent0 (d : Dev) (t : Option Nat) : (reachO d t).latent0 = d.latent0 := by unfold reachO; split <;> simp

@[simp] theorem reachFed_free (d : Dev) (t : Nat) : (reachFed d t).free = d.free := by simp only [reachFed]; split <;> rfl
@[simp] theorem reachFed_out (d : Dev) (t : Nat) : (reachFed d t).out = d.out := by simp only [reachFed]; split <;> rfl
@[simp] theorem reachFed_regs (d : Dev) (t : Nat) : (reachFed d t).regs = d.regs := by simp only [reachFed]; split <;> rfl
@[simp] theorem reachFed_shadow (d : Dev) (t : Nat) : (reachFed d t).shadow = d.shadow := by simp only [reachFed]; split <;> rfl
@[simp] theorem reachFed_kept (d : Dev) (t : Nat) : (reachFed d t).kept = d.kept := by simp only [reachFed]; split <;> rfl
@[simp] theorem reachFed_latch (d : Dev) (t : Nat) : (reachFed d t).latch = d.latch := by simp only [reachFed]; split <;> rfl
@[simp] theorem reachFed_flt (d : Dev) (t : Nat) : (reachFed d t).flt = d.flt := by simp only [reachFed]; split <;> rfl
@[simp] theorem reachFed_log (d : Dev) (t : Nat) : (reachFed d t).log = d.log := by simp only [reachFed]; split <;> rfl
@[simp] theorem reachFed_tst (d : Dev) (t : Nat) : (reachFed d t).tst = d.tst := by simp only [reachFed]; split <;> rfl
@[simp] theorem reachFed_chm (d : Dev) (t : Nat) : (reachFed d t).chm = d.chm := by simp only [reachFed]; split <;> rfl
@[simp] theorem reachFed_conns (d : Dev) (t : Nat) : (reachFed d t).conns = d.conns := by simp only [reachFed]; split <;> rfl
@[simp] theorem reachFed_reqs (d : Dev) (t : Nat) : (reachFed d t).reqs = d.reqs := by simp only [reachFed]; split <;> rfl
@[simp] theorem reachFed_nextReq (d : Dev) (t : Nat) : (reachFed d t).nextReq = d.nextReq := by simp only [reachFed]; split <;> rfl
@[simp] theorem reachFed_nextArr (d : Dev) (t : Nat) : (reachFed d t).nextArr = d.nextArr := by simp only [reachFed]; split <;> rfl
@[simp] theorem reachFed_mem (d : Dev) (t : Nat) : (reachFed d t).mem = d.mem := by simp only [reachFed]; split <;> rfl
@[simp] theorem reachFed_poison (d : Dev) (t : Nat) : (reachFed d t).poison = d.poison := by simp only [reachFed]; split <;> rfl
@[simp] theorem reachFed_blanket (d : Dev) (t : Nat) : (reachFed d t).blanket = d.blanket := by simp only [reachFed]; split <;> rfl
@[simp] theorem reachFed_cured (d : Dev) (t : Nat) : (reachFed d t).cured = d.cured := by simp only [reachFed]; split <;> rfl
@[simp] theorem reachFed_tier (d : Dev) (t : Nat) : (reachFed d t).tier = d.tier := by simp only [reachFed]; split <;> rfl
@[simp] theorem reachFed_per (d : Dev) (t : Nat) : (reachFed d t).per = d.per := by simp only [reachFed]; split <;> rfl
@[simp] theorem reachFed_res (d : Dev) (t : Nat) : (reachFed d t).res = d.res := by simp only [reachFed]; split <;> rfl
@[simp] theorem reachFed_cus (d : Dev) (t : Nat) : (reachFed d t).cus = d.cus := by simp only [reachFed]; split <;> rfl
@[simp] theorem reachFed_watch (d : Dev) (t : Nat) : (reachFed d t).watch = d.watch := by simp only [reachFed]; split <;> rfl
@[simp] theorem reachFed_repairs (d : Dev) (t : Nat) : (reachFed d t).repairs = d.repairs := by simp only [reachFed]; split <;> rfl
@[simp] theorem reachFed_tim (d : Dev) (t : Nat) : (reachFed d t).tim = d.tim := by simp only [reachFed]; split <;> rfl
@[simp] theorem reachFed_mode (d : Dev) (t : Nat) : (reachFed d t).mode = d.mode := by simp only [reachFed]; split <;> rfl
@[simp] theorem reachFed_cal (d : Dev) (t : Nat) : (reachFed d t).cal = d.cal := by simp only [reachFed]; split <;> rfl
@[simp] theorem reachFed_act (d : Dev) (t : Nat) : (reachFed d t).act = d.act := by simp only [reachFed]; split <;> rfl
@[simp] theorem reachFed_bulk (d : Dev) (t : Nat) : (reachFed d t).bulk = d.bulk := by simp only [reachFed]; split <;> rfl
@[simp] theorem reachFed_ldr (d : Dev) (t : Nat) : (reachFed d t).ldr = d.ldr := by simp only [reachFed]; split <;> rfl
@[simp] theorem reachFed_snap (d : Dev) (t : Nat) : (reachFed d t).snap = d.snap := by simp only [reachFed]; split <;> rfl
@[simp] theorem reachFed_ports (d : Dev) (t : Nat) : (reachFed d t).ports = d.ports := by simp only [reachFed]; split <;> rfl
@[simp] theorem reachFed_fab (d : Dev) (t : Nat) : (reachFed d t).fab = d.fab := by simp only [reachFed]; split <;> rfl
@[simp] theorem reachFed_pwr (d : Dev) (t : Nat) : (reachFed d t).pwr = d.pwr := by simp only [reachFed]; split <;> rfl
@[simp] theorem reachFed_sec (d : Dev) (t : Nat) : (reachFed d t).sec = d.sec := by simp only [reachFed]; split <;> rfl
@[simp] theorem reachFed_vlt (d : Dev) (t : Nat) : (reachFed d t).vlt = d.vlt := by simp only [reachFed]; split <;> rfl
@[simp] theorem reachFed_i3c (d : Dev) (t : Nat) : (reachFed d t).i3c = d.i3c := by simp only [reachFed]; split <;> rfl
@[simp] theorem reachFed_hbm (d : Dev) (t : Nat) : (reachFed d t).hbm = d.hbm := by simp only [reachFed]; split <;> rfl
@[simp] theorem reachFed_med (d : Dev) (t : Nat) : (reachFed d t).med = d.med := by simp only [reachFed]; split <;> rfl
@[simp] theorem reachFed_latent (d : Dev) (t : Nat) : (reachFed d t).latent = d.latent := by simp only [reachFed]; split <;> rfl
@[simp] theorem reachFed_latent0 (d : Dev) (t : Nat) : (reachFed d t).latent0 = d.latent0 := by simp only [reachFed]; split <;> rfl

@[simp] theorem reachFedO_free (d : Dev) (t : Option Nat) : (reachFedO d t).free = d.free := by unfold reachFedO; split <;> simp
@[simp] theorem reachFedO_out (d : Dev) (t : Option Nat) : (reachFedO d t).out = d.out := by unfold reachFedO; split <;> simp
@[simp] theorem reachFedO_regs (d : Dev) (t : Option Nat) : (reachFedO d t).regs = d.regs := by unfold reachFedO; split <;> simp
@[simp] theorem reachFedO_shadow (d : Dev) (t : Option Nat) : (reachFedO d t).shadow = d.shadow := by unfold reachFedO; split <;> simp
@[simp] theorem reachFedO_kept (d : Dev) (t : Option Nat) : (reachFedO d t).kept = d.kept := by unfold reachFedO; split <;> simp
@[simp] theorem reachFedO_latch (d : Dev) (t : Option Nat) : (reachFedO d t).latch = d.latch := by unfold reachFedO; split <;> simp
@[simp] theorem reachFedO_flt (d : Dev) (t : Option Nat) : (reachFedO d t).flt = d.flt := by unfold reachFedO; split <;> simp
@[simp] theorem reachFedO_log (d : Dev) (t : Option Nat) : (reachFedO d t).log = d.log := by unfold reachFedO; split <;> simp
@[simp] theorem reachFedO_tst (d : Dev) (t : Option Nat) : (reachFedO d t).tst = d.tst := by unfold reachFedO; split <;> simp
@[simp] theorem reachFedO_chm (d : Dev) (t : Option Nat) : (reachFedO d t).chm = d.chm := by unfold reachFedO; split <;> simp
@[simp] theorem reachFedO_conns (d : Dev) (t : Option Nat) : (reachFedO d t).conns = d.conns := by unfold reachFedO; split <;> simp
@[simp] theorem reachFedO_reqs (d : Dev) (t : Option Nat) : (reachFedO d t).reqs = d.reqs := by unfold reachFedO; split <;> simp
@[simp] theorem reachFedO_nextReq (d : Dev) (t : Option Nat) : (reachFedO d t).nextReq = d.nextReq := by unfold reachFedO; split <;> simp
@[simp] theorem reachFedO_nextArr (d : Dev) (t : Option Nat) : (reachFedO d t).nextArr = d.nextArr := by unfold reachFedO; split <;> simp
@[simp] theorem reachFedO_mem (d : Dev) (t : Option Nat) : (reachFedO d t).mem = d.mem := by unfold reachFedO; split <;> simp
@[simp] theorem reachFedO_poison (d : Dev) (t : Option Nat) : (reachFedO d t).poison = d.poison := by unfold reachFedO; split <;> simp
@[simp] theorem reachFedO_blanket (d : Dev) (t : Option Nat) : (reachFedO d t).blanket = d.blanket := by unfold reachFedO; split <;> simp
@[simp] theorem reachFedO_cured (d : Dev) (t : Option Nat) : (reachFedO d t).cured = d.cured := by unfold reachFedO; split <;> simp
@[simp] theorem reachFedO_tier (d : Dev) (t : Option Nat) : (reachFedO d t).tier = d.tier := by unfold reachFedO; split <;> simp
@[simp] theorem reachFedO_per (d : Dev) (t : Option Nat) : (reachFedO d t).per = d.per := by unfold reachFedO; split <;> simp
@[simp] theorem reachFedO_res (d : Dev) (t : Option Nat) : (reachFedO d t).res = d.res := by unfold reachFedO; split <;> simp
@[simp] theorem reachFedO_cus (d : Dev) (t : Option Nat) : (reachFedO d t).cus = d.cus := by unfold reachFedO; split <;> simp
@[simp] theorem reachFedO_watch (d : Dev) (t : Option Nat) : (reachFedO d t).watch = d.watch := by unfold reachFedO; split <;> simp
@[simp] theorem reachFedO_repairs (d : Dev) (t : Option Nat) : (reachFedO d t).repairs = d.repairs := by unfold reachFedO; split <;> simp
@[simp] theorem reachFedO_tim (d : Dev) (t : Option Nat) : (reachFedO d t).tim = d.tim := by unfold reachFedO; split <;> simp
@[simp] theorem reachFedO_mode (d : Dev) (t : Option Nat) : (reachFedO d t).mode = d.mode := by unfold reachFedO; split <;> simp
@[simp] theorem reachFedO_cal (d : Dev) (t : Option Nat) : (reachFedO d t).cal = d.cal := by unfold reachFedO; split <;> simp
@[simp] theorem reachFedO_act (d : Dev) (t : Option Nat) : (reachFedO d t).act = d.act := by unfold reachFedO; split <;> simp
@[simp] theorem reachFedO_bulk (d : Dev) (t : Option Nat) : (reachFedO d t).bulk = d.bulk := by unfold reachFedO; split <;> simp
@[simp] theorem reachFedO_ldr (d : Dev) (t : Option Nat) : (reachFedO d t).ldr = d.ldr := by unfold reachFedO; split <;> simp
@[simp] theorem reachFedO_snap (d : Dev) (t : Option Nat) : (reachFedO d t).snap = d.snap := by unfold reachFedO; split <;> simp
@[simp] theorem reachFedO_ports (d : Dev) (t : Option Nat) : (reachFedO d t).ports = d.ports := by unfold reachFedO; split <;> simp
@[simp] theorem reachFedO_fab (d : Dev) (t : Option Nat) : (reachFedO d t).fab = d.fab := by unfold reachFedO; split <;> simp
@[simp] theorem reachFedO_pwr (d : Dev) (t : Option Nat) : (reachFedO d t).pwr = d.pwr := by unfold reachFedO; split <;> simp
@[simp] theorem reachFedO_sec (d : Dev) (t : Option Nat) : (reachFedO d t).sec = d.sec := by unfold reachFedO; split <;> simp
@[simp] theorem reachFedO_vlt (d : Dev) (t : Option Nat) : (reachFedO d t).vlt = d.vlt := by unfold reachFedO; split <;> simp
@[simp] theorem reachFedO_i3c (d : Dev) (t : Option Nat) : (reachFedO d t).i3c = d.i3c := by unfold reachFedO; split <;> simp
@[simp] theorem reachFedO_hbm (d : Dev) (t : Option Nat) : (reachFedO d t).hbm = d.hbm := by unfold reachFedO; split <;> simp
@[simp] theorem reachFedO_med (d : Dev) (t : Option Nat) : (reachFedO d t).med = d.med := by unfold reachFedO; split <;> simp
@[simp] theorem reachFedO_latent (d : Dev) (t : Option Nat) : (reachFedO d t).latent = d.latent := by unfold reachFedO; split <;> simp
@[simp] theorem reachFedO_latent0 (d : Dev) (t : Option Nat) : (reachFedO d t).latent0 = d.latent0 := by unfold reachFedO; split <;> simp

@[simp] theorem countAccess_now (d : Dev) (s : Nat) : (countAccess d s).now = d.now := by unfold countAccess; split <;> (try split) <;> rfl
@[simp] theorem countAccess_free (d : Dev) (s : Nat) : (countAccess d s).free = d.free := by unfold countAccess; split <;> (try split) <;> rfl
@[simp] theorem countAccess_out (d : Dev) (s : Nat) : (countAccess d s).out = d.out := by unfold countAccess; split <;> (try split) <;> rfl
@[simp] theorem countAccess_shadow (d : Dev) (s : Nat) : (countAccess d s).shadow = d.shadow := by unfold countAccess; split <;> (try split) <;> rfl
@[simp] theorem countAccess_kept (d : Dev) (s : Nat) : (countAccess d s).kept = d.kept := by unfold countAccess; split <;> (try split) <;> rfl
@[simp] theorem countAccess_latch (d : Dev) (s : Nat) : (countAccess d s).latch = d.latch := by unfold countAccess; split <;> (try split) <;> rfl
@[simp] theorem countAccess_flt (d : Dev) (s : Nat) : (countAccess d s).flt = d.flt := by unfold countAccess; split <;> (try split) <;> rfl
@[simp] theorem countAccess_log (d : Dev) (s : Nat) : (countAccess d s).log = d.log := by unfold countAccess; split <;> (try split) <;> rfl
@[simp] theorem countAccess_tst (d : Dev) (s : Nat) : (countAccess d s).tst = d.tst := by unfold countAccess; split <;> (try split) <;> rfl
@[simp] theorem countAccess_chm (d : Dev) (s : Nat) : (countAccess d s).chm = d.chm := by unfold countAccess; split <;> (try split) <;> rfl
@[simp] theorem countAccess_conns (d : Dev) (s : Nat) : (countAccess d s).conns = d.conns := by unfold countAccess; split <;> (try split) <;> rfl
@[simp] theorem countAccess_reqs (d : Dev) (s : Nat) : (countAccess d s).reqs = d.reqs := by unfold countAccess; split <;> (try split) <;> rfl
@[simp] theorem countAccess_nextReq (d : Dev) (s : Nat) : (countAccess d s).nextReq = d.nextReq := by unfold countAccess; split <;> (try split) <;> rfl
@[simp] theorem countAccess_nextArr (d : Dev) (s : Nat) : (countAccess d s).nextArr = d.nextArr := by unfold countAccess; split <;> (try split) <;> rfl
@[simp] theorem countAccess_mem (d : Dev) (s : Nat) : (countAccess d s).mem = d.mem := by unfold countAccess; split <;> (try split) <;> rfl
@[simp] theorem countAccess_poison (d : Dev) (s : Nat) : (countAccess d s).poison = d.poison := by unfold countAccess; split <;> (try split) <;> rfl
@[simp] theorem countAccess_blanket (d : Dev) (s : Nat) : (countAccess d s).blanket = d.blanket := by unfold countAccess; split <;> (try split) <;> rfl
@[simp] theorem countAccess_cured (d : Dev) (s : Nat) : (countAccess d s).cured = d.cured := by unfold countAccess; split <;> (try split) <;> rfl
@[simp] theorem countAccess_tier (d : Dev) (s : Nat) : (countAccess d s).tier = d.tier := by unfold countAccess; split <;> (try split) <;> rfl
@[simp] theorem countAccess_per (d : Dev) (s : Nat) : (countAccess d s).per = d.per := by unfold countAccess; split <;> (try split) <;> rfl
@[simp] theorem countAccess_res (d : Dev) (s : Nat) : (countAccess d s).res = d.res := by unfold countAccess; split <;> (try split) <;> rfl
@[simp] theorem countAccess_cus (d : Dev) (s : Nat) : (countAccess d s).cus = d.cus := by unfold countAccess; split <;> (try split) <;> rfl
@[simp] theorem countAccess_watch (d : Dev) (s : Nat) : (countAccess d s).watch = d.watch := by unfold countAccess; split <;> (try split) <;> rfl
@[simp] theorem countAccess_repairs (d : Dev) (s : Nat) : (countAccess d s).repairs = d.repairs := by unfold countAccess; split <;> (try split) <;> rfl
@[simp] theorem countAccess_tim (d : Dev) (s : Nat) : (countAccess d s).tim = d.tim := by unfold countAccess; split <;> (try split) <;> rfl
@[simp] theorem countAccess_mode (d : Dev) (s : Nat) : (countAccess d s).mode = d.mode := by unfold countAccess; split <;> (try split) <;> rfl
@[simp] theorem countAccess_cal (d : Dev) (s : Nat) : (countAccess d s).cal = d.cal := by unfold countAccess; split <;> (try split) <;> rfl
@[simp] theorem countAccess_act (d : Dev) (s : Nat) : (countAccess d s).act = d.act := by unfold countAccess; split <;> (try split) <;> rfl
@[simp] theorem countAccess_bulk (d : Dev) (s : Nat) : (countAccess d s).bulk = d.bulk := by unfold countAccess; split <;> (try split) <;> rfl
@[simp] theorem countAccess_ldr (d : Dev) (s : Nat) : (countAccess d s).ldr = d.ldr := by unfold countAccess; split <;> (try split) <;> rfl
@[simp] theorem countAccess_snap (d : Dev) (s : Nat) : (countAccess d s).snap = d.snap := by unfold countAccess; split <;> (try split) <;> rfl
@[simp] theorem countAccess_ports (d : Dev) (s : Nat) : (countAccess d s).ports = d.ports := by unfold countAccess; split <;> (try split) <;> rfl
@[simp] theorem countAccess_fab (d : Dev) (s : Nat) : (countAccess d s).fab = d.fab := by unfold countAccess; split <;> (try split) <;> rfl
@[simp] theorem countAccess_pwr (d : Dev) (s : Nat) : (countAccess d s).pwr = d.pwr := by unfold countAccess; split <;> (try split) <;> rfl
@[simp] theorem countAccess_sec (d : Dev) (s : Nat) : (countAccess d s).sec = d.sec := by unfold countAccess; split <;> (try split) <;> rfl
@[simp] theorem countAccess_vlt (d : Dev) (s : Nat) : (countAccess d s).vlt = d.vlt := by unfold countAccess; split <;> (try split) <;> rfl
@[simp] theorem countAccess_i3c (d : Dev) (s : Nat) : (countAccess d s).i3c = d.i3c := by unfold countAccess; split <;> (try split) <;> rfl
@[simp] theorem countAccess_hbm (d : Dev) (s : Nat) : (countAccess d s).hbm = d.hbm := by unfold countAccess; split <;> (try split) <;> rfl
@[simp] theorem countAccess_med (d : Dev) (s : Nat) : (countAccess d s).med = d.med := by unfold countAccess; split <;> (try split) <;> rfl
@[simp] theorem countAccess_latent (d : Dev) (s : Nat) : (countAccess d s).latent = d.latent := by unfold countAccess; split <;> (try split) <;> rfl
@[simp] theorem countAccess_latent0 (d : Dev) (s : Nat) : (countAccess d s).latent0 = d.latent0 := by unfold countAccess; split <;> (try split) <;> rfl

@[simp] theorem accessDone_now (d : Dev) (w : Writer) (a s : Nat) : (accessDone d w a s).now = d.now := by simp only [accessDone]; split <;> simp
@[simp] theorem accessDone_free (d : Dev) (w : Writer) (a s : Nat) : (accessDone d w a s).free = d.free := by simp only [accessDone]; split <;> simp
@[simp] theorem accessDone_out (d : Dev) (w : Writer) (a s : Nat) : (accessDone d w a s).out = d.out := by simp only [accessDone]; split <;> simp
@[simp] theorem accessDone_shadow (d : Dev) (w : Writer) (a s : Nat) : (accessDone d w a s).shadow = d.shadow := by simp only [accessDone]; split <;> simp
@[simp] theorem accessDone_kept (d : Dev) (w : Writer) (a s : Nat) : (accessDone d w a s).kept = d.kept := by simp only [accessDone]; split <;> simp
@[simp] theorem accessDone_latch (d : Dev) (w : Writer) (a s : Nat) : (accessDone d w a s).latch = d.latch := by simp only [accessDone]; split <;> simp
@[simp] theorem accessDone_flt (d : Dev) (w : Writer) (a s : Nat) : (accessDone d w a s).flt = d.flt := by simp only [accessDone]; split <;> simp
@[simp] theorem accessDone_log (d : Dev) (w : Writer) (a s : Nat) : (accessDone d w a s).log = d.log := by simp only [accessDone]; split <;> simp
@[simp] theorem accessDone_tst (d : Dev) (w : Writer) (a s : Nat) : (accessDone d w a s).tst = d.tst := by simp only [accessDone]; split <;> simp
@[simp] theorem accessDone_chm (d : Dev) (w : Writer) (a s : Nat) : (accessDone d w a s).chm = d.chm := by simp only [accessDone]; split <;> simp
@[simp] theorem accessDone_conns (d : Dev) (w : Writer) (a s : Nat) : (accessDone d w a s).conns = d.conns := by simp only [accessDone]; split <;> simp
@[simp] theorem accessDone_reqs (d : Dev) (w : Writer) (a s : Nat) : (accessDone d w a s).reqs = d.reqs := by simp only [accessDone]; split <;> simp
@[simp] theorem accessDone_nextReq (d : Dev) (w : Writer) (a s : Nat) : (accessDone d w a s).nextReq = d.nextReq := by simp only [accessDone]; split <;> simp
@[simp] theorem accessDone_nextArr (d : Dev) (w : Writer) (a s : Nat) : (accessDone d w a s).nextArr = d.nextArr := by simp only [accessDone]; split <;> simp
@[simp] theorem accessDone_mem (d : Dev) (w : Writer) (a s : Nat) : (accessDone d w a s).mem = d.mem := by simp only [accessDone]; split <;> simp
@[simp] theorem accessDone_poison (d : Dev) (w : Writer) (a s : Nat) : (accessDone d w a s).poison = d.poison := by simp only [accessDone]; split <;> simp
@[simp] theorem accessDone_blanket (d : Dev) (w : Writer) (a s : Nat) : (accessDone d w a s).blanket = d.blanket := by simp only [accessDone]; split <;> simp
@[simp] theorem accessDone_cured (d : Dev) (w : Writer) (a s : Nat) : (accessDone d w a s).cured = d.cured := by simp only [accessDone]; split <;> simp
@[simp] theorem accessDone_tier (d : Dev) (w : Writer) (a s : Nat) : (accessDone d w a s).tier = d.tier := by simp only [accessDone]; split <;> simp
@[simp] theorem accessDone_per (d : Dev) (w : Writer) (a s : Nat) : (accessDone d w a s).per = d.per := by simp only [accessDone]; split <;> simp
@[simp] theorem accessDone_res (d : Dev) (w : Writer) (a s : Nat) : (accessDone d w a s).res = d.res := by simp only [accessDone]; split <;> simp
@[simp] theorem accessDone_cus (d : Dev) (w : Writer) (a s : Nat) : (accessDone d w a s).cus = d.cus := by simp only [accessDone]; split <;> simp
@[simp] theorem accessDone_watch (d : Dev) (w : Writer) (a s : Nat) : (accessDone d w a s).watch = d.watch := by simp only [accessDone]; split <;> simp
@[simp] theorem accessDone_repairs (d : Dev) (w : Writer) (a s : Nat) : (accessDone d w a s).repairs = d.repairs := by simp only [accessDone]; split <;> simp
@[simp] theorem accessDone_tim (d : Dev) (w : Writer) (a s : Nat) : (accessDone d w a s).tim = d.tim := by simp only [accessDone]; split <;> simp
@[simp] theorem accessDone_mode (d : Dev) (w : Writer) (a s : Nat) : (accessDone d w a s).mode = d.mode := by simp only [accessDone]; split <;> simp
@[simp] theorem accessDone_cal (d : Dev) (w : Writer) (a s : Nat) : (accessDone d w a s).cal = d.cal := by simp only [accessDone]; split <;> simp
@[simp] theorem accessDone_act (d : Dev) (w : Writer) (a s : Nat) : (accessDone d w a s).act = d.act := by simp only [accessDone]; split <;> simp
@[simp] theorem accessDone_bulk (d : Dev) (w : Writer) (a s : Nat) : (accessDone d w a s).bulk = d.bulk := by simp only [accessDone]; split <;> simp
@[simp] theorem accessDone_ldr (d : Dev) (w : Writer) (a s : Nat) : (accessDone d w a s).ldr = d.ldr := by simp only [accessDone]; split <;> simp
@[simp] theorem accessDone_snap (d : Dev) (w : Writer) (a s : Nat) : (accessDone d w a s).snap = d.snap := by simp only [accessDone]; split <;> simp
@[simp] theorem accessDone_ports (d : Dev) (w : Writer) (a s : Nat) : (accessDone d w a s).ports = d.ports := by simp only [accessDone]; split <;> simp
@[simp] theorem accessDone_fab (d : Dev) (w : Writer) (a s : Nat) : (accessDone d w a s).fab = d.fab := by simp only [accessDone]; split <;> simp
@[simp] theorem accessDone_pwr (d : Dev) (w : Writer) (a s : Nat) : (accessDone d w a s).pwr = d.pwr := by simp only [accessDone]; split <;> simp
@[simp] theorem accessDone_sec (d : Dev) (w : Writer) (a s : Nat) : (accessDone d w a s).sec = d.sec := by simp only [accessDone]; split <;> simp
@[simp] theorem accessDone_vlt (d : Dev) (w : Writer) (a s : Nat) : (accessDone d w a s).vlt = d.vlt := by simp only [accessDone]; split <;> simp
@[simp] theorem accessDone_i3c (d : Dev) (w : Writer) (a s : Nat) : (accessDone d w a s).i3c = d.i3c := by simp only [accessDone]; split <;> simp
@[simp] theorem accessDone_hbm (d : Dev) (w : Writer) (a s : Nat) : (accessDone d w a s).hbm = d.hbm := by simp only [accessDone]; split <;> simp
@[simp] theorem accessDone_med (d : Dev) (w : Writer) (a s : Nat) : (accessDone d w a s).med = d.med := by simp only [accessDone]; split <;> simp
@[simp] theorem accessDone_latent (d : Dev) (w : Writer) (a s : Nat) : (accessDone d w a s).latent = d.latent := by simp only [accessDone]; split <;> simp
@[simp] theorem accessDone_latent0 (d : Dev) (w : Writer) (a s : Nat) : (accessDone d w a s).latent0 = d.latent0 := by simp only [accessDone]; split <;> simp

@[simp] theorem asked_now (d : Dev) (w : Writer) (r : RegId) (c i : Nat) : (asked d w r c i).now = d.now := by simp [asked]
@[simp] theorem asked_free (d : Dev) (w : Writer) (r : RegId) (c i : Nat) : (asked d w r c i).free = d.free := by simp [asked]
@[simp] theorem asked_out (d : Dev) (w : Writer) (r : RegId) (c i : Nat) : (asked d w r c i).out = d.out := by simp [asked]
@[simp] theorem asked_shadow (d : Dev) (w : Writer) (r : RegId) (c i : Nat) : (asked d w r c i).shadow = d.shadow := by simp [asked]
@[simp] theorem asked_kept (d : Dev) (w : Writer) (r : RegId) (c i : Nat) : (asked d w r c i).kept = d.kept := by simp [asked]
@[simp] theorem asked_latch (d : Dev) (w : Writer) (r : RegId) (c i : Nat) : (asked d w r c i).latch = d.latch := by simp [asked]
@[simp] theorem asked_flt (d : Dev) (w : Writer) (r : RegId) (c i : Nat) : (asked d w r c i).flt = d.flt := by simp [asked]
@[simp] theorem asked_log (d : Dev) (w : Writer) (r : RegId) (c i : Nat) : (asked d w r c i).log = d.log := by simp [asked]
@[simp] theorem asked_tst (d : Dev) (w : Writer) (r : RegId) (c i : Nat) : (asked d w r c i).tst = d.tst := by simp [asked]
@[simp] theorem asked_chm (d : Dev) (w : Writer) (r : RegId) (c i : Nat) : (asked d w r c i).chm = d.chm := by simp [asked]
@[simp] theorem asked_conns (d : Dev) (w : Writer) (r : RegId) (c i : Nat) : (asked d w r c i).conns = d.conns := by simp [asked]
@[simp] theorem asked_reqs (d : Dev) (w : Writer) (r : RegId) (c i : Nat) : (asked d w r c i).reqs = d.reqs := by simp [asked]
@[simp] theorem asked_nextReq (d : Dev) (w : Writer) (r : RegId) (c i : Nat) : (asked d w r c i).nextReq = d.nextReq := by simp [asked]
@[simp] theorem asked_nextArr (d : Dev) (w : Writer) (r : RegId) (c i : Nat) : (asked d w r c i).nextArr = d.nextArr := by simp [asked]
@[simp] theorem asked_mem (d : Dev) (w : Writer) (r : RegId) (c i : Nat) : (asked d w r c i).mem = d.mem := by simp [asked]
@[simp] theorem asked_poison (d : Dev) (w : Writer) (r : RegId) (c i : Nat) : (asked d w r c i).poison = d.poison := by simp [asked]
@[simp] theorem asked_blanket (d : Dev) (w : Writer) (r : RegId) (c i : Nat) : (asked d w r c i).blanket = d.blanket := by simp [asked]
@[simp] theorem asked_cured (d : Dev) (w : Writer) (r : RegId) (c i : Nat) : (asked d w r c i).cured = d.cured := by simp [asked]
@[simp] theorem asked_tier (d : Dev) (w : Writer) (r : RegId) (c i : Nat) : (asked d w r c i).tier = d.tier := by simp [asked]
@[simp] theorem asked_per (d : Dev) (w : Writer) (r : RegId) (c i : Nat) : (asked d w r c i).per = d.per := by simp [asked]
@[simp] theorem asked_res (d : Dev) (w : Writer) (r : RegId) (c i : Nat) : (asked d w r c i).res = d.res := by simp [asked]
@[simp] theorem asked_cus (d : Dev) (w : Writer) (r : RegId) (c i : Nat) : (asked d w r c i).cus = d.cus := by simp [asked]
@[simp] theorem asked_watch (d : Dev) (w : Writer) (r : RegId) (c i : Nat) : (asked d w r c i).watch = d.watch := by simp [asked]
@[simp] theorem asked_repairs (d : Dev) (w : Writer) (r : RegId) (c i : Nat) : (asked d w r c i).repairs = d.repairs := by simp [asked]
@[simp] theorem asked_tim (d : Dev) (w : Writer) (r : RegId) (c i : Nat) : (asked d w r c i).tim = d.tim := by simp [asked]
@[simp] theorem asked_mode (d : Dev) (w : Writer) (r : RegId) (c i : Nat) : (asked d w r c i).mode = d.mode := by simp [asked]
@[simp] theorem asked_cal (d : Dev) (w : Writer) (r : RegId) (c i : Nat) : (asked d w r c i).cal = d.cal := by simp [asked]
@[simp] theorem asked_act (d : Dev) (w : Writer) (r : RegId) (c i : Nat) : (asked d w r c i).act = d.act := by simp [asked]
@[simp] theorem asked_bulk (d : Dev) (w : Writer) (r : RegId) (c i : Nat) : (asked d w r c i).bulk = d.bulk := by simp [asked]
@[simp] theorem asked_ldr (d : Dev) (w : Writer) (r : RegId) (c i : Nat) : (asked d w r c i).ldr = d.ldr := by simp [asked]
@[simp] theorem asked_snap (d : Dev) (w : Writer) (r : RegId) (c i : Nat) : (asked d w r c i).snap = d.snap := by simp [asked]
@[simp] theorem asked_ports (d : Dev) (w : Writer) (r : RegId) (c i : Nat) : (asked d w r c i).ports = d.ports := by simp [asked]
@[simp] theorem asked_fab (d : Dev) (w : Writer) (r : RegId) (c i : Nat) : (asked d w r c i).fab = d.fab := by simp [asked]
@[simp] theorem asked_pwr (d : Dev) (w : Writer) (r : RegId) (c i : Nat) : (asked d w r c i).pwr = d.pwr := by simp [asked]
@[simp] theorem asked_sec (d : Dev) (w : Writer) (r : RegId) (c i : Nat) : (asked d w r c i).sec = d.sec := by simp [asked]
@[simp] theorem asked_vlt (d : Dev) (w : Writer) (r : RegId) (c i : Nat) : (asked d w r c i).vlt = d.vlt := by simp [asked]
@[simp] theorem asked_i3c (d : Dev) (w : Writer) (r : RegId) (c i : Nat) : (asked d w r c i).i3c = d.i3c := by simp [asked]
@[simp] theorem asked_hbm (d : Dev) (w : Writer) (r : RegId) (c i : Nat) : (asked d w r c i).hbm = d.hbm := by simp [asked]
@[simp] theorem asked_med (d : Dev) (w : Writer) (r : RegId) (c i : Nat) : (asked d w r c i).med = d.med := by simp [asked]
@[simp] theorem asked_latent (d : Dev) (w : Writer) (r : RegId) (c i : Nat) : (asked d w r c i).latent = d.latent := by simp [asked]
@[simp] theorem asked_latent0 (d : Dev) (w : Writer) (r : RegId) (c i : Nat) : (asked d w r c i).latent0 = d.latent0 := by simp [asked]

/-- A control message whose way is not a port of the device leaves at once, and its send changes nothing else. -/
theorem sendCtrl_direct (d : Dev) (op dest : Nat) (l : List Nat) (h : ctrlWay d op dest = .direct) :
    sendCtrl d op dest l = send d (.ctrl op dest l) := by simp [sendCtrl, sendClaimed, h]

/-- A control message to a device that no port reaches is not sent, and nothing changes. -/
theorem sendCtrl_nowhere (d : Dev) (op dest : Nat) (l : List Nat) (h : ctrlWay d op dest = .nowhere) : sendCtrl d op dest l = d := by
  simp [sendCtrl, sendClaimed, h]

/-- A control frame that finds no buffer, not even in the reserve, is dropped and counted at its port, and nothing else changes (R104). -/
theorem sendCtl_full (d : Dev) (p bytes : Nat) (o : Out) (h : takeBufs d p bytes 0x2000 true = none) :
    sendCtl d p bytes o = bump d .PORT_CNG_CNT p 6 := by simp [sendCtl, h]

/-- A frame for a fenced port is dropped and counted there; a buffer it holds goes back (R106). -/
theorem enqueue_fenced (d : Dev) (p pcp bytes : Nat) (o : Out) (b : Option Nat) (h : (getPort d p).fence.isSome = true) :
    enqueue d p pcp bytes o b = dropBuf (bump d .PORT_CNG_CNT p 6) b := by simp [enqueue, h]

/-- A device that is down answers nothing. -/
theorem respond_down (d : Dev) (k extra : Nat) (pmh : Bool) (f : Wire → Out) (h : isDown d = true) : respond d k extra pmh f = d := by
  simp [respond, h]

/-- A port that may not transmit keeps its queue and sends nothing. -/
theorem drainPort_off (d : Dev) (p : Nat) (h : txOn d p = false) : drainPort d p = d := by simp [drainPort, h]

end Sys2Proof.Machine
end

