-- ==== Sys2Proof/Laws/Tables.lean ====
section
/-!
SUPPORT. Laws of the sparse tables, of registers and of chamber memory: read after write, writes elsewhere, and the canonical form.
-/
namespace Sys2Proof.Machine
open Sys2Proof

/-! ### Tables -/

@[simp] theorem nget_nset_same {α : Type} (m : NMap α) (k : Nat) (v : α) : nget (nset m k v) k = some v := by
  induction m with
  | nil => simp [nset, nget]
  | cons p t ih => rcases p with ⟨k', v'⟩; simp only [nset]; split
                   · simp [nget]
                   · split
                     · simp [nget]
                     · rename_i h1 h2; simp [nget, Ne.symm h2, ih]

theorem nget_nset_ne {α : Type} (m : NMap α) (k j : Nat) (v : α) (h : j ≠ k) : nget (nset m k v) j = nget m j := by
  induction m with
  | nil => simp [nset, nget, Ne.symm h]
  | cons p t ih => rcases p with ⟨k', v'⟩; simp only [nset]; split
                   · simp [nget, Ne.symm h]
                   · split
                     · rename_i h1 h2; subst h2; simp [nget, Ne.symm h]
                     · simp [nget, ih]

@[simp] theorem ngetD_nset_same {α : Type} (m : NMap α) (k : Nat) (v d : α) : ngetD (nset m k v) k d = v := by simp [ngetD]

theorem ngetD_nset_ne {α : Type} (m : NMap α) (k j : Nat) (v d : α) (h : j ≠ k) : ngetD (nset m k v) j d = ngetD m j d := by
  simp [ngetD, nget_nset_ne _ _ _ _ h]

theorem nget_ndel_ne {α : Type} (m : NMap α) (k j : Nat) (h : j ≠ k) : nget (ndel m k) j = nget m j := by
  induction m with
  | nil => rfl
  | cons p t ih => rcases p with ⟨k', v'⟩; simp only [ndel]; split
                   · rename_i h1; subst h1; simp [nget, Ne.symm h]
                   · simp [nget, ih]

/-- Every key of a table is above a bound. -/
def nabove {α : Type} (b : Nat) (m : NMap α) : Prop := ∀ p ∈ m, b < p.1

theorem nwf_cons {α : Type} (k : Nat) (v : α) (t : NMap α) : nwf ((k, v) :: t) = true ↔ nabove k t ∧ nwf t = true := by
  induction t generalizing k v with
  | nil => simp [nwf, nabove]
  | cons p u ih =>
    rcases p with ⟨k', v'⟩
    simp only [nwf, Bool.and_eq_true, decide_eq_true_eq]
    constructor
    · intro ⟨h1, h2⟩
      refine ⟨?_, h2⟩
      intro q hq
      rcases List.mem_cons.mp hq with rfl | hq
      · exact h1
      · exact Nat.lt_trans h1 (((ih k' v').mp h2).1 q hq)
    · intro ⟨h1, h2⟩
      exact ⟨h1 (k', v') (by simp), h2⟩

theorem nabove_nset {α : Type} (b k : Nat) (v : α) (m : NMap α) (h : nabove b m) (hk : b < k) : nabove b (nset m k v) := by
  induction m with
  | nil => intro p hp; simp [nset] at hp; subst hp; exact hk
  | cons q t ih =>
    rcases q with ⟨k', v'⟩
    have ht : nabove b t := fun p hp => h p (by simp [hp])
    have hq : b < k' := h (k', v') (by simp)
    simp only [nset]; split
    · intro p hp; rcases List.mem_cons.mp hp with rfl | hp
      · exact hk
      · exact h p hp
    · split
      · intro p hp; rcases List.mem_cons.mp hp with rfl | hp
        · exact hk
        · exact ht p hp
      · intro p hp; rcases List.mem_cons.mp hp with rfl | hp
        · exact hq
        · exact ih ht p hp

theorem nwf_nset {α : Type} (m : NMap α) (k : Nat) (v : α) (h : nwf m = true) : nwf (nset m k v) = true := by
  induction m with
  | nil => rfl
  | cons q t ih =>
    rcases q with ⟨k', v'⟩
    obtain ⟨h1, h2⟩ := (nwf_cons k' v' t).mp h
    simp only [nset]; split
    · rename_i hk
      refine (nwf_cons _ _ _).mpr ⟨?_, h⟩
      intro p hp; rcases List.mem_cons.mp hp with rfl | hp
      · exact hk
      · exact Nat.lt_trans hk (h1 p hp)
    · split
      · rename_i hk; subst hk; exact (nwf_cons _ _ _).mpr ⟨h1, h2⟩
      · exact (nwf_cons _ _ _).mpr ⟨nabove_nset _ _ _ _ h1 (by omega), ih h2⟩

theorem ndel_sub {α : Type} (m : NMap α) (k : Nat) : ∀ p ∈ ndel m k, p ∈ m := by
  induction m with
  | nil => intro p hp; exact hp
  | cons q t ih =>
    rcases q with ⟨k', v'⟩
    simp only [ndel]; split
    · intro p hp; simp [hp]
    · intro p hp; rcases List.mem_cons.mp hp with rfl | hp
      · simp
      · simp [ih p hp]

theorem nwf_ndel {α : Type} (m : NMap α) (k : Nat) (h : nwf m = true) : nwf (ndel m k) = true := by
  induction m with
  | nil => rfl
  | cons q t ih =>
    rcases q with ⟨k', v'⟩
    obtain ⟨h1, h2⟩ := (nwf_cons k' v' t).mp h
    simp only [ndel]; split
    · exact h2
    · exact (nwf_cons _ _ _).mpr ⟨fun p hp => h1 p (ndel_sub t k p hp), ih h2⟩

theorem nwf_filter {α : Type} (m : NMap α) (f : Nat × α → Bool) (h : nwf m = true) : nwf (m.filter f) = true := by
  induction m with
  | nil => rfl
  | cons q t ih =>
    rcases q with ⟨k', v'⟩
    obtain ⟨h1, h2⟩ := (nwf_cons k' v' t).mp h
    simp only [List.filter]; split
    · exact (nwf_cons _ _ _).mpr ⟨fun p hp => h1 p (List.mem_filter.mp hp).1, ih h2⟩
    · exact ih h2

theorem nget_ndel_same {α : Type} (m : NMap α) (k : Nat) (h : nwf m = true) : nget (ndel m k) k = none := by
  have none_above : ∀ (t : NMap α), nabove k t → nget t k = none := by
    intro t; induction t with
    | nil => intro _; rfl
    | cons q u ih => intro ha; rcases q with ⟨k', v'⟩
                     have := ha (k', v') (by simp)
                     simp only at this
                     simp only [nget]; rw [if_neg (by omega)]; exact ih fun p hp => ha p (by simp [hp])
  induction m with
  | nil => rfl
  | cons q t ih =>
    rcases q with ⟨k', v'⟩
    obtain ⟨h1, h2⟩ := (nwf_cons k' v' t).mp h
    simp only [ndel]; split
    · rename_i hk; subst hk; exact none_above t h1
    · rename_i hk; simp [nget, hk, ih h2]

/-! ### Registers (R6) -/

/-- A word of a register that lies within the register map. -/
def InMap (c i : Nat) : Prop := c < 256 ∧ i < 8192

theorem regKey_inj {r r' : RegId} {c c' i i' : Nat} (h : InMap c i) (h' : InMap c' i') (e : regKey r c i = regKey r' c' i') :
    r.ctorIdx = r'.ctorIdx ∧ c = c' ∧ i = i' := by
  obtain ⟨h1, h2⟩ := h; obtain ⟨h3, h4⟩ := h'
  unfold regKey at e
  omega

@[simp] theorem reg_setReg_same (d : Dev) (r : RegId) (c i : Nat) (v : Word) : reg (setReg d r c i v) r c i = v := by simp [reg, setReg]

theorem reg_setReg_ne (d : Dev) (r r' : RegId) (c c' i i' : Nat) (v : Word) (h : regKey r' c' i' ≠ regKey r c i) :
    reg (setReg d r c i v) r' c' i' = reg d r' c' i' := by simp [reg, setReg, ngetD_nset_ne _ _ _ _ _ h]

@[simp] theorem reg_bump_same (d : Dev) (r : RegId) (c i : Nat) : reg (bump d r c i) r c i = reg d r c i + 1 := by simp [bump, bumpBy]

theorem reg_bump_ne (d : Dev) (r r' : RegId) (c c' i i' : Nat) (h : regKey r' c' i' ≠ regKey r c i) : reg (bump d r c i) r' c' i' = reg d r' c' i' :=
  reg_setReg_ne _ _ _ _ _ _ _ _ h

/-! ### Chamber memory (R37, R40) -/

theorem memByte_memSet_same (m : List Host.Cell) (a : Nat) (b : Byte) (h : nwf m = true) : memByte (memSet m a b) a = b := by
  unfold memByte memSet; split
  · rename_i hb; simp [ngetD, nget_ndel_same m a h, hb]
  · simp

theorem memByte_memSet_ne (m : List Host.Cell) (a x : Nat) (b : Byte) (h : x ≠ a) : memByte (memSet m a b) x = memByte m x := by
  unfold memByte memSet; split
  · simp [ngetD, nget_ndel_ne m a x h]
  · exact ngetD_nset_ne _ _ _ _ _ h

theorem nset_all {α : Type} (m : NMap α) (k : Nat) (v : α) (f : Nat × α → Bool) (h : m.all f = true) (hv : f (k, v) = true) : (nset m k v).all f = true := by
  induction m with
  | nil => simp [nset, hv]
  | cons q t ih =>
    rcases q with ⟨k', v'⟩
    simp only [List.all_cons, Bool.and_eq_true] at h
    simp only [nset]; split
    · simp only [List.all_cons, hv, h.1, h.2, Bool.and_self]
    · split
      · simp only [List.all_cons, hv, h.2, Bool.and_self]
      · simp only [List.all_cons, h.1, ih h.2, Bool.and_self]

theorem memSet_wf (m : List Host.Cell) (a : Nat) (b : Byte) (h : Memory.wf m) : Memory.wf (memSet m a b) := by
  unfold memSet; split
  · refine ⟨nwf_ndel m a h.1, ?_⟩
    rw [List.all_eq_true] at *
    exact fun p hp => (List.all_eq_true.mp h.2) p (ndel_sub m a p hp)
  · rename_i hb
    exact ⟨nwf_nset m a b h.1, nset_all m a b _ h.2 (by simpa using hb)⟩

theorem memWrite_wf (m : List Host.Cell) (a : Nat) (l : List Byte) (h : Memory.wf m) : Memory.wf (memWrite m a l) := by
  induction l generalizing m a with
  | nil => exact h
  | cons b t ih => exact ih _ _ (memSet_wf m a b h)

theorem memClear_wf (m : List Host.Cell) (lo n : Nat) (h : Memory.wf m) : Memory.wf (memClear m lo n) := by
  refine ⟨nwf_filter m _ h.1, ?_⟩
  rw [List.all_eq_true]
  exact fun p hp => (List.all_eq_true.mp h.2) p (List.mem_filter.mp hp).1

theorem memByte_memWrite_out (m : List Host.Cell) (a x : Nat) (l : List Byte) (h : x < a ∨ a + l.length ≤ x) : memByte (memWrite m a l) x = memByte m x := by
  induction l generalizing m a with
  | nil => rfl
  | cons b t ih =>
    simp only [List.length_cons] at h
    simp only [memWrite]
    rw [ih _ _ (by omega), memByte_memSet_ne _ _ _ _ (by omega)]

theorem memRead_memWrite (m : List Host.Cell) (a : Nat) (l : List Byte) (h : Memory.wf m) : memRead (memWrite m a l) a l.length = l := by
  induction l generalizing m a with
  | nil => rfl
  | cons b t ih =>
    simp only [memWrite, List.length_cons, memRead]
    rw [memByte_memWrite_out _ _ _ _ (by omega), memByte_memSet_same _ _ _ h.1, ih _ _ (memSet_wf m a b h)]

end Sys2Proof.Machine
end

