-- ==== Sys2Proof/Laws/Access.lean ====
section
/-!
SUPPORT. What an accepted management access does, and what reaching a time does.
-/
namespace Sys2Proof.Machine
open Sys2Proof

theorem getPort_of (d e : Dev) (p : Nat) (h : d.ports = e.ports) : getPort d p = getPort e p := by simp [getPort, h]

theorem getConn_of (d e : Dev) (k : Nat) (h : d.conns = e.conns) : getConn d k = getConn e k := by simp [getConn, h]

@[simp] theorem getConn_setConn_same (d : Dev) (k : Nat) (c : Conn) : getConn (setConn d k c) k = c := by simp [getConn, setConn]

@[simp] theorem getConn_setReg (d : Dev) (r : RegId) (c i k : Nat) (v : Word) : getConn (setReg d r c i v) k = getConn d k := rfl

@[simp] theorem getConn_bump (d : Dev) (r : RegId) (c i k : Nat) : getConn (bump d r c i) k = getConn d k := rfl

@[simp] theorem getConn_reach (d : Dev) (t k : Nat) : getConn (reach d t) k = getConn d k := getConn_of _ _ _ (by simp)

@[simp] theorem getPort_reach (d : Dev) (t p : Nat) : getPort (reach d t) p = getPort d p := getPort_of _ _ _ (by simp)

/-- Local time never goes back when a time is reached. -/
theorem now_le_reach (d : Dev) (t : Nat) : d.now ≤ (reach d t).now := by unfold reach; split <;> simp; omega

/-- A time that has been reached is due. -/
@[simp] theorem due_reach (d : Dev) (t : Nat) : due (reach d t) t = true := by unfold due reach; split <;> simp_all

/-- Reaching a time that has passed changes nothing. -/
theorem reach_of_le (d : Dev) (t : Nat) (h : t ≤ d.now) : reach d t = d := by simp [reach, h]

@[simp] theorem reach_eta (d : Dev) (t : Nat) : { reach d t with now := d.now } = d := by unfold reach; split <;> rfl

@[simp] theorem reg_reach (d : Dev) (t : Nat) (r : RegId) (c i : Nat) : reg (reach d t) r c i = reg d r c i := by simp [reg]

@[simp] theorem cfld_reach (d : Dev) (t : Nat) (r : RegId) (c hi lo : Nat) : cfld (reach d t) r c hi lo = cfld d r c hi lo := by simp [cfld]

@[simp] theorem hfld_reach (d : Dev) (t : Nat) (r : RegId) (hi lo : Nat) : hfld (reach d t) r hi lo = hfld d r hi lo := by simp [hfld, hreg]

theorem operator_i3c (d : Dev) : operator d .i3c = false := rfl

/-- An accepted write takes its effect on the device whose access status has been noted (R389). -/
theorem command_accepted (d : Dev) (w : Writer) (r : RegId) (c i : Nat) (go : Dev → Dev) (h : Accepts d w r c) :
    command d w r c i (operator d w) go = go (asked d w r c i) := by
  obtain ⟨h1, h2, h3⟩ := h
  have hw : w ≠ .i3c := by rintro rfl; simp [operator_i3c] at h3
  simp [command, asked, h1, h2, h3, hw]

/-- A write that the path does not serve has no effect (R385, R392). -/
theorem command_unserved (d : Dev) (w : Writer) (r : RegId) (c i : Nat) (ok : Bool) (go : Dev → Dev) (h : served d w = false) :
    command d w r c i ok go = d := by simp [command, h]

/-- A write by a client that may not make it completes DENIED and does nothing else. -/
theorem command_denied (d : Dev) (w : Writer) (r : RegId) (c i : Nat) (go : Dev → Dev) (h1 : served d w = true)
    (h2 : ((regInfo r).hub.isNone && cellGone d c) = false) :
    command d w r c i false go = accessDone d w (regAddr r c i) acDenied := by simp [command, h1, h2]

/-- An accepted access writes no register but HUB_ACCESS_STATUS. -/
theorem reg_asked (d : Dev) (w : Writer) (r r' : RegId) (c i c' i' : Nat) (h : ∀ j, j < 6 → regKey r' c' i' ≠ regKey .HUB_ACCESS_STATUS 0 j) :
    reg (asked d w r c i) r' c' i' = reg d r' c' i' := by
  have hp : 2 * pathIdx w < 6 := by cases w <;> simp [pathIdx]
  simp [asked, accessDone, countAccess, acOk, acDenied, acMismatch]
  exact reg_setReg_ne _ _ _ _ _ _ _ _ (h _ hp)

/-- The meaning of a command is one operation of the device and what follows by itself. -/
theorem does_run (i : Instr) (s : State) (f : Dev → Dev) (h : exec i s = run s f) : Does i s (f s.dev) := h

end Sys2Proof.Machine
end

