-- ==== Sys2Proof/Tests/Slice0.lean ====
section
/-!
SUPPORT. The model's own tests: ill-formed terms that the well-formedness check refuses, the worked examples of the spec, and for every clause of the obligations a concrete state and
operands that meet all its hypotheses together.
-/
namespace Sys2Proof.Tests
set_option Elab.async false
open Sys2Proof Sys2Proof.Machine

/-- A device alone in SERVICE, with cell 0 online. -/
def svc : Dev := { pwr := { state := .service, inputGood := true }, ldr := { step := 15 }, med := [(0, { st := .online })], hbm := [(0, { st := .online })] }

/-- A state with an empty queue. -/
def st (d : Dev) : State := ⟨d, []⟩

/-- The management port's first connection. -/
def mp : Writer := .port 0

/-- Registers of cell c written from word i on. -/
def arg (d : Dev) (r : RegId) (c i : Nat) : List Word → Dev
  | [] => d
  | v :: l => arg (setReg d r c i v) r c (i + 1) l

/-- Chamber command arguments. -/
def chmArg (d : Dev) (l : List Word) : Dev := arg d .TIER_CHM_ARG 0 0 l

/-- A Local chamber of 8 pages. -/
def chmL : Chamber := { state := .active, cls := .localC, owner := 0, comp := false, xts := 0, set := 0, pref := 0, pages := 8 }

/-- A device with that chamber, number 3, and its XTS slot's key. -/
def svcC : Dev := { svc with chm.chambers := [(3, chmL)], sec.slots := [(0, { usage := 1, origin := 0, tenant := 0, mat := 7 })] }

/-- A key of the first 2 pages with every right. -/
def keyE : KeyEnt := { state := .live, gen := 1, chamber := 3, base := 0, len := 8, rd := true, wr := true, at_ := true, ps := true }

/-- Device 0 of a federation of four: cell 0's port takes hosts, port 1 leads to the twin, port 2 to the witness, device 2; every address belongs to tenant 0. -/
def svcF : Dev :=
  let d : Dev := { svcC with ldr.ident := ⟨0, some 2, 4, 4⟩, fab.topo := ⟨[4], [⟨0, 1, 1, 1, 2⟩, ⟨0, 2, 2, 2, 3⟩], 5⟩, cus.witness := some 2,
                             sec.slots := [(0, { usage := 1, origin := 0, tenant := 0, mat := 7 }), (20, { usage := 4, origin := 0, tenant := 0, mat := 77 })],
                             ports := [(0, { link := .up }), (1, { link := .up, passed := true }), (2, { link := .up, passed := true })] }
  arg (arg (arg d .FAB_PORT_ROLE 0 0 [0x321]) .FAB_CTRL_KEY 0 0 [20]) .TIER_ADMIT_WORD 0 4 [0x80000000]

/-- A data connection, number 1 of cell 0, generation 1, that expects PSN 5. -/
def conD : Conn := { state := .ready, gen := 1, version := 3, epsn := 5, npsn := 3, remoteQpn := 99, addr := 0x99 }

/-- A request of the device with PSN 3 that has not left. -/
def snt : Sent := { psn := 3, pkts := 1, opcode := 0xC6, bytes := 100, kind := .part 0 0, last := true, hold := false, persist := false, ts := 0, data := [], pmh := none }

/-- The address of device 0 under prefix 0. -/
def own0 : BitVec 128 := 0xA100000000000000

/-- A connect request of a host on port 0. -/
def cmq : CmReq := ⟨.port 0, 7, .plain, 0x1234, own0, false, 0, 20301, List.replicate 36 0 ++ [0x4F, 0x4D, 0x30, 0, 0, 0, 0, 0], 99, 3, 5⟩

/-- Page 3 of chamber 3, whose home is cell 0. -/
def pk : Nat := pageKey 3 3

/-- A write of 4 bytes into that page, issued, whose part stands as given. -/
def prt (t : PartState) : Part := { page := pk, cell := 0, lo := 0, n := 4, st := t, since := 60, ts := 0 }
def rq (k : ReqKind) (t : PartState) : Req :=
  { id := 8, conn := 1, psn := 5, pkts := 1, kind := k, ackReq := true, persist := false, keyIdx := 2, va := 49152, chamber := 3, off := 49152, len := 4, data := [1, 2, 3, 4], mark := [],
    arg := (0, 0), errs := [], stage := .issued, parts := [prt t], at_ := 50, ts := 0 }

/-- A plan of one entry over pages 0 to 7 of chamber 3. -/
def plE : PlanEnt := ⟨3, 0, 131072, none, 0⟩
def plP : Plan := { state := .running, entries := [plE], count := 1, look := 65536, key := 0x201 }

/-- The frame of page 3 in slot 0, with the page's line 2 modified. -/
def frm : Frame := { slot := 0, st := .modified, lines := [2], firstMod := 5 }

/-- A Mirrored chamber 3 held by this device, its page 3 in T1, and the mirror connection of cell 1's port as number 5 of cell 1. -/
def chmM : Chamber := { chmL with cls := .mirrored, holder := 0 }
def svcM : Dev := { svcF with chm.chambers := [(3, chmM)], conns := [(1025, { state := .ready, gen := 1, version := 3, epsn := 5, npsn := 3, remoteQpn := 99, service := .mirror, port := 1, remoteOrd := 1 })] }

/-- A frame of the twin on its mirror connection at the expected PSN, and one of a host on connection 1. -/
def oxhM (mirror : Bool) : Oxh := oxhOf 3 false false false mirror 0 0 1 0 1 50
def oxh : Oxh := oxhM true
def pkm (op : BitVec 8) : Pkt := ⟨1, 4, .plain, 200, true, 4791, 0x99, own0, 2, 64, op, 0x40401, 5, true, some oxh, []⟩
def pkh (op : BitVec 8) : Pkt := ⟨0, 3, .plain, 200, true, 4791, 0x99, own0, 2, 64, op, 0x40001, 5, true, none, []⟩

/-- The header of a response on the twin's port. -/
def rsp : RspPkt := ⟨1, 4, .plain, true, 4791, 0x98, some oxh⟩

/-- This device watches pair 2, whose odd twin is suspected; device 4 asks, having seen the record's claim. -/
def wat : Watch := { pair := 2, valid := true, cw := 5, suspOdd := true }
def ask : ClaimReq := ⟨4, 0, 0, 5, 9, 77⟩
def svcW (w : Watch) : Dev := { svcF with watch := [(2, w)] }

/-- A request of this device to its witness, and an answer to it that raises nothing. -/
def clo (k : ClaimKind) : ClaimOut := { kind := k, scope := 0, chamber := 0, number := 9, next := 70 }
def can (kind : BitVec 4) (claim : BitVec 48) : ClaimAns := ⟨0, kind, 0, false, 0, 0, 0, claim, 0, 9, 77⟩

/-- A PTP message on port 2 in domain 24. -/
def ptp : PtpHdr := ⟨2, .plain, 24⟩

/-- A calendar entry of a kind. -/
def ent (kind arg : Nat) : CalEnt := ⟨.posted, kind, 0, 7, 1000000, arg, 0⟩
def svcE (e : CalEnt) : Dev := { svcF with cal.ents := [(4, e)] }
def cpm : CalPostMsg := ⟨1, .plain, 7, 0, ⟨1000000, 7, 1, 0, 5⟩, 77⟩

/-- An act in progress at its coordinator, and a snapshot. -/
def run_ (ph : ActPhase) : ActRun := { op := 2, id := 7, kind := 2, time := 1000, arg := 1, phase := ph }
def snp (t : SnapState) : Snap := { state := t, set := 1, time := 1000, byMessage := false, chambers := [3] }

/-- A bulk command on connection 1. -/
def bpl : BulkPayload := ⟨false, false, 0, 6, 0x201, 0, 0, 0, 7, 16384, 0, 1, true⟩
def bcm (k : BulkKind) : BulkCmd := { id := 0, conn := 1, psn := 5, kind := k, pl := bpl, persist := false, before := 0 }
def svcB (c : BulkCmd) : Dev := { svcF with conns := [(1, conD)], bulk := { cmds := [c], next := 1 }, chm.keys := [(2, keyE)] }

/-- Rails, power and start. -/
def pwr_ (t : DevState) : Dev := { svcF with pwr.state := t }
def mov (e : Bool) (t : DevState) : Move := ⟨e, t, 3, 70⟩
def svcR (n : Nat) (r : Rail) : Dev := { svcF with pwr.rails := [(n, r)] }
def dir4 : List DirEnt := [⟨1, 320, 0, 0, true⟩, ⟨2, 320, 272, 34, true⟩, ⟨3, 640, 0, 0, true⟩, ⟨4, 640, 224, 2, true⟩]
def img : ImgCopy := ⟨true, imageMagic, 2, 4, 1, 1024, true, dir4, List.range 12, true, [⟨1, 1, 0, some 0, 0⟩, ⟨2, 1, 0, some 0, 0⟩], [], ⟨[1], 0, [], 5, true⟩, [], [], 0⟩
def sta (n : Nat) : Dev := { svcF with pwr.state := .starting, ldr.step := n }
def svcK (l : List Word) : Dev := arg svcF .KEY_ARG 0 0 l
def dz (t : DozeState) (n : Nat) : Dev := { svcF with ports := [(1, { link := .up, passed := true, doze := { st := t, seq := 6, deadline := n } })] }
def flt_ : Dev := { svcF with flt.fences := [(3, 9)] }

/-- A device whose port 0 runs MACsec under the CAK of slot 40, with the CKN 5. -/
def svcA : Dev := arg (arg { svcF with sec.slots := [(40, { usage := 2, origin := 0, tenant := 0, mat := 55 })] } .PORT_MACSEC_CFG 0 0 [0x80FF0028]) .PORT_MACSEC_CKN 0 3 [5]

/-- Host requests: connection 1 is READY, key 2 names page 3, which is in T1. -/
def svcH : Dev := { svcF with conns := [(1, conD)], chm.keys := [(2, { keyE with base := 12 })], tier.frames := [(pk, frm)], per.dirtyCredit := [(0, 100000)] }
def pkd (op : BitVec 8) : Pkt := { pkh op with oxh := some (oxhM false) }
def reth (va : BitVec 64) (n : BitVec 32) : Reth := ⟨0x201, va, n⟩

/-- The Vault's interface: an open sequence, an operation, a record. -/
def vsq (n : Nat) : VaultSeq := { owner := portConnKey 0, stage := n, since := 70 }
def svcV (q : VaultSeq) : Dev := { svcF with vlt.seq := some q }
def vop (k n : Nat) : VaultOp := { kind := k, off := 32, data := [1, 2, 3, 4, 5, 6, 7, 8], pulses := n }
def svcO (o : VaultOp) : Dev := { svcF with vlt.op := some o }
def rec_ : LogRec := ⟨1, 2, 3, 2, 5, 6, 0, 0, 0, false, 0, []⟩

/-- A management request: one write of one word to CAL_POST, and one that is malformed. -/
def mgm (n : BitVec 8) : MgmtMsg := ⟨[0x4D, 0x47, 1, n, 0, 0, 0, 1, 0, 0, 0, 0, 0, 0, 0, 0, 2, 1, 0, 0, 0, 0, 0x20, 0, 0, 0, 0, 5], 77⟩

/-- An internal requester's wait for a buffer of cell 4, a cipher job, and a control frame's way. -/
def bwt (u : WaitUse) : BufWait := ⟨4, 9, 64, false, 100, 500, 0, false, u⟩
def cpw : CiphWork := ⟨1, 4096, 1, false, none⟩
def via : CtrlVia := ⟨1, .plain⟩
def rc5 : ChmRecord := ⟨5, 1, 0, 0, false, 0, 0, 0, 8, 0, 0⟩
def slot_ (usage mat : Nat) : KeySlot := { usage := usage, origin := 0, tenant := 0, mat := mat }

/-- spec/02_cell_resources.md, example after R30: in cell 12, 14 buffers of pool C and 1 of pool D are in use. -/
def busy (coupled : Bool) : Dev :=
  let pools : List Nat := [2, 2, 2, 2, 2, 2, 2, 2, 2, 2, 2, 2, 2, 2, 3]
  { (if coupled then svcF else svc) with res.bufs := pools.zipIdx.map fun p => (12 * 1024 + poolFirst p.1 + (if p.1 = 2 then p.2 else 0), { requester := 0, refs := 1 }) }

/-- A TAG under the CONTROL key of svcF, and a route message with it. -/
def tg (l : List Byte) : BitVec 128 := Config.cmac 77 l
def signed (m : RouteAnn) : RouteAnn := { m with tag := tg (annBytes m) }

/-- svcF without its CONTROL key, and with every buffer of cell 0 in use. -/
def noKey : Dev := { svcF with sec.slots := [(0, slot_ 1 7)] }
def noBufs : Dev := { svcF with res.bufs := (List.range 658).map fun i => (i, { requester := 0, refs := 1 }) }

/-- A request of a host for device 1. -/
def fwf : FwdFrame := ⟨0, .plain, 0x99, 0xA100000000000001, 0x40001, false, false, false, 0, 4, false, 0, 0, 0, none, 100, 0⟩

/-- Channel 0 with its media, alone in SERVICE. -/
def onl : Media := { st := .online }
def mdd (m : Media) : Dev := { svcC with med := [(0, m)] }

/-- Page 3's promotion, its map entry and its loading frame. -/
def pro : Promo := { cls := .demand, deadline := 70 }
def svcP (p : Promo) : Dev := { svcC with tier.promos := [(pk, p)], tier.frames := [(pk, { slot := 0, st := .loading })], tier.map := [(pk, .stored 4 true 0 9)] }

/-- Page 3 modified and waiting for a destage, and every buffer of cell 0 in use. -/
def dst : Dev := { svcC with tier.frames := [(pk, frm)], tier.volQ := [pk] }
def dstX : Dev × Nat := (takeBufs dst 0 16384 0x1000 (usesReserve dst 0x1000)).getD (dst, 0)
def dstN : Dev := { dst with res.bufs := noBufs.res.bufs }

/-- Plan 5 loads its list of n entries, which stands in page 3. -/
def pln (d : Dev) (n : Nat) : Dev := { d with chm.keys := [(2, { keyE with base := 12 })], tier.planRun := some 5, tier.plans := [(5, { plP with state := .loading, entries := [], count := n })] }

/-- svcM with a request that has left on the mirror connection. -/
def svcS : Dev := { svcM with conns := [(1025, { getConn svcM 1025 with sent := [{ snt with left := true }] })] }

/-- Messages with their TAG under the CONTROL key of svcF. -/
def sgReq (k : Nat) (m : ClaimReq) : ClaimReq := { m with tag := tg (claimReqBytes m.requester.val k m.scope.toNat m.chamber.toNat m.cSeen.toNat m.number.toNat) }
def sgAns (m : ClaimAns) : ClaimAns :=
  { m with tag := tg (claimAnsBytes m.pair.toNat m.kind.toNat m.scope.toNat m.solo m.stale.toNat m.reason.toNat m.chamber.toNat m.claim.toNat m.grantee.val m.number.toNat) }
def sgSta (m : StatusAns) : StatusAns :=
  { m with tag := tg (statusBytes m.pair.toNat m.state.toNat m.stale m.yielded m.impairment.toNat m.claim.toNat m.sender.val m.marks) }
def sgCal (op : Nat) (m : CalPostMsg) : CalPostMsg := { m with tag := tg (calPostBytes m.act.toNat op m.result.toNat (wireEntry m.act.toNat m.entry)) }
def sgMode (op : Nat) (m : ModeMsg) : ModeMsg := { m with tag := tg (calPostBytes 0 op 0 (if op = 3 then noEntry else modeEntry m.generation.toNat m.epoch.toNat)) }
def sgTree (op : Nat) (m : TreeMsg) : TreeMsg := { m with tag := tg (treeBytes m.act.toNat op m.root.val (wireBroadcast m)) }
def sgGat (m : GatherMsg) : GatherMsg :=
  { m with tag := tg (gatherBytes m.act.toNat m.op.val m.mask.toNat m.accepted.toNat m.refused.toNat m.maxUnc.toNat m.firstRefuser.val) }

/-- A running load of one page whose piece has ended with a status, and slots of the key store with one more. -/
def ldc : BulkCmd := { bcm .load with state := .running, chamber := 3, issued := 16384, flight := [0] }
def ldr_ : Req := { rq .write .done with bulk := some (0, 0, 1), stage := .over stTierFail }
def svcQ (l : List Word) (k : Nat) (x : KeySlot) : Dev := { svcK l with sec.slots := [(k, x)] }

theorem tagOk_sg (d : Dev) (l : List Byte) (h : ctrlMat d = some 77) : tagOk d l (tg l) = true := by simp [tagOk, h, tg]

theorem ansOk_sg (d : Dev) (m : ClaimAns) (h : ctrlMat d = some 77) (hp : m.pair.toNat = pairNo d) : ansOk d (sgAns m) = true := by
  simp [ansOk, sgAns, tagOk_sg, h, hp]

theorem treeHeard_sg (d : Dev) (p : Nat) (sec : SecTag) (l : List Byte) (h : (ctrlHeard d p sec).2 = true) (hk : ctrlMat (ctrlHeard d p sec).1 = some 77) :
    treeHeard d p sec l (tg l) = ((ctrlHeard d p sec).1, true) := by
  unfold treeHeard
  generalize ctrlHeard d p sec = x at h hk
  rcases x with ⟨e, b⟩
  simp only at h hk
  subst h
  simp [tagOk_sg, hk]

theorem treeHeard_snd (d : Dev) (p : Nat) (sec : SecTag) (l : List Byte) (h : (ctrlHeard d p sec).2 = true) (hk : ctrlMat (ctrlHeard d p sec).1 = some 77) :
    (treeHeard d p sec l (tg l)).2 = true := by rw [treeHeard_sg d p sec l h hk]

theorem broadcast_sg (d : Dev) (op : Nat) (m : TreeMsg) (h : (ctrlHeard d m.port.val m.sec).2 = true) (hk : ctrlMat (ctrlHeard d m.port.val m.sec).1 = some 77) :
    broadcastHeard d (sgTree op m) op = ((ctrlHeard d m.port.val m.sec).1, true) := treeHeard_sg d m.port.val m.sec _ h hk

theorem gather_sg (d : Dev) (m : GatherMsg) (h : (ctrlHeard d m.port.val m.sec).2 = true) (hk : ctrlMat (ctrlHeard d m.port.val m.sec).1 = some 77) :
    gatherHeard d (sgGat m) = ((ctrlHeard d m.port.val m.sec).1, true) := treeHeard_sg d m.port.val m.sec _ h hk

/-- A TREE BROADCAST of device 1 on port 1. -/
def trm : TreeMsg := ⟨1, .plain, 7, 1, cpm.entry, 0⟩

/-- The device and the buffer that a mirror write of two bytes takes. -/
def tbM (d : Dev) : Dev × Nat := (takeBufs d 1 (messageBytes (pkm 0xCA) 2 4096) 0x400 false).getD (d, 0)
def mirH : Dev := { svcM with chm.chambers := [(3, { chmM with holder := 1 })] }

/-! ### Ill-formed terms are refused, one for each check -/

theorem test_wf_marks : (Instr.send { pkd 0xC4 with pmh := [none, none] } 4).wf = false := by decide
theorem test_wf_marks_write : (Instr.rdmaWrite { pkd 0xCA with pmh := [none] } (reth 0 4) [1]).wf = false := by decide
theorem test_wf_lanes : (Instr.rdmaReadRequest (pkd 0xCC) (reth 0 4) [⟨0, .t1, 0, 6, 67⟩]).wf = false := by decide
theorem test_wf_lanes_atomic : (Instr.fetchAndAdd (pkd 0xD4) (reth 0 8) 1 [⟨0, .t1, 1, 72, 1⟩]).wf = false := by decide
theorem test_wf_copy_page : (Instr.mirrorWrite (pkm 0xE0) ⟨3, 16256⟩ (List.replicate 256 1) true).wf = false := by decide +kernel
theorem test_wf_mirror_empty : (Instr.mirrorWrite (pkm 0xE0) ⟨3, 0⟩ [] false).wf = false := by decide
theorem test_wf_copy_lines : (Instr.mirrorWrite (pkm 0xE0) ⟨3, 64⟩ [1] true).wf = false := by decide
theorem test_wf_repair : (Instr.lineRepairAnswer rsp 5 0 [1] []).wf = false := by decide
theorem test_wf_pfc : (Instr.pfcFrameReceived ⟨3, [(1, 5), (1, 0)]⟩).wf = false := by decide
theorem test_wf_owner_hash : ({ img with ownerHash := [1] } : ImgCopy).wf = false := by decide
theorem test_wf_image : (Instr.imageLoadComplete { img with ownerHash := [1] } img).wf = false := by decide
theorem test_wf_chm_op : (Instr.chmCmdReserved (.port 0) 8).wf = false := by decide
theorem test_wf_plan_op : (Instr.planCmdReserved (.port 0) 1).wf = false := by decide
theorem test_wf_retire_op : (Instr.retireCmdReserved (.port 0) 0 5).wf = false := by decide
theorem test_wf_key_op : (Instr.keyCmdReserved (.port 0) 7).wf = false := by decide
theorem test_wf_act_op : (Instr.actCmdReserved (.port 0) 3).wf = false := by decide
theorem test_wf_claim_kind : (Instr.claimReservedKind ⟨⟨1, .plain⟩, ⟨4, 0, 0, 5, 9, 77⟩⟩ 7).wf = false := by decide
theorem test_wf_codeword : (Instr.mediaReadDone 3 0 [⟨8, 1, 0⟩] false).wf = false := by decide
theorem test_wf_scrub_lanes : (Instr.hbmScrubRead 3 ([4, 4], []) .chambersClean).wf = false := by decide
theorem test_wf_self_refresh : (Instr.selfRefreshExit [3, 3]).wf = false := by decide
theorem test_wf_worn : (Instr.flushComplete true true true 0 ⟨[], [(3, 64)]⟩).wf = false := by decide
theorem test_wf_bad_block : (Instr.channelTrainingDone [] [(3, ⟨true, some 1, [131072]⟩)]).wf = false := by decide
theorem test_wf_replay : (Instr.replayComplete [3, 3] []).wf = false := by decide
theorem test_wf_training : (Instr.channelTrainingDone [3, 3] []).wf = false := by decide
theorem test_wf_flush : (Instr.flushComplete true true true 0 ⟨[(3, 1), (3, 2)], []⟩).wf = false := by decide
/-- A well-formed command passes. -/
theorem test_wf_accepts : (Instr.rdmaWrite (pkd 0xCA) (reth 0 4) [1, 2, 3, 4]).wf = true := by decide

/-! ### Worked examples of the spec -/

/-- spec/00_scope.md, example after R7: die 5 of M37 is unit 0x5255. -/
theorem test_unit_of_a_die : uDie 37 5 = 0x5255 := by decide

/-- spec/01_architecture.md, example after R14: page 0x134C05 of chamber 0x02A0 is homed at cell 248. -/
theorem test_home_cell : homeCell 0x02A0 0x134C05 = 248 := by decide

theorem test_pool_falls_back : choosePool (busy true) 12 4214 false = some 3 := by decide +kernel
theorem test_pool_standalone_refuses : choosePool (busy false) 12 4214 false = none := by decide +kernel

/-- spec/03_chambers.md, example after R42: a cell with all media in service counts 13.95 TiB. -/
theorem test_usable_capacity : usableBytes { st := .online } = 1395 * 2 ^ 40 / 100 := by decide +kernel

/-- spec/03_chambers.md, example after R50: once index 0x42A is issued again at generation 8, key 0x00042A07 fails check 1. -/
theorem test_old_key_is_stale : keyClass { svc with chm.keys := [(0x42A, { keyE with gen := 8 })] } 0x00042A07 = some stKeyStale := by decide +kernel

/-- The device that a command leaves. -/
def devOf (o : Host.Outcome State Fault Refusal) (d : Dev) : Dev :=
  match o with
  | .next t => t.dev
  | _ => d

/-- spec/04_olisar_transport.md, example after R84: the original value 41 stands in the replay table, and the counter holds 42. -/
def ctrAt : Nat := chmAddr (keyOf svcH (reth 16376 8)).chamber (offOf svcH (reth 16376 8))
def svcN : Dev := { svcH with mem := memWrite [] ctrAt (leBytes 8 41) }
def fedOnce : Dev := devOf (exec (.fetchAndAdd (pkd 0xD4) (reth 16376 8) 1 []) (st svcN)) svcN
def fedTwice : Dev := devOf (exec (.fetchAndAdd (pkd 0xD4) (reth 16376 8) 1 []) (st fedOnce)) fedOnce

theorem test_counter_is_42 : leNat (memRead fedOnce.mem ctrAt 8) = 42 ∧ (getConn fedOnce 1).replay.map (fun e => (e.psn, e.orig)) = [(5, 41)] ∧ (getConn fedOnce 1).epsn = 6 := by decide +kernel
theorem test_duplicate_atomic : leNat (memRead fedTwice.mem ctrAt 8) = 42 ∧ (reg fedTwice .OMT_CNT 0 3).toNat = 1 ∧ (fedTwice.out.filter fun o => match o with
    | .atomicAck _ v => v == 41
    | _ => false).length = 2 := by decide +kernel

/-- spec/05_congestion.md, example after R99: three samples of a mirror connection over one twin link. -/
def win_ (w : Nat) : Dev := { svcM with conns := [(1025, { state := .ready, gen := 1, service := .mirror, win := { w := w } })] }

theorem test_window_first_decrease : (getConn (closeSample (win_ 65536) 1025 8000 0) 1025).win.w = 44564 := by decide +kernel
theorem test_window_second_decrease : (getConn (closeSample (win_ 44564) 1025 12000 0) 1025).win.w = 23173 := by decide +kernel
theorem test_window_clamped : (getConn (closeSample (win_ 23173) 1025 20000 0) 1025).win.w = 11586 ∧ (reg (closeSample (win_ 23173) 1025 20000 0) .OMT_CC_CNT 1 2).toNat = 1 := by decide +kernel
theorem test_window_additive : (getConn (closeSample (win_ 11586) 1025 4500 0) 1025).win.additive = true := by decide +kernel

/-- spec/08_tiers.md, example after R172: slots of plan 17. -/
def plan17 : List PlanEnt := [⟨0x1200, 0, 100663296, none, 0⟩, ⟨0x1200, 0x100002000, 40960, none, 0⟩, ⟨0x1201, 0, 67108864, none, 0⟩]

theorem test_plan_slots : planSlots { entries := plan17 } = 10243 ∧ entrySlots ⟨0x1200, 0x100002000, 40960, none, 0⟩ = 3 := by decide
theorem test_plan_slot_7000 : (slotAt plan17 0 7000).map (fun x => (x.2.1.chamber, x.2.2)) = some (0x1201, 853) ∧ homeCell 0x1201 853 = 69 := by decide

/-- spec/12_time_and_global_ops.md, example after R264: u is 1,000 ns after 19.52 s of holdover from 24 ns and 6,024 ns after 120 s, and 1,000 ns once 2,225 ns of 3,200 ns are slewed. -/
theorem test_holdover_u : uncertainty { svc with now := 19520000000, tim.st := .holdover, tim.uBase := 24 } = 1000 ∧
    uncertainty { svc with now := 120000000000, tim.st := .holdover, tim.uBase := 24 } = 6024 := by decide +kernel
theorem test_slewing_u : uncertainty { svc with now := 222500000, tim.st := .slewing, tim.rem := -3200 } = 1000 := by decide +kernel

/-- spec/17_faults_and_events.md, example after R375: the capture of the read of connection 412 of cell 12. -/
theorem test_capture_words :
    let c := some (captureInto none ⟨0, 0x0B, uHbm 77, 412, 12, 1, 0x123456 * 128, 0, 0, 0⟩)
    captureWords c 0 = 0x8000000B ∧ captureWords c 1 = 0x304D019C ∧ captureWords c 2 = 0x1000000C ∧ captureWords c 4 = 0x091A2B00 := by decide

/-- spec/19_register_reference.md, its example: unit 0x304D has its block at 0x014D5000, in cell 77. -/
theorem test_unit_block : unitBlock 0x304D = 0x014D5000 ∧ cellOfUnit 0x304D = some 77 := by decide

/-- spec/06_federation_fabric.md, example after R115: the links of the two routes from device 5,000 to device 8,201, with the occupancies of the example on the ports of 5,000. -/
def bigofin (self : Nat) : Dev :=
  let up : LsRec := ⟨1, 0x55555, 0⟩
  let ls : List TopoLink := [⟨5000, 1, 5041, 1, 3⟩, ⟨5000, 2, 5001, 1, 3⟩, ⟨5041, 2, 8205, 1, 4⟩, ⟨8205, 2, 8201, 1, 3⟩, ⟨5001, 2, 9781, 1, 4⟩, ⟨9781, 2, 9767, 1, 3⟩, ⟨9767, 2, 8215, 1, 4⟩, ⟨8215, 2, 8201, 2, 3⟩]
  { svc with ldr.ident := ⟨self, none, 4, 4⟩, fab.topo := ⟨[], ls, 0⟩,
             fab.db := [(5000, up), (5001, up), (5041, up), (8201, up), (8205, up), (8215, up), (9767, up), (9781, up)],
             ports := [(1, { queue := [⟨0, 245760, 0, .ctrl 0 0 [], none⟩] }), (2, { queue := [⟨0, 98304, 0, .ctrl 0 0 [], none⟩] })] }

theorem test_source_takes_the_longer_way : nextHop (bigofin 5000) (hopSet (bigofin 5000) 1 0 8201) 0 = .port 2 true := by decide +kernel
theorem test_second_hop_is_global : nextHop (bigofin 5001) (hopSet (bigofin 5001) 3 0 8201) 0 = .port 2 true := by decide +kernel
theorem test_third_group : nextHop (bigofin 9781) (hopSet (bigofin 9781) 4 1 8201) 0 = .port 2 false ∧ nextHop (bigofin 9767) (hopSet (bigofin 9767) 3 1 8201) 0 = .port 2 false := by decide +kernel
theorem test_last_hop : nextHop (bigofin 8215) (hopSet (bigofin 8215) 4 1 8201) 0 = .port 2 false := by decide +kernel

/-! ### Witnesses: every clause of every obligation has its hypotheses met together -/


theorem witness_InternalWaits :
    (∃ (s : State) (c : CellNo) (who : Nat) (w : BufWait), s.dev.res.waits = [w] ∧ w.cell = c.val ∧ w.requester = who) ∧
    (∃ (s : State) (c : CellNo) (who : Nat) (k : Nat) (w : BufWait) (x : Dev × Nat), 
    let d := reachO s.dev (retryTime s.dev c.val who)
    s.dev.res.waits = [w] ∧ w.cell = c.val ∧ w.requester = who ∧ w.use = .promotion k ∧ takeBufs { d with res.waits := [] } c.val w.size who (usesReserve d who) = some x) ∧
    (∃ (s : State) (c : CellNo) (who : Nat) (k : Nat) (w : BufWait), 
    let d := reachO s.dev (retryTime s.dev c.val who)
    s.dev.res.waits = [w] ∧ w.cell = c.val ∧ w.requester = who ∧ w.use = .promotion k ∧ takeBufs { d with res.waits := [] } c.val w.size who (usesReserve d who) = none) ∧
    (∃ (s : State) (c : CellNo) (who : Nat) (w : BufWait), s.dev.res.waits = [w] ∧ w.cell = c.val ∧ w.requester = who ∧ waitsBuffer w = true ∧ w.noticed = false) := by
  refine ⟨⟨st {svc with res.waits := [bwt (.comp 0 0)]}, 4, 9, bwt (.comp 0 0), by decide +kernel⟩,
    ⟨st {svcF with res.waits := [bwt (.promotion pk)]}, 4, 9, pk, bwt (.promotion pk), ((takeBufs (reach svcF 500) 4 64 9 false).getD (svcF, 0)), by decide +kernel⟩,
    ⟨st {busy false with res.waits := [{ bwt (.promotion pk) with cell := 12, size := 4214 }]}, 12, 9, pk, { bwt (.promotion pk) with cell := 12, size := 4214 }, by decide +kernel⟩,
    ⟨st {svc with res.waits := [bwt (.promotion pk)]}, 4, 9, bwt (.promotion pk), by decide +kernel⟩⟩


theorem witness_EngineTurns :
    (∃ (s : State) (c : CellNo) (pipe : Fin 9) (r : PipeRun), 
    let e := getEng s.dev c.val
    nget e.pipes pipe.val = some r ∧ r.work.segments = 1) ∧
    (∃ (s : State) (c : CellNo) (slot : Nat), 
    let f := ngetD s.dev.sec.fetching c.val []
    f.contains slot = true) ∧
    (∃ (s : State), s.dev.sec.stopped = false) ∧
    (∃ (s : State) (c : CellNo), s.dev.sec.engineStopped.contains c.val = false) := by
  refine ⟨⟨st {svc with res.eng := [(4, { pipes := [(8, ⟨0, 0, cpw⟩)] })]}, 4, 8, ⟨0, 0, cpw⟩, by decide +kernel⟩,
    ⟨st {svc with sec.fetching := [(4, [12])]}, 4, 12, by decide +kernel⟩,
    ⟨st svc, by decide +kernel⟩,
    ⟨st svc, 4, by decide +kernel⟩⟩


theorem witness_ChamberCommands :
    (∃ (s : State) (w : Writer) (n : Nat), 
    let d := chmAsked s.dev w 1
    let a := carg d 0
    let cls := classOf (fld a 31 30)
    let pages := carg2 d 1 4
    Accepts s.dev w .TIER_CHM_CMD 0 ∧ s.dev.chm.run = none ∧ freeChamber d = some n ∧ cls ≠ .mirrored ∧ fld a 28 27 ≠ 3 ∧ 0 < pages ∧ pages ≤ 2 ^ 36 ∧ xtsSlotOk d (fld (carg d 3) 11 0) (fld a 11 0) = true ∧ spaceOk d n 0 pages cls = true) ∧
    (∃ (s : State) (w : Writer) (c : Chamber), 
    let d := chmAsked s.dev w 2
    let n := fld (carg d 0) 15 0
    let pages := carg2 d 1 4
    Accepts s.dev w .TIER_CHM_CMD 0 ∧ s.dev.chm.run = none ∧ nget d.chm.chambers n = some c ∧ chamberBar d c = none ∧ 0 < pages ∧ pages ≤ 2 ^ 36 ∧ spaceOk d n c.pages pages c.cls = true ∧ ¬ (pages < c.pages ∧ keyBeyond d n pages = true)) ∧
    (∃ (s : State) (w : Writer) (c : Chamber), 
    let d := chmAsked s.dev w 3
    let n := fld (carg d 0) 15 0
    Accepts s.dev w .TIER_CHM_CMD 0 ∧ s.dev.chm.run = none ∧ nget d.chm.chambers n = some c ∧ chamberBar d c = none ∧ snapshotOf d n = false) ∧
    (∃ (s : State) (w : Writer) (c : Chamber), 
    let d := chmAsked s.dev w 4
    let a := carg d 0
    let n := fld a 15 0
    let owner := fld (carg d 1) 11 0
    Accepts s.dev w .TIER_CHM_CMD 0 ∧ s.dev.chm.run = none ∧ nget d.chm.chambers n = some c ∧ chamberBar d c = none ∧ fld a 28 27 ≠ 3 ∧ xtsSlotOk d c.xts owner = true) := by
  refine ⟨⟨st (chmArg {svcC with ldr.ident := {}} [0x40000000, 4, 0, 0]), mp, 0, by decide +kernel⟩,
    ⟨st (chmArg svcC [3, 4, 0, 0]), mp, chmL, by decide +kernel⟩,
    ⟨st (chmArg svcC [3]), mp, chmL, by decide +kernel⟩,
    ⟨st (chmArg svcC [0x30000003, 0]), mp, chmL, by decide +kernel⟩⟩


theorem witness_ChamberLifeCycle :
    (∃ (s : State) (n : Fin 65536) (b : Bool) (c : Chamber), 
    let d := s.dev
    d.chm.run = some (.create n.val none b) ∧ nget d.chm.chambers n.val = some c) ∧
    (∃ (s : State) (n : Fin 65536) (c : Chamber), 
    let d := s.dev
    nget d.chm.chambers n.val = some c ∧ c.state = .draining ∧ unapplied d (fun r => r.chamber == n.val) = false ∧ d.chm.run = some (.delete n.val) ∧ ((∀ p ∈ d.chm.keys, p.2.chamber ≠ n.val)) ∧ c.cls ≠ .mirrored) ∧
    (∃ (s : State) (n : Fin 65536) (c : Chamber), nget s.dev.chm.chambers n.val = some c ∧ c.state = .releasing ∧ c.cls ≠ .mirrored) := by
  refine ⟨⟨st {svc with chm.chambers := [(3, {chmL with state := .creating})], chm.run := some (.create 3 none true)}, 3, true, {chmL with state := .creating}, by decide +kernel⟩,
    ⟨st {svc with chm.chambers := [(3, {chmL with state := .draining})], chm.run := some (.delete 3)}, 3, {chmL with state := .draining}, by decide +kernel⟩,
    ⟨st {svc with chm.chambers := [(3, {chmL with state := .releasing})]}, 3, {chmL with state := .releasing}, by decide +kernel⟩⟩


theorem witness_MirroredCreate :
    (∃ (s : State) (v : CtrlVia) (r : ChmRecord), 
    let d := ctrlOf s.dev v
    Hears s.dev v ∧ xtsSlotOk d r.xts.val r.owner.val = true ∧ nget d.chm.chambers r.number.val = none) ∧
    (∃ (s : State) (v : CtrlVia) (r : ChmRecord), 
    let d := ctrlOf s.dev v
    Hears s.dev v ∧ xtsSlotOk d r.xts.val r.owner.val = false) ∧
    (∃ (s : State) (n : Fin 65536) (t : Nat) (b : Bool), s.dev.chm.run = some (.create n.val (some t) b)) ∧
    (∃ (s : State) (v : CtrlVia) (n : Fin 65536) (t : Nat) (b : Bool), 
    let d := ctrlOf s.dev v
    Hears s.dev v ∧ d.chm.run = some (.create n.val (some t) b)) ∧
    (∃ (s : State) (n : Fin 65536) (t : Nat), nget s.dev.chm.releases n.val = some t ∧ s.dev.cus.state = .joined) ∧
    (∃ (s : State) (v : CtrlVia), Hears s.dev v) ∧
    (∃ (s : State) (v : CtrlVia) (n : Fin 65536) (c : Chamber), 
    let d := ctrlOf s.dev v
    Hears s.dev v ∧ nget d.chm.chambers n.val = some c ∧ c.state = .creating ∧ c.byTwin = true) ∧
    (∃ (s : State) (v : CtrlVia) (r : ChmRecord), 
    let d := ctrlOf s.dev v
    Hears s.dev v ∧ r.holder.val ≠ ordinal d ∧ r.state.val = 2 ∧ nget d.chm.chambers r.number.val = none) := by
  refine ⟨⟨st svcF, via, rc5, by decide +kernel⟩,
    ⟨st {svcF with sec.slots := [(20, slot_ 4 77)]}, via, rc5, by decide +kernel⟩,
    ⟨st {svc with chm.run := some (.create 3 (some 70) false)}, 3, 70, false, by decide +kernel⟩,
    ⟨st {svcF with chm.run := some (.create 3 (some 70) false)}, via, 3, 70, false, by decide +kernel⟩,
    ⟨st {svc with chm.releases := [(3, 70)]}, 3, 70, by decide +kernel⟩,
    ⟨st {svcF with chm.releases := [(3, 70)]}, via, by decide +kernel⟩,
    ⟨st {svcF with chm.chambers := [(3, {chmL with state := .creating, byTwin := true})]}, via, 3, {chmL with state := .creating, byTwin := true}, by decide +kernel⟩,
    ⟨st svcF, via, { rc5 with state := 2, holder := 1 }, by decide +kernel⟩⟩


theorem witness_KeyCommands :
    (∃ (s : State) (w : Writer) (c : Chamber) (i : Nat), 
    let d := chmAsked s.dev w 5
    let a := carg d 0
    let n := fld a 15 0
    let base := carg2 d 1 5
    let len := carg2 d 3 5
    let m := carg d 5
    Accepts s.dev w .TIER_CHM_CMD 0 ∧ s.dev.chm.run = none ∧ nget d.chm.chambers n = some c ∧ issueIndex d = some i ∧ chamberBar d c = none ∧ ¬ (fbit a 31 = true ∧ c.cls = .volatileC) ∧ 0 < len ∧ base + len ≤ c.pages * 4 ∧ ¬ (fbit m 31 = true ∧ 16383 < (carg d 6).toNat)) ∧
    (∃ (s : State) (w : Writer), 
    let d := chmAsked s.dev w 6
    let i := (carg d 0).toNat / 256
    let e := ngetD d.chm.keys i {}
    Accepts s.dev w .TIER_CHM_CMD 0 ∧ s.dev.chm.run = none ∧ e.state = .live ∧ e.gen = (carg d 0).toNat % 256 ∧ (nget d.chm.chambers e.chamber).bind (chamberBar d) = none) ∧
    (∃ (s : State) (w : Writer), Accepts s.dev w .TIER_CHM_CMD 0 ∧ s.dev.chm.run = none) ∧
    (∃ (s : State) (w : Writer) (c : Chamber), 
    let d := chmAsked s.dev w 8
    Accepts s.dev w .TIER_CHM_CMD 0 ∧ s.dev.chm.run = none ∧ nget d.chm.chambers (fld (carg d 0) 15 0) = some c) ∧
    (∃ (s : State) (w : Writer) (op : Fin 16), reservedOp 8 op = true ∧ Accepts s.dev w .TIER_CHM_CMD 0 ∧ s.dev.chm.run = none) := by
  refine ⟨⟨st (chmArg svcC [3, 0, 0, 4, 0, 0, 0]), mp, chmL, 1, by decide +kernel⟩,
    ⟨st (chmArg {svcC with chm.keys := [(2, keyE)]} [0x201]), mp, by decide +kernel⟩,
    ⟨st (chmArg {svcC with chm.keys := [(2, keyE)]} [0x201]), mp, by decide +kernel⟩,
    ⟨st (chmArg svcC [3]), mp, chmL, by decide +kernel⟩,
    ⟨st svc, mp, 9, by decide +kernel⟩⟩


theorem witness_KeyLifeCycle :
    (∃ (s : State) (i : BitVec 24), s.dev.chm.run = some (.invalidate i.toNat) ∧ unapplied s.dev (fun r => r.keyIdx == i.toNat) = false) ∧
    (∃ (s : State) (i : BitVec 24) (e : KeyEnt) (t : Nat), nget s.dev.chm.keys i.toNat = some e ∧ e.state = .quarantine ∧ e.qEnd = some t ∧ inService3 s.dev = true) := by
  refine ⟨⟨st {svcC with chm.keys := [(2, {keyE with inval := true})], chm.run := some (.invalidate 2)}, 2, by decide +kernel⟩,
    ⟨st {svcC with chm.keys := [(2, {keyE with state := .quarantine, qEnd := some 70})]}, 2, {keyE with state := .quarantine, qEnd := some 70}, 70, by decide +kernel⟩⟩


theorem witness_ConnectionManager :
    (∃ (s : State) (q : CmReq) (p : CellNo) (c : Nat) (v : Nat) (t : Nat) (i : Nat), 
    let x := cmArrives s.dev p.val q.pcp.val q.srcAddr.toNat q.sec
    let d := x.1
    q.via = .port p ∧ x.2 = true ∧ cmForMe d q.dst.toNat = true ∧ q.service.toNat = 20301 ∧ inService3 d = true ∧ ((portRole d p.val = 1 ∨ q.fromDevice = true)) ∧ reqCell d p.val = some c ∧ cellFenced d c = false ∧ txOn d c = true ∧ chooseVersion (offered q.priv).1 (offered q.priv).2 (minVer d c) (maxVer d c) = some v ∧ tenantOf d q.srcAddr.toNat = some t ∧ connQuotaOk d t = true ∧ (((List.range 1023).map (· + 1)).find? fun i => (getConn d (connKey c i)).state == .free) = some i) ∧
    (∃ (s : State) (q : CmReq) (p : CellNo), 
    let x := cmArrives s.dev p.val q.pcp.val q.srcAddr.toNat q.sec
    q.via = .port p ∧ x.2 = true ∧ cmForMe x.1 q.dst.toNat = true ∧ q.service.toNat ≠ 20301 ∧ q.service.toNat ≠ 20302) ∧
    (∃ (s : State) (m : CmMsg) (p : CellNo) (k : Nat), 
    let x := cmArrives s.dev p.val m.pcp.val m.srcAddr.toNat m.sec
    m.via = .port p ∧ x.2 = true ∧ connOfQpn x.1 m.qpn.toNat = some k ∧ (getConn x.1 k).state = .connecting) ∧
    (∃ (s : State) (m : CmMsg) (p : CellNo) (k : Nat), 
    let x := cmArrives s.dev p.val m.pcp.val m.srcAddr.toNat m.sec
    m.via = .port p ∧ x.2 = true ∧ connOfQpn x.1 m.qpn.toNat = some k ∧ (getConn x.1 k).state = .ready) ∧
    (∃ (s : State) (m : CmMsg), m.via = .mgmt ∧ served s.dev (.port 0) = true ∧ (getConn s.dev (portConnKey (m.qpn.toNat % 16))).state = .connecting) := by
  refine ⟨⟨st svcF, cmq, 0, 0, 3, 0, 1, by decide +kernel⟩,
    ⟨st svcF, {cmq with service := 9}, 0, by decide +kernel⟩,
    ⟨st {svcF with conns := [(1, {conD with state := .connecting})]}, ⟨.port 0, 7, .plain, 0x99, 0x40001⟩, 0, 1, by decide +kernel⟩,
    ⟨st {svcF with conns := [(1, conD)]}, ⟨.port 0, 7, .plain, 0x99, 0x40001⟩, 0, 1, by decide +kernel⟩,
    ⟨st {svcF with conns := [(0x40003, {conD with state := .connecting})]}, ⟨.mgmt, 7, .plain, 0, 0x40003⟩, by decide +kernel⟩⟩


theorem witness_ConnectionEnds :
    (∃ (s : State) (k : Fin 262160), 
    let c := getConn s.dev k.val
    c.state = .connecting) ∧
    (∃ (s : State) (k : Fin 262160), 
    let c := getConn s.dev k.val
    c.state = .draining ∧ (s.dev.reqs.all fun r => r.conn != k.val) = true ∧ (s.dev.bulk.cmds.all fun b => b.conn != k.val) = true) ∧
    (∃ (s : State) (k : Fin 262160), 
    let c := getConn s.dev k.val
    c.state = .error ∧ (s.dev.reqs.all fun r => r.conn != k.val || !isChange r.kind || (r.parts != [] && r.parts.all fun p => !pendingPart p.st)) = true) ∧
    (∃ (s : State) (k : Fin 262160), 
    let c := getConn s.dev k.val
    c.state = .quarantine ∧ inService3 s.dev = true) := by
  refine ⟨⟨st {svcF with conns := [(1, {conD with state := .connecting, deadline := 70})]}, 1, by decide +kernel⟩,
    ⟨st {svcF with conns := [(1, {conD with state := .draining})]}, 1, by decide +kernel⟩,
    ⟨st {svcF with conns := [(1, {conD with state := .error})]}, 1, by decide +kernel⟩,
    ⟨st {svcF with conns := [(1, {conD with state := .quarantine, deadline := 70})]}, 1, by decide +kernel⟩⟩


theorem witness_ConnectionTimers :
    (∃ (s : State) (k : ConnNo) (t : Nat), 
    let c := getConn s.dev k.val
    let d := bump (reach s.dev t) .OMT_CNT (connCell k.val) 5
    c.state = .ready ∧ c.timer = some t ∧ c.retries < retryLimit d (connCell k.val)) ∧
    (∃ (s : State) (k : ConnNo) (t : Nat), 
    let c := getConn s.dev k.val
    let d := bump (reach s.dev t) .OMT_CNT (connCell k.val) 5
    c.state = .ready ∧ c.timer = some t ∧ retryLimit d (connCell k.val) ≤ c.retries) ∧
    (∃ (s : State) (k : ConnNo) (t : Nat), 
    let c := getConn s.dev k.val
    c.rnrUntil = some t) ∧
    (∃ (s : State) (k : ConnNo) (t : Nat), 
    let c := getConn s.dev k.val
    c.unackedAt = some t) ∧
    (∃ (s : State) (k : ConnNo) (x : Sent), 
    let c := getConn s.dev k.val
    let d := reach s.dev (paceEnd s.dev k.val x.bytes)
    c.sent = [x] ∧ x.left = false ∧ mayLeave d k.val x = true) := by
  refine ⟨⟨st {svcF with conns := [(1, {conD with timer := some 70, sent := [snt]})]}, 1, 70, by decide +kernel⟩,
    ⟨st {svcF with conns := [(1, {conD with timer := some 70, sent := [snt], retries := 7})]}, 1, 70, by decide +kernel⟩,
    ⟨st {svcF with conns := [(1, {conD with rnrUntil := some 70, sent := [snt]})]}, 1, 70, by decide +kernel⟩,
    ⟨st {svcF with conns := [(1, {conD with unackedAt := some 70, ackPsn := 4})]}, 1, 70, by decide +kernel⟩,
    ⟨st {svcF with conns := [(1, {conD with sent := [snt], win.lastLeft := some 70, win.w := 4096})]}, 1, snt, by decide +kernel⟩⟩


theorem witness_PauseAndFences :
    (∃ (s : State) (m : PfcFrame) (pcp : Fin 8) (q : BitVec 16), 
    let p := m.port.val
    let d := bump s.dev .PORT_CNG_CNT p 1
    let v := getPort d p
    m.quanta = [(pcp, q)] ∧ pcp.val ≠ 7 ∧ q.toNat ≠ 0 ∧ pfcOn d p = true ∧ nget v.rx pcp.val = none) ∧
    (∃ (s : State) (p : CellNo) (pcp : Fin 8) (e : Nat) (t : Nat), nget (getPort s.dev p.val).rx pcp.val = some (e, t)) ∧
    (∃ (s : State) (p : CellNo) (g : Fin 3) (t : Nat) (e : Nat), nget (getPort s.dev p.val).xoff g.val = some (t, e) ∧ pfcOn s.dev p.val = true ∧ txOn s.dev p.val = true) ∧
    (∃ (s : State) (p : CellNo) (pcp : Fin 8) (e : Nat) (t : Nat), 
    let d := reach s.dev (tickAfter (t + msLimit (cfld s.dev .PORT_PFC_CFG p.val 23 16)))
    nget (getPort s.dev p.val).rx pcp.val = some (e, t) ∧ pfcOn s.dev p.val = true ∧ d.now < e ∧ (getPort s.dev p.val).fence = none) ∧
    (∃ (s : State) (p : CellNo) (g : Fin 3) (e : Nat) (t : Nat), nget (getPort s.dev p.val).xoff g.val = some (t, e) ∧ (getPort s.dev p.val).fence = none) ∧
    (∃ (s : State) (w : Writer) (p : CellNo) (cause : Nat) (cls : Nat), Accepts s.dev w .PORT_FENCE p.val ∧ (getPort s.dev p.val).fence = some (cause, cls) ∧ ((cause = 1 ∨ cause = 2))) := by
  refine ⟨⟨st svcF, ⟨1, [(3, 0xFFFF)]⟩, 3, 0xFFFF, by decide +kernel⟩,
    ⟨st {svcF with ports := [(1, {link := .up, rx := [(3, 70, 20)], pauseFrom := some 20})]}, 1, 3, 70, 20, by decide +kernel⟩,
    ⟨st {svcF with ports := [(1, {link := .up, xoff := [(0, 20, 70)]})]}, 1, 0, 20, 70, by decide +kernel⟩,
    ⟨st {svcF with ports := [(1, {link := .up, rx := [(3, 10000000000, 20)]})]}, 1, 3, 10000000000, 20, by decide +kernel⟩,
    ⟨st {svcF with ports := [(1, {link := .up, xoff := [(0, 20, 70)]})]}, 1, 0, 70, 20, by decide +kernel⟩,
    ⟨st {svcF with ports := [(1, {link := .up, fence := some (2, 1)})]}, mp, 1, 2, 1, by decide +kernel⟩⟩


theorem witness_NeighbourIdentity :
    (∃ (s : State) (p : CellNo) (far : Nat) (fp : Nat) (r : Nat), 
    let q := getPort s.dev p.val
    fabricPort s.dev p.val = true ∧ isDown s.dev = false ∧ q.fence = none ∧ farEnd s.dev (ordinal s.dev) p.val = some (far, fp, r)) ∧
    (∃ (s : State) (m : Hello) (fp : Nat), 
    let x := macGate s.dev m.port.val m.sec
    x.2 = true ∧ isDown x.1 = false ∧ fabricPort x.1 m.port.val = true ∧ (getPort x.1 m.port.val).link = .up ∧ farEnd x.1 (ordinal x.1) m.port.val = some (m.ordinal.val, m.sentPort.val, fp) ∧ m.role.toNat = portRole x.1 m.port.val ∧ m.digest.toNat = x.1.fab.topo.digest) ∧
    (∃ (s : State) (m : Hello) (o : Nat) (fp : Nat) (r : Nat), 
    let x := macGate s.dev m.port.val m.sec
    x.2 = true ∧ isDown x.1 = false ∧ fabricPort x.1 m.port.val = true ∧ (getPort x.1 m.port.val).link = .up ∧ farEnd x.1 (ordinal x.1) m.port.val = some (o, fp, r) ∧ o ≠ m.ordinal.val) ∧
    (∃ (s : State) (p : CellNo), fabricPort s.dev p.val = true ∧ (getPort s.dev p.val).link = .up ∧ isDown s.dev = false) ∧
    (∃ (s : State) (p : CellNo), fabricPort s.dev p.val = true ∧ (getPort s.dev p.val).link = .up ∧ isDown s.dev = false) ∧
    (∃ (s : State) (p : CellNo) (t : Nat), (getPort s.dev p.val).retryAt = some t) := by
  refine ⟨⟨st svcF, 1, 1, 1, 2, by decide +kernel⟩,
    ⟨st svcF, ⟨1, .plain, 1, 1, 2, 5⟩, 2, by decide +kernel⟩,
    ⟨st svcF, ⟨1, .plain, 2, 1, 2, 5⟩, 1, 1, 2, by decide +kernel⟩,
    ⟨st svcF, 1, by decide +kernel⟩,
    ⟨st svcF, 1, by decide +kernel⟩,
    ⟨st {svcF with ports := [(1, {link := .up, retryAt := some 70})]}, 1, 70, by decide +kernel⟩⟩


theorem witness_LinkStateDatabase :
    (∃ (s : State) (m : LinkStateMsg), 
    let x := ctrlHeard s.dev m.port.val m.sec
    x.2 = true ∧ nget x.1.fab.db m.origin.val = none) ∧
    (∃ (s : State) (m : LinkStateMsg) (r : LsRec), 
    let x := ctrlHeard s.dev m.port.val m.sec
    x.2 = true ∧ nget x.1.fab.db m.origin.val = some r ∧ m.seq.toNat ≤ r.seq) ∧
    (∃ (s : State), 5 ≤ s.dev.ldr.step ∧ isDown s.dev = false) ∧
    (∃ (s : State) (o : Ordinal) (r : LsRec), nget s.dev.fab.db o.val = some r ∧ o.val ≠ ordinal s.dev) ∧
    (∃ (s : State) (t : Nat), s.dev.fab.convFrom = some t) := by
  refine ⟨⟨st svcF, ⟨1, .plain, 1, 9, 5⟩, by decide +kernel⟩,
    ⟨st {svcF with fab.db := [(1, ⟨9, 5, 0⟩)]}, ⟨1, .plain, 1, 9, 5⟩, ⟨9, 5, 0⟩, by decide +kernel⟩,
    ⟨st svcF, by decide +kernel⟩,
    ⟨st {svcF with fab.db := [(1, ⟨9, 5, 7⟩)]}, 1, ⟨9, 5, 7⟩, by decide +kernel⟩,
    ⟨st {svcF with fab.convFrom := some 70}, 70, by decide +kernel⟩⟩


theorem witness_PairRoutes :
    (∃ (s : State) (m : RouteAnn) (e : PairRoute), 
    let x := ctrlHeard s.dev m.port.val m.sec
    x.2 = true ∧ tagOk x.1 (annBytes m) m.tag = true ∧ m.holder.val / 2 = m.pair.toNat ∧ nget x.1.fab.pairs m.pair.toNat = some e ∧ e.claim < m.claim.toNat) ∧
    (∃ (s : State) (m : RouteAnn) (e : PairRoute), 
    let x := ctrlHeard s.dev m.port.val m.sec
    x.2 = true ∧ tagOk x.1 (annBytes m) m.tag = true ∧ m.holder.val / 2 = m.pair.toNat ∧ nget x.1.fab.pairs m.pair.toNat = some e ∧ m.claim.toNat < e.claim) ∧
    (∃ (s : State) (m : RouteAnn), 
    let x := ctrlHeard s.dev m.port.val m.sec
    x.2 = true ∧ tagOk x.1 (annBytes m) m.tag = false) ∧
    (∃ (s : State), holdsHigher s.dev = true ∧ inService3 s.dev = true) ∧
    (∃ (s : State) (pair : BitVec 13) (e : PairRoute), nget s.dev.fab.pairs pair.toNat = some e) := by
  refine ⟨⟨st {svcF with fab.pairs := [(0, ⟨true, 0, 4, 5, 6⟩)]}, signed ⟨1, .plain, 0, 1, 5, 1, 0⟩, ⟨true, 0, 4, 5, 6⟩, by decide +kernel, tagOk_sg _ _ (by decide +kernel), by decide +kernel, by decide +kernel, by decide +kernel⟩,
    ⟨st {svcF with fab.pairs := [(0, ⟨true, 0, 4, 5, 6⟩)]}, signed ⟨1, .plain, 0, 1, 3, 1, 0⟩, ⟨true, 0, 4, 5, 6⟩, by decide +kernel, tagOk_sg _ _ (by decide +kernel), by decide +kernel, by decide +kernel, by decide +kernel⟩,
    ⟨st noKey, ⟨1, .plain, 0, 1, 3, 1, 78⟩, by decide +kernel⟩,
    ⟨st svcF, by decide +kernel⟩,
    ⟨st {svcF with fab.pairs := [(1, ⟨true, 3, 4, 5, 6⟩)]}, 1, ⟨true, 3, 4, 5, 6⟩, by decide +kernel⟩⟩


theorem witness_ForwardingAndHosts :
    (∃ (s : State) (f : FwdFrame) (o : Nat) (x : Dev × Nat), 
    let d0 := entered s.dev (.fwd f)
    let d := learnHost (carried d0 f.port.val f.pcp.val) f.port.val f.src.toNat
    Enters s.dev (.fwd f) ∧ isDown d0 = false ∧ f.mirror = false ∧ ((portRole d0 f.port.val = 1 ∨ portRole d0 f.port.val = 3 ∨ portRole d0 f.port.val = 4)) ∧ portCarries d0 f.port.val = true ∧ takeBufs d f.port.val f.bytes.val 0x2000 f.cm = some x ∧ parseAddr x.1 f.dst.toNat = .device o ∧ o ≠ ordinal x.1) ∧
    (∃ (s : State) (f : FwdFrame), 
    let d0 := entered s.dev (.fwd f)
    let d := learnHost (carried d0 f.port.val f.pcp.val) f.port.val f.src.toNat
    Enters s.dev (.fwd f) ∧ isDown d0 = false ∧ f.mirror = false ∧ ((portRole d0 f.port.val = 1 ∨ portRole d0 f.port.val = 3 ∨ portRole d0 f.port.val = 4)) ∧ portCarries d0 f.port.val = true ∧ takeBufs d f.port.val f.bytes.val 0x2000 f.cm = none) ∧
    (∃ (d : Dev) (f : FwdFrame), portRole d f.port.val ≠ 1 ∧ f.hopLimit.toNat ≤ 1) ∧
    (∃ (s : State) (p : CellNo) (e : Egress), (getPort s.dev p.val).queue = [e]) ∧
    (∃ (s : State) (p : CellNo) (a : BitVec 128), portRole s.dev p.val = 1 ∧ a.toNat / 2 ^ 64 = fabPrefix s.dev ∧ isDown s.dev = false) ∧
    (∃ (s : State) (a : BitVec 128) (p : Nat) (t : Nat), nget s.dev.fab.hosts a.toNat = some (p, t)) := by
  refine ⟨⟨st svcF, fwf, 1, (takeBufs (learnHost (carried (entered svcF (.fwd fwf)) 0 0) 0 0x99) 0 100 0x2000 false).getD (svc, 0), by decide +kernel⟩,
    ⟨st noBufs, fwf, by decide +kernel⟩,
    ⟨svcF, { fwf with port := 2, hopLimit := 1 }, by decide +kernel⟩,
    ⟨st {svcF with ports := [(1, {link := .up, queue := [⟨3, 100, 70, .ctrl 0 0 [], none⟩]})]}, 1, ⟨3, 100, 70, .ctrl 0 0 [], none⟩, by decide +kernel⟩,
    ⟨st svcF, 0, 0xA100000000000005, by decide +kernel⟩,
    ⟨st {svcF with fab.hosts := [(0x99, 0, 70)]}, 0x99, 0, 70, by decide +kernel⟩⟩


theorem witness_PowerFailure :
    (∃ (s : State), inService3 s.dev = true) ∧
    (∃ (s : State), s.dev.pwr.state = .starting) ∧
    (∃ (s : State), isDown s.dev = true) ∧
    (∃ (s : State), inService3 s.dev = true ∧ s.dev.pwr.powerFailN = true) ∧
    (∃ (s : State), s.dev.pwr.state ≠ .off ∧ s.dev.pwr.powerFailN = false) := by
  refine ⟨⟨st svcF, by decide +kernel⟩,
    ⟨st {svc with pwr.state := .starting, ldr.step := 5}, by decide +kernel⟩,
    ⟨st {svc with pwr.state := .off}, by decide +kernel⟩,
    ⟨st svcF, by decide +kernel⟩,
    ⟨st {svc with pwr.powerFailN := false}, by decide +kernel⟩⟩


theorem witness_FlushEnds :
    (∃ (s : State) (f : Flush), s.dev.per.flush = some f ∧ s.dev.pwr.state = .flushing ∧ f.kind = .severe ∧ s.dev.pwr.resetWanted = false) ∧
    (∃ (s : State) (f : Flush), s.dev.per.flush = some f ∧ s.dev.pwr.state = .flushing) ∧
    (∃ (d : Dev) (f : Flush), f.kind = .powerFail ∧ fbit (hreg d .PWR_HOLDUP_CFG) 31 = true ∧ d.flt.grave = false) := by
  refine ⟨⟨st {svc with per.flush := some {kind := .severe, fall := 5, began := 6}, pwr.state := .flushing}, {kind := .severe, fall := 5, began := 6}, by decide +kernel⟩,
    ⟨st {svc with per.flush := some {kind := .severe, fall := 5, began := 6}, pwr.state := .flushing}, {kind := .severe, fall := 5, began := 6}, by decide +kernel⟩,
    ⟨arg svc .PWR_HOLDUP_CFG 0 0 [0x80000000], {kind := .powerFail, fall := 5, began := 6}, by decide +kernel⟩⟩


theorem witness_DirtyCredit :
    (∃ (s : State) (c : CellNo), inService3 s.dev = true ∧ dirtyCreditOf s.dev c.val < dirtyCount s.dev c.val + 4 * 8192 ∧ s.dev.per.creditAsks.contains c.val = false) ∧
    (∃ (s : State) (c : Nat) (rest : List Nat), 
    let have0 := dirtyCreditOf s.dev c
    let n := min creditLines (cellMib s.dev * 8192 - have0)
    s.dev.per.creditAsks = c :: rest ∧ n ≠ 0 ∧ grantedLines s.dev + n ≤ devGib s.dev * 1024 * 8192) ∧
    (∃ (s : State) (c : Nat) (rest : List Nat), 
    let have0 := dirtyCreditOf s.dev c
    let n := min creditLines (cellMib s.dev * 8192 - have0)
    s.dev.per.creditAsks = c :: rest ∧ n ≠ 0 ∧ devGib s.dev * 1024 * 8192 < grantedLines s.dev + n) ∧
    (∃ (s : State) (c : CellNo), 
    let have0 := dirtyCreditOf s.dev c.val
    dirtyCount s.dev c.val + 20 * 8192 < have0 ∧ have0 % creditLines = 0) := by
  refine ⟨⟨st svc, 0, by decide +kernel⟩,
    ⟨st {svc with per.creditAsks := [0]}, 0, [], by decide +kernel⟩,
    ⟨st {svc with per.creditAsks := [0], per.dirtyCredit := [(1, 99999999999)]}, 0, [], by decide +kernel⟩,
    ⟨st {svc with per.dirtyCredit := [(0, 1048576)]}, 0, by decide +kernel⟩⟩


theorem witness_WaitsOfWrites :
    (∃ (s : State) (c : CellNo) (r : Req) (p : Part) (t : Nat), s.dev.reqs = [r] ∧ r.parts = [p] ∧ p.cell = c.val ∧ fromTwin r.kind = false ∧ p.st = .waitDirty t) ∧
    (∃ (s : State) (c : CellNo) (r : Req) (p : Part), s.dev.reqs = [r] ∧ r.parts = [p] ∧ p.cell = c.val ∧ r.kind = .mirrorWrite ∧ p.st = .waitPromo ∧ s.dev.cus.witness.isSome = true) ∧
    (∃ (s : State) (r : Req) (p : Part) (ts : Nat), s.dev.reqs = [r] ∧ r.parts = [p] ∧ p.st = .mirrored ts ∧ r.stage = .issued ∧ s.dev.cus.witness = none) ∧
    (∃ (s : State) (n : Fin 65536) (page : BitVec 36) (i : Fin 128) (r : Repair), 
    let key := pageKey n.val page.toNat * 128 + i.val
    nget s.dev.repairs key = some r ∧ r.isSeal = false) := by
  refine ⟨⟨st {svcF with reqs := [rq .write (.waitDirty 70)]}, 0, rq .write (.waitDirty 70), prt (.waitDirty 70), 70, by decide +kernel⟩,
    ⟨st {svcF with reqs := [rq .mirrorWrite .waitPromo]}, 0, rq .mirrorWrite .waitPromo, prt .waitPromo, by decide +kernel⟩,
    ⟨st {svcC with reqs := [rq .write (.mirrored 5)]}, rq .write (.mirrored 5), prt (.mirrored 5), 5, by decide +kernel⟩,
    ⟨st {svcF with repairs := [(pk * 128 + 6, ⟨false, false, 70, false⟩)]}, 3, 3, 6, ⟨false, false, 70, false⟩, by decide +kernel⟩⟩


theorem witness_SumpErase :
    (∃ (s : State) (c : CellNo) (b : Bool), 
    let m := getMed s.dev c.val
    let dies := erasingDies m (.eraseSump b)
    let slots := (sumpSlots m b).filter fun k => dies.contains (k / 8192)
    let m' := freeDies (eraseBlocks m slots) dies
    let p := getSump s.dev c.val
    dies ≠ [] ∧ (if b then p.2 else p.1).state = .erasing ∧ ((sbDies m 0).all fun x => dies.contains x) = true ∧ (slots.all fun k => decide (peOf m' (physOf m' k) < 30000)) = true) ∧
    (∃ (s : State) (c : CellNo) (b : Bool), erasingDies (getMed s.dev c.val) (.eraseSump b) = []) := by
  refine ⟨⟨st {mdd {onl with running := (List.range 16).map fun i => (i, {op := .eraseSump true})} with per.sump := [(0, {}, {state := .erasing})]}, 0, true, by decide +kernel⟩,
    ⟨st svcC, 0, true, by decide +kernel⟩⟩


theorem witness_Promotions :
    (∃ (s : State) (n : Fin 65536) (page : BitVec 36) (p : Promo) (lost : List Nat) (ok : Bool), 
    let k := pageKey n.val page.toNat
    nget s.dev.tier.promos k = some p ∧ p.readDone = some lost ∧ p.buf.isSome = true ∧ nhas s.dev.repairs (2 ^ 64 + k) = false ∧ agentThrottled s.dev k ⟨0x1001, homeOf k, 6⟩ = false ∧ ((lost ≠ [] ∨ ok = true ∨ p.compared = false))) ∧
    (∃ (s : State) (n : Fin 65536) (page : BitVec 36) (p : Promo), 
    let k := pageKey n.val page.toNat
    nget s.dev.tier.promos k = some p ∧ p.readDone = some [] ∧ p.buf.isSome = true ∧ nhas s.dev.repairs (2 ^ 64 + k) = false ∧ agentThrottled s.dev k ⟨0x1001, homeOf k, 6⟩ = false ∧ p.compared = true ∧ classOfPage s.dev k ≠ .mirrored) ∧
    (∃ (s : State) (n : Fin 65536) (page : BitVec 36) (p : Promo), 
    let k := pageKey n.val page.toNat
    nget s.dev.tier.promos k = some p) := by
  refine ⟨⟨st (svcP {pro with readDone := some [2], buf := some 5}), 3, 3, {pro with readDone := some [2], buf := some 5}, [2], true, by decide +kernel⟩,
    ⟨st (svcP {pro with readDone := some [], buf := some 5}), 3, 3, {pro with readDone := some [], buf := some 5}, by decide +kernel⟩,
    ⟨st (svcP pro), 3, 3, pro, by decide +kernel⟩⟩


theorem witness_CellTiers :
    (∃ (s : State) (c : CellNo), freeFrames s.dev c.val < freeLow s.dev * liveFrames s.dev c.val / 1000) ∧
    (∃ (s : State) (c : CellNo), freeLow s.dev * liveFrames s.dev c.val / 1000 ≤ freeFrames s.dev c.val) ∧
    (∃ (s : State) (c : CellNo) (w : DestageWork) (x : Dev × Nat), 
    let d := s.dev
    destageStopped d c.val = false ∧ inService3 d = true ∧ (d.res.waits.any fun w => w.cell == c.val && w.use == .destage) = false ∧ nextDestage d c.val = some w ∧ workThrottled d c.val w = false ∧ takeBufs d c.val 16384 0x1000 (usesReserve d 0x1000) = some x) ∧
    (∃ (s : State) (c : CellNo) (k : Nat) (f : Frame) (x : Dev × Nat), 
    let d := s.dev
    destageStopped d c.val = false ∧ inService3 d = true ∧ d.res.waits = [] ∧ nextDestage d c.val = some (.frame k) ∧ agentThrottled d k ⟨0x1000, c.val, 5⟩ = false ∧ takeBufs d c.val 16384 0x1000 (usesReserve d 0x1000) = some x ∧ getFrame x.1 k = some f) ∧
    (∃ (s : State) (c : CellNo) (w : DestageWork), 
    let d := s.dev
    destageStopped d c.val = false ∧ inService3 d = true ∧ d.res.waits = [] ∧ nextDestage d c.val = some w ∧ workThrottled d c.val w = false ∧ takeBufs d c.val 16384 0x1000 (usesReserve d 0x1000) = none) ∧
    (∃ (s : State) (c : CellNo) (e : MbEnt), (getAlc s.dev c.val).mb = [e]) := by
  refine ⟨⟨st {svcC with tier.snapGib := 412, tier.frames := (List.range 192).map fun j => (pageKey 3 (256 * j + (j ^^^ 3)), { slot := j, st := .clean })}, 0, by decide +kernel⟩,
    ⟨st svcC, 0, by decide +kernel⟩,
    ⟨st dst, 0, .frame pk, dstX, by decide +kernel⟩,
    ⟨st dst, 0, pk, frm, dstX, by decide +kernel⟩,
    ⟨st dstN, 0, .frame pk, by decide +kernel⟩,
    ⟨st {svcC with tier.alc := [(0, {mb := [⟨pk * 128 + 2, 15, false, 70⟩]})]}, 0, ⟨pk * 128 + 2, 15, false, 70⟩, by decide +kernel⟩⟩


theorem witness_T2Credit :
    (∃ (s : State) (a : CreditAsk) (rest : List CreditAsk), 
    let d : Dev := { s.dev with tier.asks := rest }
    s.dev.tier.asks = a :: rest ∧ t2Left d a.tenant = none) ∧
    (∃ (s : State) (a : CreditAsk) (rest : List CreditAsk) (n : Nat), 
    let d : Dev := { s.dev with tier.asks := rest }
    s.dev.tier.asks = a :: rest ∧ t2Left d a.tenant = some n ∧ n ≠ 0) ∧
    (∃ (s : State) (a : CreditAsk) (rest : List CreditAsk), 
    let d : Dev := recallCredit { s.dev with tier.asks := rest } a.tenant
    s.dev.tier.asks = a :: rest ∧ t2Left { s.dev with tier.asks := rest } a.tenant = some 0 ∧ t2Left d a.tenant = some 0) ∧
    (∃ (s : State) (t : Fin 4096) (c : CellNo), 
    let n := ngetD s.dev.tier.credit (creditKey t.val c.val) 0
    512 < n) ∧
    (∃ (s : State) (t : Fin 4096) (c : CellNo), ngetD s.dev.tier.credit (creditKey t.val c.val) 0 ≤ 512) ∧
    (∃ (s : State) (c : CellNo) (r : Req) (p : Part) (t : Nat), s.dev.reqs = [r] ∧ r.parts = [p] ∧ p.cell = c.val ∧ p.st = .waitCredit t) := by
  refine ⟨⟨st {svcC with tier.asks := [⟨0, 0, 70⟩]}, ⟨0, 0, 70⟩, [], by decide +kernel⟩,
    ⟨st (arg {svcC with tier.asks := [⟨0, 0, 70⟩]} .TIER_QUOTA_WORD 0 0 [100]), ⟨0, 0, 70⟩, [], 419430400, by decide +kernel⟩,
    ⟨st (arg {svcC with tier.asks := [⟨0, 0, 70⟩]} .TIER_QUOTA_WORD 0 0 [0]), ⟨0, 0, 70⟩, [], by decide +kernel⟩,
    ⟨st {svcC with tier.credit := [(0, 513)]}, 0, 0, by decide +kernel⟩,
    ⟨st {svcC with tier.credit := [(0, 512)]}, 0, 0, by decide +kernel⟩,
    ⟨st {svcC with reqs := [rq .write (.waitCredit 70)]}, 0, rq .write (.waitCredit 70), prt (.waitCredit 70), 70, by decide +kernel⟩⟩


theorem witness_PlanCommands :
    (∃ (s : State) (w : Writer) (n : Nat), 
    let d := planAsked s.dev w 1
    let count := parg d 1 % 2 ^ 17
    Accepts s.dev w .TIER_PLAN_CMD 0 ∧ s.dev.tier.planRun = none ∧ 0 < count ∧ count ≤ 65536 ∧ 16 ≤ parg d 5 ∧ nfreeFrom (d.tier.plans.filter fun p => p.2.state != .free) 0 1024 = some n) ∧
    (∃ (s : State) (w : Writer) (n : Nat) (p : Plan), 
    let d := planAsked s.dev w 2
    let e := parg d 1 % 65536
    Accepts s.dev w .TIER_PLAN_CMD 0 ∧ s.dev.tier.planRun = none ∧ namedPlan d = some (n, p) ∧ e < p.count) ∧
    (∃ (s : State) (w : Writer) (n : Nat) (p : Plan), 
    let d := planAsked s.dev w 3
    Accepts s.dev w .TIER_PLAN_CMD 0 ∧ s.dev.tier.planRun = none ∧ namedPlan d = some (n, p) ∧ 16 ≤ parg d 5 ∧ p.pinned = []) ∧
    (∃ (s : State) (w : Writer) (n : Nat) (p : Plan), 
    let d := planAsked s.dev w 4
    Accepts s.dev w .TIER_PLAN_CMD 0 ∧ s.dev.tier.planRun = none ∧ namedPlan d = some (n, p)) ∧
    (∃ (s : State) (w : Writer), 
    let d := planAsked s.dev w 5
    let n := fld (reg d .TIER_PLAN_ARG 0 0) 9 0
    Accepts s.dev w .TIER_PLAN_CMD 0 ∧ s.dev.tier.planRun = none ∧ nget d.tier.plans n = none) ∧
    (∃ (s : State) (w : Writer) (n : Nat) (p : Plan) (e : PlanEnt), 
    let d := planAsked s.dev w 6
    let i := parg d 1 % 65536
    Accepts s.dev w .TIER_PLAN_CMD 0 ∧ s.dev.tier.planRun = none ∧ namedPlan d = some (n, p) ∧ p.entries[i]? = some e) ∧
    (∃ (s : State) (w : Writer) (op : Fin 16), reservedOp 6 op = true ∧ Accepts s.dev w .TIER_PLAN_CMD 0 ∧ s.dev.tier.planRun = none) ∧
    (∃ (s : State) (w : Writer) (n : Nat), Accepts s.dev w .TIER_PLAN_CMD 0 ∧ s.dev.tier.planRun = some n) := by
  refine ⟨⟨st (arg svcC .TIER_PLAN_ARG 0 0 [0, 1, 0x201, 0, 0, 16]), mp, 0, by decide +kernel⟩,
    ⟨st {arg svcC .TIER_PLAN_ARG 0 0 [5, 0, 0, 0, 0, 16] with tier.plans := [(5, plP)]}, mp, 5, plP, by decide +kernel⟩,
    ⟨st {arg svcC .TIER_PLAN_ARG 0 0 [5, 0, 0, 0, 0, 16] with tier.plans := [(5, plP)]}, mp, 5, plP, by decide +kernel⟩,
    ⟨st {arg svcC .TIER_PLAN_ARG 0 0 [5, 0, 0, 0, 0, 16] with tier.plans := [(5, plP)]}, mp, 5, plP, by decide +kernel⟩,
    ⟨st (arg svcC .TIER_PLAN_ARG 0 0 [5]), mp, by decide +kernel⟩,
    ⟨st {arg svcC .TIER_PLAN_ARG 0 0 [5, 0, 0, 0, 0, 16] with tier.plans := [(5, plP)]}, mp, 5, plP, plE, by decide +kernel⟩,
    ⟨st svcC, mp, 7, by decide +kernel⟩,
    ⟨st {svcC with tier.planRun := some 5}, mp, 5, by decide +kernel⟩⟩


theorem witness_PlanEngine :
    (∃ (s : State) (n : Nat) (d1 : Dev), 
    let d := s.dev
    let p := getPlan d n
    let e := ngetD d1.chm.keys (p.key / 256) {}
    let addr := chmAddr e.chamber (e.base * 4096 + p.va)
    let d2 := readSpan d1 addr (p.count * 16) (lineOfAddr addr) [] false (listReader (homeCell e.chamber ((e.base * 4096 + p.va) / 16384)))
    d.tier.planRun = some n ∧ listCheck d p = some stOk ∧ bringList (listPages d p) d = (d1, some true) ∧ (linesOf addr (p.count * 16)).any (poisoned d2) = false) ∧
    (∃ (s : State) (n : Nat) (d1 : Dev), s.dev.tier.planRun = some n ∧ listCheck s.dev (getPlan s.dev n) = some stOk ∧ bringList (listPages s.dev (getPlan s.dev n)) s.dev = (d1, some false)) ∧
    (∃ (s : State) (n : Nat) (d1 : Dev), s.dev.tier.planRun = some n ∧ listCheck s.dev (getPlan s.dev n) = some stOk ∧ bringList (listPages s.dev (getPlan s.dev n)) s.dev = (d1, none)) ∧
    (∃ (s : State) (n : Nat) (st : Nat), 
    let d := s.dev
    d.tier.planRun = some n ∧ listCheck d (getPlan d n) = some st ∧ st ≠ stOk) ∧
    (∃ (s : State) (n : Nat) (slot : Nat) (i : Nat) (page : Nat) (p : Plan) (e : PlanEnt), 
    let d : Dev := { s.dev with tier.planTurn := n + 1 }
    s.dev.tier.plans = [(n, p)] ∧ p.state = .running ∧ nextSlot d p = some slot ∧ slotAt p.entries 0 slot = some (i, e, page)) := by
  refine ⟨⟨st (pln svcC 0), 5, pln svcC 0, by decide +kernel⟩,
    ⟨st (pln {svcC with tier.map := [(pk, .stored 4 true 0 9)]} 1), 5, (bringList [pk] (pln {svcC with tier.map := [(pk, .stored 4 true 0 9)]} 1)).1, by decide +kernel⟩,
    ⟨st (pln {svcC with med := [], tier.map := [(pk, .stored 4 true 0 9)]} 1), 5, (bringList [pk] (pln {svcC with med := [], tier.map := [(pk, .stored 4 true 0 9)]} 1)).1, by decide +kernel⟩,
    ⟨st {svcC with tier.planRun := some 5, tier.plans := [(5, {plP with state := .loading, entries := []})]}, 5, stKeyInvalid, by decide +kernel⟩,
    ⟨st {svcC with tier.plans := [(5, plP)]}, 5, 0, 0, 0, plP, plE, by decide +kernel⟩⟩


theorem witness_MediaGrants :
    (∃ (s : State) (c : CellNo) (die : Fin 16) (op : MedOp), MayGrant s.dev c.val die.val ∧ ((s.dev.pwr.state = .service ∨ s.dev.pwr.state = .quiet)) ∧ nget (getMed s.dev c.val).running die.val = none ∧ nextWork s.dev c.val die.val = some op) ∧
    (∃ (s : State) (c : CellNo) (die : Fin 16), MayGrant s.dev c.val die.val ∧ ((s.dev.pwr.state = .service ∨ s.dev.pwr.state = .quiet)) ∧ nget (getMed s.dev c.val).running die.val = none ∧ nextWork s.dev c.val die.val = none) ∧
    (∃ (s : State) (c : CellNo) (die : Fin 16) (t : Nat) (op : MedOp), MayGrant s.dev c.val die.val ∧ s.dev.pwr.state = .starting ∧ nget (getMed s.dev c.val).running die.val = none ∧ sumpWork4 s.dev c.val die.val = some (t, op)) ∧
    (∃ (s : State) (c : CellNo) (die : Fin 16), ¬ MayGrant s.dev c.val die.val) ∧
    (∃ (s : State) (c : CellNo) (die : Fin 16) (r : DieRun) (op : MedOp), 
    let m := getMed s.dev c.val
    MayGrant s.dev c.val die.val ∧ ((s.dev.pwr.state = .service ∨ s.dev.pwr.state = .quiet)) ∧ dirtyLevel s.dev c.val < hiPct s.dev ∧ nget m.running die.val = some r ∧ isRead r.op = false ∧ r.suspended = false ∧ urgentRead s.dev c.val = some op ∧ nhas m.running (16 + die.val) = false ∧ fbit (reg s.dev .MED_CFG c.val 0) 0 = true ∧ r.suspends < suspLimit s.dev c.val r.op) := by
  refine ⟨⟨st (svcP pro), 0, 0, .promo pk, by decide +kernel⟩,
    ⟨st svcC, 0, 0, by decide +kernel⟩,
    ⟨st {mdd onl with pwr.state := .starting, per.sump := [(0, {}, {state := .erasing})]}, 0, 0, 0, .eraseSump true, by decide +kernel⟩,
    ⟨st svcC, 1, 0, by decide +kernel⟩,
    ⟨st (arg {svcP pro with med := [(0, {onl with running := [(0, {op := .program 0})]})]} .MED_CFG 0 0 [0x41]), 0, 0, {op := .program 0}, .promo pk, by decide +kernel⟩⟩


theorem witness_MediaOperationsEnd :
    (∃ (s : State) (c : CellNo) (die : Fin 16) (r : DieRun) (b : Nat), 
    let m := getMed s.dev c.val
    nget m.running die.val = some r ∧ r.op = .check b 8191 ∧ nhas m.running (16 + die.val) = false) ∧
    (∃ (s : State) (c : CellNo) (die : Fin 16) (r : DieRun) (k : Nat) (ws : List CodeWord), nget (getMed s.dev c.val).running die.val = some r ∧ r.op = .promo k ∧ nhas (getMed s.dev c.val).running (16 + die.val) = false ∧ ((∀ w ∈ ws, w.level = 0 ∧ w.bits = 0))) ∧
    (∃ (s : State) (c : CellNo) (die : Fin 16) (r : DieRun) (mp : Nat) (ws : List CodeWord), nget (getMed s.dev c.val).running die.val = some r ∧ r.op = .mapLoad mp ∧ nhas (getMed s.dev c.val).running (16 + die.val) = false ∧ ((∀ w ∈ ws, w.level = 0 ∧ w.bits = 0))) ∧
    (∃ (s : State) (c : CellNo) (die : Fin 16) (r : DieRun) (stream : Nat), 
    let m := getMed s.dev c.val
    nget m.running die.val = some r ∧ r.op = .program stream ∧ r.suspended = false) ∧
    (∃ (s : State) (c : CellNo) (die : Fin 16) (r : DieRun) (stream : Nat), 
    let m := getMed s.dev c.val
    nget m.running die.val = some r ∧ r.op = .program stream ∧ r.suspended = false) ∧
    (∃ (s : State) (c : CellNo) (sb : Fin 2048), 
    let m := getMed s.dev c.val
    let dies := erasingDies m (.erase sb.val)
    dies ≠ [] ∧ (getSb m sb.val).st = .erasing ∧ ((sbDies m sb.val).all fun x => dies.contains x) = true ∧ ((∀ k ∈ sbSlots m sb.val, physOf m k ∉ m.bad))) ∧
    (∃ (s : State) (c : CellNo) (sb : Fin 2048), erasingDies (getMed s.dev c.val) (.erase sb.val) = []) ∧
    (∃ (s : State) (c : CellNo) (die : Fin 16) (r : DieRun), 
    let m := getMed s.dev c.val
    nget m.running die.val = some r ∧ nhas m.running (16 + die.val) = false ∧ isRead r.op = true ∧ ngetD m.timeouts die.val 0 < 2) ∧
    (∃ (s : State) (c : CellNo) (die : Fin 16) (r : DieRun) (sb : Nat), 
    let m := getMed s.dev c.val
    nget m.running die.val = some r ∧ nhas m.running (16 + die.val) = false ∧ r.op = .erase sb) := by
  refine ⟨⟨st (mdd {onl with running := [(0, {op := .check 9 8191})], checks := [(9, 0, 0)]}), 0, 0, {op := .check 9 8191}, 9, by decide +kernel⟩,
    ⟨st {svcP pro with med := [(0, {onl with running := [(0, {op := .promo pk})]})]}, 0, 0, {op := .promo pk}, pk, [], by decide +kernel⟩,
    ⟨st (mdd {onl with running := [(0, {op := .mapLoad 9})]}), 0, 0, {op := .mapLoad 9}, 9, [], by decide +kernel⟩,
    ⟨st (mdd {onl with running := [(0, {op := .program 0})], streams := [(0, {sb := some 1})], sbs := [(1, {st := .open_})]}), 0, 0, {op := .program 0}, 0, by decide +kernel⟩,
    ⟨st (mdd {onl with running := [(0, {op := .program 0})], streams := [(0, {sb := some 1})], sbs := [(1, {st := .open_})]}), 0, 0, {op := .program 0}, 0, by decide +kernel⟩,
    ⟨st (mdd {onl with running := (List.range 16).map fun i => (i, {op := .erase 1}), sbs := [(1, {st := .erasing})]}), 0, 1, by decide +kernel⟩,
    ⟨st (mdd onl), 0, 1, by decide +kernel⟩,
    ⟨st (mdd {onl with running := [(0, {op := .scrub 1})], timeouts := [(0, 1)]}), 0, 0, {op := .scrub 1}, by decide +kernel⟩,
    ⟨st (mdd {onl with running := [(0, {op := .erase 1})], timeouts := [(0, 1)]}), 0, 0, {op := .erase 1}, 1, by decide +kernel⟩⟩


theorem witness_MediaUpkeep :
    (∃ (s : State) (c : CellNo) (die : Nat), 
    let m := getMed s.dev c.val
    m.rebuild = some die ∧ m.sbs = [] ∧ m.formatLeft = []) ∧
    (∃ (s : State) (c : CellNo) (key : Nat) (t : Nat), 
    let m := getMed s.dev c.val
    mediaOn s.dev c.val = true ∧ m.mapDirty = [(key, t)] ∧ overMaps m = false) ∧
    (∃ (s : State) (c : CellNo), 
    let m := getMed s.dev c.val
    m.mapWrites ≠ 0) ∧
    (∃ (s : State) (c : CellNo), mediaOn s.dev c.val = true ∧ scrubDue s.dev c.val = true) ∧
    (∃ (s : State) (w : Writer) (c : CellNo), Accepts s.dev w .MED_CTRL c.val) ∧
    (∃ (s : State) (w : Writer) (c : CellNo) (die : Fin 16), 
    let m := getMed s.dev c.val
    Accepts s.dev w .MED_CTRL c.val ∧ m.rebuild = none ∧ 12 < diesOf m ∧ dieIn m.diesIn die.val = true) ∧
    (∃ (s : State) (w : Writer) (c : CellNo), 
    let m := getMed s.dev c.val
    Accepts s.dev w .MED_CTRL c.val ∧ ((m.rebuild.isSome = true ∨ diesOf m ≤ 12))) := by
  refine ⟨⟨st {svcC with med := [(0, {st := .rebuilding, rebuild := some 3})]}, 0, 3, by decide +kernel⟩,
    ⟨st {svcC with med := [(0, {st := .online, mapDirty := [(8, 70)]})]}, 0, 8, 70, by decide +kernel⟩,
    ⟨st {svcC with med := [(0, {st := .online, mapWrites := 1})]}, 0, by decide +kernel⟩,
    ⟨st {svcC with now := 9000000000000000}, 0, by decide +kernel⟩,
    ⟨st svcC, mp, 0, by decide +kernel⟩,
    ⟨st svcC, mp, 0, 3, by decide +kernel⟩,
    ⟨st {svcC with med := [(0, {st := .online, diesIn := 0xFFF})]}, mp, 0, by decide +kernel⟩⟩


theorem witness_DramChannel :
    (∃ (s : State) (c : CellNo) (k : Nat) (i : Nat), 
    let h := getHbm s.dev c.val
    let d0 := reach s.dev h.scrubNext
    let d := setHbm d0 c.val { h with scrubPos := (h.scrubPos + 128) % 2 ^ 31, scrubNext := h.scrubNext + scrubStep d0 c.val }
    h.st = .online ∧ pageAtT1 d c.val h.scrubPos = some (k, i) ∧ poisoned d (k * 128 + i) = true) ∧
    (∃ (s : State) (c : CellNo), 
    let h := getHbm s.dev c.val
    let d0 := reach s.dev h.scrubNext
    let d := setHbm d0 c.val { h with scrubPos := (h.scrubPos + 128) % 2 ^ 31, scrubNext := h.scrubNext + scrubStep d0 c.val }
    h.st = .online ∧ pageAtT1 d c.val h.scrubPos = none ∧ stagedPoison d c.val h.scrubPos = false) ∧
    (∃ (s : State) (c : CellNo), (getHbm s.dev c.val).st ≠ .online) ∧
    (∃ (s : State) (c : CellNo) (r : Req) (p : Part) (t : Nat), s.dev.reqs = [r] ∧ r.parts = [p] ∧ p.cell = c.val ∧ p.st = .waitThrottle t) := by
  refine ⟨⟨st {svcC with tier.frames := [(pk, frm)], hbm := [(0, {st := .online, scrubPos := dataBase svcC + 256})], poison := [pk * 128 + 2]}, 0, pk, 2, by decide +kernel⟩,
    ⟨st svcC, 0, by decide +kernel⟩,
    ⟨st svcC, 1, by decide +kernel⟩,
    ⟨st {svcC with reqs := [rq .write (.waitThrottle 70)]}, 0, rq .write (.waitThrottle 70), prt (.waitThrottle 70), 70, by decide +kernel⟩⟩


theorem witness_FrameRetirement :
    (∃ (s : State) (w : Writer) (c : CellNo), 
    let d := hbmAsked s.dev w c.val 1
    let f := retireTarget d c.val
    Accepts s.dev w .HBM_RETIRE_CMD c.val ∧ (getHbm s.dev c.val).busy = false ∧ f < 2 ^ 19 ∧ t1Area d (f * 4096) = 2 ∧ (getHbm d c.val).retired.length < 4096 ∧ nget (getMed d c.val).cache ((f * 4096 - cacheBase) / 16384) = none) ∧
    (∃ (s : State) (w : Writer) (c : CellNo) (mp : Nat) (ref : Bool), 
    let d := hbmAsked s.dev w c.val 1
    let f := retireTarget d c.val
    let slot := (f * 4096 - cacheBase) / 16384
    Accepts s.dev w .HBM_RETIRE_CMD c.val ∧ (getHbm s.dev c.val).busy = false ∧ f < 2 ^ 19 ∧ t1Area d (f * 4096) = 2 ∧ cacheBase ≤ f * 4096 ∧ (getHbm d c.val).retired.length < 4096 ∧ nget (getMed d c.val).cache slot = some (mp, ref) ∧ nhas (getMed d c.val).mapDirty mp = false) ∧
    (∃ (s : State) (w : Writer) (c : CellNo), 
    let d := hbmAsked s.dev w c.val 1
    let f := retireTarget d c.val
    Accepts s.dev w .HBM_RETIRE_CMD c.val ∧ (getHbm s.dev c.val).busy = false ∧ f < 2 ^ 19 ∧ t1Area d (f * 4096) = 3 ∧ (getHbm d c.val).retired.length < 4096 ∧ stagedAt d c.val ((f * 4096 - stagingBase) / 16384) = none) ∧
    (∃ (s : State) (w : Writer) (c : CellNo), 
    let d := hbmAsked s.dev w c.val 1
    let f := retireTarget d c.val
    Accepts s.dev w .HBM_RETIRE_CMD c.val ∧ (getHbm s.dev c.val).busy = false ∧ f < 2 ^ 19 ∧ t1Area d (f * 4096) ≤ 1) ∧
    (∃ (s : State) (w : Writer) (c : CellNo), 
    let d := hbmAsked s.dev w c.val 2
    let f := retireTarget d c.val
    let h := getHbm d c.val
    Accepts s.dev w .HBM_RETIRE_CMD c.val ∧ h.busy = false ∧ f < 2 ^ 19 ∧ nhas h.retired f = true) ∧
    (∃ (s : State) (w : Writer) (c : CellNo), Accepts s.dev w .HBM_RETIRE_CMD c.val ∧ (getHbm s.dev c.val).busy = false) ∧
    (∃ (s : State) (w : Writer) (c : CellNo) (op : Fin 16), reservedOp 5 op = true ∧ Accepts s.dev w .HBM_RETIRE_CMD c.val ∧ (getHbm s.dev c.val).busy = false) ∧
    (∃ (s : State) (w : Writer) (c : CellNo), Accepts s.dev w .HBM_RETIRE_CMD c.val ∧ (getHbm s.dev c.val).busy = true) ∧
    (∃ (s : State) (c : CellNo) (f : Nat) (t : Nat) (b : Bool), (getHbm s.dev c.val).moving = some (f, b, t)) := by
  refine ⟨⟨st (arg svcC .HBM_RETIRE_ARG 0 0 [0x80000000 + 4000]), mp, 0, by decide +kernel⟩,
    ⟨st {arg svcC .HBM_RETIRE_ARG 0 0 [BitVec.ofNat 32 (cacheBase / 4096)] with med := [(0, {onl with cache := [(0, 9, true)]})]}, mp, 0, 9, true, by decide +kernel⟩,
    ⟨st (arg svcC .HBM_RETIRE_ARG 0 0 [BitVec.ofNat 32 (stagingBase / 4096)]), mp, 0, by decide +kernel⟩,
    ⟨st (arg svcC .HBM_RETIRE_ARG 0 0 [0x80000000 + 4]), mp, 0, by decide +kernel⟩,
    ⟨st {arg svcC .HBM_RETIRE_ARG 0 0 [4000] with hbm := [(0, {st := .online, retired := [(4000, true)]})]}, mp, 0, by decide +kernel⟩,
    ⟨st (arg svcC .HBM_RETIRE_ARG 0 0 [4000]), mp, 0, by decide +kernel⟩,
    ⟨st svcC, mp, 0, 6, by decide +kernel⟩,
    ⟨st {svcC with hbm := [(0, {st := .online, busy := true})]}, mp, 0, by decide +kernel⟩,
    ⟨st {svcC with hbm := [(0, {st := .online, busy := true, moving := some (4000, true, 70)})]}, 0, 4000, 70, true, by decide +kernel⟩⟩


theorem witness_RowRepairAndErrors :
    (∃ (s : State) (w : Writer) (c : CellNo), 
    let d := hbmAsked s.dev w c.val 4
    let h := getHbm d c.val
    let x := (retireTarget d c.val / 2 ^ 15, retireTarget d c.val % 2 ^ 15)
    Accepts s.dev w .HBM_RETIRE_CMD c.val ∧ (getHbm s.dev c.val).busy = false ∧ h.ppr.contains x = false ∧ h.ppr.length < 64) ∧
    (∃ (s : State) (w : Writer) (c : CellNo), 
    let d := hbmAsked s.dev w c.val 5
    let h := getHbm d c.val
    let x := (retireTarget d c.val / 2 ^ 15, retireTarget d c.val % 2 ^ 15)
    Accepts s.dev w .HBM_RETIRE_CMD c.val ∧ (getHbm s.dev c.val).busy = false ∧ h.ppr.contains x = true) ∧
    (∃ (s : State) (c : CellNo) (f : BitVec 22), 
    let d := setHbm s.dev c.val { getHbm s.dev c.val with lastOp := 1, byPolicy := true }
    fbit (reg s.dev .HBM_POLICY_CFG c.val 0) 31 = true ∧ policyQualifies s.dev c.val f.toNat = true ∧ (getHbm s.dev c.val).busy = false ∧ nhas (getHbm s.dev c.val).retired f.toNat = false ∧ fbit (reg s.dev .HBM_POLICY_CFG c.val 0) 29 = false ∧ f.toNat < 2 ^ 19 ∧ t1Area d (f.toNat * 4096) = 2 ∧ (getHbm s.dev c.val).retired.length < 4096 ∧ nget (getMed d c.val).cache ((f.toNat * 4096 - cacheBase) / 16384) = none) ∧
    (∃ (s : State) (w : Writer) (c : CellNo), Accepts s.dev w .HBM_CE_CLEAR c.val) ∧
    (∃ (s : State) (w : Writer) (c : CellNo), Accepts s.dev w .HBM_CE_CLEAR c.val) := by
  refine ⟨⟨st (arg svcC .HBM_RETIRE_ARG 0 0 [4000]), mp, 0, by decide +kernel⟩,
    ⟨st {arg svcC .HBM_RETIRE_ARG 0 0 [4000] with hbm := [(0, {st := .online, ppr := [(0, 4000)]})]}, mp, 0, by decide +kernel⟩,
    ⟨st {arg svcC .HBM_POLICY_CFG 0 0 [0x80020100] with hbm := [(0, {st := .online, ce := [(0, ⟨128000, 0, 1, 9, 0, 5⟩), (1, ⟨128001, 0, 1, 9, 0, 5⟩), (2, ⟨128002, 0, 1, 9, 0, 5⟩)]})]}, 0, 4000, by decide +kernel⟩,
    ⟨st {svcC with hbm := [(0, {st := .online, ce := [(0, ⟨128000, 0, 1, 9, 0, 5⟩)]})]}, mp, 0, by decide +kernel⟩,
    ⟨st {svcC with hbm := [(0, {st := .online, ce := [(0, ⟨128000, 0, 1, 9, 0, 5⟩)]})]}, mp, 0, by decide +kernel⟩⟩


theorem witness_MirrorFrames :
    (∃ (s : State) (p : Pkt) (a : ChmAddr) (data : List Byte) (copy : Bool), 
    let b : ReqBody := .mirrorWrite a data copy
    let d := frameHeard s.dev p b
    let k := connOf p
    Enters s.dev (.req p b) ∧ portRole s.dev p.port = 2 ∧ data ≠ [] ∧ Expected d p .write true ∧ (getConn d k).service = .mirror) ∧
    (∃ (s : State) (p : Pkt) (imm : BitVec 32) (a : ChmAddr) (data : List Byte), 
    let b : ReqBody := .mirrorImm imm a data
    let d := frameHeard s.dev p b
    Enters s.dev (.req p b) ∧ portRole s.dev p.port = 2 ∧ imm.toNat = 1 ∧ data.length = 8 ∧ Expected d p .writeImm true ∧ (getConn d (connOf p)).service = .mirror) ∧
    (∃ (s : State) (p : Pkt) (imm : BitVec 32) (a : ChmAddr), 
    let b : ReqBody := .mirrorImm imm a []
    let d := frameHeard s.dev p b
    Enters s.dev (.req p b) ∧ portRole s.dev p.port = 2 ∧ imm.toNat = 2 ∧ Expected d p .writeImm false ∧ (getConn d (connOf p)).service = .mirror) ∧
    (∃ (s : State) (p : Pkt) (imm : BitVec 32) (a : ChmAddr), 
    let b : ReqBody := .mirrorImm imm a []
    let d := frameHeard s.dev p b
    let k := pageKey a.chamber.toNat (a.off.toNat / 16384)
    let e := takeMirror (taken d p) p (connOf p) .commitMark a.chamber.toNat (a.off.toNat / 16384 * 16384) 0 [] 0 false
    Enters s.dev (.req p b) ∧ portRole s.dev p.port = 2 ∧ imm.toNat = 3 ∧ Expected d p .writeImm false ∧ (getConn d (connOf p)).service = .mirror ∧ (∃ n raw slot loc, nget e.tier.map k = some (.stored n raw slot loc)) ∧ getFrame e k = none ∧ e.nextReq ≠ d.nextReq) ∧
    (∃ (s : State) (p : Pkt) (imm : BitVec 32) (a : ChmAddr) (data : List Byte), 
    let b : ReqBody := .mirrorImm imm a data
    let d := frameHeard s.dev p b
    Enters s.dev (.req p b) ∧ portRole s.dev p.port = 2 ∧ ((imm.toNat = 0 ∨ 3 < imm.toNat)) ∧ Expected d p .writeImm (data != []) ∧ (getConn d (connOf p)).service = .mirror) ∧
    (∃ (s : State) (p : Pkt) (ch : BitVec 16) (page : BitVec 36) (i : Fin 128), 
    let b : ReqBody := .repair ch page (some i)
    let d := frameHeard s.dev p b
    Enters s.dev (.req p b) ∧ portRole s.dev p.port = 2 ∧ Expected d p .read false ∧ (getConn d (connOf p)).service = .mirror) ∧
    (∃ (s : State) (p : Pkt) (ch : BitVec 16) (page : BitVec 36), 
    let b : ReqBody := .repair ch page none
    let d := frameHeard s.dev p b
    Enters s.dev (.req p b) ∧ portRole s.dev p.port = 2 ∧ Expected d p .read false ∧ (getConn d (connOf p)).service = .mirror) := by
  refine ⟨⟨st svcM, pkm 0xCA, ⟨3, 49152⟩, [1, 2], false, by decide +kernel⟩,
    ⟨st svcM, pkm 0xCB, 1, ⟨3, 49152⟩, leBytes 8 9, by decide +kernel⟩,
    ⟨st svcM, pkm 0xCB, 2, ⟨3, 49152⟩, by decide +kernel⟩,
    ⟨st {svcM with tier.map := [(pk, .stored 4 true 0 9)]}, pkm 0xCB, 3, ⟨3, 49152⟩, by decide +kernel, by decide +kernel, by decide +kernel, by decide +kernel, by decide +kernel, ⟨4, true, 0, 9, by decide +kernel⟩, by decide +kernel, by decide +kernel⟩,
    ⟨st svcM, pkm 0xCB, 4, ⟨3, 49152⟩, [1], by decide +kernel⟩,
    ⟨st svcM, pkm 0xCC, 3, 3, 6, by decide +kernel⟩,
    ⟨st svcM, pkm 0xCC, 3, 3, by decide +kernel⟩⟩


theorem witness_Responses :
    (∃ (s : State) (h : RspPkt) (k : ConnNo) (psn : BitVec 24), 
    let d := answerHeard s.dev h (.ack k psn)
    Enters s.dev (.rsp h (.ack k psn)) ∧ RspPasses d h k.val ∧ isDown d = false) ∧
    (∃ (s : State) (h : RspPkt) (k : ConnNo) (psn : BitVec 24), 
    let d := answerHeard s.dev h (.nak k 0x60 psn)
    Enters s.dev (.rsp h (.nak k 0x60 psn)) ∧ RspPasses d h k.val ∧ isDown d = false ∧ (getConn d k.val).state = .ready) ∧
    (∃ (s : State) (h : RspPkt) (k : ConnNo) (syn : BitVec 8) (psn : BitVec 24), 
    let d := answerHeard s.dev h (.nak k syn psn)
    Enters s.dev (.rsp h (.nak k syn psn)) ∧ RspPasses d h k.val ∧ isDown d = false ∧ (getConn d k.val).state = .ready ∧ 0x61 ≤ syn.toNat) ∧
    (∃ (s : State) (h : RspPkt) (k : ConnNo) (psn : BitVec 24) (detail : BitVec 16) (st : BitVec 8), 
    let d := answerHeard s.dev h (.statusNak k psn st detail)
    Enters s.dev (.rsp h (.statusNak k psn st detail)) ∧ RspPasses d h k.val ∧ isDown d = false ∧ (getConn d k.val).state = .ready ∧ st.toNat = stBusy) ∧
    (∃ (s : State) (h : RspPkt), 
    let d := entered s.dev (.rsp h .cnp)
    Enters s.dev (.rsp h .cnp) ∧ isDown d = false) ∧
    (∃ (s : State) (h : RspPkt) (k : ConnNo) (psn : BitVec 24), 
    let d := answerHeard s.dev h (.mirrorAck k psn)
    Enters s.dev (.rsp h (.mirrorAck k psn)) ∧ RspPasses d h k.val ∧ isDown d = false ∧ (getConn d k.val).service = .mirror) ∧
    (∃ (s : State) (h : RspPkt) (k : ConnNo) (psn : BitVec 24), 
    let d := answerHeard s.dev h (.copyAck k psn)
    Enters s.dev (.rsp h (.copyAck k psn)) ∧ RspPasses d h k.val ∧ isDown d = false ∧ (getConn d k.val).service = .mirror) ∧
    (∃ (s : State) (h : RspPkt) (k : ConnNo) (psn : BitVec 24) (data : List Byte) (pmh : List (Option (BitVec 64))) (x : Sent) (n : Nat) (page : Nat) (i : Nat), 
    let d := answerHeard s.dev h (.repairAns k psn data pmh)
    Enters s.dev (.rsp h (.repairAns k psn data pmh)) ∧ RspPasses d h k.val ∧ isDown d = false ∧ (getConn d k.val).sent = [x] ∧ x.left = true ∧ x.psn = psn.toNat ∧ x.kind = .repair n page i) := by
  refine ⟨⟨st svcS, rsp, 1025, 3, by decide +kernel⟩,
    ⟨st svcS, rsp, 1025, 3, by decide +kernel⟩,
    ⟨st svcS, rsp, 1025, 0x61, 3, by decide +kernel⟩,
    ⟨st svcS, rsp, 1025, 3, 10, 0x0A, by decide +kernel⟩,
    ⟨st svcM, rsp, by decide +kernel⟩,
    ⟨st svcS, rsp, 1025, 3, by decide +kernel⟩,
    ⟨st svcS, rsp, 1025, 3, by decide +kernel⟩,
    ⟨st {svcM with conns := [(1025, {getConn svcM 1025 with sent := [{snt with left := true, kind := .repair 3 3 6}]})]}, rsp, 1025, 3, [7], [], {snt with left := true, kind := .repair 3 3 6}, 3, 3, 6, by decide +kernel⟩⟩


theorem witness_HeartbeatsAndLease :
    (∃ (s : State), custodyOn s.dev = true ∧ ((∀ b ∈ beatPeers s.dev, pathsTo s.dev b.1 = []))) ∧
    (∃ (s : State) (v : CtrlVia) (o : Ordinal), Hears s.dev v ∧ custodyOn (ctrlOf s.dev v) = true ∧ isPeer (ctrlOf s.dev v) o.val = true ∧ nget (ctrlOf s.dev v).watch (o.val / 2) = none) ∧
    (∃ (s : State) (v : CtrlVia) (o : Ordinal) (claim : BitVec 48), Hears s.dev v ∧ custodyOn (ctrlOf s.dev v) = true ∧ o.val = twinOrd (ctrlOf s.dev v) ∧ claim.toNat = (ctrlOf s.dev v).cus.pairClaim ∧ (ctrlOf s.dev v).cus.witness.isSome = true) ∧
    (∃ (s : State) (o : Ordinal), custodyOn s.dev = true ∧ o.val = twinOrd s.dev ∧ s.dev.cus.twinSuspect = false) ∧
    (∃ (s : State), custodyOn s.dev = true) ∧
    (∃ (s : State), s.dev.cus.leaseLive = true) := by
  refine ⟨⟨st {svcF with ports := []}, by decide +kernel⟩,
    ⟨st svcF, via, 1, by decide +kernel⟩,
    ⟨st svcF, via, 1, 0, by decide +kernel⟩,
    ⟨st svcF, 1, by decide +kernel⟩,
    ⟨st svcF, by decide +kernel⟩,
    ⟨st {svcF with cus.leaseLive := true, cus.leaseEnd := 70}, by decide +kernel⟩⟩


theorem witness_CustodyWaits :
    (∃ (s : State) (r : Req) (t : Nat), s.dev.reqs = [r] ∧ fromTwin r.kind = false ∧ r.bulk = none ∧ r.stage = .waitCustody t ∧ r.parts = []) ∧
    (∃ (s : State) (r : Req) (t : Nat), s.dev.reqs = [r] ∧ fromTwin r.kind = true ∧ r.stage = .waitCustody t) ∧
    (∃ (s : State), custodyOn s.dev = true ∧ s.dev.cus.settled = false) := by
  refine ⟨⟨st {svcF with reqs := [{rq .write .queued with stage := .waitCustody 70, parts := []}]}, {rq .write .queued with stage := .waitCustody 70, parts := []}, 70, by decide +kernel⟩,
    ⟨st {svcF with reqs := [{rq .mirrorWrite .queued with stage := .waitCustody 70, parts := []}]}, {rq .mirrorWrite .queued with stage := .waitCustody 70, parts := []}, 70, by decide +kernel⟩,
    ⟨st svcF, by decide +kernel⟩⟩


theorem witness_WitnessGrants :
    (∃ (s : State) (v : CtrlVia) (m : ClaimReq) (w : Watch), 
    let o := m.requester.val
    Hears s.dev v ∧ Watched (ctrlOf s.dev v) m 1 w ∧ w.stale ≠ staleCode o ∧ heldByOther w o = none ∧ takeoverOk (ctrlOf s.dev v) w o = true) ∧
    (∃ (s : State) (v : CtrlVia) (m : ClaimReq) (w : Watch) (h : HeldTakeover), 
    let o := m.requester.val
    Hears s.dev v ∧ Watched (ctrlOf s.dev v) m 1 w ∧ w.stale ≠ staleCode o ∧ w.held = some h ∧ h.requester ≠ o) ∧
    (∃ (s : State) (v : CtrlVia) (m : ClaimReq) (w : Watch), 
    let o := m.requester.val
    Hears s.dev v ∧ Watched (ctrlOf s.dev v) m 1 w ∧ w.stale ≠ staleCode o ∧ takeoverOk (ctrlOf s.dev v) w o = false ∧ w.held = none) ∧
    (∃ (s : State) (v : CtrlVia) (m : ClaimReq) (w : Watch), 
    let o := m.requester.val
    Hears s.dev v ∧ Watched (ctrlOf s.dev v) m 2 w ∧ w.stale ≠ staleCode o ∧ w.solo = false) ∧
    (∃ (s : State) (v : CtrlVia) (m : ClaimReq) (w : Watch), Hears s.dev v ∧ Watched (ctrlOf s.dev v) m 3 w ∧ w.solo = false) ∧
    (∃ (s : State) (v : CtrlVia) (m : ClaimReq) (w : Watch), 
    let o := m.requester.val
    Hears s.dev v ∧ Watched (ctrlOf s.dev v) m 4 w ∧ w.stale ≠ staleCode o ∧ w.solo = true) ∧
    (∃ (s : State) (v : CtrlVia) (m : ClaimReq) (w : Watch), Hears s.dev v ∧ Watched (ctrlOf s.dev v) m 6 w) ∧
    (∃ (s : State) (v : CtrlVia) (m : ClaimReq) (w : Watch), Hears s.dev v ∧ Watched (ctrlOf s.dev v) m 5 w) ∧
    (∃ (s : State) (v : CtrlVia) (m : ClaimReq) (w : Watch) (k : Fin 16), Hears s.dev v ∧ Watched (ctrlOf s.dev v) m k.val w) ∧
    (∃ (s : State) (pair : BitVec 13) (w : Watch) (h : HeldTakeover), 
    let d := reach s.dev (h.since + ms 2)
    nget s.dev.watch pair.toNat = some w ∧ w.held = some h ∧ h.cSeen = w.cw ∧ takeoverOk d w h.requester = false) ∧
    (∃ (s : State) (pair : BitVec 13) (w : Watch) (t : Nat), nget s.dev.watch pair.toNat = some w ∧ w.yieldEven = some t ∧ w.yieldOdd = none) := by
  refine ⟨⟨st (svcW wat), via, sgReq 1 ask, wat, by decide +kernel, ⟨by decide +kernel, tagOk_sg _ _ (by decide +kernel), by decide +kernel, by decide +kernel, by decide +kernel, by decide +kernel, by decide +kernel⟩, by decide +kernel, by decide +kernel, by decide +kernel⟩,
    ⟨st (svcW {wat with held := some ⟨5, 9, 70, 5⟩}), via, sgReq 1 ask, {wat with held := some ⟨5, 9, 70, 5⟩}, ⟨5, 9, 70, 5⟩, by decide +kernel, ⟨by decide +kernel, tagOk_sg _ _ (by decide +kernel), by decide +kernel, by decide +kernel, by decide +kernel, by decide +kernel, by decide +kernel⟩, by decide +kernel, by decide +kernel, by decide +kernel⟩,
    ⟨st (svcW {wat with suspOdd := false}), via, sgReq 1 ask, {wat with suspOdd := false}, by decide +kernel, ⟨by decide +kernel, tagOk_sg _ _ (by decide +kernel), by decide +kernel, by decide +kernel, by decide +kernel, by decide +kernel, by decide +kernel⟩, by decide +kernel, by decide +kernel, by decide +kernel⟩,
    ⟨st (svcW wat), via, sgReq 2 ask, wat, by decide +kernel, ⟨by decide +kernel, tagOk_sg _ _ (by decide +kernel), by decide +kernel, by decide +kernel, by decide +kernel, by decide +kernel, by decide +kernel⟩, by decide +kernel, by decide +kernel⟩,
    ⟨st (svcW wat), via, sgReq 3 ask, wat, by decide +kernel, ⟨by decide +kernel, tagOk_sg _ _ (by decide +kernel), by decide +kernel, by decide +kernel, by decide +kernel, by decide +kernel, by decide +kernel⟩, by decide +kernel⟩,
    ⟨st (svcW {wat with solo := true}), via, sgReq 4 ask, {wat with solo := true}, by decide +kernel, ⟨by decide +kernel, tagOk_sg _ _ (by decide +kernel), by decide +kernel, by decide +kernel, by decide +kernel, by decide +kernel, by decide +kernel⟩, by decide +kernel, by decide +kernel⟩,
    ⟨st (svcW wat), via, sgReq 6 ask, wat, by decide +kernel, ⟨by decide +kernel, tagOk_sg _ _ (by decide +kernel), by decide +kernel, by decide +kernel, by decide +kernel, by decide +kernel, by decide +kernel⟩⟩,
    ⟨st (svcW wat), via, sgReq 5 ask, wat, by decide +kernel, ⟨by decide +kernel, tagOk_sg _ _ (by decide +kernel), by decide +kernel, by decide +kernel, by decide +kernel, by decide +kernel, by decide +kernel⟩⟩,
    ⟨st (svcW wat), via, sgReq 8 ask, wat, 8, by decide +kernel, ⟨by decide +kernel, tagOk_sg _ _ (by decide +kernel), by decide +kernel, by decide +kernel, by decide +kernel, by decide +kernel, by decide +kernel⟩⟩,
    ⟨st (svcW {wat with suspOdd := false, held := some ⟨4, 9, 70, 5⟩}), 2, {wat with suspOdd := false, held := some ⟨4, 9, 70, 5⟩}, ⟨4, 9, 70, 5⟩, by decide +kernel⟩,
    ⟨st (svcW {wat with yieldEven := some 70}), 2, {wat with yieldEven := some 70}, 70, by decide +kernel⟩⟩


theorem witness_ClaimsOutstanding :
    (∃ (s : State) (v : CtrlVia) (m : ClaimAns) (o : ClaimOut), 
    let c := m.claim.toNat
    Hears s.dev v ∧ custodyOn (ctrlOf s.dev v) = true ∧ ansOk (ctrlOf s.dev v) m = true ∧ (ctrlOf s.dev v).cus.out = some o ∧ o.number = m.number.toNat ∧ kindCode o.kind = m.kind.toNat ∧ (ctrlOf s.dev v).cus.pairClaim < c ∧ o.kind = .takeover) ∧
    (∃ (s : State) (v : CtrlVia) (m : ClaimAns), Hears s.dev v ∧ custodyOn (ctrlOf s.dev v) = true ∧ ansOk (ctrlOf s.dev v) m = false) ∧
    (∃ (s : State) (v : CtrlVia) (m : ClaimAns) (o : ClaimOut), Hears s.dev v ∧ custodyOn (ctrlOf s.dev v) = true ∧ ansOk (ctrlOf s.dev v) m = true ∧ m.kind ≠ 7 ∧ (ctrlOf s.dev v).cus.out = some o ∧ o.number = m.number.toNat ∧ o.kind = .query ∧ m.claim.toNat = (ctrlOf s.dev v).cus.pairClaim) ∧
    (∃ (s : State) (t : TakeoverWait), s.dev.cus.takeover = some t) ∧
    (∃ (s : State) (o : ClaimOut) (w : Nat), 
    let d := reach s.dev o.next
    s.dev.cus.out = some o ∧ s.dev.cus.witness = some w ∧ causePersists d o.kind = true ∧ o.answered = false) ∧
    (∃ (s : State) (t : Nat), s.dev.cus.yieldedAt = some t ∧ s.dev.cus.out = none) ∧
    (∃ (s : State) (v : CtrlVia) (m : ClaimReq), 
    let d := ctrlOf s.dev v
    Hears s.dev v ∧ isDown d = false ∧ reqTagOk d m 5 = true ∧ m.requester.val = twinOrd d ∧ standalone d = false ∧ nget d.watch (m.requester.val / 2) = none) ∧
    (∃ (s : State) (v : CtrlVia) (m : ClaimReq), 
    let d := ctrlOf s.dev v
    let e := claimSeen d m.requester.val m.cSeen.toNat
    Hears s.dev v ∧ isDown d = false ∧ reqTagOk d m 7 = true ∧ m.requester.val = twinOrd d ∧ standalone d = false ∧ nget d.watch (m.requester.val / 2) = none ∧ e.cus.witness.isSome = true) ∧
    (∃ (s : State) (v : CtrlVia) (m : StatusAns), Hears s.dev v ∧ custodyOn (ctrlOf s.dev v) = true ∧ statusTagOk (ctrlOf s.dev v) m = true ∧ m.pair.toNat = m.sender.val / 2 ∧ m.sender.val = twinOrd (ctrlOf s.dev v) ∧ standalone (ctrlOf s.dev v) = false ∧ (ctrlOf s.dev v).cus.settled = true) := by
  refine ⟨⟨st {svcF with cus.out := some (clo .takeover)}, via, sgAns (can 1 6), clo .takeover, by decide +kernel, by decide +kernel, ansOk_sg _ _ (by decide +kernel) (by decide +kernel), by decide +kernel, by decide +kernel, by decide +kernel, by decide +kernel, by decide +kernel⟩,
    ⟨st noKey, via, can 1 6, by decide +kernel⟩,
    ⟨st {svcF with cus.out := some (clo .query), cus.halted := some 3}, via, sgAns (can 6 0), clo .query, by decide +kernel, by decide +kernel, ansOk_sg _ _ (by decide +kernel) (by decide +kernel), by decide +kernel, by decide +kernel, by decide +kernel, by decide +kernel, by decide +kernel⟩,
    ⟨st {svcF with cus.takeover := some ⟨6, 70⟩}, ⟨6, 70⟩, by decide +kernel⟩,
    ⟨st {svcF with cus.out := some (clo .yield), cus.yieldedAt := some 3}, clo .yield, 2, by decide +kernel⟩,
    ⟨st {svcF with cus.yieldedAt := some 70}, 70, by decide +kernel⟩,
    ⟨st svcF, via, sgReq 5 {ask with requester := 1}, by decide +kernel, by decide +kernel, tagOk_sg _ _ (by decide +kernel), by decide +kernel, by decide +kernel, by decide +kernel⟩,
    ⟨st svcF, via, sgReq 7 {ask with requester := 1}, by decide +kernel, by decide +kernel, tagOk_sg _ _ (by decide +kernel), by decide +kernel, by decide +kernel, by decide +kernel, by decide +kernel⟩,
    ⟨st {svcF with cus.settled := true}, via, sgSta ⟨0, 0, false, false, 0, 0, 1, false, 0⟩, by decide +kernel, by decide +kernel, tagOk_sg _ _ (by decide +kernel), by decide +kernel, by decide +kernel, by decide +kernel, by decide +kernel⟩⟩


theorem witness_DrainsAndResync :
    (∃ (s : State) (x : Drain), s.dev.cus.drain = some x ∧ x.reached = none ∧ drainBusy s.dev x = false) ∧
    (∃ (s : State) (x : Drain), s.dev.cus.drain = some x ∧ x.reached = none) ∧
    (∃ (s : State) (x : Drain) (t : Nat), s.dev.cus.drain = some x ∧ x.reached = some t ∧ s.dev.cus.out = none) ∧
    (∃ (s : State), 
    let n := hfld s.dev .CUS_CFG2 31 24
    n ≠ 0 ∧ mayFailback s.dev = true ∧ s.dev.cus.state = .joined ∧ preferredAway s.dev = true ∧ s.dev.cus.drainOut = none ∧ s.dev.cus.failback = none) ∧
    (∃ (s : State) (w : Writer), 
    let d := asked s.dev w .CUS_CTRL 0 0
    Accepts s.dev w .CUS_CTRL 0 ∧ mayFailback d = true) ∧
    (∃ (s : State) (w : Writer), 
    let d := asked s.dev w .CUS_CTRL 0 0
    Accepts s.dev w .CUS_CTRL 0 ∧ custodyOn d = true ∧ d.cus.witness.isSome = true) ∧
    (∃ (s : State) (w : Writer), 
    let d := asked s.dev w .CUS_CTRL 0 0
    Accepts s.dev w .CUS_CTRL 0 ∧ d.cus.witness = none) ∧
    (∃ (s : State) (w : Writer), 
    let d := asked s.dev w .CUS_CTRL 0 0
    Accepts s.dev w .CUS_CTRL 0 ∧ custodyOn d = true ∧ d.cus.state = .joined) ∧
    (∃ (s : State), 
    let days := hfld s.dev .CUS_CFG2 7 0
    custodyOn s.dev = true ∧ s.dev.cus.state = .joined ∧ s.dev.cus.comparing = none ∧ days ≠ 0) ∧
    (∃ (s : State) (c : CellNo) (n : Fin 65536) (r : BitVec 22), 
    let d := reach s.dev s.dev.cus.nextCopy
    custodyOn s.dev = true ∧ s.dev.cus.state = .resync ∧ absentPages d c.val n.val r.toNat = []) ∧
    (∃ (s : State) (c : CellNo) (k : Nat), 
    let d := reach s.dev s.dev.cus.nextCopy
    custodyOn s.dev = true ∧ s.dev.cus.state = .resync ∧ s.dev.cus.stale = false ∧ (d.cus.marks.find? fun p => p.1 / 2 ^ 40 == c.val && !nhas d.cus.copying p.1) = some (k, 0) ∧ absentPages d c.val (k / 2 ^ 22 % 2 ^ 16) (k % 2 ^ 22) = []) := by
  refine ⟨⟨st {svcF with cus.drain := some ⟨0, 0, some 9, 20, none⟩}, ⟨0, 0, some 9, 20, none⟩, by decide +kernel⟩,
    ⟨st {svcF with cus.drain := some ⟨0, 0, some 9, 20, none⟩}, ⟨0, 0, some 9, 20, none⟩, by decide +kernel⟩,
    ⟨st {svcF with cus.drain := some ⟨0, 0, some 9, 20, some 70⟩}, ⟨0, 0, some 9, 20, some 70⟩, 70, by decide +kernel⟩,
    ⟨st {arg svcF .CUS_CFG2 0 0 [0x01000000] with chm.chambers := [(3, {chmM with holder := 1, pref := 1})], hbm := [], med := allCells.map fun c => (c, {st := .online})}, by decide +kernel⟩,
    ⟨st {svcF with med := allCells.map fun c => (c, {st := .online})}, mp, by decide +kernel⟩,
    ⟨st svcF, mp, by decide +kernel⟩,
    ⟨st {svcF with cus.witness := none}, mp, by decide +kernel⟩,
    ⟨st svcF, mp, by decide +kernel⟩,
    ⟨st (arg svcF .CUS_CFG2 0 0 [1]), by decide +kernel⟩,
    ⟨st {svcM with cus.state := .resync}, 0, 3, 0, by decide +kernel⟩,
    ⟨st {svcM with cus.state := .resync, cus.marks := [(3 * 2 ^ 22, 0)]}, 0, 3 * 2 ^ 22, by decide +kernel⟩⟩


theorem witness_TimeMessages :
    (∃ (s : State) (h : PtpHdr), 
    let x := ptpHeard s.dev h
    let d := x.1
    x.2 = true ∧ d.tim.isRoot = false ∧ d.tim.slave = some h.port.val ∧ d.tim.st = .locked) ∧
    (∃ (s : State) (h : PtpHdr), 
    let x := ptpHeard s.dev h
    let d := x.1
    x.2 = true ∧ d.tim.isRoot = false ∧ d.tim.slave = some h.port.val ∧ d.tim.st = .freerun) ∧
    (∃ (s : State) (h : PtpHdr) (cls : BitVec 8) (steps : BitVec 8) (ord : Sys2Proof.Ordinal) (utc : BitVec 16), 
    let x := ptpHeard s.dev h
    let a : AnnInfo := ⟨cls.toNat, ord.val, steps.toNat, x.1.now, utc.toNat⟩
    let d : Dev := { x.1 with tim.best := nset x.1.tim.best h.port.val a }
    x.2 = true ∧ portRole x.1 h.port.val = 3 ∧ ord.val ≠ ordinal x.1 ∧ d.tim.isRoot = true ∧ bestAnnounce d = some (h.port.val, a) ∧ annBetter a (ownAnn d) = true ∧ d.tim.slave = none) ∧
    (∃ (s : State) (h : PtpHdr), 
    let x := ptpHeard s.dev h
    x.2 = true ∧ portRole x.1 h.port.val = 1) ∧
    (∃ (s : State) (h : PtpHdr), 
    let x := ptpHeard s.dev h
    x.2 = true) ∧
    (∃ (s : State) (h : PtpHdr) (t1 : Nat) (t2 : Nat) (t3 : Nat), 
    let x := ptpHeard s.dev h
    let p := h.port.val
    x.2 = true ∧ nget x.1.tim.syncT p = some (t1, t2) ∧ nget x.1.tim.delayT1 p = some t3) ∧
    (∃ (s : State) (h : PtpHdr), 
    let x := macGate s.dev h.port.val h.sec
    x.2 = true ∧ isDown x.1 = false ∧ ptpPort x.1 h.port.val = true ∧ h.domain.toNat ≠ 24) := by
  refine ⟨⟨st {svcF with tim.slave := some 2, tim.st := .locked}, ptp, by decide +kernel⟩,
    ⟨st {svcF with tim.slave := some 2}, ptp, by decide +kernel⟩,
    ⟨st {svcF with tim.isRoot := true, ldr.ident.ordinal := 3, fab.topo := ⟨[4], [⟨3, 2, 2, 2, 3⟩], 5⟩}, ptp, 248, 2, 0, 37, by decide +kernel⟩,
    ⟨st svcF, {ptp with port := 0}, by decide +kernel⟩,
    ⟨st svcF, ptp, by decide +kernel⟩,
    ⟨st {svcF with tim.syncT := [(2, 100, 120)], tim.delayT1 := [(2, 130)]}, ptp, 100, 120, 130, by decide +kernel⟩,
    ⟨st svcF, {ptp with domain := 23}, by decide +kernel⟩⟩


theorem witness_TimeTimers :
    (∃ (s : State), isDown s.dev = false) ∧
    (∃ (s : State) (p : Nat), isDown s.dev = false ∧ s.dev.tim.slave = some p) ∧
    (∃ (s : State), s.dev.tim.st = .locked ∧ s.dev.tim.isRoot = false) ∧
    (∃ (s : State) (p : Nat) (a : AnnInfo), s.dev.tim.slave = some p ∧ nget s.dev.tim.best p = some a ∧ (∃ q ∈ allCells, portUp s.dev q = true)) ∧
    (∃ (s : State), s.dev.tim.st = .slewing ∧ s.dev.tim.rem = 0) := by
  refine ⟨⟨st {svcF with tim.isRoot := true, tim.nextSync := 70}, by decide +kernel⟩,
    ⟨st {svcF with tim.slave := some 2, tim.nextDelay := 70}, 2, by decide +kernel⟩,
    ⟨st {svcF with tim.st := .locked}, by decide +kernel⟩,
    ⟨st {svcF with tim.slave := some 2, tim.best := [(2, ⟨248, 1, 0, 5, 37⟩)]}, 2, ⟨248, 1, 0, 5, 37⟩, by decide +kernel⟩,
    ⟨st {svcF with tim.st := .slewing}, by decide +kernel⟩⟩


theorem witness_PpsAndSeconds :
    (∃ (s : State) (t : BitVec 64) (w : BitVec 32) (l : Nat), 
    let d := reach s.dev t.toNat
    fbit (hreg s.dev .TIME_PPS_CFG) 31 = true ∧ 1000 ≤ w.toNat ∧ w.toNat ≤ 500000000 ∧ s.dev.pwr.state ≠ .off ∧ s.dev.tim.isRoot = false ∧ s.dev.tim.pps.locked = false ∧ s.dev.tim.pps.last = some l ∧ (phaseErr (d.now - l)).natAbs ≤ 1000 ∧ d.now - l ≤ 1500000000) ∧
    (∃ (s : State) (l : Nat), s.dev.tim.pps.last = some l ∧ s.dev.tim.pps.locked = true) ∧
    (∃ (s : State), 
    let n := fedTime s.dev / 1000000000
    s.dev.tim.lastSecond < n ∧ s.dev.pwr.state ≠ .off ∧ s.dev.tim.todPending = none ∧ s.dev.tim.st = .locked ∧ fbit (hreg s.dev .TIME_PPS_CFG) 30 = true ∧ s.dev.tim.everSet = true) ∧
    (∃ (s : State), 
    let n := fedTime s.dev / 1000000000
    s.dev.tim.lastSecond < n ∧ s.dev.pwr.state ≠ .off ∧ s.dev.tim.todPending = none ∧ s.dev.tim.st = .stepPending ∧ s.dev.tim.rem = 0) ∧
    (∃ (s : State) (w : Writer), Accepts s.dev w .TIME_TOD_CFG 0 ∧ s.dev.tim.isRoot = true ∧ s.dev.ldr.step = 15) ∧
    (∃ (s : State) (w : Writer), Accepts s.dev w .TIME_TOD_CFG 0 ∧ s.dev.tim.isRoot = false) := by
  refine ⟨⟨st (arg {svcF with tim.pps := {last := some 5}} .TIME_PPS_CFG 0 0 [0x80000000]), 1000000005, 1000, 5, by decide +kernel⟩,
    ⟨st {svcF with tim.pps := {last := some 5, locked := true}}, 5, by decide +kernel⟩,
    ⟨st (arg {svcF with tim.st := .locked, tim.everSet := true, now := 1000000000} .TIME_PPS_CFG 0 0 [0x40000000]), by decide +kernel⟩,
    ⟨st {svcF with tim.st := .stepPending, tim.stepPending := 5, now := 1000000000}, by decide +kernel⟩,
    ⟨st {svcF with tim.isRoot := true}, mp, by decide +kernel⟩,
    ⟨st svcF, mp, by decide +kernel⟩⟩


theorem witness_CalendarPosts :
    (∃ (d : Dev) (kind : Nat) (time : Nat) (arg : Nat) (ok : Bool), postCode d kind time arg ok = 0) ∧
    (∃ (d : Dev) (kind : Nat) (time : Nat) (arg : Nat) (ok : Bool), postCode d kind time arg ok ≠ 0) ∧
    (∃ (s : State) (w : Writer), Accepts s.dev w .CAL_CMD 0) ∧
    (∃ (s : State) (w : Writer), Accepts s.dev w .CAL_CMD 0) ∧
    (∃ (s : State) (m : CalPostMsg), 
    let x := calHeard s.dev m 0
    x.2 = true) ∧
    (∃ (s : State) (m : CalPostMsg), 
    let x := calHeard s.dev m 1
    x.2 = true) ∧
    (∃ (s : State) (m : ModeMsg), 
    let x := modeHeard s.dev m 3
    x.2 = true) ∧
    (∃ (s : State) (m : ModeMsg), 
    let x := modeHeard s.dev m 4
    x.2 = true) := by
  refine ⟨⟨svcF, 7, 1000000, 5, true, by decide +kernel⟩,
    ⟨svcF, 7, 0, 5, true, by decide +kernel⟩,
    ⟨st (arg svcF .CAL_POST 0 0 [0x70, 7, 0, 1000000, 0, 5]), mp, by decide +kernel⟩,
    ⟨st (arg (svcE (ent 7 5)) .CAL_POST 0 0 [0x70, 7, 0, 1000000, 0, 5]), mp, by decide +kernel⟩,
    ⟨st svcF, sgCal 0 cpm, treeHeard_snd _ _ _ _ (by decide +kernel) (by decide +kernel)⟩,
    ⟨st (svcE (ent 7 5)), sgCal 1 cpm, treeHeard_snd _ _ _ _ (by decide +kernel) (by decide +kernel)⟩,
    ⟨st svcF, sgMode 3 ⟨1, .plain, 0, 0, 0⟩, treeHeard_snd _ _ _ _ (by decide +kernel) (by decide +kernel)⟩,
    ⟨st svcF, sgMode 4 ⟨1, .plain, 0, 0, 0⟩, treeHeard_snd _ _ _ _ (by decide +kernel) (by decide +kernel)⟩⟩


theorem witness_CalendarFires :
    (∃ (s : State) (i : Nat) (e : CalEnt), FiresAlone s.dev i e 1 ∧ isDown s.dev = false) ∧
    (∃ (s : State) (i : Nat) (e : CalEnt), 
    let d := firedAt s.dev i e
    FiresAlone s.dev i e 2 ∧ participates d = true) ∧
    (∃ (s : State) (i : Nat) (e : CalEnt), 
    let d := firedAt s.dev i e
    FiresAlone s.dev i e 3 ∧ inService3 d = true) ∧
    (∃ (s : State) (i : Nat) (e : CalEnt), FiresAlone s.dev i e 4 ∧ ((∀ c ∈ allCells, mediaOn s.dev c = false)) ∧ custodyOn s.dev = false) ∧
    (∃ (s : State) (i : Nat) (e : CalEnt), FiresAlone s.dev i e 5) ∧
    (∃ (s : State) (i : Nat) (e : CalEnt), FiresAlone s.dev i e 6) ∧
    (∃ (s : State) (i : Nat) (e : CalEnt), FiresAlone s.dev i e 7) ∧
    (∃ (s : State) (t : Nat), 
    let d := reachFed s.dev t
    s.dev.cal.scrubEnd = some t ∧ t ≤ fedTime d) ∧
    (∃ (s : State) (t : Nat), 
    let d := reachFed s.dev t
    s.dev.cal.dozeEnd = some t ∧ t ≤ fedTime d) ∧
    (∃ (s : State) (t : Nat), 
    let d := reachFed s.dev t
    s.dev.mode.graceEnd = some t ∧ t ≤ fedTime d) := by
  refine ⟨⟨st (svcE (ent 1 1)), 4, ent 1 1, by decide +kernel⟩,
    ⟨st (svcE (ent 2 1)), 4, ent 2 1, by decide +kernel⟩,
    ⟨st (svcE (ent 3 1)), 4, ent 3 1, by decide +kernel⟩,
    ⟨st {svc with med := [], cal.ents := [(4, ent 4 1)]}, 4, ent 4 1, by decide +kernel⟩,
    ⟨st (svcE (ent 5 1)), 4, ent 5 1, by decide +kernel⟩,
    ⟨st (svcE (ent 6 1)), 4, ent 6 1, by decide +kernel⟩,
    ⟨st (svcE (ent 7 1)), 4, ent 7 1, by decide +kernel⟩,
    ⟨st {svcF with cal.scrubEnd := some 70}, 70, by decide +kernel⟩,
    ⟨st {svcF with cal.dozeEnd := some 70}, 70, by decide +kernel⟩,
    ⟨st {svcF with mode.graceEnd := some 70}, 70, by decide +kernel⟩⟩


theorem witness_Acts :
    (∃ (s : State) (w : Writer), 
    let d := asked s.dev w .TIME_ACT_CMD 0 0
    Accepts s.dev w .TIME_ACT_CMD 0 ∧ s.dev.act.run = none ∧ actTime d = 0 ∧ actArg d = 0) ∧
    (∃ (s : State) (w : Writer), 
    let d := asked s.dev w .TIME_ACT_CMD 0 0
    Accepts s.dev w .TIME_ACT_CMD 0 ∧ s.dev.act.run = none ∧ calArgOk d 2 (actArg d) = true) ∧
    (∃ (s : State) (w : Writer), 
    let d := asked s.dev w .TIME_ACT_CMD 0 0
    Accepts s.dev w .TIME_ACT_CMD 0 ∧ s.dev.act.run = none ∧ calArgOk d 1 (actArg d) = true) ∧
    (∃ (s : State) (w : Writer), 
    let d := asked s.dev w .TIME_ACT_CMD 0 0
    Accepts s.dev w .TIME_ACT_CMD 0 ∧ s.dev.act.run = none ∧ calArgOk d 3 (actArg d) = true) ∧
    (∃ (s : State) (w : Writer), 
    let d := asked s.dev w .TIME_ACT_CMD 0 0
    let k := fld (reg d .CAL_POST 0 0) 7 4
    Accepts s.dev w .TIME_ACT_CMD 0 ∧ s.dev.act.run = none ∧ calArgOk d k (actArg d) = true) ∧
    (∃ (s : State) (w : Writer) (op : Fin 16), reservedOp 5 op = true ∧ Accepts s.dev w .TIME_ACT_CMD 0 ∧ s.dev.act.run = none) ∧
    (∃ (s : State) (w : Writer), Accepts s.dev w .TIME_ACT_CMD 0 ∧ s.dev.act.run.isSome = true) := by
  refine ⟨⟨st svcF, mp, by decide +kernel⟩,
    ⟨st (arg svcF .TIME_ACT_ARG 0 0 [0, 1000000, 0, 1]), mp, by decide +kernel⟩,
    ⟨st (arg svcF .TIME_ACT_ARG 0 0 [0, 1000000, 0, 1]), mp, by decide +kernel⟩,
    ⟨st (arg svcF .TIME_ACT_ARG 0 0 [0, 1000000, 0, 1]), mp, by decide +kernel⟩,
    ⟨st (arg (arg svcF .TIME_ACT_ARG 0 0 [0, 1000000, 0, 1]) .CAL_POST 0 0 [0x70]), mp, by decide +kernel⟩,
    ⟨st svcF, mp, 6, by decide +kernel⟩,
    ⟨st {svcF with act.run := some (run_ .post)}, mp, by decide +kernel⟩⟩


theorem witness_BarrierAlone :
    (∃ (d : Dev), treeKids d (ordinal d) (ordinal d) = [] ∧ d.act.relays = [] ∧ d.act.ready = []) ∧
    (∃ (d : Dev) (root : Nat), treeKids d root (ordinal d) = [] ∧ d.act.relays = []) := by
  refine ⟨⟨svcC, by decide +kernel⟩,
    ⟨svcF, 1, by decide +kernel⟩⟩


theorem witness_GathersAndCuts :
    (∃ (s : State) (m : GatherMsg) (r : Relay) (k : Nat) (a : Nat) (b : Nat), 
    let x := gatherHeard s.dev m
    let key := m.act.toNat * 8 + m.op.val
    x.2 = true ∧ nget x.1.act.relays key = some r ∧ farEnd x.1 (ordinal x.1) m.port.val = some (k, a, b) ∧ r.kids = [k]) ∧
    (∃ (s : State) (m : GatherMsg), 
    let x := gatherHeard s.dev m
    x.2 = true ∧ nget x.1.act.relays (m.act.toNat * 8 + m.op.val) = none) ∧
    (∃ (s : State) (act : BitVec 32) (op : Fin 7) (r : Relay), 
    let key := act.toNat * 8 + op.val
    nget s.dev.act.relays key = some r) ∧
    (∃ (s : State) (act : BitVec 32) (set : Nat), s.dev.snap.paused = [(set, act.toNat)] ∧ setDrained s.dev set = true ∧ nhas s.dev.snap.snaps act.toNat = false) ∧
    (∃ (s : State), s.dev.snap.paused = []) ∧
    (∃ (s : State) (act : BitVec 32) (set : Nat) (t : Nat), 
    let d := reachFed s.dev (t + epsilon s.dev + 1)
    nget s.dev.snap.holds act.toNat = some (set, t) ∧ t + epsilon d < fedTime d) ∧
    (∃ (s : State) (r : ActRun), 
    let d := reachFed s.dev (r.time + 2 * epsilon s.dev + 1)
    s.dev.act.run = some r ∧ r.phase = .wait ∧ r.time + 2 * epsilon d < fedTime d) ∧
    (∃ (d : Dev) (act : Nat), nhas d.snap.snaps act = false ∧ d.snap.snaps.length < 256) := by
  refine ⟨⟨st {svcF with act.relays := [(62, {parent := none, root := 0, kids := [1], own := true})]}, sgGat ⟨1, .plain, 7, 6, 0, 1, 0, 0, 0, 0⟩, {parent := none, root := 0, kids := [1], own := true}, 1, 1, 2, treeHeard_snd _ _ _ _ (by decide +kernel) (by decide +kernel), (by rw [gather_sg _ _ (by decide +kernel) (by decide +kernel)]; decide +kernel), (by rw [gather_sg _ _ (by decide +kernel) (by decide +kernel)]; decide +kernel), by decide +kernel⟩,
    ⟨st svcF, sgGat ⟨1, .plain, 7, 6, 0, 1, 0, 0, 0, 0⟩, treeHeard_snd _ _ _ _ (by decide +kernel) (by decide +kernel), (by rw [gather_sg _ _ (by decide +kernel) (by decide +kernel)]; decide +kernel)⟩,
    ⟨st {svcF with act.relays := [(62, {parent := none, root := 0, kids := [1], own := true, deadline := 70})]}, 7, 6, {parent := none, root := 0, kids := [1], own := true, deadline := 70}, by decide +kernel⟩,
    ⟨st {svcF with snap.paused := [(1, 7)]}, 7, 1, by decide +kernel⟩,
    ⟨st svcF, by decide +kernel⟩,
    ⟨st {svcF with snap.holds := [(7, 1, 1000)]}, 7, 1, 1000, by decide +kernel⟩,
    ⟨st {svcF with act.run := some (run_ .wait)}, run_ .wait, by decide +kernel⟩,
    ⟨svcF, 7, by decide +kernel⟩⟩


theorem witness_Commits :
    (∃ (s : State) (w : Writer) (v : Word), Accepts s.dev w .HUB_COMMIT 0 ∧ modePosted s.dev = false ∧ fbit v 31 = true ∧ s.dev.pwr.state = .service ∧ s.dev.mode.commitPending = false) ∧
    (∃ (s : State) (w : Writer) (v : Word), Accepts s.dev w .HUB_COMMIT 0 ∧ modePosted s.dev = false ∧ fbit v 31 = true ∧ s.dev.pwr.state = .service ∧ s.dev.mode.commitPending = true) ∧
    (∃ (s : State) (w : Writer), served s.dev w = true ∧ modePosted s.dev = true ∧ w ≠ .i3c) ∧
    (∃ (s : State), s.dev.mode.commitPending = true ∧ s.dev.pwr.state = .service) ∧
    (∃ (s : State), s.dev.mode.commitPending = true ∧ s.dev.pwr.state = .halted) ∧
    (∃ (s : State) (w : Writer), Accepts s.dev w .TIME_MODE_ADOPT 0) := by
  refine ⟨⟨st svcF, mp, 0x80000000, by decide +kernel⟩,
    ⟨st {svcF with mode.commitPending := true}, mp, 0x80000000, by decide +kernel⟩,
    ⟨st (svcE (ent 1 1)), mp, by decide +kernel⟩,
    ⟨st (setReg {svcF with mode.commitPending := true, shadow := [(regKey .POOL_CFG 0 0, 5)]} .POOL_CFG 0 0 4), by decide +kernel⟩,
    ⟨st {svcF with mode.commitPending := true, pwr.state := .halted}, by decide +kernel⟩,
    ⟨st svcF, mp, by decide +kernel⟩⟩


theorem witness_CommitPutsShadowsInForce :
    (∃ (d : Dev) (k : Nat), keyFenced d k = false) ∧
    (∃ (d : Dev) (k : Nat), keyFenced d k = true) := by
  refine ⟨⟨svcF, regKey .POOL_CFG 0 0, by decide +kernel⟩,
    ⟨{svcF with flt.fences := [(0, 1)]}, regKey .POOL_CFG 0 0, by decide +kernel⟩⟩


theorem witness_BulkQueueGrows :
    ∃ (d : Dev), d.reqs = [] := by
  exact ⟨svcF, by decide +kernel⟩


theorem witness_BulkStart :
    (∃ (s : State) (k : ConnNo) (tag : BitVec 16) (c : BulkCmd), findTag s.dev k.val tag.toNat = some c ∧ (s.dev.bulk.cmds.find? (startable s.dev)) = some c ∧ c.kind = .barrier ∧ c.pl.scope = 0) ∧
    (∃ (s : State) (k : ConnNo) (tag : BitVec 16) (c : BulkCmd), findTag s.dev k.val tag.toNat = some c ∧ (s.dev.bulk.cmds.find? (startable s.dev)) = some c ∧ c.kind = .snapshot ∧ (getConn s.dev k.val).tenant = 0 ∧ s.dev.act.run = none) ∧
    (∃ (s : State) (k : ConnNo) (tag : BitVec 16) (c : BulkCmd) (st : Nat), findTag s.dev k.val tag.toNat = some c ∧ (s.dev.bulk.cmds.find? (startable s.dev)) = some c ∧ c.kind = .fill ∧ targetCheck s.dev c = .fail st) ∧
    (∃ (s : State) (k : ConnNo) (tag : BitVec 16) (c : BulkCmd) (n : Nat) (off : Nat), findTag s.dev k.val tag.toNat = some c ∧ (s.dev.bulk.cmds.find? (startable s.dev)) = some c ∧ c.kind = .fill ∧ targetCheck s.dev c = .ok n off) ∧
    (∃ (s : State) (k : ConnNo) (tag : BitVec 16) (c : BulkCmd) (sn : Snap), findTag s.dev k.val tag.toNat = some c ∧ (s.dev.bulk.cmds.find? (startable s.dev)) = some c ∧ c.kind = .release ∧ (getConn s.dev k.val).tenant = 0 ∧ nget s.dev.snap.snaps c.pl.snap.toNat = some sn ∧ sn.state = .retained ∧ c.pl.scope = 0) ∧
    (∃ (s : State) (k : ConnNo) (tag : BitVec 16), findTag s.dev k.val tag.toNat = none) := by
  refine ⟨⟨st (svcB (bcm .barrier)), 1, 6, bcm .barrier, by decide +kernel⟩,
    ⟨st (svcB {bcm .snapshot with pl := {bpl with arg := 1000}}), 1, 6, {bcm .snapshot with pl := {bpl with arg := 1000}}, by decide +kernel⟩,
    ⟨st {svcB (bcm .fill) with chm.keys := []}, 1, 6, bcm .fill, stKeyInvalid, by decide +kernel⟩,
    ⟨st (svcB (bcm .fill)), 1, 6, bcm .fill, 3, 0, by decide +kernel⟩,
    ⟨st {svcB (bcm .release) with snap.snaps := [(7, snp .retained)]}, 1, 6, bcm .release, snp .retained, by decide +kernel⟩,
    ⟨st svcF, 1, 6, by decide +kernel⟩⟩


theorem witness_BulkEnds :
    (∃ (s : State) (k : ConnNo) (tag : BitVec 16) (lo : BitVec 41) (c : BulkCmd) (r : Req), pieceOf s.dev k.val tag.toNat lo.toNat = some (c, r) ∧ r.bulk = some (c.id, lo.toNat, 1) ∧ r.stage = .over stOk ∧ r.kind = .write ∧ r.parts.all (fun p => partOver p.st) = true ∧ c.kind = .fill) ∧
    (∃ (s : State) (k : ConnNo) (tag : BitVec 16) (lo : BitVec 41) (st : Nat) (c : BulkCmd) (r : Req), pieceOf s.dev k.val tag.toNat lo.toNat = some (c, r) ∧ r.stage = .over st ∧ st ≠ stOk ∧ r.kind ≠ .commitMark ∧ r.kind ≠ .verify ∧ r.parts.all (fun p => partOver p.st) = true ∧ ((c.kind = .load ∨ c.kind = .verify)) ∧ st = stTierFail) ∧
    (∃ (s : State) (k : ConnNo) (tag : BitVec 16) (lo : BitVec 41), pieceOf s.dev k.val tag.toNat lo.toNat = none) ∧
    (∃ (s : State) (p : Pkt) (tag : BitVec 16) (c : BulkCmd), 
    let b : ReqBody := .bulkAbort tag true
    let d := frameHeard s.dev p b
    let x := bulkFrame (taken d p) p
    let e := bump (bulkAck x.1 p (connOf p) none) .BLK_CNT 0 4
    Enters s.dev (.req p b) ∧ Expected d p .bulkAbort false ∧ (getConn d (connOf p)).service = .data ∧ d.pwr.state = .service ∧ (takeBufs (taken d p) (connCell (connOf p)) p.bytes (connIdx (connOf p)) false).isSome = true ∧ findTag e (connOf p) tag.toNat = some c) ∧
    (∃ (s : State) (p : Pkt) (tag : BitVec 16), 
    let b : ReqBody := .bulkAbort tag true
    let d := frameHeard s.dev p b
    let x := bulkFrame (taken d p) p
    let e := bump (bulkAck x.1 p (connOf p) none) .BLK_CNT 0 4
    Enters s.dev (.req p b) ∧ Expected d p .bulkAbort false ∧ (getConn d (connOf p)).service = .data ∧ d.pwr.state = .service ∧ (takeBufs (taken d p) (connCell (connOf p)) p.bytes (connIdx (connOf p)) false).isSome = true ∧ findTag e (connOf p) tag.toNat = none ∧ ngetD e.bulk.recs (connOf p) [] = []) ∧
    (∃ (s : State) (act : BitVec 32) (sn : Snap), nget s.dev.snap.snaps act.toNat = some sn ∧ sn.state = .releasing ∧ s.dev.bulk.cmds = []) := by
  refine ⟨⟨st {svcB {bcm .fill with state := .running, chamber := 3, issued := 16384, flight := [0], pl := {bpl with len := 32768}} with reqs := [{rq .write .done with bulk := some (0, 0, 1), stage := .over stOk}]}, 1, 6, 0, {bcm .fill with state := .running, chamber := 3, issued := 16384, flight := [0], pl := {bpl with len := 32768}}, {rq .write .done with bulk := some (0, 0, 1), stage := .over stOk}, by decide +kernel⟩,
    ⟨st {svcB ldc with reqs := [ldr_]}, 1, 6, 0, stTierFail, ldc, ldr_, by decide +kernel⟩,
    ⟨st svcF, 1, 6, 0, by decide +kernel⟩,
    ⟨st (svcB (bcm .fill)), pkd 0xD9, 6, bcm .fill, by decide +kernel⟩,
    ⟨st {svcF with conns := [(1, conD)]}, pkd 0xD9, 6, by decide +kernel⟩,
    ⟨st {svcF with snap.snaps := [(7, snp .releasing)]}, 7, snp .releasing, by decide +kernel⟩⟩


theorem witness_KeyStoreCommands :
    (∃ (s : State) (w : Writer), 
    let d := asked s.dev w .KEY_CMD 0 0
    let k := kslot d
    let u := fld (karg d 0) 27 24
    Accepts s.dev w .KEY_CMD 0 ∧ s.dev.sec.destroying = none ∧ badTarget d k u = false ∧ targetFull d k u = false ∧ d.sec.stopped = false ∧ u ≠ 1) ∧
    (∃ (s : State) (w : Writer), 
    let d := asked s.dev w .KEY_CMD 0 0
    Accepts s.dev w .KEY_CMD 0 ∧ s.dev.sec.destroying = none ∧ badTarget d (kslot d) (fld (karg d 0) 27 24) = false ∧ targetFull d (kslot d) (fld (karg d 0) 27 24) = false ∧ d.sec.stopped = true) ∧
    (∃ (s : State) (w : Writer) (e : Dev) (r : KeyResult) (m : Nat), 
    let d := asked s.dev w .KEY_CMD 0 0
    Accepts s.dev w .KEY_CMD 0 ∧ s.dev.sec.destroying = none ∧ importInto d (kslot d) (fld (karg d 0) 27 24) true (fld (karg d 0) 23 12) (fld (karg d 1) 11 0) ((List.range 18).map fun i => (karg d (2 + i)).toNat) = (e, r, m)) ∧
    (∃ (d : Dev) (k : Nat) (u : Nat) (kek : Nat) (km : Nat) (l : List Nat), badTarget d k u = false ∧ kekMat d kek = some km ∧ targetFull d k u = false ∧ u ≠ 1 ∧ (l.drop 10).any (· != 0) = false) ∧
    (∃ (d : Dev) (k : Nat) (u : Nat) (kek : Nat) (km : Nat), badTarget d k u = false ∧ kekMat d kek = some km ∧ targetFull d k u = false) ∧
    (∃ (s : State) (w : Writer) (x : KeySlot), 
    let d := asked s.dev w .KEY_CMD 0 0
    let k := kslot d
    Accepts s.dev w .KEY_CMD 0 ∧ s.dev.sec.destroying = none ∧ k < 3584 ∧ oddOfPair d k = false ∧ getSlot d k = some x ∧ x.state = .live ∧ slotReferenced d k false = false ∧ d.cal.ents = [] ∧ slotHeld d k = false) ∧
    (∃ (s : State) (w : Writer) (x : KeySlot), 
    let d := asked s.dev w .KEY_CMD 0 0
    let k := kslot d
    Accepts s.dev w .KEY_CMD 0 ∧ s.dev.sec.destroying = none ∧ k < 3584 ∧ oddOfPair d k = false ∧ getSlot d k = some x ∧ x.state = .live ∧ slotReferenced d k false = true) ∧
    (∃ (s : State) (w : Writer) (x : KeySlot), 
    let d := asked s.dev w .KEY_CMD 0 0
    let k := kslot d
    Accepts s.dev w .KEY_CMD 0 ∧ s.dev.sec.destroying = none ∧ k < 3584 ∧ oddOfPair d k = false ∧ getSlot d k = some x ∧ x.state = .live ∧ slotReferenced d k false = false ∧ d.cal.ents = [] ∧ slotHeld d k = true) ∧
    (∃ (d : Dev) (k : Nat), d.sec.destroying = some k ∧ slotHeld d k = false ∧ ((∀ p ∈ d.sec.slots, p.2.state = .live))) ∧
    (∃ (s : State) (w : Writer) (k : Nat), Accepts s.dev w .KEY_CMD 0 ∧ s.dev.sec.destroying = some k) ∧
    (∃ (s : State) (w : Writer), 
    let d := asked s.dev w .KEY_CMD 0 0
    Accepts s.dev w .KEY_CMD 0 ∧ s.dev.sec.destroying = none ∧ kslot d < 3584 ∧ oddOfPair d (kslot d) = false ∧ getSlot d (kslot d) = none) ∧
    (∃ (s : State) (w : Writer) (e : Dev) (r : KeyResult) (m : Nat), 
    let d := asked s.dev w .KEY_CMD 0 0
    Accepts s.dev w .KEY_CMD 0 ∧ s.dev.sec.destroying = none ∧ agreeInto d (kslot d) ((List.range 24).map fun i => (reg d .KEY_PUB_ARG 0 i).toNat) = (e, r, m)) ∧
    (∃ (d : Dev) (k : Nat), badTarget d k 5 = false ∧ targetFull d k 5 = false) ∧
    (∃ (s : State) (w : Writer), 
    let d := asked s.dev w .KEY_CMD 0 0
    let i := fld (karg d 0) 1 0
    Accepts s.dev w .KEY_CMD 0 ∧ s.dev.sec.destroying = none ∧ nhas d.sec.owners i = false) ∧
    (∃ (s : State) (w : Writer), 
    let d := asked s.dev w .KEY_CMD 0 0
    Accepts s.dev w .KEY_CMD 0 ∧ s.dev.sec.destroying = none ∧ nhas d.sec.owners (fld (karg d 0) 1 0) = true) ∧
    (∃ (s : State) (w : Writer), 
    let d := asked s.dev w .KEY_CMD 0 0
    let i := fld (karg d 0) 1 0
    Accepts s.dev w .KEY_CMD 0 ∧ s.dev.sec.destroying = none ∧ i ≠ d.sec.active ∧ (∃ p ∈ d.sec.owners, p.1 ≠ i ∧ p.1 ∉ d.sec.revoked)) ∧
    (∃ (s : State) (w : Writer) (op : Fin 16), reservedOp 7 op = true ∧ Accepts s.dev w .KEY_CMD 0 ∧ s.dev.sec.destroying = none) := by
  refine ⟨⟨st (svcK [0x02000028]), mp, by decide +kernel⟩,
    ⟨st {svcK [0x02000028] with sec.stopped := true}, mp, by decide +kernel⟩,
    ⟨st (svcK [0x02000028, 30]), mp, (importInto (asked (svcK [0x02000028, 30]) mp .KEY_CMD 0 0) 40 2 true 0 30 ((List.range 18).map fun i => (karg (asked (svcK [0x02000028, 30]) mp .KEY_CMD 0 0) (2 + i)).toNat)).1, .badArg, 0, by decide +kernel, by decide +kernel, rfl⟩,
    ⟨svcQ [0x02000028, 30] 30 (slot_ 5 7), 40, 2, 30, 7, [1, 2, 3], by decide +kernel⟩,
    ⟨svcQ [0x02000028, 30] 30 (slot_ 5 7), 40, 2, 30, 7, by decide +kernel⟩,
    ⟨st (svcQ [40] 40 (slot_ 2 7)), mp, slot_ 2 7, by decide +kernel⟩,
    ⟨st (svcQ [20] 20 (slot_ 4 77)), mp, slot_ 4 77, by decide +kernel⟩,
    ⟨st {svcQ [40] 40 (slot_ 2 7) with res.eng := [(0, { mgt := [{ cpw with slot := 40 }] })]}, mp, slot_ 2 7, by decide +kernel⟩,
    ⟨{svcQ [40] 40 (slot_ 2 7) with sec.destroying := some 40}, 40, by decide +kernel⟩,
    ⟨st {svcQ [40] 40 (slot_ 2 7) with sec.destroying := some 40}, mp, 40, by decide +kernel⟩,
    ⟨st (svcK [40]), mp, by decide +kernel⟩,
    ⟨st (svcK [1]), mp, (agreeInto (asked (svcK [1]) mp .KEY_CMD 0 0) 1 []).1, .badArg, 0, by decide +kernel, by decide +kernel, rfl⟩,
    ⟨svcF, 40, by decide +kernel⟩,
    ⟨st (svcK [1]), mp, by decide +kernel⟩,
    ⟨st {svcK [1] with sec.owners := [(1, List.range 12)]}, mp, by decide +kernel⟩,
    ⟨st {svcK [1] with sec.owners := [(0, List.range 12), (1, List.range 12)]}, mp, by decide +kernel⟩,
    ⟨st svcF, mp, 8, by decide +kernel⟩⟩


theorem witness_Generators :
    (∃ (s : State), s.dev.sec.stopped = false ∧ s.dev.sec.requests < 2 ^ 20) ∧
    (∃ (s : State), s.dev.sec.stopped = true) := by
  refine ⟨⟨st svcF, by decide +kernel⟩,
    ⟨st {svcF with sec.stopped := true}, by decide +kernel⟩⟩


theorem witness_MacsecSessions :
    (∃ (s : State) (m : Mkpdu) (k : Nat), 
    let p := m.port.val
    let d := s.dev
    cakOf d p = some m.cak ∧ cknOf d p = m.ckn.toNat ∧ m.prio.toNat < cfld d .PORT_MACSEC_CFG p 23 16 ∧ m.sak = some k ∧ m.txNew = false) ∧
    (∃ (s : State) (m : Mkpdu), cakOf s.dev m.port.val = none) ∧
    (∃ (s : State) (p : CellNo), (cakOf s.dev p.val).isSome = true ∧ (getMka s.dev p.val).live = false) ∧
    (∃ (s : State) (p : CellNo) (pn : Nat), (getMka s.dev p.val).live = true ∧ (getMka s.dev p.val).keyServer = true ∧ 0xC000000000000000 ≤ pn) ∧
    (∃ (d : Dev) (p : Nat), macsecOn d p = false) ∧
    (∃ (d : Dev) (p : Nat), macsecOn d p = true) ∧
    (∃ (d : Dev) (p : Nat) (pn : BitVec 64), 
    let m := getMka d p
    macsecOn d p = true ∧ macCarries d p = true ∧ pn ≠ 0 ∧ replayLow d p m.rxNext ≤ pn.toNat) ∧
    (∃ (d : Dev) (p : Nat) (pn : BitVec 64), 
    let m := getMka d p
    macsecOn d p = true ∧ macCarries d p = true ∧ pn ≠ 0 ∧ pn.toNat < replayLow d p m.rxNext) := by
  refine ⟨⟨st svcA, ⟨0, 55, 5, 1, 9, some 66, false⟩, 66, by decide +kernel⟩,
    ⟨st svcF, ⟨0, 55, 5, 1, 9, some 66, false⟩, by decide +kernel⟩,
    ⟨st svcA, 0, by decide +kernel⟩,
    ⟨st {svcA with sec.mka := [(0, {live := true, keyServer := true})]}, 0, 0xC000000000000000, by decide +kernel⟩,
    ⟨svcF, 0, by decide +kernel⟩,
    ⟨svcA, 0, by decide +kernel⟩,
    ⟨{svcA with sec.mka := [(0, {live := true})]}, 0, 1, by decide +kernel⟩,
    ⟨{svcA with sec.mka := [(0, {live := true, rxNext := 1000000000000})]}, 0, 1, by decide +kernel⟩⟩


theorem witness_Tamper :
    (∃ (s : State), s.dev.pwr.state ≠ .off) ∧
    (∃ (s : State), s.dev.pwr.state ≠ .off) ∧
    (∃ (s : State), s.dev.pwr.state ≠ .off ∧ (getRail s.dev 31).st = .up ∧ fbit (hreg s.dev .KEY_TAMPER_CFG) 31 = false) ∧
    (∃ (s : State), s.dev.pwr.state ≠ .off ∧ (getRail s.dev 31).st = .up ∧ fbit (hreg s.dev .KEY_TAMPER_CFG) 31 = true) ∧
    (∃ (s : State), (getRail s.dev 31).st ≠ .up) := by
  refine ⟨⟨st svcF, by decide +kernel⟩,
    ⟨st svcF, by decide +kernel⟩,
    ⟨st (setRail svcF 31 { st := .up }), by decide +kernel⟩,
    ⟨st (setRail (arg svcF .KEY_TAMPER_CFG 0 0 [0x80000000]) 31 { st := .up }), by decide +kernel⟩,
    ⟨st svcF, by decide +kernel⟩⟩


theorem witness_PowerUp :
    (∃ (s : State), ((s.dev.pwr.state = .off ∨ (s.dev.pwr.state = .starting ∧ s.dev.pwr.inputGood = false))) ∧ s.dev.pwr.resetN = true) ∧
    (∃ (s : State), 
    let d := reach s.dev (s.dev.pwr.upFrom + ms 5)
    s.dev.pwr.state = .starting ∧ s.dev.pwr.upping = true ∧ s.dev.pwr.upStep = 0 ∧ (getRail s.dev 30).st = .off ∧ (getRail s.dev 30).enabledAt = none ∧ d.now < s.dev.pwr.upFrom + ms 50) ∧
    (∃ (s : State), s.dev.pwr.state = .starting ∧ s.dev.pwr.upping = true ∧ s.dev.pwr.upStep = 0 ∧ (getRail s.dev 30).st = .up) ∧
    (∃ (s : State) (n : Nat), s.dev.pwr.state = .starting ∧ s.dev.pwr.upping = true ∧ s.dev.pwr.upStep = n ∧ 2 ≤ n ∧ n < 12) ∧
    (∃ (s : State) (t : Nat), s.dev.ldr.staggerEnd = some t ∧ s.dev.pwr.state = .starting ∧ s.dev.pwr.upping = true ∧ s.dev.pwr.upStep = 1) ∧
    (∃ (s : State) (n : Fin 64) (t : Nat), (getRail s.dev n.val).enabledAt = some t ∧ (getRail s.dev n.val).st = .off) ∧
    (∃ (s : State) (n : Fin 64) (t : Nat), (getRail s.dev n.val).enabledAt = some t ∧ (getRail s.dev n.val).st = .off) := by
  refine ⟨⟨State.reset, by decide +kernel⟩,
    ⟨st {State.reset.dev with pwr.inputGood := true, pwr.upping := true}, by decide +kernel⟩,
    ⟨st {State.reset.dev with pwr.inputGood := true, pwr.upping := true, pwr.rails := [(30, {st := .up})]}, by decide +kernel⟩,
    ⟨st {State.reset.dev with pwr.inputGood := true, pwr.upping := true, pwr.upStep := 11}, 11, by decide +kernel⟩,
    ⟨st {State.reset.dev with pwr.inputGood := true, pwr.upping := true, pwr.upStep := 1, ldr.staggerEnd := some 70}, 70, by decide +kernel⟩,
    ⟨st (svcR 63 {enabledAt := some 5}), 63, 5, by decide +kernel⟩,
    ⟨st (svcR 63 {enabledAt := some 5}), 63, 5, by decide +kernel⟩⟩


theorem witness_PowerDown :
    (∃ (s : State), s.dev.pwr.state = .flushing ∧ s.dev.pwr.down < 5) ∧
    (∃ (s : State) (n : Fin 64), s.dev.pwr.state = .flushing ∧ (downGroup s.dev.pwr.down).contains n.val = true ∧ ¬ (n.val = 30 ∧ downKeeps30 s.dev = true) ∧ (s.dev.pwr.downFail >>> n.val) % 2 = 0) ∧
    (∃ (s : State), s.dev.pwr.state ≠ .flushing) := by
  refine ⟨⟨st {pwr_ .flushing with pwr.down := 4}, by decide +kernel⟩,
    ⟨st {pwr_ .flushing with pwr.down := 3}, 29, by decide +kernel⟩,
    ⟨st svcF, by decide +kernel⟩⟩


theorem witness_RailsAndInput :
    (∃ (s : State) (n : Fin 64) (mv : BitVec 16) (us : BitVec 16), (getRail s.dev n.val).st = .up ∧ mv.toNat < railUv s.dev n.val ∧ railFilter s.dev n.val ≤ us.toNat) ∧
    (∃ (s : State) (n : Fin 64) (mv : BitVec 16) (us : BitVec 16), (getRail s.dev n.val).st = .up ∧ railUv s.dev n.val ≤ mv.toNat ∧ railOv s.dev n.val < mv.toNat ∧ railFilter s.dev n.val ≤ us.toNat) ∧
    (∃ (s : State) (n : Fin 64) (mv : BitVec 16) (us : BitVec 16), 
    let r := getRail s.dev n.val
    r.st = .up ∧ ((mv.toNat < railUv s.dev n.val ∨ railOv s.dev n.val < mv.toNat)) ∧ us.toNat < railFilter s.dev n.val) ∧
    (∃ (s : State), s.dev.pwr.state ≠ .off) ∧
    (∃ (s : State), s.dev.pwr.state ≠ .off) ∧
    (∃ (s : State) (mv : BitVec 16) (us : BitVec 16), s.dev.pwr.state ≠ .off ∧ 6100 < mv.toNat ∧ zeroAs 1 (hfld s.dev .PWR_INPUT_CFG 7 0) < us.toNat) ∧
    (∃ (s : State) (n : Fin 100), s.dev.pwr.state ≠ .off ∧ n.val < 16) ∧
    (∃ (s : State) (n : Fin 100), s.dev.pwr.state ≠ .off ∧ n.val = 92) ∧
    (∃ (s : State) (n : Fin 100), s.dev.pwr.state ≠ .off ∧ 88 ≤ n.val ∧ n.val < 90) ∧
    (∃ (s : State), s.dev.pwr.state ≠ .off) := by
  refine ⟨⟨st (svcR 0 {st := .up}), 0, 3, 0xFFFF, by decide +kernel⟩,
    ⟨st (svcR 0 {st := .up}), 0, 9000, 0xFFFF, by decide +kernel⟩,
    ⟨st (svcR 0 {st := .up}), 0, 3, 0, by decide +kernel⟩,
    ⟨st svcF, by decide +kernel⟩,
    ⟨st svcF, by decide +kernel⟩,
    ⟨st svcF, 6101, 0xFFFF, by decide +kernel⟩,
    ⟨st svcF, 15, by decide +kernel⟩,
    ⟨st svcF, 92, by decide +kernel⟩,
    ⟨st svcF, 89, by decide +kernel⟩,
    ⟨st svcF, by decide +kernel⟩⟩


theorem witness_ResetPin :
    (∃ (s : State), inService3 s.dev = true) ∧
    (∃ (s : State), s.dev.pwr.state = .flushing) ∧
    (∃ (s : State), s.dev.pwr.state = .halted ∧ s.dev.flt.grave = false) ∧
    (∃ (s : State), s.dev.pwr.state = .halted ∧ s.dev.flt.grave = true) ∧
    (∃ (s : State), s.dev.pwr.state = .starting ∧ s.dev.pwr.inputGood = true ∧ s.dev.pwr.upping = false ∧ s.dev.ldr.step = 1) ∧
    (∃ (s : State), s.dev.pwr.state ≠ .starting) := by
  refine ⟨⟨st svcF, by decide +kernel⟩,
    ⟨st (pwr_ .flushing), by decide +kernel⟩,
    ⟨st (pwr_ .halted), by decide +kernel⟩,
    ⟨st {pwr_ .halted with flt.grave := true}, by decide +kernel⟩,
    ⟨st {State.reset.dev with pwr.inputGood := true, pwr.resetN := false}, by decide +kernel⟩,
    ⟨st {svcF with pwr.resetN := false}, by decide +kernel⟩⟩


theorem witness_StartSteps :
    (∃ (s : State), s.dev.pwr.state = .starting ∧ s.dev.ldr.step = 1 ∧ s.dev.pwr.upStep = 12 ∧ (s.dev.pwr.gated.any fun c => !cellFenced s.dev c) = false ∧ (s.dev.pwr.rails.any fun p => p.2.enabledAt.isSome) = false) ∧
    (∃ (s : State) (a : ImgCopy) (b : ImgCopy), 
    let x := chooseCopy s.dev a b
    s.dev.pwr.state = .starting ∧ s.dev.ldr.step = 2 ∧ s.dev.ldr.retryAt = none ∧ x.chosen = none) ∧
    (∃ (s : State) (t : Nat), s.dev.ldr.retryAt = some t) ∧
    (∃ (s : State) (t : Nat), s.dev.pwr.state = .starting ∧ s.dev.ldr.step = 5 ∧ s.dev.ldr.replayed = false ∧ s.dev.ldr.format = some t) ∧
    (∃ (s : State), s.dev.pwr.state = .starting ∧ s.dev.ldr.step = 5 ∧ s.dev.ldr.replayed = false ∧ s.dev.ldr.format = none) ∧
    (∃ (s : State), s.dev.pwr.state = .starting ∧ s.dev.ldr.step = 3) ∧
    (∃ (s : State), s.dev.pwr.state = .starting ∧ s.dev.ldr.step = 6) ∧
    (∃ (s : State), s.dev.pwr.state = .starting ∧ s.dev.ldr.step = 8) ∧
    (∃ (s : State) (t : Nat), s.dev.pwr.state = .halted ∧ s.dev.ldr.delayUntil = some t) ∧
    (∃ (s : State), s.dev.ldr.imageLoaded = true ∧ isDown s.dev = false) ∧
    (∃ (s : State), s.dev.ldr.imageLoaded = true ∧ isDown s.dev = false ∧ s.dev.ldr.moduleWritten = false) ∧
    (∃ (s : State) (t : Nat), nget s.dev.ldr.stepEnds 8 = some t ∧ isLeader s.dev = true ∧ s.dev.ldr.complete = false ∧ s.dev.ldr.leaderTold = false ∧ isDown s.dev = false) := by
  refine ⟨⟨st {sta 1 with pwr.upStep := 12}, by decide +kernel⟩,
    ⟨st (sta 2), {img with readable := false}, {img with readable := false}, by decide +kernel⟩,
    ⟨st {sta 2 with ldr.retryAt := some 70}, 70, by decide +kernel⟩,
    ⟨st {sta 5 with ldr.format := some 9}, 9, by decide +kernel⟩,
    ⟨st (sta 5), by decide +kernel⟩,
    ⟨st {sta 3 with ports := []}, by decide +kernel⟩,
    ⟨st (sta 6), by decide +kernel⟩,
    ⟨st (sta 8), by decide +kernel⟩,
    ⟨st {pwr_ .halted with ldr.delayUntil := some 70}, 70, by decide +kernel⟩,
    ⟨st {svcF with ldr.imageLoaded := true, ldr.rereadAt := 70}, by decide +kernel⟩,
    ⟨st {svcF with ldr.imageLoaded := true, ldr.rereadAt := 70}, by decide +kernel⟩,
    ⟨st {svcF with ldr.stepEnds := [(8, 900)]}, 900, by decide +kernel⟩⟩


theorem witness_ServiceOpens :
    (∃ (d : Dev), d.pwr.state = .starting ∧ mayOpen d = true) ∧
    (∃ (d : Dev), standalone d = true) ∧
    (∃ (d : Dev), d.pwr.state ≠ .starting) ∧
    (∃ (d : Dev), mayOpen d = false ∧ ((d.ldr.step < 3 ∨ 10 ≤ d.ldr.step ∨ stepOver d = false))) := by
  refine ⟨⟨{sta 10 with cus.settled := true}, by decide +kernel⟩,
    ⟨{svc with pwr.state := .starting, ldr.step := 10}, by decide +kernel⟩,
    ⟨svcF, by decide +kernel⟩,
    ⟨sta 2, by decide +kernel⟩⟩


theorem witness_PowerStates :
    (∃ (s : State) (w : Writer), Accepts s.dev w .PWR_STATE_CTRL 0 ∧ s.dev.pwr.state = .service ∧ s.dev.pwr.move = none ∧ s.dev.pwr.maint = false) ∧
    (∃ (s : State) (w : Writer), Accepts s.dev w .PWR_STATE_CTRL 0 ∧ s.dev.pwr.state = .dormant ∧ s.dev.pwr.move = none ∧ s.dev.pwr.maint = false) ∧
    (∃ (s : State) (w : Writer) (m : Move), Accepts s.dev w .PWR_STATE_CTRL 0 ∧ inService3 s.dev = true ∧ s.dev.pwr.move = some m ∧ s.dev.pwr.maint = false) ∧
    (∃ (s : State) (m : Move), s.dev.pwr.state = .service ∧ s.dev.pwr.move = some m ∧ m.entry = true ∧ m.target = .quiet ∧ s.dev.pwr.latched = none ∧ hostBusy s.dev = false) ∧
    (∃ (s : State), hostBusy s.dev = true) ∧
    (∃ (s : State) (m : Move), s.dev.pwr.state = .quiet ∧ s.dev.pwr.move = some m ∧ m.entry = false ∧ m.target = .service ∧ s.dev.pwr.latched = none ∧ s.dev.bulk.cmds = []) ∧
    (∃ (s : State) (m : Move), 
    let d := forEach (s.dev.tier.alc.map (·.1)) (leaveProving s.dev 5) drainCell
    s.dev.pwr.state = .quiet ∧ s.dev.pwr.move = some m ∧ m.entry = true ∧ m.target = .dormant ∧ s.dev.pwr.latched = none ∧ passRuns s.dev = false ∧ d.reqs = []) ∧
    (∃ (s : State), passRuns s.dev = true) ∧
    (∃ (s : State) (m : Move), s.dev.pwr.state = .dormant ∧ s.dev.pwr.move = some m ∧ m.entry = false ∧ s.dev.pwr.gated = [] ∧ hbmAwake s.dev = true ∧ s.dev.pwr.latched = none ∧ s.dev.bulk.cmds = []) ∧
    (∃ (s : State) (m : Move) (c : CellNo), s.dev.pwr.state = .dormant ∧ s.dev.pwr.move = some m ∧ m.entry = false ∧ s.dev.pwr.gated = [c.val] ∧ cellFenced s.dev c.val = false ∧ nget s.dev.pwr.lastWake (c.val / 16) = none) := by
  refine ⟨⟨st svcF, mp, by decide +kernel⟩,
    ⟨st (pwr_ .dormant), mp, by decide +kernel⟩,
    ⟨st {svcF with pwr.move := some (mov true .quiet)}, mp, mov true .quiet, by decide +kernel⟩,
    ⟨st {svcF with pwr.move := some (mov true .quiet)}, mov true .quiet, by decide +kernel⟩,
    ⟨st {svcF with reqs := [rq .write .queued]}, by decide +kernel⟩,
    ⟨st {pwr_ .quiet with pwr.move := some (mov false .service)}, mov false .service, by decide +kernel⟩,
    ⟨st {pwr_ .quiet with pwr.move := some (mov true .dormant)}, mov true .dormant, by decide +kernel⟩,
    ⟨st {pwr_ .quiet with med := [(0, {onl with running := [(0, {op := .program 0})]})]}, by decide +kernel⟩,
    ⟨st {pwr_ .dormant with pwr.move := some (mov false .quiet)}, mov false .quiet, by decide +kernel⟩,
    ⟨st {pwr_ .dormant with pwr.move := some (mov false .quiet), pwr.gated := [17]}, mov false .quiet, 17, by decide +kernel⟩⟩


theorem witness_Maintenance :
    (∃ (s : State) (w : Writer), Accepts s.dev w .PWR_STATE_CTRL 0 ∧ s.dev.pwr.state = .quiet ∧ s.dev.pwr.move = none) ∧
    (∃ (s : State) (w : Writer), Accepts s.dev w .PWR_STATE_CTRL 0 ∧ s.dev.pwr.maint = true) ∧
    (∃ (s : State) (w : Writer), Accepts s.dev w .PWR_MARGIN 0 ∧ s.dev.pwr.state = .quiet ∧ s.dev.pwr.maint = true) ∧
    (∃ (d : Dev) (n : Nat), (getRail d n).st = .up) ∧
    (∃ (s : State) (w : Writer), served s.dev w = true ∧ s.dev.pwr.maint = false) := by
  refine ⟨⟨st (pwr_ .quiet), mp, by decide +kernel⟩,
    ⟨st {pwr_ .quiet with pwr.maint := true}, mp, by decide +kernel⟩,
    ⟨st {pwr_ .quiet with pwr.maint := true}, mp, by decide +kernel⟩,
    ⟨setRail svcF 63 { st := .up }, 63, by decide +kernel⟩,
    ⟨st svcF, mp, by decide +kernel⟩⟩


theorem witness_LinkDoze :
    (∃ (s : State) (p : CellNo), 
    let z := (getPort s.dev p.val).doze
    let d := reach s.dev (z.idleSince + us (max 5 (cfld s.dev .PORT_DOZE_CFG p.val 7 0)))
    z.st = .active ∧ mayDoze d p.val = true ∧ dataQueued s.dev p.val = false ∧ isDown s.dev = false) ∧
    (∃ (s : State) (p : CellNo) (sec : SecTag), 
    let x := ctrlHeard s.dev p.val sec
    x.2 = true ∧ (getPort x.1 p.val).doze.st = .active ∧ mayDoze x.1 p.val = true ∧ dataQueued x.1 p.val = false) ∧
    (∃ (s : State) (p : CellNo) (sec : SecTag), 
    let x := ctrlHeard s.dev p.val sec
    x.2 = true ∧ (getPort x.1 p.val).doze.st = .active ∧ ((mayDoze x.1 p.val = false ∨ dataQueued x.1 p.val = true))) ∧
    (∃ (s : State) (p : CellNo) (sec : SecTag) (seq : BitVec 8) (res : BitVec 8), 
    let x := ctrlHeard s.dev p.val sec
    x.2 = true ∧ (getPort x.1 p.val).doze.st = .requested ∧ (getPort x.1 p.val).doze.seq = seq.toNat ∧ res = 0) ∧
    (∃ (s : State) (p : CellNo) (sec : SecTag) (seq : BitVec 8) (res : BitVec 8), 
    let x := ctrlHeard s.dev p.val sec
    x.2 = true ∧ (getPort x.1 p.val).doze.st = .requested ∧ (getPort x.1 p.val).doze.seq = seq.toNat ∧ res ≠ 0) ∧
    (∃ (s : State) (p : CellNo), (getPort s.dev p.val).doze.st = .requested) ∧
    (∃ (s : State) (p : CellNo), 
    let z := (getPort s.dev p.val).doze
    z.st = .doze) ∧
    (∃ (s : State) (p : CellNo), (getPort s.dev p.val).doze.st = .entering ∧ (getPort s.dev p.val).doze.latched = false) := by
  refine ⟨⟨st {dz .active 0 with pwr.state := .quiet}, 1, by decide +kernel⟩,
    ⟨st {dz .active 0 with pwr.state := .quiet}, 1, .plain, by decide +kernel⟩,
    ⟨st (dz .active 0), 1, .plain, by decide +kernel⟩,
    ⟨st (dz .requested 70), 1, .plain, 6, 0, by decide +kernel⟩,
    ⟨st (dz .requested 70), 1, .plain, 6, 1, by decide +kernel⟩,
    ⟨st (dz .requested 70), 1, by decide +kernel⟩,
    ⟨st (dz .doze 0), 1, by decide +kernel⟩,
    ⟨st (dz .entering 70), 1, by decide +kernel⟩⟩


theorem witness_FencesAndClears :
    (∃ (s : State) (w : Writer) (u : BitVec 16) (b : Bool), 
    let d := asked s.dev w .FLT_UNFENCE 0 0
    let i := u.toNat % 4096
    let d1 := if b then relock d (i / 16) else d
    Accepts s.dev w .FLT_UNFENCE 0 ∧ s.dev.flt.unfencing = none ∧ u.toNat / 4096 = 1 ∧ i < 256 ∧ cellFenced d1 i = true ∧ nhas d1.flt.courses (i / 16) = false ∧ courseBars d1 (i / 16) = false ∧ cellBars d1 i = false) ∧
    (∃ (s : State) (w : Writer) (u : BitVec 16), 
    let d := asked s.dev w .FLT_UNFENCE 0 0
    let i := u.toNat % 4096
    Accepts s.dev w .FLT_UNFENCE 0 ∧ s.dev.flt.unfencing = none ∧ u.toNat / 4096 = 1 ∧ i < 256 ∧ cellFenced d i = true ∧ cellBars d i = true) ∧
    (∃ (s : State) (w : Writer) (u : BitVec 16), Accepts s.dev w .FLT_UNFENCE 0 ∧ s.dev.flt.unfencing = none ∧ u.toNat / 4096 ≠ 1 ∧ u.toNat / 4096 ≠ 10) ∧
    (∃ (s : State) (u : Nat), s.dev.flt.unfencing = some u ∧ u / 4096 = 1) ∧
    (∃ (s : State) (w : Writer), Accepts s.dev w .FLT_FIRST 0) ∧
    (∃ (d : Dev), ((∀ x ∈ d.flt.cycle, x.at_ ≠ d.now))) ∧
    (∃ (s : State) (w : Writer) (a : BitVec 32) (c : CellNo) (v : Word), 
    let d := asked s.dev w .FLT_CELL_FIRST c.val 0
    a.toNat = regAddr .FLT_CELL_FIRST c.val 0 ∧ Accepts s.dev w .FLT_CELL_FIRST c.val ∧ fbit v 31 = true ∧ ((∀ x ∈ d.flt.cycle, x.at_ ≠ d.now))) ∧
    (∃ (s : State) (w : Writer), Accepts s.dev w .FLT_STATUS 0) := by
  refine ⟨⟨st flt_, mp, 0x1003, true, by decide +kernel⟩,
    ⟨st {flt_ with now := 1000000000, sec.engineStopped := [3]}, mp, 0x1003, by decide +kernel⟩,
    ⟨st svcF, mp, 0x2003, by decide +kernel⟩,
    ⟨st {flt_ with flt.unfencing := some 0x1003}, 0x1003, by decide +kernel⟩,
    ⟨st {svcF with flt.first := some ⟨0, 1, 2, 3, 4, 5, 6, 7, 0, 0⟩}, mp, by decide +kernel⟩,
    ⟨svcF, by decide +kernel⟩,
    ⟨st svcF, mp, BitVec.ofNat 32 (regAddr .FLT_CELL_FIRST 255 0), 255, 0x80000000, by decide +kernel⟩,
    ⟨st {svcF with flt.bits := 31}, mp, by decide +kernel⟩⟩


theorem witness_InjectionAndProving :
    (∃ (s : State) (w : Writer) (v : Word) (j : Injection), 
    let d := asked s.dev w .TST_INJECT_CTRL 0 0
    Accepts s.dev w .TST_INJECT_CTRL 0 ∧ s.dev.tst.testMode = true ∧ flipOf v (hreg d .TST_INJECT_ADDR) = some j) ∧
    (∃ (s : State) (w : Writer), served s.dev w = true ∧ s.dev.tst.testMode = false) ∧
    (∃ (s : State) (w : Writer) (p : CellNo), 
    let d := asked s.dev w .TST_PROVE_CTRL 0 0
    Accepts s.dev w .TST_PROVE_CTRL 0 ∧ mayProve d p.val = true) ∧
    (∃ (s : State) (w : Writer) (p : CellNo), 
    let d := asked s.dev w .TST_PROVE_CTRL 0 0
    Accepts s.dev w .TST_PROVE_CTRL 0 ∧ mayProve d p.val = false) ∧
    (∃ (s : State) (w : Writer) (p : Nat), Accepts s.dev w .TST_PROVE_CTRL 0 ∧ s.dev.tst.proving = some p) ∧
    (∃ (s : State) (p : Nat), s.dev.tst.proving = some p) ∧
    (∃ (s : State) (h : HeldFrame), s.dev.tst.held = [h]) := by
  refine ⟨⟨st {svcF with tst.testMode := true}, mp, 0x10010000, ⟨1, 0, 0, 1, 0, 0, 0⟩, by decide +kernel⟩,
    ⟨st svcF, mp, by decide +kernel⟩,
    ⟨st {svcF with tst.permit := 2}, mp, 1, by decide +kernel⟩,
    ⟨st svcF, mp, 1, by decide +kernel⟩,
    ⟨st {svcF with tst.proving := some 1}, mp, 1, by decide +kernel⟩,
    ⟨st {svcF with tst.proving := some 1}, 1, by decide +kernel⟩,
    ⟨st {svcF with tst.held := [⟨.rsp rsp .cnp, 4, 0, 70⟩]}, ⟨.rsp rsp .cnp, 4, 0, 70⟩, by decide +kernel⟩⟩


theorem witness_RegisterWrites :
    (∃ (s : State) (w : Writer) (a : BitVec 32), a.toNat = regAddr .CAL_POST 0 0 ∧ Accepts s.dev w .CAL_POST 0) ∧
    (∃ (s : State) (w : Writer) (a : BitVec 32) (c : CellNo), a.toNat = regAddr .HBM_POLICY_CFG c.val 0 ∧ Accepts s.dev w .HBM_POLICY_CFG c.val) ∧
    (∃ (s : State) (w : Writer) (a : BitVec 32), a.toNat = regAddr .TIME_STATUS 0 0 ∧ Accepts s.dev w .TIME_STATUS 0) ∧
    (∃ (s : State) (w : Writer) (a : BitVec 32), a.toNat = regAddr .CAL_POST 0 0 ∧ served s.dev w = true ∧ operator s.dev w = false) ∧
    (∃ (s : State) (w : Writer) (a : BitVec 32), served s.dev w = true ∧ inWindow a.toNat = false ∧ placeAt a.toNat = none) ∧
    (∃ (s : State) (w : Writer), served s.dev w = false) ∧
    (∃ (s : State) (w : Writer) (a : BitVec 32) (c : Nat) (i : Nat) (r : RegId), inWindow a.toNat = false ∧ inView a.toNat = false ∧ placeAt a.toNat = some (.cell c r i) ∧ Accepts s.dev w r c ∧ r ∉ [.PORT_FENCE, .MED_CTRL, .HBM_CE_CLEAR, .HBM_RETIRE_CMD, .FLT_CELL_FIRST]) ∧
    (∃ (s : State) (w : Writer) (a : BitVec 32) (i : Nat) (r : RegId), inWindow a.toNat = false ∧ inView a.toNat = false ∧ placeAt a.toNat = some (.hub r i) ∧ Accepts s.dev w r 0 ∧ r ∉ [.TIER_CHM_CMD, .TIER_PLAN_CMD, .KEY_CMD, .TIME_ACT_CMD, .CAL_CMD, .CUS_CTRL, .PWR_STATE_CTRL, .PWR_MARGIN, .HUB_COMMIT, .TIME_TOD_CFG, .TIME_MODE_ADOPT, .FLT_UNFENCE, .FLT_FIRST, .FLT_STATUS, .TST_INJECT_CTRL, .TST_INJECT_ADDR, .TST_PROVE_CTRL, .VLT_UNLOCK, .VLT_CMD, .VLT_ADDR, .VLT_DATA, .VLT_CTRL]) ∧
    (∃ (s : State) (w : Writer) (a : BitVec 32) (l : List Nat) (i : Nat) (r : RegId), inWindow a.toNat = false ∧ inView a.toNat = false ∧ placeAt a.toNat = some (.many l r i) ∧ served s.dev w = true ∧ answering s.dev (.many l r i) ≠ [] ∧ operator s.dev w = true ∧ (regInfo r).cls = .sh) := by
  refine ⟨⟨st svcF, mp, BitVec.ofNat 32 (regAddr .CAL_POST 0 0), by decide +kernel⟩,
    ⟨st svcF, mp, BitVec.ofNat 32 (regAddr .HBM_POLICY_CFG 255 0), 255, by decide +kernel⟩,
    ⟨st svcF, mp, BitVec.ofNat 32 (regAddr .TIME_STATUS 0 0), by decide +kernel⟩,
    ⟨st {svcF with conns := [(1, {conD with tenant := 5, service := .mgmt})]}, .inBand 1, BitVec.ofNat 32 (regAddr .CAL_POST 0 0), by decide +kernel⟩,
    ⟨st svcF, mp, 0x08000000, by decide +kernel⟩,
    ⟨st (pwr_ .off), mp, by decide +kernel⟩,
    ⟨st svcF, mp, BitVec.ofNat 32 (regAddr .HBM_POLICY_CFG 255 0), 255, 0, .HBM_POLICY_CFG, by decide +kernel⟩,
    ⟨st svcF, mp, BitVec.ofNat 32 (regAddr .TIME_STATUS 0 0), 0, .TIME_STATUS, by decide +kernel⟩,
    ⟨st svcF, mp, BitVec.ofNat 32 (0x02100000 + regAddr .HBM_POLICY_CFG 0 0 % 65536), allCells, 0, .HBM_POLICY_CFG, by decide +kernel⟩⟩


theorem witness_AccessFrame :
    (∃ (q : RegId) (e : Nat) (j : Nat), q ≠ .HUB_ACCESS_STATUS ∧ e < 256 ∧ j < 8192) ∧
    (∃ (a : Nat), a < 2 ^ 32) := by
  refine ⟨⟨.HBM_POLICY_CFG, 255, 8191, by decide +kernel⟩,
    ⟨0xFFFFFFFF, by decide +kernel⟩⟩


theorem witness_ManagementMessages :
    (∃ (s : State) (c : Fin 16), 
    let k := portConnKey c.val
    served s.dev (.port c) = true ∧ (getConn s.dev k).state = .ready ∧ (getConn s.dev k).service = .mgmt) ∧
    (∃ (m : MgmtMsg), parseRequest m.bytes = none) ∧
    (∃ (s : State), s.dev.pwr.state ≠ .off) ∧
    (∃ (s : State), s.dev.pwr.state ≠ .off ∧ summaryOnly s.dev = false) ∧
    (∃ (s : State), s.dev.pwr.state ≠ .off ∧ ((s.dev.i3c.addr = none ∨ summaryOnly s.dev = true))) := by
  refine ⟨⟨st {svcF with conns := [(0x4000F, {conD with service := .mgmt})]}, 15, by decide +kernel⟩,
    ⟨mgm 0, by decide +kernel⟩,
    ⟨st svcF, by decide +kernel⟩,
    ⟨st svcF, by decide +kernel⟩,
    ⟨st svcF, by decide +kernel⟩⟩


theorem witness_VaultSequence :
    (∃ (s : State) (w : Writer) (v : Word), Accepts s.dev w .VLT_UNLOCK 0 ∧ s.dev.vlt.seq = none ∧ v.toNat % 2 ^ 16 = 0xA55A) ∧
    (∃ (s : State) (w : Writer) (v : Word) (q : VaultSeq), Accepts s.dev w .VLT_UNLOCK 0 ∧ s.dev.vlt.seq = some q ∧ q.owner = vaultOwner w ∧ q.stage = 1 ∧ v.toNat % 2 ^ 16 = 0x5AA5) ∧
    (∃ (s : State) (w : Writer) (q : VaultSeq), Accepts s.dev w .VLT_CMD 0 ∧ s.dev.vlt.seq = some q ∧ q.owner = vaultOwner w ∧ q.stage = 2) ∧
    (∃ (s : State) (w : Writer) (q : VaultSeq), Accepts s.dev w .VLT_CMD 0 ∧ s.dev.vlt.seq = some q ∧ q.owner = vaultOwner w ∧ q.stage ≠ 2) ∧
    (∃ (s : State) (w : Writer) (v : Word) (q : VaultSeq), Accepts s.dev w .VLT_ADDR 0 ∧ s.dev.vlt.seq = some q ∧ q.owner = vaultOwner w ∧ q.stage = 3 ∧ v.toNat < 2 ^ 21 ∧ q.erase = false ∧ v.toNat % 32 = 0) ∧
    (∃ (s : State) (w : Writer) (v : Word) (q : VaultSeq), Accepts s.dev w .VLT_ADDR 0 ∧ s.dev.vlt.seq = some q ∧ q.owner = vaultOwner w ∧ q.stage = 3 ∧ v.toNat < 2 ^ 21 ∧ q.erase = true ∧ v.toNat % 65536 = 0) ∧
    (∃ (s : State) (w : Writer) (i : Fin 8) (q : VaultSeq), Accepts s.dev w .VLT_DATA 0 ∧ s.dev.vlt.seq = some q ∧ q.owner = vaultOwner w ∧ q.stage = 4 ∧ q.data.length = i.val ∧ i.val < 7) ∧
    (∃ (s : State) (w : Writer) (i : Fin 8) (q : VaultSeq), Accepts s.dev w .VLT_DATA 0 ∧ s.dev.vlt.seq = some q ∧ q.owner = vaultOwner w ∧ q.stage = 4 ∧ q.data.length = i.val ∧ i.val = 7) ∧
    (∃ (s : State) (q : VaultSeq), s.dev.vlt.seq = some q) := by
  refine ⟨⟨st svcF, mp, 0xA55A, by decide +kernel⟩,
    ⟨st (svcV (vsq 1)), mp, 0x5AA5, vsq 1, by decide +kernel⟩,
    ⟨st (svcV (vsq 2)), mp, vsq 2, by decide +kernel⟩,
    ⟨st (svcV (vsq 1)), mp, vsq 1, by decide +kernel⟩,
    ⟨st (svcV (vsq 3)), mp, 0x1FFFE0, vsq 3, by decide +kernel⟩,
    ⟨st (svcV {vsq 3 with erase := true}), mp, 0x1F0000, {vsq 3 with erase := true}, by decide +kernel⟩,
    ⟨st (svcV {vsq 4 with data := [1, 2, 3, 4, 5, 6]}), mp, 6, {vsq 4 with data := [1, 2, 3, 4, 5, 6]}, by decide +kernel⟩,
    ⟨st (svcV {vsq 4 with data := [1, 2, 3, 4, 5, 6, 7]}), mp, 7, {vsq 4 with data := [1, 2, 3, 4, 5, 6, 7]}, by decide +kernel⟩,
    ⟨st (svcV (vsq 1)), vsq 1, by decide +kernel⟩⟩


theorem witness_VaultOperations :
    (∃ (d : Dev), vaultInternal d = false ∧ d.vlt.op = none) ∧
    (∃ (d : Dev), vaultInternal d = true ∧ d.vlt.waits = none) ∧
    (∃ (d : Dev) (r : VaultOp), vaultInternal d = false ∧ d.vlt.op = some r ∧ r.suspended = false) ∧
    (∃ (d : Dev) (o : VaultOp) (r : VaultOp), vaultInternal d = false ∧ d.vlt.op = some r ∧ r.suspended = true ∧ r.kind = 2 ∧ o.kind = 1 ∧ vaultSector o.off ≠ vaultSector r.off ∧ d.vlt.inner = none) ∧
    (∃ (s : State) (o : VaultOp), isDown s.dev = false ∧ s.dev.vlt.inner = none ∧ s.dev.vlt.op = some o ∧ o.suspended = false) ∧
    (∃ (s : State) (o : VaultOp), 
    let v := s.dev.vlt
    isDown s.dev = false ∧ v.inner = none ∧ v.op = some o ∧ o.suspended = false ∧ ((o.kind = 1 → o.pulses < 12)) ∧ o.pulses < 40) ∧
    (∃ (s : State) (o : VaultOp), isDown s.dev = false ∧ s.dev.vlt.inner = none ∧ s.dev.vlt.op = some o ∧ o.suspended = false ∧ 40 ≤ o.pulses) ∧
    (∃ (s : State) (w : Writer) (o : VaultOp), Accepts s.dev w .VLT_CTRL 0 ∧ s.dev.vlt.inner = none ∧ s.dev.vlt.op = some o ∧ o.suspended = false ∧ o.kind ≠ 4) ∧
    (∃ (s : State) (w : Writer) (o : VaultOp), Accepts s.dev w .VLT_CTRL 0 ∧ s.dev.vlt.inner = none ∧ s.dev.vlt.op = some o ∧ o.suspended = true) := by
  refine ⟨⟨svcF, by decide +kernel⟩,
    ⟨svcO (vop 4 1), by decide +kernel⟩,
    ⟨svcO (vop 1 1), vop 1 1, by decide +kernel⟩,
    ⟨svcO {vop 2 1 with suspended := true, off := 65536}, vop 1 0, {vop 2 1 with suspended := true, off := 65536}, by decide +kernel⟩,
    ⟨st (svcO (vop 1 1)), vop 1 1, by decide +kernel⟩,
    ⟨st (svcO (vop 1 11)), vop 1 11, by decide +kernel⟩,
    ⟨st (svcO (vop 2 40)), vop 2 40, by decide +kernel⟩,
    ⟨st (svcO (vop 2 1)), mp, vop 2 1, by decide +kernel⟩,
    ⟨st (svcO {vop 2 1 with suspended := true}), mp, {vop 2 1 with suspended := true}, by decide +kernel⟩⟩


theorem witness_VaultContents :
    (∃ (d : Dev) (o : VaultOp) (i : Nat), o.kind = 1 ∧ o.data.length = 8 ∧ d.vlt.undef = [] ∧ i < 8 ∧ nget d.vlt.user (o.off / 4 + i) = none) ∧
    (∃ (o : VaultOp) (i : Nat), o.kind = 1 ∧ o.data.length = 8 ∧ ((i < o.off / 4 ∨ o.off / 4 + 8 ≤ i))) ∧
    (∃ (d : Dev) (o : VaultOp), o.kind = 2 ∧ d.vlt.undef = []) := by
  refine ⟨⟨svcF, vop 1 1, 7, by decide +kernel⟩,
    ⟨vop 1 1, 16, by decide +kernel⟩,
    ⟨svcF, vop 2 1, by decide +kernel⟩⟩


theorem witness_VaultJournal :
    (∃ (s : State) (r : LogRec) (t : List LogRec), s.dev.pwr.state = .service ∧ s.dev.log.jrn.waiting = r :: t ∧ jrnReady s.dev = true ∧ jrnBank s.dev = 0) ∧
    (∃ (s : State), s.dev.pwr.state = .service ∧ jrnReady s.dev = false) ∧
    (∃ (s : State), s.dev.pwr.state = .service ∧ s.dev.log.jrn.erasing = true ∧ s.dev.log.jrn.waiting = []) := by
  refine ⟨⟨st {svcF with log.jrn.waiting := [rec_]}, rec_, [], by decide +kernel⟩,
    ⟨st {svcF with log.jrn.waiting := [rec_], log.jrn.programmed := 1024}, by decide +kernel⟩,
    ⟨st {svcF with log.jrn.erasing := true}, by decide +kernel⟩⟩


theorem witness_RotationGrace :
    (∃ (s : State) (k : Nat) (t : Nat), 
    let d := reachFed s.dev t
    s.dev.sec.ctrlOld = some (k, t) ∧ t ≤ fedTime d) ∧
    (∃ (d : Dev) (k : Nat) (x : KeySlot), ((x.state = .live ∨ graceHolds d k = true))) ∧
    (∃ (d : Dev) (k : Nat) (x : KeySlot), x.state ≠ .live ∧ graceHolds d k = false ∧ chamberNames d k = false ∧ nwf d.sec.slots = true) ∧
    (∃ (d : Dev) (k : Nat) (x : KeySlot), x.state = .retiring ∧ graceHolds d k = false ∧ chamberNames d k = true ∧ slotSectors d k = false ∧ slotHeld d k = false) ∧
    (∃ (d : Dev) (k : Nat) (x : KeySlot), x.state ≠ .live ∧ chamberNames d k = true ∧ ((slotSectors d k = true ∨ slotHeld d k = true))) := by
  refine ⟨⟨st {svcF with sec.ctrlOld := some (40, 70)}, 40, 70, by decide +kernel⟩,
    ⟨svcC, 0, slot_ 1 7, by decide +kernel⟩,
    ⟨svcQ [] 40 {slot_ 2 7 with state := .retiring}, 40, {slot_ 2 7 with state := .retiring}, by decide +kernel⟩,
    ⟨svcQ [] 0 {slot_ 1 7 with state := .retiring}, 0, {slot_ 1 7 with state := .retiring}, by decide +kernel⟩,
    ⟨{svcQ [] 0 {slot_ 1 7 with state := .retiring} with res.eng := [(0, { mgt := [{ cpw with slot := 0 }] })]}, 0, {slot_ 1 7 with state := .retiring}, by decide +kernel⟩⟩


theorem witness_HostWrites :
    ∃ (s : State) (p : Pkt) (r : Reth) (data : List Byte) (c : Chamber) (f : Frame), 
    let b : ReqBody := .write r data
    let d0 := frameHeard s.dev p b
    let d := taken d0 p
    let op : OpKind := if p.opcode.toNat = 0x0B ∨ p.opcode.toNat = 0xCB then .writeImm else .write
    Enters s.dev (.req p b) ∧ Expected d0 p op (data != []) ∧ (getConn d (connOf p)).service = .data ∧ Quiet d p data.length ∧ Granted d p r c ∧ Fits d p r .write data.length ∧ AtHand d r f ∧ Writable d r f data.length := by
  exact ⟨st svcH, pkd 0xCA, reth 16380 4, [1, 2, 3, 4], chmL, frm, by decide +kernel⟩


theorem witness_HostReads :
    ∃ (s : State) (p : Pkt) (r : Reth) (c : Chamber) (f : Frame), 
    let b : ReqBody := .read r []
    let d0 := frameHeard s.dev p b
    let d := taken d0 p
    Enters s.dev (.req p b) ∧ Expected d0 p .read false ∧ (getConn d (connOf p)).service = .data ∧ Quiet d p 0 ∧ Granted d p r c ∧ Fits d p r .read r.len.toNat ∧ AtHand d r f := by
  exact ⟨st svcH, pkd 0xCC, reth 16380 4, chmL, frm, by decide +kernel⟩


theorem witness_CommitsAndSends :
    (∃ (s : State) (p : Pkt) (r : Reth) (c : Chamber), 
    let b : ReqBody := .commit r
    let d0 := frameHeard s.dev p b
    let d := taken d0 p
    Enters s.dev (.req p b) ∧ Expected d0 p .commit false ∧ (getConn d (connOf p)).service = .data ∧ Quiet d p 0 ∧ Granted d p r c ∧ c.cls ≠ .reference ∧ Fits d p r .commit r.len.toNat ∧ d.poison = [] ∧ d.blanket = []) ∧
    (∃ (s : State) (p : Pkt) (n : Nat), 
    let b : ReqBody := .send n
    let d0 := frameHeard s.dev p b
    let d := taken d0 p
    Enters s.dev (.req p b) ∧ Expected d0 p .send (decide (n ≠ 0)) ∧ (getConn d (connOf p)).service = .mgmt ∧ cellAwake d (connCell (connOf p)) = true ∧ 0 < (getConn d (connOf p)).recvFree ∧ d.reqs = [] ∧ (takeBufs d (connCell (connOf p)) p.bytes (connIdx (connOf p)) false).isSome = true) := by
  refine ⟨⟨st svcH, pkd 0xD5, reth 0 16384, chmL, by decide +kernel⟩,
    ⟨st {svcF with conns := [(1, {conD with service := .mgmt})]}, pkd 0xC4, 100, by decide +kernel⟩⟩


theorem witness_AccessChecks :
    ∃ (s : State) (p : Pkt) (r : Reth) (data : List Byte), 
    let b : ReqBody := .write r data
    let d0 := frameHeard s.dev p b
    let d := taken d0 p
    Enters s.dev (.req p b) ∧ Expected d0 p .write (data != []) ∧ p.opcode.toNat ≠ 0x0B ∧ p.opcode.toNat ≠ 0xCB ∧ (getConn d (connOf p)).service = .data ∧ 2 ≤ (getConn d (connOf p)).version ∧ Quiet d p data.length := by
  exact ⟨st svcH, pkd 0xCA, reth 16380 4, [1, 2, 3, 4], by decide +kernel⟩


theorem witness_IdleStep :
    ∃ (s : State), s.pending = [] := by
  exact ⟨st svcF, by decide +kernel⟩


theorem witness_AlcoveFill :
    (∃ (al : Alcove) (a : Nat) (j : Nat), 
    let s := alcSet a
    let ptr := ngetD al.ptr s 0
    let w := (ptr + j) % 16
    ptr < 16 ∧ j < 16 ∧ ((∀ i ∈ List.range j, nhas al.ways (s * 16 + (ptr + i) % 16) = true)) ∧ nhas al.ways (s * 16 + w) = false) ∧
    (∃ (al : Alcove) (a : Nat), 
    let s := alcSet a
    let ptr := ngetD al.ptr s 0
    ptr < 16 ∧ ((∀ w ∈ List.range 16, nhas al.ways (s * 16 + w) = true))) ∧
    (∃ (d : Dev) (line : Nat) (f : Frame), 
    let c := homeOf (line / 128)
    let a := frameAddr d f.slot (line % 128)
    getFrame d (line / 128) = some f ∧ (getAlc d c).mb = [] ∧ (getAlc d c).disabled = false ∧ (alcWay (getAlc d c) a).isSome = true ∧ nget d.latent0 (latentKey c a) = none) := by
  refine ⟨⟨{ways := [(14, ⟨7, false⟩), (15, ⟨9, false⟩)], ptr := [(0, 14)]}, 0, 2, by decide +kernel⟩,
    ⟨{ways := (List.range 16).map fun i => (i, ⟨i, false⟩), ptr := [(0, 15)]}, 0, by decide +kernel⟩,
    ⟨{svcC with tier.frames := [(pk, frm)], tier.alc := [(0, {ways := [(alcSet (frameAddr svcC 0 2) * 16 + 3, ⟨frameAddr svcC 0 2 / 128, false⟩)], ptr := [(5, 6)]})]}, pk * 128 + 2, frm, by decide +kernel⟩⟩


theorem witness_PauseThresholds :
    ∃ (d : Dev) (c : CellNo), pfcOn d c.val = true ∧ txOn d c.val = true ∧ nwf (getPort d c.val).xoff = true := by
  exact ⟨svcF, 1, by decide +kernel⟩


theorem witness_MirrorAdmission :
    (∃ (d : Dev) (p : Pkt) (k : Nat) (chamber : Nat) (off : Nat) (data : List Byte) (y : Dev × Nat), 
    let c := getConn d k
    let pkts := packetsOf data.length c.pmtu
    let d1 := modConn y.1 k fun c => advanceTo c (psnMod (p.psn.toNat + pkts))
    let ts := (p.oxh.map fun y => y.timestamp).getD 0
    let claim := (p.oxh.map fun y => y.claim).getD 0
    let r : Req := { id := d1.nextReq, conn := k, psn := p.psn.toNat, pkts := pkts, kind := .mirrorWrite, ackReq := p.ackReq, persist := p.oxh.any (·.persist), keyIdx := 0, va := 0, chamber := chamber, off := off, len := data.length, data := data, mark := msgMarks (chmAddr chamber off) data.length c.pmtu p.pmh, arg := (claim, 0), errs := [], hold := p.oxh.any (·.hold), stage := .issued, parts := [], at_ := d1.now, ts := ts, buf := some y.2, dup := false }
    let d2 := addReq (if p.oxh.any (·.hold) then bump d1 .TIME_CNT 0 4 else d1) r
    y.1.reqs = [] ∧ takeBufs d (connCell k) (messageBytes p data.length c.pmtu) (0x400 + (connIdx k - 1)) false = some y ∧ nhas y.1.chm.chambers chamber = true ∧ ngetD y.1.cus.appliedTs (homeCell chamber (off / 16384)) 0 < ts ∧ nhas y.1.cus.dropPages (pageKey chamber (off / 16384)) = false ∧ mirrorGate d2 r = .open_) ∧
    (∃ (d : Dev) (p : Pkt) (k : Nat) (chamber : Nat) (off : Nat) (data : List Byte) (y : Dev × Nat), 
    let c := getConn d k
    let ts := (p.oxh.map fun y => y.timestamp).getD 0
    y.1.reqs = [] ∧ takeBufs d (connCell k) (messageBytes p data.length c.pmtu) (0x400 + (connIdx k - 1)) false = some y ∧ nhas y.1.chm.chambers chamber = true ∧ ts ≤ ngetD y.1.cus.appliedTs (homeCell chamber (off / 16384)) 0) ∧
    (∃ (d : Dev) (p : Pkt) (k : Nat) (chamber : Nat) (off : Nat) (data : List Byte) (y : Dev × Nat), 
    let c := getConn d k
    let ts := (p.oxh.map fun y => y.timestamp).getD 0
    let claim := (p.oxh.map fun y => y.claim).getD 0
    y.1.reqs = [] ∧ takeBufs d (connCell k) (messageBytes p data.length c.pmtu) (0x400 + (connIdx k - 1)) false = some y ∧ nhas y.1.chm.chambers chamber = true ∧ ngetD y.1.cus.appliedTs (homeCell chamber (off / 16384)) 0 < ts ∧ nhas y.1.cus.dropPages (pageKey chamber (off / 16384)) = false ∧ claim < y.1.cus.pairClaim) ∧
    (∃ (d : Dev) (p : Pkt) (k : Nat) (data : List Byte), takeBufs d (connCell k) (messageBytes p data.length (getConn d k).pmtu) (0x400 + (connIdx k - 1)) false = none) := by
  refine ⟨⟨mirH, pkm 0xCA, 1025, 3, 49152, [1, 2], tbM mirH, by decide +kernel⟩,
    ⟨{svcM with cus.appliedTs := [(0, 50)]}, pkm 0xCA, 1025, 3, 49152, [1, 2], tbM {svcM with cus.appliedTs := [(0, 50)]}, by decide +kernel⟩,
    ⟨{svcM with cus.pairClaim := 5}, pkm 0xCA, 1025, 3, 49152, [1, 2], tbM {svcM with cus.pairClaim := 5}, by decide +kernel⟩,
    ⟨{svcM with res.bufs := (List.range 658).map fun i => (1024 + i, { requester := 0, refs := 1 })}, pkm 0xCA, 1025, [1, 2], by decide +kernel⟩⟩


theorem witness_TreeBroadcasts :
    (∃ (s : State) (m : TreeMsg), 
    let x := broadcastHeard s.dev m 0
    x.2 = true ∧ m.root.val ≠ ordinal x.1) ∧
    (∃ (s : State) (m : TreeMsg), 
    let x := broadcastHeard s.dev m 1
    x.2 = true ∧ m.root.val ≠ ordinal x.1) ∧
    (∃ (s : State) (m : TreeMsg), 
    let x := broadcastHeard s.dev m 2
    x.2 = true ∧ m.root.val ≠ ordinal x.1) ∧
    (∃ (s : State) (m : TreeMsg), 
    let x := broadcastHeard s.dev m 3
    x.2 = true ∧ m.root.val ≠ ordinal x.1) ∧
    (∃ (s : State) (m : TreeMsg), 
    let x := broadcastHeard s.dev m 4
    x.2 = true ∧ m.root.val ≠ ordinal x.1) ∧
    (∃ (s : State) (m : TreeMsg), 
    let x := broadcastHeard s.dev m 5
    x.2 = true ∧ m.root.val ≠ ordinal x.1) ∧
    (∃ (s : State) (m : TreeMsg), 
    let x := broadcastHeard s.dev m 6
    x.2 = true ∧ m.root.val ≠ ordinal x.1) ∧
    (∃ (s : State) (m : TreeMsg), 
    let x := broadcastHeard s.dev m 0
    x.2 = true ∧ m.root.val = ordinal x.1) ∧
    (∃ (s : State) (m : TreeMsg) (d : Dev), ctrlHeard s.dev m.port.val m.sec = (d, true) ∧ tagOk d (treeBytes m.act.toNat 0 m.root.val (wireBroadcast m)) m.tag = false) := by
  refine ⟨⟨st svcF, sgTree 0 trm, treeHeard_snd _ _ _ _ (by decide +kernel) (by decide +kernel), (by rw [broadcast_sg _ _ _ (by decide +kernel) (by decide +kernel)]; decide +kernel)⟩,
    ⟨st svcF, sgTree 1 trm, treeHeard_snd _ _ _ _ (by decide +kernel) (by decide +kernel), (by rw [broadcast_sg _ _ _ (by decide +kernel) (by decide +kernel)]; decide +kernel)⟩,
    ⟨st svcF, sgTree 2 trm, treeHeard_snd _ _ _ _ (by decide +kernel) (by decide +kernel), (by rw [broadcast_sg _ _ _ (by decide +kernel) (by decide +kernel)]; decide +kernel)⟩,
    ⟨st svcF, sgTree 3 trm, treeHeard_snd _ _ _ _ (by decide +kernel) (by decide +kernel), (by rw [broadcast_sg _ _ _ (by decide +kernel) (by decide +kernel)]; decide +kernel)⟩,
    ⟨st svcF, sgTree 4 trm, treeHeard_snd _ _ _ _ (by decide +kernel) (by decide +kernel), (by rw [broadcast_sg _ _ _ (by decide +kernel) (by decide +kernel)]; decide +kernel)⟩,
    ⟨st svcF, sgTree 5 trm, treeHeard_snd _ _ _ _ (by decide +kernel) (by decide +kernel), (by rw [broadcast_sg _ _ _ (by decide +kernel) (by decide +kernel)]; decide +kernel)⟩,
    ⟨st svcF, sgTree 6 trm, treeHeard_snd _ _ _ _ (by decide +kernel) (by decide +kernel), (by rw [broadcast_sg _ _ _ (by decide +kernel) (by decide +kernel)]; decide +kernel)⟩,
    ⟨st svcF, sgTree 0 {trm with root := 0}, treeHeard_snd _ _ _ _ (by decide +kernel) (by decide +kernel), (by rw [broadcast_sg _ _ _ (by decide +kernel) (by decide +kernel)]; decide +kernel)⟩,
    ⟨st noKey, trm, noKey, by decide +kernel⟩⟩



theorem witness_FiringOrder : ∃ (d : Dev) (i : Nat) (e : CalEnt), nextFiring d = some (i, e) ∧ ∃ q ∈ d.cal.ents, q.2.state = .posted ∧ q.2.time ≤ fedTime d :=
  ⟨{ svcF with now := 1000000, cal.ents := [(3, ent 7 5), (4, ent 1 1)] }, 4, ent 1 1, by decide +kernel, (3, ent 7 5), by decide +kernel⟩

theorem witness_TreeOperations :
    (∃ (d : Dev) (act : Nat) (sn : Snap), nget d.snap.snaps act = some sn ∧ sn.state = .pending) ∧ (∃ d : Dev, inService3 d = true) ∧ (∃ d : Dev, inService3 d = false) :=
  ⟨⟨{ svcF with snap.snaps := [(7, snp .pending)] }, 7, snp .pending, by decide +kernel⟩, ⟨svcF, by decide +kernel⟩, ⟨pwr_ .starting, by decide +kernel⟩⟩

theorem witness_CommitPutsShadowsInForce_all :
    ∃ d : Dev, (∀ p ∈ d.shadow, keyFenced d p.1 = false) ∧ (∀ p ∈ d.shadow, ∀ q ∈ d.shadow, p.1 = q.1 → p = q) ∧ ∃ p ∈ d.shadow, ∀ q ∈ d.shadow, q = p :=
  ⟨{ svcF with shadow := [(regKey .POOL_CFG 0 0, 5)] }, by decide +kernel⟩

theorem witness_BulkAcceptance :
    (∃ (s : State) (p : Pkt) (b : BulkPayload) (k : BulkKind), Enters s.dev (.req p (.bulk k b)) ∧ BulkFits (frameHeard s.dev p (.bulk k b)) p k b ∧ isRange k = true ∧ b.len ≠ 0) ∧
    (∃ (s : State) (p : Pkt) (b : BulkPayload) (k : BulkKind), Enters s.dev (.req p (.bulk k b)) ∧ BulkFits (frameHeard s.dev p (.bulk k b)) p k b ∧ isRange k = true ∧ b.len = 0) ∧
    (∃ (s : State) (p : Pkt) (b : BulkPayload) (k : BulkKind), Enters s.dev (.req p (.bulk k b)) ∧ BulkFits (frameHeard s.dev p (.bulk k b)) p k b ∧ isRange k = false) :=
  ⟨⟨st { svcF with conns := [(1, conD)] }, pkd 0xD7, { bpl with snap := 0, set := 0 }, .fill, by decide +kernel⟩,
    ⟨st { svcF with conns := [(1, conD)] }, pkd 0xD7, { bpl with snap := 0, set := 0, len := 0 }, .fill, by decide +kernel⟩,
    ⟨st { svcF with conns := [(1, conD)] }, pkd 0xD7, ⟨false, false, 0, 6, 0, 0, 0, 0, 0, 0, 0, 0, true⟩, .barrier, by decide +kernel⟩⟩

/-- An image's IDENTITY record of the device with an ID. -/
def idr (n : Nat) : IdRec := ⟨BitVec.ofNat 128 n, 0, 0xFFFF, 0, false, 0, List.replicate 16 (0, 0xFF), true⟩
def dir1 : List DirEnt := [⟨1, 320, 64, 1, true⟩, ⟨2, 384, 272, 34, true⟩, ⟨3, 704, 0, 0, true⟩, ⟨4, 704, 224, 2, true⟩]
def imgOf (n : Nat) : ImgCopy := { img with dir := dir1, ids := [idr n] }

theorem word_lt (n x k : Nat) (h : n < 2 ^ k) : n * 2 ^ 32 + x % 2 ^ 32 < 2 ^ (k + 32) := by
  have := Nat.mod_lt x (show 0 < 2 ^ 32 by decide)
  rw [Nat.pow_add]
  generalize 2 ^ k = a at *
  generalize x % 2 ^ 32 = b at *
  omega

theorem range_four : List.range 4 = [0, 1, 2, 3] := rfl

theorem ownId_lt : ownId < 2 ^ 128 := by
  unfold ownId
  rw [range_four, List.foldl_cons, List.foldl_cons, List.foldl_cons, List.foldl_cons, List.foldl_nil]
  exact word_lt _ _ 96 (word_lt _ _ 64 (word_lt _ _ 32 (by rw [Nat.zero_mul, Nat.zero_add]; exact Nat.mod_lt _ (by decide))))

theorem find_idr (n : Nat) (h : n < 2 ^ 128) : ((imgOf n).ids.find? fun r => r.devId.toNat == n) = some (idr n) := by
  have e : (idr n).devId.toNat = n := by simp only [idr, BitVec.toNat_ofNat, Nat.mod_eq_of_lt h]
  simp only [imgOf, List.find?_cons, e, beq_self_eq_true]

theorem ownRec_idr : ownRec (imgOf ownId) = some (idr ownId) := by
  unfold ownRec
  exact find_idr ownId ownId_lt

theorem chosen_idr (n : Nat) : (chooseCopy { sta 2 with sec.owners := [(0, List.range 12)] } (imgOf n) { img with readable := false }).chosen = some false := by rfl

theorem divergent_idr (n : Nat) : (chooseCopy { sta 2 with sec.owners := [(0, List.range 12)] } (imgOf n) { img with readable := false }).divergent = false := by rfl

theorem check_idr (n : Nat) (h : ownRec (imgOf n) = some (idr n)) : chosenCheck (imgOf n) = 0 := by
  have e : declared (groupSizes (imgOf n)) (idr n).ordinal.toNat = true := by
    show declared [1] 0 = true
    decide
  have t : topoOk (imgOf n) = true := rfl
  have w : witnessRules (imgOf n) = true := rfl
  unfold chosenCheck
  rw [h]
  simp only [e, t, w, Bool.not_true, Bool.false_eq_true, if_false]

theorem witness_StartSteps_image :
    ∃ (s : State) (a b : ImgCopy) (r : IdRec), s.dev.pwr.state = .starting ∧ s.dev.ldr.step = 2 ∧ s.dev.ldr.retryAt = none ∧ (chooseCopy s.dev a b).chosen = some false ∧
      (chooseCopy s.dev a b).divergent = false ∧ chosenCheck a = 0 ∧ ownRec a = some r :=
  ⟨st { sta 2 with sec.owners := [(0, List.range 12)] }, imgOf ownId, { img with readable := false }, idr ownId, by decide +kernel, by decide +kernel, by decide +kernel,
    chosen_idr ownId, divergent_idr ownId, check_idr ownId ownRec_idr, ownRec_idr⟩

theorem witness_AccessChecks_cases :
    (∃ (d : Dev) (r : Reth), keyClass d r.key.toNat = some stKeyStale) ∧
    (∃ (d : Dev) (p : Pkt) (r : Reth) (c : Chamber), keyClass d r.key.toNat = none ∧
      bindingOk (keyOf d r) (getConn d (connOf p)).tenant (ordinal d) (qpnOf (getConn d (connOf p)).gen (connOf p)) = true ∧
      nget d.chm.chambers (keyOf d r).chamber = some c ∧ c.state ≠ .active) ∧
    (∃ (d : Dev) (p : Pkt) (r : Reth) (c : Chamber), Granted d p r c ∧ boundsOk (keyOf d r) .write r.va.toNat 4 = false) ∧
    (∃ (d : Dev) (p : Pkt) (r : Reth) (c : Chamber), Granted d p r c ∧ boundsOk (keyOf d r) .write r.va.toNat 4 = true ∧ rightsOk (keyOf d r) .write (persistOf p .write) = false) :=
  ⟨⟨{ svcH with chm.keys := [(2, { keyE with gen := 2 })] }, reth 0 4, by decide +kernel⟩,
    ⟨{ svcH with chm.chambers := [(3, { chmL with state := .draining })] }, pkd 0xCA, reth 0 4, { chmL with state := .draining }, by decide +kernel⟩,
    ⟨svcH, pkd 0xCA, reth 32765 4, chmL, by decide +kernel⟩,
    ⟨{ svcH with chm.keys := [(2, { keyE with base := 12, wr := false })] }, pkd 0xCA, reth 32764 4, chmL, by decide +kernel⟩⟩

theorem witness_EveryStepSettles : ∃ s t : State, Settled s ∧ step s = .next t :=
  ⟨st svcF, tick (st svcF), ⟨fun _ _ _ => rfl, fun p h => by
    have e : (getPort svcF p).doze = {} := by
      simp only [getPort, svcF, ngetD]
      rcases p with _ | _ | _ | p <;> rfl
    constructor <;> (show (getPort svcF p).doze.st ≠ _; rw [e]; decide)⟩, rfl⟩

theorem witness_HostAtomics :
    (∃ (s : State) (p : Pkt) (r : Reth) (c : Chamber) (f : Frame), let d0 := frameHeard s.dev p (.cas r 1 2 [])
      let d := taken d0 p
      Enters s.dev (.req p (.cas r 1 2 [])) ∧ Expected d0 p .cas false ∧ (getConn d (connOf p)).service = .data ∧ Quiet d p 0 ∧ Granted d p r c ∧ Fits d p r .cas 8 ∧ AtHand d r f ∧
      Writable d r f 8 ∧ persistOf p .cas = false ∧ Reachable d (connOf p)) ∧
    (∃ (s : State) (p : Pkt) (r : Reth) (c : Chamber) (f : Frame), let d0 := frameHeard s.dev p (.faa r 1 [])
      let d := taken d0 p
      Enters s.dev (.req p (.faa r 1 [])) ∧ Expected d0 p .faa false ∧ (getConn d (connOf p)).service = .data ∧ Quiet d p 0 ∧ Granted d p r c ∧ Fits d p r .faa 8 ∧ AtHand d r f ∧
      Writable d r f 8 ∧ persistOf p .faa = false) :=
  ⟨⟨st svcH, pkd 0xD3, reth 16376 8, chmL, frm, by decide +kernel, by decide +kernel, by decide +kernel, by decide +kernel, by decide +kernel, by decide +kernel, by decide +kernel,
      by decide +kernel, by decide +kernel, by decide +kernel, by decide +kernel, 0, 0, by decide +kernel⟩, ⟨st svcH, pkd 0xD4, reth 16376 8, chmL, frm, by decide +kernel⟩⟩

theorem witness_ManagementMessages_tag :
    ∃ (d : Dev) (m : MgmtMsg) (x : Nat × List MgmtOp) (mat : Nat), parseRequest m.bytes = some x ∧ mgmtMat d = some mat ∧ m.tag ≠ Config.cmac mat m.bytes :=
  ⟨arg svcF .HUB_MGT_CFG 0 0 [20], { mgm 1 with tag := tg (mgm 1).bytes + 1 }, (parseRequest (mgm 1).bytes).get (by decide +kernel), 77, (Option.some_get _).symm, by decide +kernel,
    fun h => absurd (BitVec.add_right_eq_self.mp h) (by decide)⟩

end Sys2Proof.Tests
end

section
/-!
SUPPORT. The state right after reset, and faults and tests: releases of fences, clears, fault injection and link proving (spec/17_faults_and_events.md, spec/18_management.md).
-/
namespace Sys2Proof.Machine
open Sys2Proof

/-! ### Reset -/

/-- Settles O23: every table of the reset state is empty, so each lookup in it gives its default. The empty media, Vault and memory are the model's choice (notes/assumptions 7). -/
theorem resetState : Obligations.ResetState := by
  refine ⟨?pending, ?state, ?step, ?input, ?now, ?registers, ?rails, ?gated, ?chambers, ?keys, ?conns, ?reqs, ?frames, ?map, ?calendar, ?memory, ?bytes, ?poison, ?fences, ?courses, ?bits, ?first,
    ?slots, ?vault, ?commit, ?proving, ?i3c⟩
  case registers => exact fun _ _ _ => rfl
  case rails | conns | bytes | vault => exact fun _ => rfl
  case gated => simp only [State.reset, allCells]
  all_goals rfl

/-! ### What the commands of rows 276 to 296 do (R365, R371, R380 to R383, R386 to R399) -/

/-- A command's effect may be named by any device equal to it. -/
theorem does_congr {i : Instr} {s : State} {e e' : Dev} (h : Does i s e) (he : e = e') : Does i s e' := he ▸ h

theorem does_registerWrite (s : State) (w : Writer) (a : BitVec 32) (v : Word) (env : Env) : Does (.registerWrite w a v env) s (registerWrite s.dev w a.toNat v env) :=
  does_run _ s (fun d => registerWrite d w a.toNat v env) rfl

theorem does_cellReleaseDone (s : State) : Does .cellReleaseDone s (cellReleaseDone s.dev) := does_run _ s cellReleaseDone rfl

theorem does_fltUnfence (s : State) (w : Writer) (u : BitVec 16) (b : Bool) : Does (.fltUnfence w u b) s (fltUnfence s.dev w u.toNat b) :=
  does_run _ s (fun d => fltUnfence d w u.toNat b) rfl

theorem does_fltFirstClear (s : State) (w : Writer) : Does (.fltFirstClear w) s (fltFirstClear s.dev w) := does_run _ s (fun d => fltFirstClear d w) rfl

theorem does_fltStatusClear (s : State) (w : Writer) (v : Word) : Does (.fltStatusClear w v) s (fltStatusClear s.dev w v) := does_run _ s (fun d => fltStatusClear d w v) rfl

theorem does_inject (s : State) (w : Writer) (v : Word) : Does (.inject w v) s (inject s.dev w v) := does_run _ s (fun d => inject d w v) rfl

theorem does_proveEnter (s : State) (w : Writer) (p : CellNo) : Does (.proveEnter w p) s (proveEnter s.dev w p.val) := does_run _ s (fun d => proveEnter d w p.val) rfl

theorem does_proveExit (s : State) (w : Writer) : Does (.proveExit w) s (proveExit s.dev w) := does_run _ s (fun d => proveExit d w) rfl

theorem does_proveLimitExpiry (s : State) : Does .proveLimitExpiry s (proveLimitExpiry (reachO s.dev (limitTime s.dev))) :=
  does_run _ s (fun d => proveLimitExpiry (reachO d (limitTime d))) rfl

theorem does_proveReorderTimeout (s : State) : Does .proveReorderTimeout s (proveReorderTimeout (reachO s.dev (heldFrameTime s.dev))) :=
  does_run _ s (fun d => proveReorderTimeout (reachO d (heldFrameTime d))) rfl

theorem does_managementRequest (s : State) (w : Writer) (m : MgmtMsg) (env : Env) : Does (.managementRequest w m env) s (managementRequest s.dev w m env) :=
  does_run _ s (fun d => managementRequest d w m env) rfl

theorem does_i3cDynamicAddress (s : State) (a : BitVec 7) : Does (.i3cDynamicAddress a) s (i3cDynamicAddress s.dev a.toNat) :=
  does_run _ s (fun d => i3cDynamicAddress d a.toNat) rfl

theorem does_i3cAddressWrite (s : State) (a : BitVec 32) : Does (.i3cAddressWrite a) s (i3cAddressWrite s.dev a.toNat) := does_run _ s (fun d => i3cAddressWrite d a.toNat) rfl

theorem does_i3cPrivateRead (s : State) (n : Nat) : Does (.i3cPrivateRead n) s (i3cPrivateRead s.dev n) := does_run _ s (fun d => i3cPrivateRead d n) rfl

theorem does_vaultUnlock (s : State) (w : Writer) (v : Word) : Does (.vaultUnlock w v) s (vaultUnlock s.dev w v) := does_run _ s (fun d => vaultUnlock d w v) rfl

theorem does_vaultCmdProgram (s : State) (w : Writer) : Does (.vaultCmdProgram w) s (vaultCmdProgram s.dev w) := does_run _ s (fun d => vaultCmdProgram d w) rfl

theorem does_vaultCmdErase (s : State) (w : Writer) : Does (.vaultCmdErase w) s (vaultCmdErase s.dev w) := does_run _ s (fun d => vaultCmdErase d w) rfl

theorem does_vaultAddr (s : State) (w : Writer) (v : Word) : Does (.vaultAddr w v) s (vaultAddr s.dev w v) := does_run _ s (fun d => vaultAddr d w v) rfl

theorem does_vaultData (s : State) (w : Writer) (ix : Fin 8) (v : Word) : Does (.vaultData w ix v) s (vaultData s.dev w ix.val v) :=
  does_run _ s (fun d => vaultData d w ix.val v) rfl

theorem does_vaultSequenceTimeout (s : State) : Does .vaultSequenceTimeout s (vaultSequenceTimeout (reachO s.dev (sequenceTime s.dev))) :=
  does_run _ s (fun d => vaultSequenceTimeout (reachO d (sequenceTime d))) rfl

theorem does_vaultPulseDone (s : State) (ok : Bool) : Does (.vaultPulseDone ok) s (vaultPulseDone s.dev ok) := does_run _ s (fun d => vaultPulseDone d ok) rfl

theorem does_vaultSuspend (s : State) (w : Writer) : Does (.vaultSuspend w) s (vaultSuspend s.dev w) := does_run _ s (fun d => vaultSuspend d w) rfl

theorem does_vaultResume (s : State) (w : Writer) : Does (.vaultResume w) s (vaultResume s.dev w) := does_run _ s (fun d => vaultResume d w) rfl

theorem faultCommandsComplete : Claims.FaultCommandsComplete :=
  ⟨does_fltUnfence, does_fltFirstClear, does_fltStatusClear, does_inject, does_proveEnter, does_proveExit, does_proveLimitExpiry, does_proveReorderTimeout, does_managementRequest,
    does_i3cDynamicAddress, does_i3cAddressWrite, does_i3cPrivateRead, does_vaultUnlock, does_vaultCmdProgram, does_vaultCmdErase, does_vaultAddr, does_vaultData, does_vaultSequenceTimeout,
    does_vaultPulseDone, does_vaultSuspend, does_vaultResume⟩

/-! ### A register write at the address of a cell's register (R389, R401, R403) -/

section
variable {r : RegId} {c i : Nat} (hh : (regInfo r).hub = none)
include hh

theorem regAddr_cell : regAddr r c i = 0x01000000 + c * 0x10000 + ((regInfo r).offset + 4 * i) := by
  simp only [regAddr, hh, Nat.add_assoc]

variable (hc : c < 256) (ho : (regInfo r).offset + 4 * i < 0x10000)
include hc ho

theorem inWindow_regAddr_cell : inWindow (regAddr r c i) = false := by
  rw [regAddr_cell hh, inWindow, decide_eq_false_iff_not]
  omega

theorem inView_regAddr_cell : inView (regAddr r c i) = false := by
  rw [regAddr_cell hh, inView, decide_eq_false_iff_not]
  omega

theorem placeAt_regAddr_cell (ha : regAt none ((regInfo r).offset + 4 * i) = some (r, i)) : placeAt (regAddr r c i) = some (.cell c r i) := by
  have hv := inView_regAddr_cell hh hc ho
  have hoff : regAddr r c i % 0x10000 = (regInfo r).offset + 4 * i := by rw [regAddr_cell hh]; omega
  have hcell : regAddr r c i / 0x10000 % 256 = c := by rw [regAddr_cell hh]; omega
  have hhub : ¬ regAddr r c i < 0x000D0000 := by rw [regAddr_cell hh]; omega
  have hin : 0x01000000 ≤ regAddr r c i ∧ regAddr r c i < 0x02000000 := by rw [regAddr_cell hh]; omega
  rw [placeAt, hv, if_neg Bool.false_ne_true, placeOf, if_neg hhub, if_pos hin, hoff, hcell, ha, Option.map_some]

theorem registerWrite_cell (ha : regAt none ((regInfo r).offset + 4 * i) = some (r, i)) (d : Dev) (w : Writer) (v : Word) (env : Env) (hs : served d w = true) :
    registerWrite d w (regAddr r c i) v env = writeCell d w r c i v := by
  simp [registerWrite, writeWordAt, hs, inWindow_regAddr_cell hh hc ho, inView_regAddr_cell hh hc ho, placeAt_regAddr_cell hh hc ho ha]

end

/-- FLT_CELL_FIRST stands at offset 0x9000 of each cell's block. -/
theorem regAt_fltCellFirst : regAt none ((regInfo .FLT_CELL_FIRST).offset + 4 * 0) = some (.FLT_CELL_FIRST, 0) := by decide +kernel

theorem registerWrite_fltCellFirst (d : Dev) (w : Writer) (c : CellNo) (v : Word) (env : Env) (hs : served d w = true) :
    registerWrite d w (regAddr .FLT_CELL_FIRST c.val 0) v env = cellFirstClear d w c.val v :=
  registerWrite_cell rfl c.isLt (by decide) regAt_fltCellFirst d w v env hs

/-! ### Release of a fence (R365) -/

section
variable {d : Dev} {w : Writer} {u : Nat} (ha : Accepts d w .FLT_UNFENCE 0) (hn : d.flt.unfencing = none)
include ha hn

section
variable {e : Dev} {b : Bool} (h1 : u / 4096 = 1) (hi : u % 4096 < 256)
  (he : (if b then relock (asked d w .FLT_UNFENCE 0 0) (u % 4096 / 16) else asked d w .FLT_UNFENCE 0 0) = e)
include h1 hi he

/-- The release of a cell is decided once its course's domains have relocked, where they have (notes/assumptions 131). -/
theorem fltUnfence_cell : fltUnfence d w u b =
    if !cellFenced e (u % 4096) then unfenceRefused e 3
    else if nhas e.flt.courses (u % 4096 / 16) || courseBars e (u % 4096 / 16) || cellBars e (u % 4096) then unfenceRefused e 1
    else { e with flt.unfencing := some u } := by
  subst he
  have hidle : (asked d w .FLT_UNFENCE 0 0).flt.unfencing.isSome = false := by rw [asked_flt, hn]; rfl
  rw [fltUnfence, command_accepted _ _ _ _ _ _ ha, hidle, if_neg Bool.false_ne_true]
  exact if_pos ⟨h1, hi⟩

theorem fltUnfence_begins (hf : cellFenced e (u % 4096) = true) (hk : nhas e.flt.courses (u % 4096 / 16) = false) (hb : courseBars e (u % 4096 / 16) = false)
    (hc : cellBars e (u % 4096) = false) : fltUnfence d w u b = { e with flt.unfencing := some u } := by
  simp only [fltUnfence_cell ha hn h1 hi he, hf, hk, hb, hc, Bool.not_true, Bool.or_self, Bool.false_eq_true, if_false]

/-- A cell with a cause of its own that has not gone stays fenced. -/
theorem fltUnfence_barred (hf : cellFenced e (u % 4096) = true) (hc : cellBars e (u % 4096) = true) : fltUnfence d w u b = unfenceRefused e 1 := by
  simp only [fltUnfence_cell ha hn h1 hi he, hf, hc, Bool.not_true, Bool.false_eq_true, if_false, Bool.or_true, if_true]

end

/-- Only cells and courses are released. -/
theorem fltUnfence_noUnit (b : Bool) (h1 : u / 4096 ≠ 1) (h10 : u / 4096 ≠ 10) : fltUnfence d w u b = unfenceRefused (asked d w .FLT_UNFENCE 0 0) 2 := by
  rw [fltUnfence, command_accepted _ _ _ _ _ _ ha]
  simp [hn, h1, h10]

end

theorem cellReleaseDone_cell {d : Dev} {u : Nat} (hu : d.flt.unfencing = some u) (h1 : u / 4096 = 1) :
    cellReleaseDone d = pump (releaseCell { d with flt.unfencing := none, flt.unfenceResult := 0 } (u % 4096)) := by
  simp only [cellReleaseDone, hu, h1, if_true]

/-! ### Clears (R371) -/

/-- The whole capture of the device is emptied. -/
theorem fltFirstClear_accepted {d : Dev} {w : Writer} (ha : Accepts d w .FLT_FIRST 0) :
    fltFirstClear d w = { asked d w .FLT_FIRST 0 0 with flt.first := emptied (asked d w .FLT_FIRST 0 0) fun _ => true } := command_accepted _ _ _ _ _ _ ha

/-- Only errors of the cycle of the clear itself stay in a capture. -/
theorem emptied_eq_none {d : Dev} {mine : Capture → Bool} (h : ∀ x ∈ d.flt.cycle, x.at_ ≠ d.now) : emptied d mine = none := by
  have hnil : (d.flt.cycle.filter fun x => x.at_ == d.now && mine x) = [] := List.filter_eq_nil_iff.mpr fun x hx => by simp [h x hx]
  rw [emptied, hnil, List.foldl_nil]

theorem cellFirstClear_accepted {d : Dev} {w : Writer} {c : Nat} {v : Word} (ha : Accepts d w .FLT_CELL_FIRST c) (hv : fbit v 31 = true)
    (hx : ∀ x ∈ (asked d w .FLT_CELL_FIRST c 0).flt.cycle, x.at_ ≠ (asked d w .FLT_CELL_FIRST c 0).now) :
    cellFirstClear d w c v = { asked d w .FLT_CELL_FIRST c 0 with flt.cellFirst := ndel (asked d w .FLT_CELL_FIRST c 0).flt.cellFirst c } := by
  rw [cellFirstClear, command_accepted _ _ _ _ _ _ ha, if_pos hv, emptied_eq_none hx]

theorem fltStatusClear_accepted {d : Dev} {w : Writer} (v : Word) (ha : Accepts d w .FLT_STATUS 0) : let e := asked d w .FLT_STATUS 0 0
    let named := BitVec.ofNat 5 (fld v 3 0)
    fltStatusClear d w v = { e with flt.bits := (e.flt.bits &&& ~~~named) ||| (conditions e &&& named) } := command_accepted _ _ _ _ _ _ ha

theorem fencesAndClears : Claims.FencesAndClears := by
  refine ⟨?begins, ?barred, ?noUnit, ?released, ?firstClear, fun _ _ => emptied_eq_none, ?cellFirstClear, ?statusClear⟩
  case begins => exact fun s w u b ha hn h1 hi hf hk hb hc => does_congr (does_fltUnfence s w u b) (fltUnfence_begins ha hn h1 hi rfl hf hk hb hc)
  case barred => exact fun s w u ha hn h1 hi hf hc => does_congr (does_fltUnfence s w u false) (fltUnfence_barred ha hn h1 hi (if_neg Bool.false_ne_true) hf hc)
  case noUnit => exact fun s w u b ha hn h1 h10 => does_congr (does_fltUnfence s w u b) (fltUnfence_noUnit ha hn b h1 h10)
  case released => exact fun s u hu h1 => does_congr (does_cellReleaseDone s) (cellReleaseDone_cell hu h1)
  case firstClear => exact fun s w ha => does_congr (does_fltFirstClear s w) (fltFirstClear_accepted ha)
  case cellFirstClear =>
    intro s w a c v env d haddr ha hv hx
    refine does_congr (does_registerWrite s w a v env) ?_
    rw [haddr, registerWrite_fltCellFirst _ _ _ _ _ ha.1]
    exact cellFirstClear_accepted ha hv hx
  case statusClear => exact fun s w v ha => does_congr (does_fltStatusClear s w v) (fltStatusClear_accepted v ha)

/-! ### Fault injection (R380) -/

theorem inject_armed {d : Dev} {w : Writer} {v : Word} {j : Injection} (ha : Accepts d w .TST_INJECT_CTRL 0) (ht : d.tst.testMode = true)
    (hj : flipOf v (hreg (asked d w .TST_INJECT_CTRL 0 0) .TST_INJECT_ADDR) = some j) :
    inject d w v = { asked d w .TST_INJECT_CTRL 0 0 with tst.inject := (asked d w .TST_INJECT_CTRL 0 0).tst.inject ++ [j] } := by
  rw [inject, ht, Bool.and_true, command_accepted _ _ _ _ _ _ ha, hj]

theorem inject_denied {d : Dev} {w : Writer} (v : Word) (hs : served d w = true) (ht : d.tst.testMode = false) :
    inject d w v = accessDone d w (regAddr .TST_INJECT_CTRL 0 0) acDenied := by
  rw [inject, ht, Bool.and_false, command_denied _ _ _ _ _ _ hs rfl]

/-! ### Link proving (R381 to R383) -/

theorem leaveProving_some {d : Dev} {p : Nat} (cause : Nat) (hp : d.tst.proving = some p) :
    leaveProving d cause = { d with tst.proving := none, tst.lastPort := p, tst.ended := cause } := by simp only [leaveProving, hp]

section
variable {d : Dev} {w : Writer} {p : Nat} (ha : Accepts d w .TST_PROVE_CTRL 0)
include ha

theorem proveEnter_permitted : let e := asked d w .TST_PROVE_CTRL 0 0
    mayProve e p = true → proveEnter d w p = { e with tst.proving := some p, tst.lastPort := p, tst.entered := e.now, tst.draws := 0,
                                                      tst.limitS := 16 * clampTo 1 225 (hfld e .TST_PROVE_CFG 31 20), tst.seed := zeroAs 1 (hfld e .TST_PROVE_CFG 15 0) } := by
  intro e hp
  rw [proveEnter, command_accepted _ _ _ _ _ _ ha, if_pos hp]

theorem proveEnter_refused (hp : mayProve (asked d w .TST_PROVE_CTRL 0 0) p = false) : proveEnter d w p = { asked d w .TST_PROVE_CTRL 0 0 with tst.refused := true } := by
  rw [proveEnter, command_accepted _ _ _ _ _ _ ha, hp, if_neg Bool.false_ne_true]

/-- EXIT ends PROVING whatever the PORT field of its write (notes/assumptions 141). -/
theorem proveExit_accepted (hp : d.tst.proving = some p) : proveExit d w = { asked d w .TST_PROVE_CTRL 0 0 with tst.proving := none, tst.lastPort := p, tst.ended := 1 } := by
  rw [proveExit, command_accepted _ _ _ _ _ _ ha, leaveProving_some 1 (by rw [asked_tst, hp])]

end

theorem reachO_limitTime {d : Dev} {p : Nat} (hp : d.tst.proving = some p) : reachO d (limitTime d) = reach d (d.tst.entered + sec d.tst.limitS) := by
  rw [limitTime, hp, Option.isSome_some, if_pos rfl, reachO]

theorem proveLimitExpiry_due {d : Dev} {p : Nat} (hp : d.tst.proving = some p) (hd : due d (d.tst.entered + sec d.tst.limitS) = true) :
    proveLimitExpiry d = { d with tst.proving := none, tst.lastPort := p, tst.ended := 2 } := by
  rw [proveLimitExpiry, hp, hd, Option.isSome_some, Bool.and_self, if_pos rfl, leaveProving_some 2 hp]

/-- The port leaves PROVING when local time reaches LIMIT_S from its entry. -/
theorem does_proveLimitExpiry_reached {s : State} {p : Nat} (hp : s.dev.tst.proving = some p) :
    Does .proveLimitExpiry s { reach s.dev (s.dev.tst.entered + sec s.dev.tst.limitS) with tst.proving := none, tst.lastPort := p, tst.ended := 2 } := by
  refine does_congr (does_proveLimitExpiry s) ?_
  rw [reachO_limitTime hp]
  exact proveLimitExpiry_due (by rw [reach_tst, hp]) (by rw [reach_tst, due_reach])

theorem reachO_heldFrameTime {d : Dev} {h : HeldFrame} (hh : d.tst.held = [h]) : reachO d (heldFrameTime d) = reach d (h.since + us 10) := by
  simp only [heldFrameTime, hh, List.map_cons, List.map_nil, soonest, List.foldl_cons, List.foldl_nil, Option.getD_none, Nat.min_self, reachO]

theorem proveReorderTimeout_due {d : Dev} {h : HeldFrame} (hh : d.tst.held = [h]) (hd : due d (h.since + us 10) = true) :
    proveReorderTimeout d = runFrame { d with tst.held := [] } h.frame := by
  simp [proveReorderTimeout, releaseHeld, hh, hd, forEach]

/-- A held frame goes on when local time reaches 10 µs from its arrival. -/
theorem does_proveReorderTimeout_reached {s : State} {h : HeldFrame} (hh : s.dev.tst.held = [h]) :
    Does .proveReorderTimeout s (runFrame { reach s.dev (h.since + us 10) with tst.held := [] } h.frame) := by
  refine does_congr (does_proveReorderTimeout s) ?_
  rw [reachO_heldFrameTime hh]
  exact proveReorderTimeout_due (by rw [reach_tst, hh]) (due_reach _ _)

theorem injectionAndProving : Claims.InjectionAndProving := by
  refine ⟨?armed, ?denied, ?enters, ?refused, ?leaves, ?limit, ?heldFrame⟩
  case armed => exact fun s w v j ha ht hj => does_congr (does_inject s w v) (inject_armed ha ht hj)
  case denied => exact fun s w v hs ht => does_congr (does_inject s w v) (inject_denied v hs ht)
  case enters => exact fun s w p ha hp => does_congr (does_proveEnter s w p) (proveEnter_permitted ha hp)
  case refused => exact fun s w p ha hp => does_congr (does_proveEnter s w p) (proveEnter_refused ha hp)
  case leaves => exact fun s w p ha hp => does_congr (does_proveExit s w) (proveExit_accepted ha hp)
  case limit => exact fun s p hp => does_proveLimitExpiry_reached hp
  case heldFrame => exact fun s h hh => does_proveReorderTimeout_reached hh

/-- Settles O57: each clause is what its command's operation does on the device that has taken the access or reached the timer's end. -/
theorem faultHubAndTests : Obligations.FaultHubAndTests := ⟨fencesAndClears, injectionAndProving, faultCommandsComplete⟩

end Sys2Proof.Machine
end

section
/-!
SUPPORT. The pause that a port's groups follow from the cell's general free space (spec/02_cell_resources.md R33, R34, spec/05_congestion.md R102).
-/
namespace Sys2Proof.Machine
open Sys2Proof

/-! ### Tables and ports -/

@[simp] theorem nhas_nset_same {α : Type} (m : NMap α) (k : Nat) (v : α) : nhas (nset m k v) k = true := by
  rw [nhas, nget_nset_same, Option.isSome_some]

theorem nhas_nset_ne {α : Type} (m : NMap α) {k j : Nat} (v : α) (h : j ≠ k) : nhas (nset m k v) j = nhas m j := by
  rw [nhas, nget_nset_ne _ _ _ _ h, nhas]

theorem nhas_ndel_same {α : Type} {m : NMap α} (k : Nat) (h : nwf m = true) : nhas (ndel m k) k = false := by
  rw [nhas, nget_ndel_same m k h, Option.isSome_none]

theorem nhas_ndel_ne {α : Type} (m : NMap α) {k j : Nat} (h : j ≠ k) : nhas (ndel m k) j = nhas m j := by
  rw [nhas, nget_ndel_ne _ _ _ h, nhas]

@[simp] theorem getPort_setPort_same (d : Dev) (p : Nat) (v : Port) : getPort (setPort d p v) p = v := ngetD_nset_same _ _ _ _

@[simp] theorem getPort_sendPfc (d : Dev) (c g q p : Nat) : getPort (sendPfc d c g q) p = getPort d p := rfl

@[simp] theorem getPort_bump (d : Dev) (r : RegId) (c i p : Nat) : getPort (bump d r c i) p = getPort d p := rfl

@[simp] theorem reg_setPort (d : Dev) (p : Nat) (v : Port) (r : RegId) (c i : Nat) : reg (setPort d p v) r c i = reg d r c i := rfl

@[simp] theorem reg_sendPfc (d : Dev) (p g q : Nat) (r : RegId) (c i : Nat) : reg (sendPfc d p g q) r c i = reg d r c i := rfl

/-- The free space of a cell is that of its buffers. -/
theorem generalFree_of_res {d e : Dev} (h : e.res = d.res) (c : Nat) : generalFree e c = generalFree d c := by
  simp only [generalFree, poolFree, h]

/-- The thresholds of a cell's groups are their committed POOL_PFC words. -/
theorem xoffAt_of_reg {d e : Dev} {c g : Nat} (h : reg e .POOL_PFC c g = reg d .POOL_PFC c g) : xoffAt e c g = xoffAt d c g := by rw [xoffAt, h, xoffAt]

theorem xonAt_of_reg {d e : Dev} {c g : Nat} (h : reg e .POOL_PFC c g = reg d .POOL_PFC c g) : xonAt e c g = xonAt d c g := by
  simp only [xonAt, xoffAt_of_reg h, h]

/-! ### One group of a port -/

/-- A group of a cell's port follows F: the turn of `pfcUpdate` for that group (R33, R102). -/
def pfcGroup (c : Nat) (d : Dev) (g : Nat) : Dev :=
  let p := getPort d c
  if nhas p.xoff g then
    if xonAt d c g < generalFree d c then sendPfc (setPort d c { p with xoff := ndel p.xoff g }) c g 0 else d
  else if generalFree d c < xoffAt d c g then
    bump (sendPfc (setPort d c { p with xoff := nset p.xoff g (d.now, d.now + pauseTime d c / 2) }) c g 0xFFFF) .PORT_CNG_CNT c 0
  else d

theorem pfcUpdate_on {d : Dev} {c : Nat} (hp : pfcOn d c = true) (ht : txOn d c = true) : pfcUpdate d c = forEach [0, 1, 2] d (pfcGroup c) := by
  rw [pfcUpdate, hp, ht, Bool.and_self, if_pos rfl]
  rfl

/-- The pause of a group that F and the thresholds ask for (R33, R34). -/
def pauseDue (d : Dev) (c g : Nat) : Bool :=
  if nhas (getPort d c).xoff g then !decide (xonAt d c g < generalFree d c) else decide (generalFree d c < xoffAt d c g)

theorem pauseDue_congr {d e : Dev} {c g : Nat} (hx : nhas (getPort e c).xoff g = nhas (getPort d c).xoff g) (hr : reg e .POOL_PFC c g = reg d .POOL_PFC c g)
    (hf : generalFree e c = generalFree d c) : pauseDue e c g = pauseDue d c g := by
  simp only [pauseDue, hx, xonAt_of_reg hr, xoffAt_of_reg hr, hf]

/-- What the turn of a group can do: it goes on, it is paused, or it stays as it is. -/
theorem pfcGroup_cases (c : Nat) (d : Dev) (g : Nat) :
    (nhas (getPort d c).xoff g = true ∧ pauseDue d c g = false ∧
      pfcGroup c d g = sendPfc (setPort d c { getPort d c with xoff := ndel (getPort d c).xoff g }) c g 0) ∨
    (nhas (getPort d c).xoff g = false ∧ pauseDue d c g = true ∧
      pfcGroup c d g = bump (sendPfc (setPort d c { getPort d c with xoff := nset (getPort d c).xoff g (d.now, d.now + pauseTime d c / 2) }) c g 0xFFFF) .PORT_CNG_CNT c 0) ∨
    (pauseDue d c g = nhas (getPort d c).xoff g ∧ pfcGroup c d g = d) := by
  cases hx : nhas (getPort d c).xoff g with
  | true =>
    by_cases hf : xonAt d c g < generalFree d c
    · exact .inl ⟨rfl, by simp [pauseDue, hx, hf], by simp [pfcGroup, hx, hf]⟩
    · exact .inr (.inr ⟨by simp [pauseDue, hx, hf], by simp [pfcGroup, hx, hf]⟩)
  | false =>
    by_cases hf : generalFree d c < xoffAt d c g
    · exact .inr (.inl ⟨rfl, by simp [pauseDue, hx, hf], by simp [pfcGroup, hx, hf]⟩)
    · exact .inr (.inr ⟨by simp [pauseDue, hx, hf], by simp [pfcGroup, hx, hf]⟩)

/-- A group is paused after its turn as F and the thresholds ask for. -/
theorem nhas_pfcGroup_same {c : Nat} {d : Dev} (g : Nat) (hw : nwf (getPort d c).xoff = true) : nhas (getPort (pfcGroup c d g) c).xoff g = pauseDue d c g := by
  obtain ⟨-, hd, e⟩ | ⟨-, hd, e⟩ | ⟨hd, e⟩ := pfcGroup_cases c d g
  · simp [e, hd, nhas_ndel_same g hw]
  · simp [e, hd]
  · rw [e, hd]

theorem nhas_pfcGroup_ne (c : Nat) (d : Dev) {g j : Nat} (h : j ≠ g) : nhas (getPort (pfcGroup c d g) c).xoff j = nhas (getPort d c).xoff j := by
  obtain ⟨-, -, e⟩ | ⟨-, -, e⟩ | ⟨-, e⟩ := pfcGroup_cases c d g
  · simp [e, nhas_ndel_ne _ h]
  · simp [e, nhas_nset_ne _ _ h]
  · rw [e]

theorem nwf_xoff_pfcGroup {c : Nat} {d : Dev} (g : Nat) (hw : nwf (getPort d c).xoff = true) : nwf (getPort (pfcGroup c d g) c).xoff = true := by
  obtain ⟨-, -, e⟩ | ⟨-, -, e⟩ | ⟨-, e⟩ := pfcGroup_cases c d g
  · simp [e, nwf_ndel _ g hw]
  · simp [e, nwf_nset _ g _ hw]
  · rw [e, hw]

theorem res_pfcGroup (c : Nat) (d : Dev) (g : Nat) : (pfcGroup c d g).res = d.res := by
  obtain ⟨-, -, e⟩ | ⟨-, -, e⟩ | ⟨-, e⟩ := pfcGroup_cases c d g <;> rw [e] <;> rfl

/-- The counts of pause frames stand apart from the thresholds. -/
theorem regKey_poolPfc_ne_portCngCnt (c : Nat) {i : Nat} (hi : i < 8192) : regKey .POOL_PFC c i ≠ regKey .PORT_CNG_CNT c 0 := by
  have hp : RegId.POOL_PFC.ctorIdx ≠ RegId.PORT_CNG_CNT.ctorIdx := by decide
  unfold regKey
  omega

theorem poolPfc_pfcGroup (c : Nat) (d : Dev) (g : Nat) {i : Nat} (hi : i < 8192) : reg (pfcGroup c d g) .POOL_PFC c i = reg d .POOL_PFC c i := by
  obtain ⟨-, -, e⟩ | ⟨-, -, e⟩ | ⟨-, e⟩ := pfcGroup_cases c d g
  · rw [e, reg_sendPfc, reg_setPort]
  · rw [e, reg_bump_ne _ _ _ _ _ _ _ (regKey_poolPfc_ne_portCngCnt c hi), reg_sendPfc, reg_setPort]
  · rw [e]

/-- The turn of one group changes nothing that another one follows. -/
theorem pauseDue_pfcGroup_ne (c : Nat) (d : Dev) {g j : Nat} (h : j ≠ g) (hj : j < 8192) : pauseDue (pfcGroup c d g) c j = pauseDue d c j :=
  pauseDue_congr (nhas_pfcGroup_ne c d h) (poolPfc_pfcGroup c d g hj) (generalFree_of_res (res_pfcGroup c d g) c)

/-! ### The groups of a port -/

theorem nhas_forEach_pfcGroup_notMem {c g : Nat} {l : List Nat} (d : Dev) (hg : g ∉ l) :
    nhas (getPort (forEach l d (pfcGroup c)) c).xoff g = nhas (getPort d c).xoff g := by
  induction l generalizing d with
  | nil => rfl
  | cons j l ih =>
    rw [List.mem_cons, not_or] at hg
    obtain ⟨hne, hl⟩ := hg
    exact (ih (pfcGroup c d j) hl).trans (nhas_pfcGroup_ne c d hne)

/-- Each group of a list without repeats is paused after all turns as the device before them asks for. -/
theorem nhas_forEach_pfcGroup {c g : Nat} {l : List Nat} {d : Dev} (hn : l.Nodup) (hg : g ∈ l) (hi : g < 8192) (hw : nwf (getPort d c).xoff = true) :
    nhas (getPort (forEach l d (pfcGroup c)) c).xoff g = pauseDue d c g := by
  induction l generalizing d with
  | nil => exact absurd hg List.not_mem_nil
  | cons j l ih =>
    obtain ⟨hj, hl⟩ := List.nodup_cons.mp hn
    by_cases h : g = j
    · subst h
      exact (nhas_forEach_pfcGroup_notMem (pfcGroup c d g) hj).trans (nhas_pfcGroup_same g hw)
    · have hgl : g ∈ l := List.mem_of_ne_of_mem h hg
      exact (ih hl hgl (nwf_xoff_pfcGroup j hw)).trans (pauseDue_pfcGroup_ne c d h hi)

theorem nhas_pfcUpdate {d : Dev} {c : Nat} (g : Fin 3) (hp : pfcOn d c = true) (ht : txOn d c = true) (hw : nwf (getPort d c).xoff = true) :
    nhas (getPort (pfcUpdate d c) c).xoff g.val = pauseDue d c g.val := by
  have hg : g.val ∈ [0, 1, 2] := List.mem_range.mpr g.isLt
  rw [pfcUpdate_on hp ht]
  exact nhas_forEach_pfcGroup (by decide) hg (Nat.lt_trans g.isLt (by decide)) hw

/-! ### The thresholds as fields of POOL_PFC[g] (R34) -/

/-- XOFF stands in bits 9 to 0, in KiB. -/
theorem xoffAt_eq (d : Dev) (c g : Nat) : xoffAt d c g = ((reg d .POOL_PFC c g).extractLsb' 0 10).toNat * 1024 := by
  rw [xoffAt, fld, BitVec.extractLsb'_toNat]

/-- XON stands in bits 25 to 16, in KiB; at or below XOFF it acts as XOFF + 16 KiB. -/
theorem xonAt_eq (d : Dev) (c g : Nat) : let xon := ((reg d .POOL_PFC c g).extractLsb' 16 10).toNat * 1024
    xonAt d c g = if xon ≤ xoffAt d c g then xoffAt d c g + 16384 else xon := by
  rw [xonAt, fld, BitVec.extractLsb'_toNat]

/-- Settles O28: the turn of one group leaves what the others follow, and each group's own turn pauses it as F and its thresholds ask for. -/
theorem pauseThresholds : Obligations.PauseThresholds := by
  intro d c g v xoff xon on hp ht hw
  have hxoff : xoffAt d c.val g.val = xoff := xoffAt_eq d c.val g.val
  have hxon : xonAt d c.val g.val = on := by rw [xonAt_eq, hxoff]
  rw [nhas_pfcUpdate g hp ht hw, pauseDue, hxon, hxoff]

end Sys2Proof.Machine
end

section
/-!
SUPPORT. Chambers and region keys: their commands, the states of a chamber, and what twins tell each other of a Mirrored create (spec/03_chambers.md).
-/
namespace Sys2Proof.Machine
open Sys2Proof

/-! ### What the commands of rows 15 to 32 do (R39 to R63) -/

theorem does_chmCreate (s : State) (w : Writer) : Does (.chmCreate w) s (chmCreate s.dev w) := does_run _ s (fun d => chmCreate d w) rfl

theorem does_chmResize (s : State) (w : Writer) : Does (.chmResize w) s (chmResize s.dev w) := does_run _ s (fun d => chmResize d w) rfl

theorem does_chmDelete (s : State) (w : Writer) : Does (.chmDelete w) s (chmDelete s.dev w) := does_run _ s (fun d => chmDelete d w) rfl

theorem does_chmSetAttr (s : State) (w : Writer) : Does (.chmSetAttr w) s (chmSetAttr s.dev w) := does_run _ s (fun d => chmSetAttr d w) rfl

theorem does_keyIssue (s : State) (w : Writer) : Does (.keyIssue w) s (keyIssue s.dev w) := does_run _ s (fun d => keyIssue d w) rfl

theorem does_keyInvalidate (s : State) (w : Writer) : Does (.keyInvalidate w) s (keyInvalidate s.dev w) := does_run _ s (fun d => keyInvalidate d w) rfl

theorem does_keyQuery (s : State) (w : Writer) : Does (.keyQuery w) s (keyQuery s.dev w) := does_run _ s (fun d => keyQuery d w) rfl

theorem does_chmQuery (s : State) (w : Writer) : Does (.chmQuery w) s (chmQuery s.dev w) := does_run _ s (fun d => chmQuery d w) rfl

theorem does_chmCmdReserved (s : State) (w : Writer) (op : Fin 16) : Does (.chmCmdReserved w op) s (chmCmdReserved s.dev w op.val) :=
  does_run _ s (fun d => chmCmdReserved d w op.val) rfl

theorem does_createReady (s : State) (n : Fin 65536) : Does (.createReady n) s (createReady s.dev n.val) := does_run _ s (fun d => createReady d n.val) rfl

theorem does_mirroredCreateReceived (s : State) (r : Heard ChmRecord) :
    Does (.mirroredCreateReceived r) s (ctrlIn s.dev r.via fun d => mirroredCreateReceived d r.msg) :=
  does_run _ s (fun d => ctrlIn d r.via fun d => mirroredCreateReceived d r.msg) rfl

theorem does_createTwinTimeout (s : State) (n : Fin 65536) : Does (.createTwinTimeout n) s (createTwinTimeout (reachO s.dev (createTime s.dev)) n.val) :=
  does_run _ s (fun d => createTwinTimeout (reachO d (createTime d)) n.val) rfl

theorem does_twinCreateRefusal (s : State) (n : Heard (Fin 65536)) : Does (.twinCreateRefusal n) s (ctrlIn s.dev n.via fun d => twinCreateRefusal d n.msg.val) :=
  does_run _ s (fun d => ctrlIn d n.via fun d => twinCreateRefusal d n.msg.val) rfl

theorem does_createReleaseResend (s : State) (n : Fin 65536) :
    Does (.createReleaseResend n) s (createReleaseResend (reachO s.dev (nget s.dev.chm.releases n.val)) n.val) :=
  does_run _ s (fun d => createReleaseResend (reachO d (nget d.chm.releases n.val)) n.val) rfl

theorem does_createReleaseAck (s : State) (n : Heard (Fin 65536)) : Does (.createReleaseAck n) s (ctrlIn s.dev n.via fun d => createReleaseAck d n.msg.val) :=
  does_run _ s (fun d => ctrlIn d n.via fun d => createReleaseAck d n.msg.val) rfl

theorem does_twinChamberUpdate (s : State) (u : Heard ChmUpdate) : Does (.twinChamberUpdate u) s (ctrlIn s.dev u.via fun d => twinChamberUpdate d u.msg) :=
  does_run _ s (fun d => ctrlIn d u.via fun d => twinChamberUpdate d u.msg) rfl

theorem does_chamberDrainDone (s : State) (n : Fin 65536) : Does (.chamberDrainDone n) s (chamberDrainDone s.dev n.val) :=
  does_run _ s (fun d => chamberDrainDone d n.val) rfl

theorem does_chamberReleaseDone (s : State) (n : Fin 65536) : Does (.chamberReleaseDone n) s (chamberReleaseDone s.dev n.val) :=
  does_run _ s (fun d => chamberReleaseDone d n.val) rfl

theorem does_keyInvalidateComplete (s : State) (i : BitVec 24) : Does (.keyInvalidateComplete i) s (keyInvalidateComplete s.dev i.toNat) :=
  does_run _ s (fun d => keyInvalidateComplete d i.toNat) rfl

theorem does_keyQuarantineEnd (s : State) (i : BitVec 24) :
    Does (.keyQuarantineEnd i) s (keyQuarantineEnd (reachO s.dev (quarantineTime s.dev i.toNat)) i.toNat) :=
  does_run _ s (fun d => keyQuarantineEnd (reachO d (quarantineTime d i.toNat)) i.toNat) rfl

theorem chamberCommandsComplete : Claims.ChamberCommandsComplete :=
  ⟨does_chmCreate, does_chmResize, does_chmDelete, does_chmSetAttr, does_keyIssue, does_keyInvalidate, does_keyQuery, does_chmQuery, does_chmCmdReserved, does_createReady,
    does_mirroredCreateReceived, does_createTwinTimeout, does_createReleaseResend, does_createReleaseAck, does_chamberDrainDone, does_chamberReleaseDone, does_keyInvalidateComplete,
    does_keyQuarantineEnd⟩

/-! ### Chamber and key commands (R38 to R41, R47, R53, R62, R63) -/

section
variable {d : Dev} {w : Writer} (ha : Accepts d w .TIER_CHM_CMD 0) (hr : d.chm.run = none)
include ha hr

/-- A command that is accepted while none runs takes its effect on the device that has noted its opcode. -/
theorem chmCommand_accepted (op : Nat) (go : Dev → Dev) : chmCommand d w op go = go (chmAsked d w op) := by
  have hidle : (asked d w .TIER_CHM_CMD 0 0).chm.run.isSome = false := by rw [asked_chm, hr]; rfl
  rw [chmCommand, command_accepted _ _ _ _ _ _ ha, hidle, if_neg Bool.false_ne_true]
  rfl

theorem chmCreate_accepted {e : Dev} {n : Nat} {cls : ChmClass} {pages : Nat} (he : chmAsked d w 1 = e) (hcl : classOf (fld (carg e 0) 31 30) = cls) (hp : carg2 e 1 4 = pages)
    (hn : freeChamber e = some n) (hcls : cls ≠ .mirrored) (hpref : fld (carg e 0) 28 27 ≠ 3) (hpos : 0 < pages) (hmax : pages ≤ 2 ^ 36)
    (hx : xtsSlotOk e (fld (carg e 3) 11 0) (fld (carg e 0) 11 0) = true) (hs : spaceOk e n 0 pages cls = true) :
    chmCreate d w =
      { e with chm.chambers := nset e.chm.chambers n ⟨.creating, cls, fld (carg e 0) 11 0, fbit (carg e 0) 29, fld (carg e 3) 11 0, fld (carg e 0) 23 16, fld (carg e 0) 28 27, pages, ordinal e,
                                                      e.cus.pairClaim, false⟩,
               chm.run := some (.create n none false), tier.map := e.tier.map.filter fun p => keyChamber p.1 != n } := by
  have hgood : ¬ ((cls = .mirrored ∧ standalone e = true) ∨ fld (carg e 0) 28 27 = 3 ∨ pages = 0 ∨ 2 ^ 36 < pages ∨ xtsSlotOk e (fld (carg e 3) 11 0) (fld (carg e 0) 11 0) = false) := by
    rintro (⟨hm, -⟩ | h | h | h | h)
    · exact hcls hm
    · exact hpref h
    · omega
    · omega
    · rw [hx] at h; exact Bool.noConfusion h
  have htwin : ¬ (cls = .mirrored ∧ standalone e = false ∧ e.cus.state ≠ .joined) := fun h => hcls h.1
  have hspace : ¬ (!spaceOk e n 0 pages cls) = true := by rw [hs]; exact Bool.false_ne_true
  rw [chmCreate, chmCommand_accepted ha hr, he]
  simp only [hn, hcl, hp]
  rw [if_neg htwin, if_neg hgood, if_neg hspace, if_neg hcls, if_neg hcls]

theorem chmResize_accepted {e e1 : Dev} {n pages : Nat} {c : Chamber} (he : chmAsked d w 2 = e) (hnum : fld (carg e 0) 15 0 = n) (hp : carg2 e 1 4 = pages)
    (hc : nget e.chm.chambers n = some c) (hb : chamberBar e c = none) (hpos : 0 < pages) (hmax : pages ≤ 2 ^ 36) (hs : spaceOk e n c.pages pages c.cls = true)
    (hk : ¬ (pages < c.pages ∧ keyBeyond e n pages = true)) (h1 : (if pages < c.pages then trimFrom e n pages else e) = e1) :
    chmResize d w = tellChamber (chmDone { e1 with chm.chambers := nset e1.chm.chambers n { c with pages := pages } } .ok []) n { c with pages := pages } := by
  have hgood : ¬ (pages = 0 ∨ 2 ^ 36 < pages) := by omega
  have hspace : ¬ (!spaceOk e n c.pages pages c.cls) = true := by rw [hs]; exact Bool.false_ne_true
  rw [chmResize, chmCommand_accepted ha hr, he]
  simp only [hnum, hc, hb, hp]
  rw [if_neg hgood, if_neg hspace, if_neg hk, h1]

theorem chmDelete_accepted {e : Dev} {n : Nat} {c : Chamber} (he : chmAsked d w 3 = e) (hnum : fld (carg e 0) 15 0 = n) (hc : nget e.chm.chambers n = some c)
    (hb : chamberBar e c = none) (hs : snapshotOf e n = false) :
    chmDelete d w =
      tellChamber (planChamberGone { e with chm.chambers := nset e.chm.chambers n { c with state := .draining },
                                             chm.keys := (e.chm.keys.map fun p => (p.1, if p.2.state = .live ∧ p.2.chamber = n then { p.2 with inval := true } else p.2)), chm.run := some (.delete n) } n)
        n { c with state := .draining } := by
  rw [chmDelete, chmCommand_accepted ha hr, he]
  simp only [hnum, hc, hb, hs, Bool.false_eq_true, if_false]

theorem chmSetAttr_accepted {e : Dev} {n owner : Nat} {c : Chamber} (he : chmAsked d w 4 = e) (hnum : fld (carg e 0) 15 0 = n) (hown : fld (carg e 1) 11 0 = owner)
    (hc : nget e.chm.chambers n = some c) (hb : chamberBar e c = none) (hpref : fld (carg e 0) 28 27 ≠ 3) (hx : xtsSlotOk e c.xts owner = true) :
    let c' := { c with comp := fbit (carg e 0) 29, pref := fld (carg e 0) 28 27, set := fld (carg e 0) 23 16, owner := owner }
    chmSetAttr d w = tellChamber (chmDone { e with chm.chambers := nset e.chm.chambers n c' } .ok []) n c' := by
  have hgood : ¬ (fld (carg e 0) 28 27 = 3 ∨ xtsSlotOk e c.xts owner = false) := by
    rintro (h | h)
    · exact hpref h
    · rw [hx] at h; exact Bool.noConfusion h
  rw [chmSetAttr, chmCommand_accepted ha hr, he]
  simp only [hnum, hown, hc, hb]
  rw [if_neg hgood]

theorem keyInvalidate_accepted {e : Dev} {i : Nat} {k : KeyEnt} (he : chmAsked d w 6 = e) (hi : (carg e 0).toNat / 256 = i) (hk : ngetD e.chm.keys i {} = k) (hl : k.state = .live)
    (hg : k.gen = (carg e 0).toNat % 256) (hb : (nget e.chm.chambers k.chamber).bind (chamberBar e) = none) :
    keyInvalidate d w = { e with chm.keys := nset e.chm.keys i { k with inval := true }, chm.run := some (.invalidate i) } := by
  have hgood : ¬ (k.state ≠ .live ∨ k.gen ≠ (carg e 0).toNat % 256) := by
    rintro (h | h)
    · exact h hl
    · exact h hg
  rw [keyInvalidate, chmCommand_accepted ha hr, he]
  simp only [hi, hk, hb]
  rw [if_neg hgood]

theorem keyQuery_accepted : let e := chmAsked d w 7
    let k := ngetD e.chm.keys ((carg e 0).toNat / 256) {}
    keyQuery d w = chmDone e .ok [(0, at_ k.state.ctorIdx 30 + at_ k.gen 16 + (if k.state = .live then k.chamber else 0)), (1, if k.state = .live then rightsBits k + at_ k.tenant 16 else 0)] :=
  chmCommand_accepted ha hr 7 _

theorem chmQuery_accepted {e : Dev} {c : Chamber} (he : chmAsked d w 8 = e) (hc : nget e.chm.chambers (fld (carg e 0) 15 0) = some c) :
    chmQuery d w = chmDone e .ok [(0, at_ (chmStateCode c.state) 29 + at_ c.cls.ctorIdx 27 + c.owner), (1, c.pages % 2 ^ 32), (2, c.pages / 2 ^ 32)] := by
  rw [chmQuery, chmCommand_accepted ha hr, he]
  simp only [hc]

/-- The entry that KEY_ISSUE puts in the place of an old one: LIVE, with the next generation and what the arguments name (R47, R48). -/
def issuedKey (d : Dev) (old : KeyEnt) : KeyEnt :=
  let a := carg d 0
  { state := .live, gen := if old.gen = 255 then 1 else old.gen + 1, chamber := fld a 15 0, base := carg2 d 1 5, len := carg2 d 3 5, tenant := fld a 27 16, rd := fbit a 28, wr := fbit a 29,
    at_ := fbit a 30, ps := fbit a 31, bound := if fbit (carg d 5) 31 then some ((carg d 6).toNat, fld (carg d 5) 23 0) else none }

theorem keyIssue_accepted {e : Dev} {i : Nat} {k : KeyEnt} {c : Chamber} (he : chmAsked d w 5 = e) (hk : issuedKey e (ngetD e.chm.keys i {}) = k)
    (hc : nget e.chm.chambers (fld (carg e 0) 15 0) = some c) (hi : issueIndex e = some i) (hb : chamberBar e c = none) (hps : ¬ (fbit (carg e 0) 31 = true ∧ c.cls = .volatileC))
    (hpos : 0 < carg2 e 3 5) (hend : carg2 e 1 5 + carg2 e 3 5 ≤ c.pages * 4) (hord : ¬ (fbit (carg e 5) 31 = true ∧ 16383 < (carg e 6).toNat)) :
    keyIssue d w = tellKey (chmDone { e with chm.keys := nset e.chm.keys i k } .ok [(0, i * 256 + k.gen)]) i k := by
  have hgood : ¬ ((fbit (carg e 0) 31 = true ∧ c.cls = .volatileC) ∨ carg2 e 3 5 = 0 ∨ c.pages * 4 < carg2 e 1 5 + carg2 e 3 5 ∨ (fbit (carg e 5) 31 = true ∧ 16383 < (carg e 6).toNat)) := by
    rintro (h | h | h | h)
    · exact hps h
    · omega
    · omega
    · exact hord h
  subst hk
  rw [keyIssue, chmCommand_accepted ha hr, he]
  simp only [hc, hi, hb]
  rw [if_neg hgood]
  rfl

end

/-- Settles O2: each clause is what its command's operation does on the device that has accepted it. RESIZE trims the pages that leave at once (notes/assumptions 22). -/
theorem chamberCommands : Obligations.ChamberCommands := by
  refine ⟨?create, ?resize, ?delete, ?setAttr⟩
  case create =>
    intro s w n d a cls pages ha hr hn hcls hpref hpos hmax hx hs
    exact does_congr (does_chmCreate s w) (chmCreate_accepted ha hr rfl rfl rfl hn hcls hpref hpos hmax hx hs)
  case resize =>
    intro s w c d n pages ha hr hc hb hpos hmax hs hk d1
    exact does_congr (does_chmResize s w) (chmResize_accepted ha hr rfl rfl rfl hc hb hpos hmax hs hk rfl)
  case delete =>
    intro s w c d n ha hr hc hb hs
    exact does_congr (does_chmDelete s w) (chmDelete_accepted ha hr rfl rfl hc hb hs)
  case setAttr =>
    intro s w c d a n owner ha hr hc hb hpref hx c'
    exact does_congr (does_chmSetAttr s w) (chmSetAttr_accepted ha hr rfl rfl rfl hc hb hpref hx)

theorem keyCommands : Claims.KeyCommands := by
  refine ⟨?issue, ?invalidate, ?keyQuery, ?chmQuery, ?reserved⟩
  case issue =>
    intro s w c i d a n base len m ha hr hc hi hb hps hpos hend hord
    exact ⟨issuedKey d (ngetD d.chm.keys i {}), rfl, rfl, rfl, rfl, rfl, rfl, rfl, rfl, rfl, rfl, rfl, rfl,
      does_congr (does_keyIssue s w) (keyIssue_accepted ha hr rfl rfl hc hi hb hps hpos hend hord)⟩
  case invalidate =>
    intro s w d i e ha hr hl hg hb
    exact does_congr (does_keyInvalidate s w) (keyInvalidate_accepted ha hr rfl rfl rfl hl hg hb)
  case keyQuery => exact fun s w ha hr => does_congr (does_keyQuery s w) (keyQuery_accepted ha hr)
  case chmQuery =>
    intro s w c d ha hr hc
    exact does_congr (does_chmQuery s w) (chmQuery_accepted ha hr rfl hc)
  case reserved => exact fun s w op _ ha hr => does_congr (does_chmCmdReserved s w op) (chmCommand_accepted ha hr op.val _)

/-! ### The life of a key (R53, R55) -/

theorem keyInvalidateComplete_applied {d : Dev} {i : Nat} (hr : d.chm.run = some (.invalidate i)) (hu : unapplied d (fun r => r.keyIdx == i) = false) :
    keyInvalidateComplete d i = chmDone (quarantineKey d i) .ok [] := if_pos ⟨hr, hu⟩

theorem quarantineTime_some {d : Dev} {i t : Nat} {e : KeyEnt} (he : nget d.chm.keys i = some e) (hq : e.state = .quarantine) (ht : e.qEnd = some t) : quarantineTime d i = some t := by
  rw [quarantineTime, he, Option.bind_some, if_pos hq, ht]

theorem keyQuarantineEnd_due {d : Dev} {i t : Nat} {e : KeyEnt} (he : nget d.chm.keys i = some e) (hq : e.state = .quarantine) (ht : e.qEnd = some t) (hs : inService3 d = true)
    (hd : due d t = true) : keyQuarantineEnd d i = { d with chm.keys := nset d.chm.keys i { e with state := .resting } } := by
  have hdue : (e.qEnd.any fun t => due d t) = true := by rw [ht]; exact hd
  simp only [keyQuarantineEnd, he]
  exact if_pos ⟨hq, hs, hdue⟩

theorem inService3_reach (d : Dev) (t : Nat) : inService3 (reach d t) = inService3 d := by simp only [inService3, reach_pwr]

theorem keyLifeCycle : Claims.KeyLifeCycle := by
  refine ⟨?complete, ?rests⟩
  case complete => exact fun s i hr hu => does_congr (does_keyInvalidateComplete s i) (keyInvalidateComplete_applied hr hu)
  case rests =>
    intro s i e t d he hq ht hs
    refine does_congr (does_keyQuarantineEnd s i) ?_
    rw [quarantineTime_some he hq ht, reachO]
    exact keyQuarantineEnd_due (by rw [reach_chm, he]) hq ht ((inService3_reach _ _).trans hs) (due_reach _ _)

/-- Settles O31: the commands act on the device that has accepted them, and the end of a quarantine on the one that has reached it. -/
theorem regionKeys : Obligations.RegionKeys := ⟨keyCommands, keyLifeCycle⟩

/-! ### The life of a chamber (R41, Table CHM-3) -/

/-- Only a change of a Mirrored chamber is told to the twin. -/
theorem tellChamber_own (d : Dev) (n : Nat) {c : Chamber} (hc : c.cls ≠ .mirrored) : tellChamber d n c = d := if_pos hc

theorem createReady_running {d : Dev} {n : Nat} {b : Bool} {c : Chamber} (hr : d.chm.run = some (.create n none b)) (hc : nget d.chm.chambers n = some c) :
    createReady d n = tellChamber (chmDone { d with chm.chambers := nset d.chm.chambers n { c with state := .active } } .ok [(0, n)]) n { c with state := .active } := by
  simp only [createReady, hr, hc, and_self, if_true]

/-- No key of a chamber is listed, so none is quarantined with it. -/
theorem liveKeysOf_nil {d : Dev} {n : Nat} (h : ∀ p ∈ d.chm.keys, p.2.chamber ≠ n) : (d.chm.keys.filter fun p => p.2.state == .live && p.2.chamber == n) = [] :=
  List.filter_eq_nil_iff.mpr fun p hp => by simp [h p hp]

theorem chamberDrainDone_drained {d : Dev} {n : Nat} {c : Chamber} (hc : nget d.chm.chambers n = some c) (hs : c.state = .draining) (hu : unapplied d (fun r => r.chamber == n) = false)
    (hr : d.chm.run = some (.delete n)) (hk : ∀ p ∈ d.chm.keys, p.2.chamber ≠ n) (hm : c.cls ≠ .mirrored) :
    chamberDrainDone d n = chmDone { d with chm.chambers := nset d.chm.chambers n { c with state := .releasing } } .ok [] := by
  have hgo : ¬ (c.state ≠ .draining ∨ unapplied d (fun r => r.chamber == n) = true) := by simp [hs, hu]
  simp only [chamberDrainDone, hc, if_neg hgo, liveKeysOf_nil hk, List.map_nil, forEach, List.foldl_nil]
  rw [tellChamber_own _ _ (by exact hm)]
  exact if_pos hr

theorem chamberReleaseDone_releasing {d : Dev} {n : Nat} {c : Chamber} (hc : nget d.chm.chambers n = some c) (hs : c.state = .releasing) (hm : c.cls ≠ .mirrored) :
    chamberReleaseDone d n = freeNumber d n := by
  simp only [chamberReleaseDone, hc]
  rw [if_pos hs, tellChamber_own _ _ (by exact hm)]

theorem chamberLifeCycle : Claims.ChamberLifeCycle := by
  refine ⟨?active, ?releasing, ?free⟩
  case active =>
    intro s n b c d hr hc
    exact does_congr (does_createReady s n) (createReady_running hr hc)
  case releasing =>
    intro s n c d hc hs hu hr hk hm
    exact does_congr (does_chamberDrainDone s n) (chamberDrainDone_drained hc hs hu hr hk hm)
  case free => exact fun s n c hc hs hm => does_congr (does_chamberReleaseDone s n) (chamberReleaseDone_releasing hc hs hm)

/-! ### A Mirrored create between the twins (R41, R310, R426) -/

/-- A message that is heard takes its effect on the device that has heard it. -/
theorem ctrlIn_heard {d : Dev} {v : CtrlVia} (h : Hears d v) (go : Dev → Dev) : ctrlIn d v go = go (ctrlOf d v) := if_pos h

theorem mirroredCreateReceived_new {d : Dev} {r : ChmRecord} (hx : xtsSlotOk d r.xts.val r.owner.val = true) (hn : nget d.chm.chambers r.number.val = none) :
    mirroredCreateReceived d r =
      sendCtrl { d with chm.chambers := nset d.chm.chambers r.number.val (recordChamber r .creating true), tier.map := d.tier.map.filter fun p => keyChamber p.1 != r.number.val }
        msgConfirm (twinOrd d) [r.number.val] := by
  rw [mirroredCreateReceived, hx, Bool.not_true, if_neg Bool.false_ne_true]
  simp only [hn]
  rfl

theorem mirroredCreateReceived_refused {d : Dev} {r : ChmRecord} (hx : xtsSlotOk d r.xts.val r.owner.val = false) :
    mirroredCreateReceived d r = sendCtrl d msgRefuse (twinOrd d) [r.number.val] := by
  rw [mirroredCreateReceived, hx, Bool.not_false, if_pos rfl]

theorem createTime_some {d : Dev} {n t : Nat} {b : Bool} (hr : d.chm.run = some (.create n (some t) b)) : createTime d = some t := by rw [createTime, hr]

theorem createTwinTimeout_due {d : Dev} {n t : Nat} {b : Bool} (hr : d.chm.run = some (.create n (some t) b)) (ht : t ≤ d.now) :
    createTwinTimeout d n = createFails d n .twinUnreachable true := by
  simp only [createTwinTimeout, hr, ht, and_self, if_true]

theorem twinCreateRefusal_running {d : Dev} {n t : Nat} {b : Bool} (hr : d.chm.run = some (.create n (some t) b)) : twinCreateRefusal d n = createFails d n .badArg false := by
  simp only [twinCreateRefusal, hr, if_true]

theorem createReleaseResend_due {d : Dev} {n t : Nat} (hn : nget d.chm.releases n = some t) (ht : t ≤ d.now) (hj : d.cus.state = .joined) :
    createReleaseResend d n = sendCtrl { d with chm.releases := nset d.chm.releases n (d.now + ms 1) } msgRelease (twinOrd d) [n] := by
  simp only [createReleaseResend, hn]
  exact if_pos ⟨ht, hj⟩

theorem twinChamberUpdate_release {d : Dev} {n : Fin 65536} {c : Chamber} (hc : nget d.chm.chambers n.val = some c) (hs : c.state = .creating) (ht : c.byTwin = true) :
    twinChamberUpdate d (.release n) = sendCtrl { d with chm.chambers := ndel d.chm.chambers n.val } msgReleaseAck (twinOrd d) [n.val] := by
  simp only [twinChamberUpdate, hc]
  rw [if_pos ⟨hs, ht⟩]
  rfl

/-- A record of a chamber that has no entry clashes with nothing and is taken. -/
theorem takesRecord_none (d : Dev) (r : ChmRecord) : takesRecord d none r = true := rfl

theorem tellClash_none {d : Dev} {r : ChmRecord} (hn : nget d.chm.chambers r.number.val = none) : tellClash d r = d := by
  rw [tellClash, hn]
  exact if_neg Bool.false_ne_true

theorem putRecord_new {d : Dev} {r : ChmRecord} (hs : r.state.val = 2) (hn : nget d.chm.chambers r.number.val = none) :
    putRecord d r = { d with chm.chambers := nset d.chm.chambers r.number.val (recordChamber r .active false) } := by
  simp [putRecord, hs, hn, stateOf]

theorem twinChamberUpdate_new {d : Dev} {r : ChmRecord} (hs : r.state.val = 2) (hn : nget d.chm.chambers r.number.val = none) :
    twinChamberUpdate d (.chamber r) = { d with chm.chambers := nset d.chm.chambers r.number.val (recordChamber r .active false) } := by
  rw [twinChamberUpdate, hn, takesRecord_none, if_pos rfl, tellClash_none hn, putRecord_new hs hn]

theorem mirroredCreate : Claims.MirroredCreate := by
  refine ⟨?confirms, ?refuses, ?timeout, ?refused, ?resend, ?ack, ?release, ?update⟩
  case confirms =>
    intro s v r d hh hx hn
    refine does_congr (does_mirroredCreateReceived s ⟨v, r⟩) ?_
    rw [ctrlIn_heard hh]
    exact mirroredCreateReceived_new hx hn
  case refuses =>
    intro s v r d hh hx
    refine does_congr (does_mirroredCreateReceived s ⟨v, r⟩) ?_
    rw [ctrlIn_heard hh]
    exact mirroredCreateReceived_refused hx
  case timeout =>
    intro s n t b hr
    refine does_congr (does_createTwinTimeout s n) ?_
    rw [createTime_some hr]
    exact createTwinTimeout_due (by rw [reachO, reach_chm, hr]) (of_decide_eq_true (due_reach s.dev t))
  case refused =>
    intro s v n t b d hh hr
    refine does_congr (does_twinCreateRefusal s ⟨v, n⟩) ?_
    rw [ctrlIn_heard hh]
    exact twinCreateRefusal_running hr
  case resend =>
    intro s n t d hn hj
    refine does_congr (does_createReleaseResend s n) ?_
    rw [hn]
    exact createReleaseResend_due (by rw [reachO, reach_chm, hn]) (of_decide_eq_true (due_reach s.dev t)) (by rw [reachO, reach_cus, hj])
  case ack =>
    intro s v n d hh
    refine does_congr (does_createReleaseAck s ⟨v, n⟩) ?_
    rw [ctrlIn_heard hh]
    rfl
  case release =>
    intro s v n c d hh hc hs ht
    refine does_congr (does_twinChamberUpdate s ⟨v, .release n⟩) ?_
    rw [ctrlIn_heard hh]
    exact twinChamberUpdate_release hc hs ht
  case update =>
    intro s v r d hh _ hs hn
    refine does_congr (does_twinChamberUpdate s ⟨v, .chamber r⟩) ?_
    rw [ctrlIn_heard hh]
    exact twinChamberUpdate_new hs hn

/-- Settles O30: the states of a chamber, the messages between the twins, and that each of the commands completes. -/
theorem chamberLife : Obligations.ChamberLife := ⟨chamberLifeCycle, mirroredCreate, chamberCommandsComplete⟩

end Sys2Proof.Machine
end

section
/-!
SUPPORT. Forwarding and a frame of a host in an unexpected PCP (spec/05_congestion.md R92, spec/06_federation_fabric.md R110 to R113).
-/
namespace Sys2Proof.Machine
open Sys2Proof

/-- A device in SERVICE whose port 0 takes hosts, with every buffer of cell 0 in use. -/
def crowdedHostPort : Dev :=
  let d : Dev := { pwr := { state := .service, inputGood := true }, ldr := { step := 15 }, ports := [(0, { link := .up })],
                   res := { bufs := (List.range 658).map fun i => (i, { requester := 0, refs := 1 }) } }
  setReg d .FAB_PORT_ROLE 0 0 1

/-- A request of a host for device 1 in PCP 3, where hosts' requests come in PCP 0. -/
def frameInPcp3 : FwdFrame := ⟨0, .plain, 0x99, 0xA100000000000001, 0x40001, false, false, false, 0, 4, false, 0, 0, 0, none, 100, 3⟩

/-- What the second clause of O5 says of that frame: nothing but the discard is counted. -/
def discardCounted : Dev :=
  let d0 := entered crowdedHostPort (.fwd frameInPcp3)
  bump (learnHost (carried d0 0 3) 0 0x99) .PORT_CNG_CNT 0 6

theorem does_forwardFrame (s : State) (f : FwdFrame) : Does (.forwardFrame f) s (frameIn s.dev (.fwd f)) := does_run _ s (fun d => frameIn d (.fwd f)) rfl

/-- Two effects of one command leave the same device once everything has followed. -/
theorem does_unique {i : Instr} {s : State} {e e' : Dev} (h : Does i s e) (h' : Does i s e') : afterStep e = afterStep e' := by
  have hnext := Host.Outcome.next.inj (Eq.trans (Eq.symm h) h')
  exact (State.mk.inj hnext).1

theorem pcpCount_frameIn : reg (afterStep (frameIn crowdedHostPort (.fwd frameInPcp3))) .PORT_CNG_CNT 0 7 = 1 := by decide +kernel

theorem pcpCount_discardCounted : reg (afterStep discardCounted) .PORT_CNG_CNT 0 7 = 0 := by decide +kernel

/-- Refutes O5: a host's frame in a PCP that is not its kind's is counted in PORT_CNG_CNT[7] as well (R92), which the clause of a frame that finds no buffer leaves out. -/
theorem not_forwardingAndHosts : ¬ Obligations.ForwardingAndHosts := by
  rintro ⟨-, hfull, -⟩
  have hdoes : Does (.forwardFrame frameInPcp3) ⟨crowdedHostPort, []⟩ discardCounted :=
    hfull ⟨crowdedHostPort, []⟩ frameInPcp3 (by decide +kernel) (by decide +kernel) rfl (by decide +kernel) (by decide +kernel) (by decide +kernel)
  have hsame := does_unique (does_forwardFrame ⟨crowdedHostPort, []⟩ frameInPcp3) hdoes
  have hcount := congrArg (fun d => reg d .PORT_CNG_CNT 0 7) hsame
  simp only [pcpCount_frameIn, pcpCount_discardCounted] at hcount
  exact absurd hcount (by decide)

end Sys2Proof.Machine
end

section
/-!
SUPPORT. What changes no byte of chamber memory. Of the device's functions, only a forgotten page, a repaired line, applied bytes and the answer to a seal check write to it; one lemma says of each of the
others that memory stands.
-/
namespace Sys2Proof.Machine
open Sys2Proof

@[simp] theorem forEach_mem {α : Type} {f : Dev → α → Dev} (l : List α) (d : Dev) (h : ∀ e x, (f e x).mem = e.mem) : (forEach l d f).mem = d.mem := by
  induction l generalizing d with
  | nil => rfl
  | cons x l ih => exact (ih (f d x)).trans (h d x)

@[simp] theorem clearPagePoison_mem (d : Dev) (k : Nat) : (clearPagePoison d k).mem = d.mem := by
  rfl

@[simp] theorem journalAdd_mem (d : Dev) (r : LogRec) : (journalAdd d r).mem = d.mem := by
  unfold journalAdd
  (repeat' split) <;> simp

@[simp] theorem logRecord_mem (d : Dev) (sev cls cause unit requester reqCell access : Nat) (merged : Bool) (addr : Nat) (detail : List Nat) :
    (logRecord d sev cls cause unit requester reqCell access merged addr detail).mem = d.mem := by
  grind [logRecord, bump_mem, stamped_mem, journalAdd_mem]

@[simp] theorem logEvent_mem (d : Dev) (sev unit : Nat) (detail : List Nat) : (logEvent d sev unit detail).mem = d.mem := by
  simp [logEvent]

@[simp] theorem setClassBit_mem (d : Dev) (c : Nat) : (setClassBit d c).mem = d.mem := by
  rfl

@[simp] theorem openSump_mem (d : Dev) (c : Nat) : (openSump d c).mem = d.mem := by
  unfold openSump
  dsimp only
  split
  · split <;> simp
  · rfl

@[simp] theorem bulkError_mem (d : Dev) (k : Nat) : (bulkError d k).mem = d.mem := by
  unfold bulkError
  split <;> simp

@[simp] theorem connError_mem (d : Dev) (k : Nat) : (connError d k).mem = d.mem := by
  grind [connError, bump_mem, setConn_mem, bulkError_mem]

@[simp] theorem countDrain_mem (d : Dev) (c : Nat) (e : MbEnt) : (countDrain d c e).mem = d.mem := by
  rfl

@[simp] theorem leaveProving_mem (d : Dev) (cause : Nat) : (leaveProving d cause).mem = d.mem := by
  unfold leaveProving
  split <;> simp

@[simp] theorem endConns_mem (d : Dev) : (endConns d).mem = d.mem := by
  simp [endConns]

@[simp] theorem haltNoFlush_mem (d : Dev) : (haltNoFlush d).mem = d.mem := by
  grind [haltNoFlush, bump_mem, forEach_mem, leaveProving_mem, endConns_mem]

@[simp] theorem severe_mem (d : Dev) (cls : Nat) (act : SevereAct) : (severe d cls act).mem = d.mem := by
  unfold severe
  (repeat' split) <;> simp

@[simp] theorem capture_mem (d : Dev) (x : Capture) : (capture d x).mem = d.mem := by
  unfold capture
  split <;> simp

@[simp] theorem raise_mem (d : Dev) (e : FaultEvt) (act : SevereAct) : (raise d e act).mem = d.mem := by
  grind [raise, bump_mem, stamped_mem, logRecord_mem, setClassBit_mem, severe_mem, capture_mem]

@[simp] theorem corrected_mem (d : Dev) (cause unit addr access : Nat) : (corrected d cause unit addr access).mem = d.mem := by
  simp [corrected]

@[simp] theorem fenceCell_mem (d : Dev) (c cause : Nat) : (fenceCell d c cause).mem = d.mem := by
  unfold fenceCell
  split <;> simp

@[simp] theorem activate_mem (d : Dev) (c a : Nat) (r : Requester) : (activate d c a r).mem = d.mem := by
  grind [activate, bumpBy_mem, bump_mem, setHbm_mem]

@[simp] theorem throttleTake_mem (d : Dev) (c slot lo n : Nat) (r : Requester) : (throttleTake d c slot lo n r).mem = d.mem := by
  grind [throttleTake, setHbm_mem]

@[simp] theorem correctCodeword_mem (d : Dev) (c a : Nat) (lanes : List Nat) : (correctCodeword d c a lanes).mem = d.mem := by
  grind [correctCodeword, bump_mem, setHbm_mem, forEach_mem, corrected_mem]

@[simp] theorem failChannel_mem (d : Dev) (c cause : Nat) : (failChannel d c cause).mem = d.mem := by
  grind [failChannel, setHbm_mem, raise_mem, fenceCell_mem]

@[simp] theorem ueLine_mem (d : Dev) (c a codewords : Nat) (r : Requester) : (ueLine d c a codewords r).mem = d.mem := by
  grind [ueLine, bumpBy_mem, bump_mem, setHbm_mem, raise_mem, failChannel_mem]

@[simp] theorem delFrame_mem (d : Dev) (k : Nat) : (delFrame d k).mem = d.mem := by
  rfl

@[simp] theorem decodeLine_mem (d : Dev) (c a : Nat) (lanes : List Nat × List Nat) (r : Requester) : (decodeLine d c a lanes r).1.mem = d.mem := by
  grind [decodeLine, bump_mem, forEach_mem, correctCodeword_mem, ueLine_mem]

@[simp] theorem sendPfc_mem (d : Dev) (p g quanta : Nat) : (sendPfc d p g quanta).mem = d.mem := by
  rfl

@[simp] theorem pfcUpdate_mem (d : Dev) (c : Nat) : (pfcUpdate d c).mem = d.mem := by
  grind [pfcUpdate, bump_mem, forEach_mem, setPort_mem, sendPfc_mem]

@[simp] theorem takeBuf_mem (d : Dev) (c pool size requester : Nat) : (takeBuf d c pool size requester).1.mem = d.mem := by
  unfold takeBuf
  split <;> simp

@[simp] theorem dropRef_mem (d : Dev) (id : Nat) : (dropRef d id).mem = d.mem := by
  unfold dropRef
  (repeat' split) <;> simp

@[simp] theorem dropBuf_mem (d : Dev) (b : Option Nat) : (dropBuf d b).mem = d.mem := by
  cases b <;> simp [dropBuf]

theorem takePieces_mem {n : Nat} {d : Dev} {c size who : Nat} {reserve : Bool} {x : Dev × Nat} (h : takePieces n d c size who reserve = some x) : x.1.mem = d.mem := by
  induction n generalizing d size with
  | zero =>
    obtain ⟨p, -, rfl⟩ := Option.map_eq_some_iff.mp h
    exact takeBuf_mem d c p 1 who
  | succ n ih =>
    rw [takePieces] at h
    grind [takeBuf_mem, dropRef_mem]

theorem takeBufs_mem {d : Dev} {c size who : Nat} {reserve : Bool} {x : Dev × Nat} (h : takeBufs d c size who reserve = some x) : x.1.mem = d.mem := takePieces_mem h

@[simp] theorem addRef_mem (d : Dev) (id : Nat) : (addRef d id).1.mem = d.mem := by
  grind [addRef, bump_mem, takeBuf_mem]

@[simp] theorem engineWait_mem (d : Dev) (c requester : Nat) (use : WaitUse) : (engineWait d c requester use).mem = d.mem := by
  rfl

@[simp] theorem grantComp_mem (d : Dev) (c : Nat) : (grantComp d c).mem = d.mem := by
  rfl

@[simp] theorem submitComp_mem (d : Dev) (c cls page : Nat) : (submitComp d c cls page).mem = d.mem := by
  grind [submitComp, setEng_mem, engineWait_mem, grantComp_mem]

@[simp] theorem emit_mem (d : Dev) (p : Nat) (e : Egress) : (emit d p e).mem = d.mem := by
  simp [emit]

@[simp] theorem drainCtrl_mem (n : Nat) (d : Dev) (p : Nat) : (drainCtrl n d p).mem = d.mem := by
  induction n generalizing d with
  | zero => rfl
  | succ n ih => rw [drainCtrl]; (repeat' split) <;> simp [ih]

@[simp] theorem drrTurn_mem (n : Nat) (d : Dev) (p pcp : Nat) : (drrTurn n d p pcp).mem = d.mem := by
  induction n generalizing d with
  | zero => rfl
  | succ n ih =>
    rw [drrTurn]
    split
    · rfl
    · dsimp only
      split
      · rw [ih, emit_mem, modPort_mem]
      · rfl

@[simp] theorem drrRounds_mem (n : Nat) (d : Dev) (p : Nat) : (drrRounds n d p).mem = d.mem := by
  induction n generalizing d with
  | zero => rfl
  | succ n ih =>
    rw [drrRounds]
    split
    · rfl
    · rw [ih]; exact forEach_mem _ _ fun e x => by split <;> simp

@[simp] theorem drainPort_mem (d : Dev) (p : Nat) : (drainPort d p).mem = d.mem := by
  grind [drainPort, drainCtrl_mem, drrRounds_mem]

@[simp] theorem drainAll_mem (d : Dev) : (drainAll d).mem = d.mem := by
  simp [drainAll]

@[simp] theorem carried_mem (d : Dev) (p pcp : Nat) : (carried d p pcp).mem = d.mem := by
  unfold carried
  split <;> simp

@[simp] theorem enqueue_mem (d : Dev) (p pcp bytes : Nat) (frame : Out) (buf : Option Nat) : (enqueue d p pcp bytes frame buf).mem = d.mem := by
  grind [enqueue, bump_mem, modPort_mem, dropBuf_mem, drainPort_mem, carried_mem]

@[simp] theorem sendCtl_mem (d : Dev) (p bytes : Nat) (o : Out) : (sendCtl d p bytes o).mem = d.mem := by
  unfold sendCtl
  split
  · rename_i h; rw [enqueue_mem, takeBufs_mem h]
  · rfl

@[simp] theorem sendClaimed_mem (d : Dev) (opcode dest claim : Nat) (fields : List Nat) : (sendClaimed d opcode dest claim fields).mem = d.mem := by
  unfold sendClaimed
  (repeat' split) <;> simp

@[simp] theorem sendCtrl_mem (d : Dev) (opcode dest : Nat) (fields : List Nat) : (sendCtrl d opcode dest fields).mem = d.mem := by
  simp [sendCtrl]

@[simp] theorem sendCopies_mem (d : Dev) (opcode cell : Nat) (ports fields : List Nat) : (sendCopies d opcode cell ports fields).mem = d.mem := by
  unfold sendCopies
  split
  · rfl
  · dsimp only
    split
    · rfl
    · rename_i h
      rw [dropRef_mem, forEach_mem _ _ fun e p => by simp]
      exact takeBufs_mem h

@[simp] theorem flowletHop_mem (d : Dev) (key : Nat) (h : HopSet) (pcp : Nat) : (flowletHop d key h pcp).1.mem = d.mem := by
  grind [flowletHop, bump_mem]

@[simp] theorem learnHost_mem (d : Dev) (p addr : Nat) : (learnHost d p addr).mem = d.mem := by
  unfold learnHost
  (repeat' split) <;> simp

@[simp] theorem routeOut_mem (d : Dev) (addr ret qpn pcp : Nat) : (routeOut d addr ret qpn pcp).1.mem = d.mem := by
  grind [routeOut, bump_mem, flowletHop_mem]

@[simp] theorem connOut_mem (d : Dev) (k : Nat) (response : Bool) (bytes : Nat) (frame : Wire → Out) : (connOut d k response bytes frame).mem = d.mem := by
  grind [connOut, send_mem, enqueue_mem, routeOut_mem]

@[simp] theorem answered_mem (d : Dev) (k psn : Nat) : (answered d k psn).mem = d.mem := by
  rfl

@[simp] theorem respond_mem (d : Dev) (k extra : Nat) (pmh : Bool) (frame : Wire → Out) : (respond d k extra pmh frame).mem = d.mem := by
  unfold respond
  split <;> simp

@[simp] theorem putAck_mem (d : Dev) (k : Nat) (a : About) : (putAck d k a).mem = d.mem := by
  simp [putAck]

@[simp] theorem putNak_mem (d : Dev) (k : Nat) (a : About) (syndrome : Nat) : (putNak d k a syndrome).mem = d.mem := by
  simp [putNak]

@[simp] theorem putStatusNak_mem (d : Dev) (k : Nat) (a : About) (syndrome status detail : Nat) : (putStatusNak d k a syndrome status detail).mem = d.mem := by
  simp [putStatusNak]

@[simp] theorem putAtomic_mem (d : Dev) (k : Nat) (a : About) (orig : Nat) : (putAtomic d k a orig).mem = d.mem := by
  simp [putAtomic]

@[simp] theorem putRead_mem (d : Dev) (k : Nat) (a : About) (addr : Nat) (bytes : List Byte) (bad : List Nat) (n : Nat) : (putRead d k a addr bytes bad n).mem = d.mem := by
  simp [putRead]

@[simp] theorem sendAck_mem (d : Dev) (k : Nat) (a : About) : (sendAck d k a).mem = d.mem := by
  simp [sendAck]

@[simp] theorem fatalNak_mem (d : Dev) (k : Nat) (a : About) (syndrome : Nat) : (fatalNak d k a syndrome).mem = d.mem := by
  simp [fatalNak]

@[simp] theorem sendBusyCode_mem (d : Dev) (k : Nat) (a : About) (code wait : Nat) : (sendBusyCode d k a code wait).mem = d.mem := by
  unfold sendBusyCode
  split <;> simp

@[simp] theorem sendBusy_mem (d : Dev) (k : Nat) (a : About) (wait : Nat) : (sendBusy d k a wait).mem = d.mem := by
  simp [sendBusy]

@[simp] theorem sendBusyPool_mem (d : Dev) (k : Nat) (a : About) : (sendBusyPool d k a).mem = d.mem := by
  simp [sendBusyPool]

@[simp] theorem sendEpoch_mem (d : Dev) (k : Nat) (a : About) : (sendEpoch d k a).mem = d.mem := by
  grind [sendEpoch, bump_mem, putNak_mem, putStatusNak_mem]

@[simp] theorem addReplay_mem (d : Dev) (k : Nat) (r : Replay) : (addReplay d k r).mem = d.mem := by
  rfl

@[simp] theorem sendStatus_mem (d : Dev) (k : Nat) (a : About) (reqPsn kind status : Nat) : (sendStatus d k a reqPsn kind status).mem = d.mem := by
  unfold sendStatus
  split <;> simp

@[simp] theorem putRequest_mem (d : Dev) (k : Nat) (s : Sent) (ackReq : Bool) : (putRequest d k s ackReq).mem = d.mem := by
  simp [putRequest]

@[simp] theorem leave_mem (d : Dev) (k : Nat) (s : Sent) : (leave d k s).mem = d.mem := by
  simp [leave]

@[simp] theorem trySend_mem (d : Dev) (k : Nat) : (trySend d k).mem = d.mem := by
  have hgo : ∀ (l : List Sent) (a : Dev × Bool), (l.foldl (fun (a : Dev × Bool) s => if a.2 && mayLeave a.1 k s then (leave a.1 k s, true) else (a.1, false)) a).1.mem = a.1.mem := by
    intro l
    induction l with
    | nil => exact fun _ => rfl
    | cons s l ih => intro a; rw [List.foldl_cons, ih]; split <;> simp
  exact hgo _ _

@[simp] theorem sendRequest_mem (d : Dev) (k addr : Nat) (kind : SentKind) (hold persist : Bool) (ts : Nat) (data : List Byte) (bad : List Nat) (buf : Option Nat) :
    (sendRequest d k addr kind hold persist ts data bad buf).mem = d.mem := by
  grind [sendRequest, setConn_mem, dropBuf_mem, trySend_mem]

@[simp] theorem closeSample_mem (d : Dev) (k rtt sentAt : Nat) : (closeSample d k rtt sentAt).mem = d.mem := by
  grind [closeSample, bump_mem, setConn_mem]

@[simp] theorem dropSample_mem (d : Dev) (k : Nat) : (dropSample d k).mem = d.mem := by
  grind [dropSample, bump_mem, setConn_mem]

@[simp] theorem sampleAck_mem (d : Dev) (k psn : Nat) : (sampleAck d k psn).mem = d.mem := by
  unfold sampleAck
  (repeat' split) <;> simp

theorem forEach_dropBuf_mem (l : List Sent) (d : Dev) : (forEach l d fun d s => dropBuf d s.buf).mem = d.mem := forEach_mem l d fun e s => dropBuf_mem e s.buf

@[simp] theorem ackAdvance_mem (d : Dev) (k psn : Nat) (by_ : Covering) : (ackAdvance d k psn by_).1.mem = d.mem := by
  unfold ackAdvance
  extract_lets e c within covered rest base e1 e2 e3 c2 bytes w e4
  have he : e.mem = d.mem := by unfold e; split <;> simp
  have he3 : e3.mem = e2.mem := by unfold e3; split <;> simp
  have he4 : e4.mem = e3.mem := by unfold e4; split <;> simp
  have he2 : e2.mem = e.mem := (forEach_dropBuf_mem _ _).trans (setConn_mem ..)
  split
  · exact he
  · rw [trySend_mem, he4, he3, he2, he]

@[simp] theorem retransmit_mem (d : Dev) (k : Nat) : (retransmit d k).mem = d.mem := by
  simp [retransmit]

@[simp] theorem mirrorStamp_mem (d : Dev) (n : Nat) : (mirrorStamp d n).1.mem = d.mem := by
  rfl

@[simp] theorem stampSent_mem (d : Dev) (n ts : Nat) : (stampSent d n ts).mem = d.mem := by
  rfl

@[simp] theorem sendMirror_mem (d : Dev) (n addr : Nat) (kind : SentKind) (hold persist : Bool) (ts : Nat) (data : List Byte) (bad : List Nat) (buf : Option Nat) :
    (sendMirror d n addr kind hold persist ts data bad buf).mem = d.mem := by
  unfold sendMirror
  split <;> simp

@[simp] theorem alcDropFrame_mem (d : Dev) (c slot : Nat) : (alcDropFrame d c slot).mem = d.mem := by
  rfl

@[simp] theorem takeFlip_mem (d : Dev) (target c a : Nat) : (takeFlip d target c a).1.mem = d.mem := by
  unfold takeFlip
  split <;> simp

@[simp] theorem flipT1_mem (d : Dev) (c a : Nat) : (flipT1 d c a).mem = d.mem := by
  grind [flipT1, takeFlip_mem]

@[simp] theorem flipT0_mem (d : Dev) (target c a : Nat) (site : Nat → ErrSite) : (flipT0 d target c a site).mem = d.mem := by
  grind [flipT0, takeFlip_mem]

@[simp] theorem dropSites_mem (d : Dev) (c a : Nat) (f : ErrSite → Bool) : (dropSites d c a f).mem = d.mem := by
  unfold dropSites
  (repeat' split) <;> simp

@[simp] theorem installLine_mem (d : Dev) (c a : Nat) (p : Bool) : (installLine d c a p).mem = d.mem := by
  simp [installLine]

@[simp] theorem touchRepair_mem (d : Dev) (line : Nat) : (touchRepair d line).mem = d.mem := by
  rfl

@[simp] theorem askRepair_mem (d : Dev) (line : Nat) : (askRepair d line).mem = d.mem := by
  grind [askRepair, sendMirror_mem]

@[simp] theorem fetchT1_mem (d : Dev) (c a line : Nat) (le : List Nat × List Nat) (r : Requester) : (fetchT1 d c a line le r).mem = d.mem := by
  grind [fetchT1, setPoison_mem, activate_mem, ueLine_mem, decodeLine_mem, askRepair_mem]

@[simp] theorem drainT1_mem (d : Dev) (c a : Nat) (e : MbEnt) : (drainT1 d c a e).mem = d.mem := by
  unfold drainT1
  split <;> simp

@[simp] theorem drainEntry_mem (d : Dev) (c : Nat) (e : MbEnt) : (drainEntry d c e).mem = d.mem := by
  grind [drainEntry, setAlc_mem, countDrain_mem, flipT1_mem, drainT1_mem]

@[simp] theorem alcErr_mem (d : Dev) (c kind a : Nat) : (alcErr d c kind a).mem = d.mem := by
  rfl

@[simp] theorem mbRead_mem (d : Dev) (c line : Nat) (sites : List ErrSite) : (mbRead d c line sites).mem = d.mem := by
  grind [mbRead, bump_mem, setPoison_mem, raise_mem, corrected_mem, dropSites_mem, drainEntry_mem, alcErr_mem]

@[simp] theorem drainRead_mem (d : Dev) (c : Nat) (e : MbEnt) : (drainRead d c e).mem = d.mem := by
  grind [drainRead, drainEntry_mem, mbRead_mem]

@[simp] theorem drainCell_mem (d : Dev) (c : Nat) : (drainCell d c).mem = d.mem := by
  simp [drainCell]

@[simp] theorem mbWrite_mem (d : Dev) (c line lo n : Nat) (mark : Bool) : (mbWrite d c line lo n mark).mem = d.mem := by
  grind [mbWrite, bump_mem, setAlc_mem, flipT0_mem, dropSites_mem, drainRead_mem]

@[simp] theorem alcUncorrectable_mem (d : Dev) (c a : Nat) : (alcUncorrectable d c a).mem = d.mem := by
  grind [alcUncorrectable, bump_mem, setAlc_mem, raise_mem, alcErr_mem]

@[simp] theorem alcBad_mem (d : Dev) (c a : Nat) (sites : List ErrSite) : (alcBad d c a sites).mem = d.mem := by
  unfold alcBad
  (repeat' split) <;> simp

@[simp] theorem alcCorrected_mem (d : Dev) (c a : Nat) (sites : List ErrSite) : (alcCorrected d c a sites).mem = d.mem := by
  unfold alcCorrected
  split <;> simp

@[simp] theorem readLine_mem (d : Dev) (line base : Nat) (span : Nat × Nat) (errs : List LineErr) (noFill : Bool) (r : Requester) : (readLine d line base span errs noFill r).mem = d.mem := by
  grind [readLine, bump_mem, installLine_mem, fetchT1_mem, mbRead_mem, alcBad_mem, alcCorrected_mem]

@[simp] theorem readSpan_mem (d : Dev) (addr n base : Nat) (errs : List LineErr) (noFill : Bool) (r : Requester) : (readSpan d addr n base errs noFill r).mem = d.mem := by
  simp [readSpan]

@[simp] theorem writePageT1_mem (d : Dev) (k : Nat) (r : Requester) : (writePageT1 d k r).mem = d.mem := by
  unfold writePageT1
  split <;> simp

@[simp] theorem askCredit_mem (d : Dev) (tenant c : Nat) : (askCredit d tenant c).mem = d.mem := by
  unfold askCredit
  split <;> simp

@[simp] theorem takeCredit_mem (d : Dev) (k : Nat) : (takeCredit d k).mem = d.mem := by
  grind [takeCredit, askCredit_mem]

@[simp] theorem askDirty_mem (d : Dev) (c : Nat) : (askDirty d c).mem = d.mem := by
  unfold askDirty
  split <;> simp

@[simp] theorem modSnapPage_mem (d : Dev) (act k : Nat) (f : SnapPage → SnapPage) : (modSnapPage d act k f).mem = d.mem := by
  rfl

@[simp] theorem preserve_mem (d : Dev) (k : Nat) (snaps : List Nat) : (preserve d k snaps).mem = d.mem := by
  simp [preserve]

@[simp] theorem openCut_mem (d : Dev) (act set t : Nat) (msg : Bool) : (openCut d act set t msg).mem = d.mem := by
  unfold openCut
  split <;> simp

@[simp] theorem openCuts_mem (d : Dev) (chamber ts : Nat) : (openCuts d chamber ts).mem = d.mem := by
  unfold openCuts
  split <;> simp

@[simp] theorem touchMeta_mem (d : Dev) (c : Nat) : (touchMeta d c).mem = d.mem := by
  rfl

@[simp] theorem setMapEnt_mem (d : Dev) (k : Nat) (e : MapEnt) : (setMapEnt d k e).mem = d.mem := by
  rfl

@[simp] theorem dropCharge_mem (d : Dev) (k : Nat) : (dropCharge d k).mem = d.mem := by
  rfl

@[simp] theorem wakeDestaged_mem (d : Dev) (k : Nat) : (wakeDestaged d k).mem = d.mem := by
  rfl

@[simp] theorem markRegion_mem (d : Dev) (k : Nat) : (markRegion d k).mem = d.mem := by
  unfold markRegion
  split <;> simp

@[simp] theorem raisePromo_mem (d : Dev) (k : Nat) (p : Promo) : (raisePromo d k p).mem = d.mem := by
  grind [raisePromo, submitComp_mem]

@[simp] theorem startPromo_mem (d : Dev) (k : Nat) (cls : PromoClass) : (startPromo d k cls).1.mem = d.mem := by
  grind [startPromo, bump_mem, setFrame_mem, sendMirror_mem, raisePromo_mem]

/-! `placePromos` has no equation that the kernel checks: comparing two of its calls it would count the frames of a cell one by one. So its recursion is opened by hand, for a free slot that is any,
and what it keeps is stated by name. -/

/-- e holds the bytes that d holds. -/
def SameMem (d e : Dev) : Prop := e.mem = d.mem

/-- A placement of promotions changes no byte. -/
def KeepsMem (g : Dev → Nat → (Promo → Bool) → Dev) : Prop := ∀ d c f, SameMem d (g d c f)

/-- The results that a recursion over numbers has at hand for n. -/
abbrev Placements (n : Nat) : Type := Nat.below (motive := fun _ => Dev → Nat → (Promo → Bool) → Dev) n

/-- The recursive call that a body has at hand changes no byte. -/
def CallKeepsMem : (n : Nat) → Placements n → Prop
  | 0, _ => True
  | _ + 1, b => KeepsMem b.1

theorem keepsMem_brecOn {F : (n : Nat) → Placements n → Dev → Nat → (Promo → Bool) → Dev} (h : ∀ n b, CallKeepsMem n b → KeepsMem (F n b)) (n : Nat) :
    KeepsMem (Nat.brecOn (motive := fun _ => Dev → Nat → (Promo → Bool) → Dev) n F) := by
  change KeepsMem (Nat.brecOn.go n F).1
  induction n with
  | zero => exact h _ _ trivial
  | succ n ih => exact h _ _ ih

theorem keepsMem_match {h0 : Dev → Nat → (Promo → Bool) → Placements 0 → Dev} {h1 : (n : Nat) → Dev → Nat → (Promo → Bool) → Placements (n + 1) → Dev}
    (hzero : ∀ d c f b, SameMem d (h0 d c f b)) (hsucc : ∀ n d c f b, KeepsMem b.1 → SameMem d (h1 n d c f b)) (n : Nat) (b : Placements n) (h : CallKeepsMem n b)
    (d : Dev) (c : Nat) (f : Promo → Bool) :
    SameMem d ((match (motive := (n : Nat) → (_ : Dev) → (_ : Nat) → (_ : Promo → Bool) → Placements n → Dev) n, d, c, f with
      | 0, d, c, f => h0 d c f
      | n + 1, d, c, f => h1 n d c f) b) := by
  cases n with
  | zero => exact hzero d c f b
  | succ n => exact hsucc n d c f b h

theorem placePromos_same (n : Nat) (d : Dev) (c : Nat) (f : Promo → Bool) : SameMem d (placePromos n d c f) := by
  delta placePromos
  refine keepsMem_brecOn ?_ n d c f
  intro n b h d c f
  delta placePromos._f
  refine keepsMem_match ?_ ?_ n b h d c f
  · intros
    rfl
  · intro n d c f b hrec
    generalize freeSlot d c = o
    split
    · exact hrec _ _ _
    · rfl

@[simp] theorem placePromos_mem (n : Nat) (d : Dev) (c : Nat) (f : Promo → Bool) : (placePromos n d c f).mem = d.mem := placePromos_same n d c f

@[simp] theorem bringPage_mem (d : Dev) (k : Nat) (cls : PromoClass) : (bringPage d k cls).1.mem = d.mem := by
  unfold bringPage
  generalize freeSlot d (homeOf k) = slot
  split
  · split
    · exact startPromo_mem d k cls
    · exact setFrame_mem d k _
  · split
    · have hs := startPromo_mem d k cls
      split <;> rename_i h <;> rw [h] at hs <;> exact hs
    · split
      · rfl
      · dsimp only
        split
        · rw [forEach_mem _ _ fun e l => setPoison_mem e l, setFrame_mem]
        · exact setFrame_mem d k _

@[simp] theorem applyLine_mem (d : Dev) (slot line lo n : Nat) (mark : Bool) : (applyLine d slot line lo n mark).mem = d.mem := by
  grind [applyLine, setPoison_mem, clearPoison_mem, setAlc_mem, flipT0_mem, touchRepair_mem, mbWrite_mem, alcBad_mem]

theorem sameMem_ite {β : Type} {P : Prop} [Decidable P] {d : Dev} {x y : Dev × β} (hx : SameMem d x.1) (hy : SameMem d y.1) : SameMem d (if P then x else y).1 := by
  split
  · exact hx
  · exact hy

theorem writeGate_same (d : Dev) (r : Req) (p : Part) (n credit dirty : Nat) : SameMem d (writeGate d r p n credit dirty).1 := by
  unfold writeGate
  extract_lets k c twin e who snaps counted thr t whole
  have he : SameMem d e := by unfold e; split <;> simp [SameMem]
  have hbring : SameMem d (bringPage e k).1 := (bringPage_mem e k _).trans he
  generalize thr = thr'
  generalize e = e' at *
  generalize bringPage e' k = brought at *
  generalize freeSlot e' c = slot
  split
  · split
    · exact he
    · exact (bump_mem ..).trans he
  · cases thr' with
    | some t => exact he
    | none =>
      dsimp only
      split
      · exact he
      · generalize hb : (if whole = true then _ else brought) = b
        have hb' : SameMem d b.1 := by
          rw [← hb]
          split
          · split <;> exact he
          · exact hbring
        obtain ⟨f, at0⟩ := b
        change SameMem d f at hb'
        cases at0 with
        | wait => exact (bump_mem ..).trans hb'
        | noFrame => exact hb'
        | failed =>
          dsimp only
          split
          · exact hb'
          · exact (bump_mem ..).trans hb'
        | here =>
          refine sameMem_ite ((bump_mem ..).trans hb') (sameMem_ite ((askCredit_mem ..).trans hb') (sameMem_ite hb' ?_))
          dsimp only
          split
          · exact (askDirty_mem ..).trans hb'
          · exact ((bump_mem ..).trans (askDirty_mem ..)).trans hb'

@[simp] theorem writeGate_mem (d : Dev) (r : Req) (p : Part) (n credit dirty : Nat) : (writeGate d r p n credit dirty).1.mem = d.mem := writeGate_same d r p n credit dirty

@[simp] theorem frameFor_mem (d : Dev) (k : Nat) : (frameFor d k).mem = d.mem := by
  unfold frameFor
  (repeat' split) <;> simp

@[simp] theorem afterApply_mem (d : Dev) (r : Req) (p : Part) (data : List Byte) (marks : List Nat) : (afterApply d r p data marks).1.mem = d.mem := by
  grind [afterApply, addRef_mem, stampSent_mem, sendMirror_mem, markRegion_mem]

/-- Folding steps that change no byte changes no byte. -/
theorem foldl_same {α β : Type} {f : Dev × β → α → Dev × β} (hf : ∀ a x, SameMem a.1 (f a x).1) (l : List α) (a : Dev × β) : SameMem a.1 (l.foldl f a).1 := by
  induction l generalizing a with
  | nil => rfl
  | cons x l ih => exact (ih (f a x)).trans (hf a x)

theorem gateAll_same (d : Dev) (r : Req) (ps : List Part) : SameMem d (gateAll d r ps).1 := by
  unfold gateAll
  extract_lets x
  have hx : SameMem d x.1 := by
    refine foldl_same (fun a p => ?_) ps (d, [], true, 0, 0)
    have hgate := writeGate_same a.1 r p p.n a.2.2.2.1 a.2.2.2.2
    generalize writeGate a.1 r p p.n a.2.2.2.1 a.2.2.2.2 = g at hgate
    obtain ⟨e, res⟩ := g
    cases res <;> exact hgate
  generalize x = y at hx
  generalize freeFrames y.1 _ = free
  split
  · exact hx
  · split <;> exact hx

@[simp] theorem gateAll_mem (d : Dev) (r : Req) (ps : List Part) : (gateAll d r ps).1.mem = d.mem := gateAll_same d r ps

@[simp] theorem partTake_mem (d : Dev) (r : Req) (p : Part) (who : Requester) : (partTake d r p who).mem = d.mem := by
  unfold partTake
  split <;> simp

@[simp] theorem runRead_mem (d : Dev) (r : Req) (p : Part) : (runRead d r p).1.mem = d.mem := by
  grind [runRead, bump_mem, readSpan_mem, bringPage_mem, partTake_mem]

@[simp] theorem runLoad_mem (d : Dev) (r : Req) (p : Part) : (runLoad d r p).1.mem = d.mem := by
  grind [runLoad, bringPage_mem]

@[simp] theorem runVerify_mem (d : Dev) (r : Req) (p : Part) : (runVerify d r p).1.mem = d.mem := by
  grind [runVerify, readSpan_mem, bringPage_mem, partTake_mem]

@[simp] theorem failCheck_mem (d : Dev) (c : Nat) (x : Bool) (i status key qpn : Nat) : (failCheck d c x i status key qpn).mem = d.mem := by
  rfl

@[simp] theorem failReq_mem (d : Dev) (r : Req) (x : Bool) (i status : Nat) : (failReq d r x i status).mem = d.mem := by
  rfl

@[simp] theorem cacheKey_mem (d : Dev) (c idx : Nat) : (cacheKey d c idx).mem = d.mem := by
  grind [cacheKey, bump_mem]

@[simp] theorem lateChecks_mem (d : Dev) (r : Req) (key : Nat) : (lateChecks d r key).1.mem = d.mem := by
  grind [lateChecks, failCheck_mem]

@[simp] theorem admitReq_mem (d : Dev) (r : Req) : (admitReq d r).mem = d.mem := by
  grind [admitReq, setReq_mem, lateChecks_mem]

@[simp] theorem refuseMirror_mem (d : Dev) (r : Req) : (refuseMirror d r).mem = d.mem := by
  rfl

@[simp] theorem retryMirror_mem (d : Dev) (r : Req) : (retryMirror d r).mem = d.mem := by
  unfold retryMirror
  split <;> simp

theorem setReq_failReq_same (d : Dev) (r r' : Req) (b : Bool) (i st : Nat) : SameMem d (setReq (failReq d r b i st) r') := (setReq_mem ..).trans (failReq_mem ..)

theorem retryCustody_same (d : Dev) (r : Req) : SameMem d (retryCustody d r) := by
  unfold retryCustody
  split
  · exact retryMirror_mem d r
  · split
    · exact setReq_failReq_same ..
    · generalize custodyGate d r.chamber _ (r.kind == .read) = g
      split
      · exact admitReq_mem d r
      · exact setReq_failReq_same ..
      · rfl

@[simp] theorem retryCustody_mem (d : Dev) (r : Req) : (retryCustody d r).mem = d.mem := retryCustody_same d r

@[simp] theorem copied_mem (d : Dev) (k : Nat) : (copied d k).mem = d.mem := by
  grind [copied]

@[simp] theorem bringDigest_mem (d : Dev) (k : Nat) : (bringDigest d k).1.mem = d.mem := by
  unfold bringDigest
  split <;> simp

@[simp] theorem runMarker_mem (d : Dev) (r : Req) (p : Part) : (runMarker d r p).1.mem = d.mem := by
  grind [runMarker, sendMirror_mem, bringDigest_mem]

@[simp] theorem runCommitMark_mem (d : Dev) (r : Req) (p : Part) : (runCommitMark d r p).1.mem = d.mem := by
  grind [runCommitMark, sendMirror_mem]

@[simp] theorem putParts_mem (d : Dev) (id : Nat) (ps : List Part) : (putParts d id ps).mem = d.mem := by
  unfold putParts
  split <;> simp

@[simp] theorem restamp_mem (d : Dev) (r : Req) (p : Part) : (restamp d r p).1.mem = d.mem := by
  unfold restamp
  split <;> simp

@[simp] theorem runCommit_mem (d : Dev) (r : Req) : (runCommit d r).mem = d.mem := by
  grind [runCommit, setReq_mem]

@[simp] theorem issuePart_mem (d : Dev) (id : Nat) (p : Part) : (issuePart d id p).mem = d.mem := by
  grind [issuePart, mirrorStamp_mem, putParts_mem]

@[simp] theorem issueReq_mem (d : Dev) (id : Nat) : (issueReq d id).mem = d.mem := by
  unfold issueReq
  (repeat' split) <;> simp

@[simp] theorem finishReq_mem (d : Dev) (id : Nat) : (finishReq d id).mem = d.mem := by
  grind [finishReq, setReq_mem, runCommit_mem]

@[simp] theorem setPlan_mem (d : Dev) (n : Nat) (p : Plan) : (setPlan d n p).mem = d.mem := by
  rfl

@[simp] theorem unpin_mem (d : Dev) (n slot : Nat) : (unpin d n slot).mem = d.mem := by
  grind [unpin, setFrame_mem, delFrame_mem, setPlan_mem]

@[simp] theorem moveCursor_mem (d : Dev) (n c : Nat) : (moveCursor d n c).mem = d.mem := by
  grind [moveCursor, bumpBy_mem, forEach_mem, setPlan_mem, unpin_mem]

@[simp] theorem consumeRead_mem (d : Dev) (tenant chamber off len : Nat) : (consumeRead d tenant chamber off len).mem = d.mem := by
  grind [consumeRead, bump_mem, forEach_mem, setPlan_mem, moveCursor_mem]

@[simp] theorem answerRead_mem (d : Dev) (r : Req) : (answerRead d r).mem = d.mem := by
  grind [answerRead, bump_mem, answered_mem, putRead_mem, sendStatus_mem]

@[simp] theorem answerWrite_mem (d : Dev) (r : Req) : (answerWrite d r).mem = d.mem := by
  grind [answerWrite, setConn_mem, sendAck_mem]

@[simp] theorem answerBusy_mem (d : Dev) (r : Req) : (answerBusy d r).mem = d.mem := by
  simp [answerBusy]

@[simp] theorem answerOne_mem (d : Dev) (r : Req) (status : Nat) : (answerOne d r status).mem = d.mem := by
  grind [answerOne, dropBuf_mem, answered_mem, putAtomic_mem, sendAck_mem, addReplay_mem, sendStatus_mem, setReq_mem, delReq_mem, consumeRead_mem, answerRead_mem, answerWrite_mem, answerBusy_mem]

@[simp] theorem answerConn_mem (n : Nat) (d : Dev) (k : Nat) : (answerConn n d k).mem = d.mem := by
  induction n generalizing d with
  | zero => rfl
  | succ n ih => rw [answerConn]; (repeat' split) <;> simp [ih]

@[simp] theorem dropSilent_mem (d : Dev) : (dropSilent d).mem = d.mem := by
  simp [dropSilent]

@[simp] theorem requeue_mem (d : Dev) (f : Req → Part → Bool) : (requeue d f).mem = d.mem := by
  rfl

@[simp] theorem countPcp_mem (d : Dev) (p : Pkt) (want : Nat) : (countPcp d p want).mem = d.mem := by
  unfold countPcp
  split <;> simp

@[simp] theorem enterReady_mem (d : Dev) (k : Nat) : (enterReady d k).mem = d.mem := by
  rfl

@[simp] theorem cacheUse_mem (d : Dev) (c slot : Nat) : (cacheUse d c slot).mem = d.mem := by
  rfl

@[simp] theorem keyFault_mem (d : Dev) (c slot : Nat) : (keyFault d c slot).mem = d.mem := by
  simp [keyFault]

@[simp] theorem needKey_mem (d : Dev) (c slot : Nat) : (needKey d c slot).mem = d.mem := by
  unfold needKey
  (repeat' split) <;> simp

@[simp] theorem grantTo_mem (d : Dev) (c cls pipe : Nat) : (grantTo d c cls pipe).mem = d.mem := by
  grind [grantTo, setEng_mem]

@[simp] theorem grantFree_mem (d : Dev) (c : Nat) : (grantFree d c).mem = d.mem := by
  grind [grantFree, forEach_mem, grantTo_mem]

@[simp] theorem submitCipher_mem (d : Dev) (c cls : Nat) (w : CiphWork) : (submitCipher d c cls w).mem = d.mem := by
  grind [submitCipher, setEng_mem, dropBuf_mem, engineWait_mem, keyFault_mem, needKey_mem, grantFree_mem]

@[simp] theorem purgeSlot_mem (d : Dev) (k : Nat) : (purgeSlot d k).mem = d.mem := by
  rfl

@[simp] theorem settleSlot_mem (d : Dev) (k : Nat) (s : KeySlot) : (settleSlot d k s).mem = d.mem := by
  unfold settleSlot
  (repeat' split) <;> simp

@[simp] theorem settleKeys_mem (d : Dev) : (settleKeys d).mem = d.mem := by
  simp [settleKeys]

@[simp] theorem keyDone_mem (d : Dev) (op : Nat) (r : KeyResult) (rets : List (Nat × Nat)) : (keyDone d op r rets).mem = d.mem := by
  grind [keyDone, setReg_mem, forEach_mem]

@[simp] theorem destroyEnd_mem (d : Dev) (k : Nat) : (destroyEnd d k).mem = d.mem := by
  rfl

@[simp] theorem keyTurn_mem (d : Dev) : (keyTurn d).mem = d.mem := by
  grind [keyTurn, settleKeys_mem, destroyEnd_mem]

@[simp] theorem chmDone_mem (d : Dev) (r : ChmResult) (rets : List (Nat × Nat)) : (chmDone d r rets).mem = d.mem := by
  grind [chmDone, setReg_mem, forEach_mem]

@[simp] theorem createFails_mem (d : Dev) (n : Nat) (r : ChmResult) (release : Bool) : (createFails d n r release).mem = d.mem := by
  unfold createFails
  split <;> simp

@[simp] theorem createAbort_mem (d : Dev) : (createAbort d).mem = d.mem := by
  unfold createAbort
  split <;> simp

@[simp] theorem flood_mem (d : Dev) (opcode except_ : Nat) (fields : List Nat) : (flood d opcode except_ fields).mem = d.mem := by
  simp [flood]

@[simp] theorem originateLs_mem (d : Dev) : (originateLs d).mem = d.mem := by
  simp [originateLs]

@[simp] theorem lsCheck_mem (d : Dev) : (lsCheck d).mem = d.mem := by
  unfold lsCheck
  split <;> simp

@[simp] theorem announce_mem (d : Dev) : (announce d).mem = d.mem := by
  unfold announce
  split <;> simp

@[simp] theorem resendPart_mem (d : Dev) (r : Req) (p : Part) (ts : Nat) : (resendPart d r p ts).mem = d.mem := by
  unfold resendPart
  split <;> simp

@[simp] theorem forwardTo_mem (d : Dev) (f : FwdFrame) (t : Nat) (buf : Option Nat) : (forwardTo d f t buf).mem = d.mem := by
  grind [forwardTo, bump_mem, dropBuf_mem, enqueue_mem, flowletHop_mem]

@[simp] theorem toHost_mem (d : Dev) (f : FwdFrame) (buf : Option Nat) : (toHost d f buf).mem = d.mem := by
  unfold toHost
  (repeat' split) <;> simp

@[simp] theorem forwardOn_mem (d : Dev) (f : FwdFrame) (buf : Option Nat) : (forwardOn d f buf).mem = d.mem := by
  unfold forwardOn
  (repeat' split) <;> simp

@[simp] theorem forwardFrame_mem (d : Dev) (f : FwdFrame) : (forwardFrame d f).mem = d.mem := by
  unfold forwardFrame
  dsimp only
  split
  · rfl
  · split
    · split <;> simp
    · split
      · rename_i h; rw [forwardOn_mem]; simpa using takeBufs_mem h
      · simp

@[simp] theorem foldSlew_mem (d : Dev) : (foldSlew d).mem = d.mem := by
  rfl

@[simp] theorem setTime_mem (d : Dev) (t : Nat) : (setTime d t).mem = d.mem := by
  rfl

@[simp] theorem enterLocked_mem (d : Dev) : (enterLocked d).mem = d.mem := by
  rfl

@[simp] theorem sendAnnounce_mem (d : Dev) (p : Nat) : (sendAnnounce d p).mem = d.mem := by
  simp [sendAnnounce]

@[simp] theorem announceAll_mem (d : Dev) (except_ : Nat) : (announceAll d except_).mem = d.mem := by
  simp [announceAll]

@[simp] theorem becomeRoot_mem (d : Dev) : (becomeRoot d).mem = d.mem := by
  grind [becomeRoot, bump_mem, setTime_mem, enterLocked_mem, announceAll_mem]

@[simp] theorem startElection_mem (d : Dev) : (startElection d).mem = d.mem := by
  grind [startElection, freeStep_mem, announceAll_mem, becomeRoot_mem]

@[simp] theorem flushBuffers_mem (d : Dev) : (flushBuffers d).mem = d.mem := by
  refine forEach_mem _ _ fun e c => ?_
  split
  · rename_i h; rw [submitCipher_mem, takeBufs_mem h]
  · rfl

@[simp] theorem serDesOff_mem (d : Dev) (n : Nat) : (serDesOff d n).mem = d.mem := by
  unfold serDesOff
  split <;> simp

@[simp] theorem failEntry_mem (d : Dev) (n slot cause : Nat) : (failEntry d n slot cause).mem = d.mem := by
  grind [failEntry, setPlan_mem]

@[simp] theorem planFailure_mem (d : Dev) (k cause : Nat) : (planFailure d k cause).mem = d.mem := by
  unfold planFailure
  split <;> simp

@[simp] theorem freePromo_mem (d : Dev) (k : Nat) : (freePromo d k).mem = d.mem := by
  simp [freePromo]

@[simp] theorem retireDone_mem (d : Dev) (c result : Nat) : (retireDone d c result).mem = d.mem := by
  rfl

@[simp] theorem queuePpr_mem (d : Dev) (c bank row : Nat) : (queuePpr d c bank row).1.mem = d.mem := by
  grind [queuePpr, setHbm_mem]

@[simp] theorem retireEnter_mem (d : Dev) (c f : Nat) (persist : Bool) : (retireEnter d c f persist).mem = d.mem := by
  grind [retireEnter, setReg_mem, setHbm_mem, forEach_mem, queuePpr_mem]

@[simp] theorem moveData_mem (d : Dev) (c f : Nat) (persist : Bool) : (moveData d c f persist).mem = d.mem := by
  grind [moveData, setFrame_mem, alcDropFrame_mem, retireDone_mem, retireEnter_mem]

@[simp] theorem moveStaged_mem (d : Dev) (c f : Nat) (persist : Bool) : (moveStaged d c f persist).mem = d.mem := by
  unfold moveStaged
  (repeat' split) <;> simp

@[simp] theorem tryMove_mem (d : Dev) (c : Nat) : (tryMove d c).mem = d.mem := by
  unfold tryMove
  (repeat' split) <;> simp

@[simp] theorem fullCheck_mem (d : Dev) (c : Nat) : (fullCheck d c).mem = d.mem := by
  grind [fullCheck, setMed_mem, raise_mem]

@[simp] theorem fullTurn_mem (d : Dev) : (fullTurn d).mem = d.mem := by
  simp [fullTurn]

@[simp] theorem place_mem (d : Dev) (c sb : Nat) : (place d c sb).1.mem = d.mem := by
  rfl

@[simp] theorem sendMarker_mem (d : Dev) (k : Nat) (lost : List Nat) : (sendMarker d k lost).mem = d.mem := by
  simp [sendMarker]

@[simp] theorem compareAgain_mem (d : Dev) (k : Nat) : (compareAgain d k).mem = d.mem := by
  grind [compareAgain, sendMarker_mem]

@[simp] theorem sendStatusMsg_mem (d : Dev) : (sendStatusMsg d).mem = d.mem := by
  unfold sendStatusMsg
  dsimp only
  generalize tagged d _ = f
  split <;> simp

@[simp] theorem putClaim_mem (d : Dev) (dest kind scope chamber number : Nat) : (putClaim d dest kind scope chamber number).mem = d.mem := by
  simp [putClaim]

@[simp] theorem askWitness_mem (d : Dev) (kind : ClaimKind) (scope chamber : Nat) : (askWitness d kind scope chamber).mem = d.mem := by
  unfold askWitness
  split <;> simp

@[simp] theorem sendYield_mem (d : Dev) : (sendYield d).mem = d.mem := by
  unfold sendYield
  split <;> simp

@[simp] theorem settlePart_mem (d : Dev) (r : Req) (p : Part) (ts : Nat) (again : Bool) : (settlePart d r p ts again).1.mem = d.mem := by
  unfold settlePart
  (repeat' split) <;> simp

@[simp] theorem setPart_mem (d : Dev) (id page : Nat) (st : PartState) : (setPart d id page st).mem = d.mem := by
  rfl

@[simp] theorem settleParts_mem (d : Dev) : (settleParts d).mem = d.mem := by
  grind [settleParts, forEach_mem, settlePart_mem, setPart_mem]

@[simp] theorem sendMeta_mem (d : Dev) : (sendMeta d).mem = d.mem := by
  grind [sendMeta, forEach_mem, sendCtrl_mem]

@[simp] theorem setPairState_mem (d : Dev) : (setPairState d).mem = d.mem := by
  grind [setPairState, createAbort_mem, sendStatusMsg_mem, settleParts_mem, sendMeta_mem]

@[simp] theorem claimTurn_mem (d : Dev) : (claimTurn d).mem = d.mem := by
  grind [claimTurn, askWitness_mem]

@[simp] theorem claimSeen_mem (d : Dev) (o claim : Nat) : (claimSeen d o claim).mem = d.mem := by
  unfold claimSeen
  split <;> simp

@[simp] theorem dropCreating_mem (d : Dev) : (dropCreating d).mem = d.mem := by
  rfl

@[simp] theorem wholeDone_mem (d : Dev) : (wholeDone d).mem = d.mem := by
  rfl

@[simp] theorem releaseSnapshot_mem (d : Dev) (act : Nat) : (releaseSnapshot d act).mem = d.mem := by
  rfl

@[simp] theorem retainSnapshot_mem (d : Dev) (act : Nat) : (retainSnapshot d act).mem = d.mem := by
  rfl

@[simp] theorem calPost_mem (d : Dev) (kind flags act time arg : Nat) (wellFormed : Bool) : (calPost d kind flags act time arg wellFormed).1.mem = d.mem := by
  unfold calPost
  (repeat' split) <;> simp

@[simp] theorem sendCalPost_mem (d : Dev) (p act op result : Nat) (entry : List Byte) : (sendCalPost d p act op result entry).mem = d.mem := by
  simp [sendCalPost]

@[simp] theorem queryMode_mem (d : Dev) : (queryMode d).mem = d.mem := by
  simp [queryMode]

@[simp] theorem sendCompletion_mem (d : Dev) (conn : Nat) (chm : Option Nat) (persist : Bool) (r : BulkRec) (outcome : Nat) (abort : Bool) :
    (sendCompletion d conn chm persist r outcome abort).mem = d.mem := by
  simp [sendCompletion]

@[simp] theorem bulkFinish_mem (d : Dev) (c : BulkCmd) (status detail : Nat) (outcome : Nat) (abort : Bool) : (bulkFinish d c status detail outcome abort).mem = d.mem := by
  unfold bulkFinish
  split <;> simp

@[simp] theorem setBulk_mem (d : Dev) (c : BulkCmd) : (setBulk d c).mem = d.mem := by
  rfl

@[simp] theorem bulkAct_mem (d : Dev) (b : Option Nat) (status detail result result2 : Nat) : (bulkAct d b status detail result result2).mem = d.mem := by
  unfold bulkAct
  split <;> simp

@[simp] theorem relayCheck_mem (d : Dev) (key : Nat) : (relayCheck d key).mem = d.mem := by
  unfold relayCheck
  (repeat' split) <;> simp

@[simp] theorem addToRelay_mem (d : Dev) (key : Nat) (f : Relay → Relay) : (addToRelay d key f).mem = d.mem := by
  simp [addToRelay]

@[simp] theorem ownPart_mem (d : Dev) (key code : Nat) : (ownPart d key code).mem = d.mem := by
  simp [ownPart]

@[simp] theorem messageCutDrained_mem (d : Dev) (act : Nat) : (messageCutDrained d act).mem = d.mem := by
  unfold messageCutDrained
  (repeat' split) <;> simp

@[simp] theorem actDone_mem (d : Dev) (result : Nat) : (actDone d result).mem = d.mem := by
  rfl

@[simp] theorem actEnd_mem (d : Dev) (r : ActRun) (result status detail res res2 : Nat) : (actEnd d r result status detail res res2).mem = d.mem := by
  simp [actEnd]

@[simp] theorem releaseGathered_mem (d : Dev) (act op : Nat) : (releaseGathered d act op).mem = d.mem := by
  unfold releaseGathered
  (repeat' split) <;> simp

@[simp] theorem bulkSettle_mem (d : Dev) (id : Nat) : (bulkSettle d id).mem = d.mem := by
  unfold bulkSettle
  (repeat' split) <;> simp

@[simp] theorem dropPieces_mem (d : Dev) (id : Nat) : (dropPieces d id).mem = d.mem := by
  simp [dropPieces]

@[simp] theorem takeBack_mem (d : Dev) (k : Nat) : (takeBack d k).mem = d.mem := by
  unfold takeBack
  split <;> simp

@[simp] theorem rnrWait_mem (d : Dev) (k wait : Nat) : (rnrWait d k wait).mem = d.mem := by
  grind [rnrWait, setConn_mem, connError_mem, dropSample_mem]

@[simp] theorem congestionNotification_mem (d : Dev) (p : Nat) : (congestionNotification d p).mem = d.mem := by
  unfold congestionNotification
  split <;> simp

@[simp] theorem askPage_mem (d : Dev) (k : Nat) (forSeal : Bool) : (askPage d k forSeal).mem = d.mem := by
  simp [askPage]

@[simp] theorem enterStep_mem (d : Dev) (n : Nat) : (enterStep d n).mem = d.mem := by
  rfl

@[simp] theorem enterFormation_mem (d : Dev) : (enterFormation d).mem = d.mem := by
  grind [enterFormation, sendStatusMsg_mem, sendYield_mem, dropCreating_mem]

@[simp] theorem atEntry_mem (d : Dev) (n : Nat) : (atEntry d n).mem = d.mem := by
  unfold atEntry
  split <;> simp

@[simp] theorem goStep_mem (d : Dev) (n : Nat) : (goStep d n).mem = d.mem := by
  simp [goStep]

@[simp] theorem leaderCheck_mem (d : Dev) : (leaderCheck d).mem = d.mem := by
  unfold leaderCheck
  split <;> simp

@[simp] theorem beginMove_mem (d : Dev) (entry : Bool) (t : DevState) (ns : Nat) : (beginMove d entry t ns).mem = d.mem := by
  rfl

@[simp] theorem twinWake_mem (d : Dev) : (twinWake d).mem = d.mem := by
  grind [twinWake, beginMove_mem]

@[simp] theorem modDoze_mem (d : Dev) (p : Nat) (f : Doze → Doze) : (modDoze d p f).mem = d.mem := by
  rfl

@[simp] theorem stayAwake_mem (d : Dev) (p : Nat) : (stayAwake d p).mem = d.mem := by
  rfl

@[simp] theorem dozeWake_mem (d : Dev) (p : Nat) : (dozeWake d p).mem = d.mem := by
  grind [dozeWake, bumpBy_mem, bump_mem, modDoze_mem]

@[simp] theorem dozeStir_mem (d : Dev) (p : Nat) : (dozeStir d p).mem = d.mem := by
  unfold dozeStir
  split <;> simp

@[simp] theorem dozeSettle_mem (d : Dev) (p : Nat) : (dozeSettle d p).mem = d.mem := by
  grind [dozeSettle, drainPort_mem, modDoze_mem, stayAwake_mem, dozeStir_mem]

@[simp] theorem dozeAll_mem (d : Dev) : (dozeAll d).mem = d.mem := by
  simp [dozeAll]

@[simp] theorem vaultFails_mem (d : Dev) : (vaultFails d).mem = d.mem := by
  rfl

@[simp] theorem vaultStart_mem (d : Dev) (o : VaultOp) (inner : Bool) : (vaultStart d o inner).mem = d.mem := by
  grind [vaultStart, bump_mem, vaultFails_mem]

@[simp] theorem vaultNext_mem (d : Dev) : (vaultNext d).mem = d.mem := by
  unfold vaultNext
  (repeat' split) <;> simp

@[simp] theorem badFrame_mem (d : Dev) (p : Nat) : (badFrame d p).mem = d.mem := by
  rfl

@[simp] theorem statesTurn_mem (d : Dev) : (statesTurn d).mem = d.mem := by
  unfold statesTurn
  split <;> simp

end Sys2Proof.Machine
end

section
/-!
SUPPORT. The functions that write to chamber memory keep it well-formed: its bytes stand in rising order of address, and no byte 0 is listed. So does all that follows by itself after a command.
-/
namespace Sys2Proof.Machine
open Sys2Proof

/-- Memory lists its bytes in rising order of address, and lists no byte that is 0. -/
def WfMem (d : Dev) : Prop := Memory.wf d.mem

theorem wfMem_forEach {α : Type} {f : Dev → α → Dev} {l : List α} {d : Dev} (hf : ∀ e x, WfMem e → WfMem (f e x)) (h : WfMem d) : WfMem (forEach l d f) := by
  induction l generalizing d with
  | nil => exact h
  | cons x l ih => exact ih (hf d x h)

theorem wfMem_foldl {α β : Type} {f : Dev × β → α → Dev × β} {l : List α} {a : Dev × β} (hf : ∀ a x, WfMem a.1 → WfMem (f a x).1) (h : WfMem a.1) :
    WfMem (l.foldl f a).1 := by
  induction l generalizing a with
  | nil => exact h
  | cons x l ih => exact ih (hf a x h)

theorem wfMem_of_mem_eq {d e : Dev} (he : e.mem = d.mem) (h : WfMem d) : WfMem e := by
  unfold WfMem
  rw [he]
  exact h

theorem wfMem_ite {P : Prop} [Decidable P] {d e : Dev} (hd : WfMem d) (he : WfMem e) : WfMem (if P then d else e) := by
  split
  · exact hd
  · exact he

theorem forgetPage_mem (d : Dev) (k : Nat) : (forgetPage d k).mem = memClear d.mem (pageAddr k) 16384 := by
  unfold forgetPage
  simp only [wakeDestaged_mem, clearPagePoison_mem, dropCharge_mem, setAlc_mem]
  split <;> simp

theorem forgetPage_wfMem (d : Dev) (k : Nat) (h : WfMem d) : WfMem (forgetPage d k) := by
  unfold WfMem
  rw [forgetPage_mem]
  exact memClear_wf _ _ _ h

theorem trimPage_wfMem (d : Dev) (k : Nat) (h : WfMem d) : WfMem (trimPage d k) := by
  grind [trimPage, WfMem, setMapEnt_mem, forgetPage_wfMem]

theorem applyRepair_wfMem (d : Dev) (line : Nat) (data : Option (List Byte)) (bad : Bool) (h : WfMem d) : WfMem (applyRepair d line data bad) := by
  unfold applyRepair
  dsimp only
  split
  · split
    · split
      · exact wfMem_of_mem_eq ((askRepair_mem ..).trans (bump_mem ..)) h
      · exact wfMem_of_mem_eq (bump_mem ..) h
    · split
      · exact h
      · refine wfMem_of_mem_eq ((bump_mem ..).trans (applyLine_mem ..)) ?_
        cases data with
        | none => exact h
        | some b => exact memWrite_wf _ _ _ h
  · exact h
  · exact h

theorem applyBytes_mem (d : Dev) (k off : Nat) (data : List Byte) (marks : List Nat) : (applyBytes d k off data marks).mem = memWrite d.mem (pageAddr k + off) data := by
  unfold applyBytes
  dsimp only
  rw [forEach_mem _ _ fun e l => applyLine_mem .., setFrame_mem]
  dsimp only
  split <;> simp

theorem applyBytes_wfMem (d : Dev) (k off : Nat) (data : List Byte) (marks : List Nat) (h : WfMem d) : WfMem (applyBytes d k off data marks) := by
  unfold WfMem
  rw [applyBytes_mem]
  exact memWrite_wf _ _ _ h

theorem applyWrite_wfMem (d : Dev) (r : Req) (p : Part) (h : WfMem d) : WfMem (applyWrite d r p).1 := by
  grind [applyWrite, WfMem, throttleTake_mem, preserve_mem, applyBytes_wfMem, frameFor_mem, afterApply_mem]

theorem runWrite_wfMem (d : Dev) (r : Req) (ps : List Part) (h : WfMem d) : WfMem (runWrite d r ps).1 := by
  have hg := wfMem_of_mem_eq (gateAll_mem d r ps) h
  unfold runWrite
  generalize gateAll d r ps = g at hg
  obtain ⟨e, qs, pass⟩ := g
  cases pass with
  | false => exact hg
  | true => exact wfMem_foldl (fun a p ha => applyWrite_wfMem a.1 r p ha) hg

theorem runAtomic_wfMem (d : Dev) (r : Req) (p : Part) (h : WfMem d) : WfMem (runAtomic d r p).1 := by
  grind [runAtomic, WfMem, bump_mem, addReplay_mem, readLine_mem, preserve_mem, bringPage_mem, applyBytes_wfMem, writeGate_mem, afterApply_mem, partTake_mem]

theorem runTrim_wfMem (d : Dev) (r : Req) (p : Part) (h : WfMem d) : WfMem (runTrim d r p).1 := by
  grind [runTrim, WfMem, bump_mem, askDirty_mem, preserve_mem, trimPage_wfMem, afterApply_mem]

theorem runPart_wfMem (d : Dev) (r : Req) (p : Part) (h : WfMem d) : WfMem (runPart d r p) := by
  grind [runPart, WfMem, runAtomic_wfMem, runRead_mem, runTrim_wfMem, runLoad_mem, runVerify_mem, setReq_mem, runMarker_mem, runCommitMark_mem, putParts_mem]

theorem runGroup_wfMem (d : Dev) (r : Req) (ps : List Part) (h : WfMem d) : WfMem (runGroup d r ps) := by
  have hw := runWrite_wfMem d r ps h
  unfold runGroup
  generalize runWrite d r ps = x at hw
  refine wfMem_of_mem_eq (putParts_mem ..) ?_
  split
  · exact wfMem_forEach (fun e p he => wfMem_of_mem_eq (copied_mem ..) he) hw
  · exact hw

theorem runArrival_wfMem (d : Dev) (x : Nat × Nat × Nat) (h : WfMem d) : WfMem (runArrival d x) := by
  have hfold : ∀ (l : List Part) (r : Req), WfMem (l.foldl (fun (a : Dev × List Part) q => let z := restamp a.1 r q; (z.1, a.2 ++ [z.2])) (d, [])).1 :=
    fun l r => wfMem_foldl (fun a q ha => wfMem_of_mem_eq (restamp_mem a.1 r q) ha) h
  unfold runArrival
  split
  · exact h
  · split
    · exact h
    · dsimp only
      split
      · exact h
      · split
        · split
          · exact wfMem_of_mem_eq (putParts_mem ..) h
          · split
            · exact h
            · exact runGroup_wfMem _ _ _ (hfold _ _)
        · split
          · exact h
          · exact runPart_wfMem _ _ _ (wfMem_of_mem_eq (restamp_mem ..) h)

theorem runReqs_wfMem (n : Nat) (d : Dev) (h : WfMem d) : WfMem (runReqs n d) := by
  induction n generalizing d with
  | zero => exact h
  | succ n ih =>
    have hrun : ∀ e l₁ l₂ l₃, WfMem e → WfMem (forEach l₃ (forEach l₂ (forEach l₁ e issueReq) runArrival) finishReq) := fun e l₁ l₂ l₃ he =>
      wfMem_forEach (fun e i he => wfMem_of_mem_eq (finishReq_mem e i) he)
        (wfMem_forEach runArrival_wfMem (wfMem_forEach (fun e i he => wfMem_of_mem_eq (issueReq_mem e i) he) he))
    rw [runReqs]
    split
    · exact ih _ (hrun _ _ _ _ h)
    · exact hrun _ _ _ _ h

theorem pump_wfMem (d : Dev) (h : WfMem d) : WfMem (pump d) := by
  unfold pump
  exact wfMem_of_mem_eq (dropSilent_mem _) (wfMem_forEach (fun e k he => wfMem_of_mem_eq (answerConn_mem _ e k) he) (runReqs_wfMem _ _ h))

theorem pumpCustody_wfMem (d : Dev) (h : WfMem d) : WfMem (pumpCustody d) := by
  grind [pumpCustody, WfMem, forEach_mem, retryCustody_mem, pump_wfMem]

theorem duplicate_wfMem {d : Dev} {k : Nat} {a : About} {op : OpKind} {again : Dev → Dev} (hagain : ∀ e, WfMem e → WfMem (again e)) (h : WfMem d) : WfMem (duplicate d k a op again) := by
  unfold duplicate
  extract_lets d1 d2 c d3
  have h2 : WfMem d2 := by
    unfold d2
    split
    · exact wfMem_of_mem_eq ((bump_mem ..).trans (bump_mem ..)) h
    · exact wfMem_of_mem_eq (bump_mem ..) h
  have h3 : WfMem d3 := wfMem_of_mem_eq (bump_mem ..) h2
  clear_value d3 c d2 d1
  split
  · exact h2
  · split
    · split
      · split
        · exact wfMem_of_mem_eq (putNak_mem ..) h3
        · exact wfMem_of_mem_eq ((bump_mem ..).trans (putStatusNak_mem ..)) h3
      · split
        · exact wfMem_of_mem_eq (putAtomic_mem ..) h3
        · exact wfMem_of_mem_eq (putAck_mem ..) h3
    · split
      · exact hagain _ (wfMem_of_mem_eq (bump_mem ..) h2)
      · split
        · exact wfMem_of_mem_eq ((connError_mem ..).trans (bump_mem ..)) h2
        · exact wfMem_of_mem_eq (putAck_mem ..) h2

theorem replayed_wfMem {d e : Dev} {k : Nat} {a : About} {op : OpKind} {pkts : Nat} (he : replayed d k a op pkts = some e) (h : WfMem d) : WfMem e := by
  unfold replayed at he
  split at he
  · cases he
  · cases he
    refine wfMem_of_mem_eq (answered_mem ..) ?_
    split
    · exact wfMem_of_mem_eq ((putAck_mem ..).trans ((bump_mem ..).trans (modConn_mem ..))) h
    · exact wfMem_of_mem_eq ((putAtomic_mem ..).trans ((bump_mem ..).trans (modConn_mem ..))) h

theorem receive_wfMem {d : Dev} {p : Pkt} {chm : Option Nat} {op : OpKind} {payload : Bool} {pkts : Nat → Nat} {again go : Dev → Nat → Dev}
    (hagain : ∀ e k, WfMem e → WfMem (again e k)) (hgo : ∀ e k, WfMem e → WfMem (go e k)) (h : WfMem d) : WfMem (receive d p chm op payload pkts again go) := by
  unfold receive
  extract_lets +onlyGivenNames d1 k gen oxh a
  have h1 : WfMem d1 := wfMem_of_mem_eq (countPcp_mem ..) h
  clear_value d1 k gen oxh a
  split
  · exact h1
  split
  · exact wfMem_of_mem_eq (bump_mem ..) h1
  split
  · exact wfMem_of_mem_eq (bump_mem ..) h1
  extract_lets +onlyGivenNames c
  split
  · exact wfMem_of_mem_eq (bump_mem ..) h1
  extract_lets +onlyGivenNames d2 c2 cls
  have h2 : WfMem d2 := by
    unfold d2
    split
    · exact wfMem_of_mem_eq (enterReady_mem ..) h1
    · exact h1
  clear_value cls c2 d2
  split
  · split
    · exact wfMem_of_mem_eq ((fatalNak_mem ..).trans (bump_mem ..)) h2
    · exact h2
  split
  · exact wfMem_of_mem_eq (bump_mem ..) h2
  split
  · exact duplicate_wfMem (fun e => hagain e k) h2
  · split
    · exact h2
    · exact wfMem_of_mem_eq ((bump_mem ..).trans ((putNak_mem ..).trans (setConn_mem ..))) h2
  extract_lets +onlyGivenNames d3
  have h3 : WfMem d3 := wfMem_of_mem_eq (setConn_mem ..) h2
  clear_value d3
  split
  · exact wfMem_of_mem_eq ((bump_mem ..).trans (putNak_mem ..)) h3
  split
  · exact wfMem_of_mem_eq (sendEpoch_mem ..) h3
  split
  · rename_i he
    exact replayed_wfMem he h3
  · exact hgo _ _ h3

theorem hostBuf_wfMem {d : Dev} {p : Pkt} {k : Nat} {a : About} {go : Dev → Dev} (hgo : ∀ e, WfMem e → WfMem (go e)) (h : WfMem d) : WfMem (hostBuf d p k a go) := by
  unfold hostBuf
  split
  · exact wfMem_of_mem_eq ((bump_mem ..).trans (sendBusyPool_mem ..)) h
  · rename_i htaken
    exact wfMem_of_mem_eq (dropRef_mem ..) (hgo _ (wfMem_of_mem_eq (takeBufs_mem htaken) h))

theorem hostRequest_wfMem (d : Dev) (p : Pkt) (k : Nat) (kind : ReqKind) (reth : Reth) (data : List Byte) (arg : Nat × Nat) (errs : List LineErr) (dup : Bool) (h : WfMem d) :
    WfMem (hostRequest d p k kind reth data arg errs dup) := by
  unfold hostRequest
  extract_lets +onlyGivenNames c cell psn len pkts key e persist a
  clear_value a persist e key pkts len psn cell c
  split
  · exact wfMem_of_mem_eq (sendBusy_mem ..) h
  split
  · exact wfMem_of_mem_eq ((bump_mem ..).trans (sendBusyPool_mem ..)) h
  rename_i d1 buf htaken
  have h1 : WfMem d1 := wfMem_of_mem_eq (takeBufs_mem htaken) h
  extract_lets +onlyGivenNames d2 qpn off r d3 refuse d4
  have h3 : WfMem d3 := by
    refine wfMem_of_mem_eq (addReq_mem ..) ?_
    unfold d2
    split
    · exact h1
    · exact wfMem_of_mem_eq (modConn_mem ..) h1
  have hrefuse : ∀ e st, WfMem e → WfMem (refuse e st) := fun e st he => wfMem_of_mem_eq (setReq_mem ..) he
  clear_value refuse d3 r
  refine pump_wfMem _ ?_
  unfold d4
  split
  · exact hrefuse _ _ (wfMem_of_mem_eq (failCheck_mem ..) h3)
  have h5 : WfMem (cacheKey d3 cell (key / 256)) := wfMem_of_mem_eq (cacheKey_mem ..) h3
  generalize cacheKey d3 cell (key / 256) = d5 at h5
  split
  · exact hrefuse _ _ (wfMem_of_mem_eq (failCheck_mem ..) h5)
  split
  · exact hrefuse _ _ (wfMem_of_mem_eq (failCheck_mem ..) h5)
  split
  · exact hrefuse _ _ (wfMem_of_mem_eq (failCheck_mem ..) h5)
  split
  · exact hrefuse _ _ (wfMem_of_mem_eq (failCheck_mem ..) h5)
  · exact wfMem_of_mem_eq (setReq_mem ..) h5
  · exact wfMem_of_mem_eq (admitReq_mem ..) h5

theorem lastWrites_wfMem (d : Dev) (h : WfMem d) : WfMem (lastWrites d) := by
  grind [lastWrites, WfMem, forEach_mem, leaveProving_mem, endConns_mem, drainCell_mem, pump_wfMem]

theorem beginFlush_wfMem (d : Dev) (kind : FlushKind) (h : WfMem d) : WfMem (beginFlush d kind) := by
  grind [beginFlush, WfMem, forEach_mem, openSump_mem, lastWrites_wfMem, flushBuffers_mem, serDesOff_mem]

theorem fallNow_wfMem (d : Dev) (h : WfMem d) : WfMem (fallNow d) := by
  grind [fallNow, WfMem, beginFlush_wfMem]

theorem installPage_wfMem (d : Dev) (k : Nat) (lost : List Nat) (modified : Bool) (h : WfMem d) : WfMem (installPage d k lost modified) := by
  grind [installPage, WfMem, bump_mem, setFrame_mem, writePageT1_mem, pump_wfMem, requeue_mem, planFailure_mem, freePromo_mem, tryMove_mem]

theorem sealLost_wfMem (d : Dev) (k : Nat) (h : WfMem d) : WfMem (sealLost d k) := by
  grind [sealLost, WfMem, installPage_wfMem]

theorem wakeFrame_wfMem (d : Dev) (c : Nat) (h : WfMem d) : WfMem (wakeFrame d c) := by
  grind [wakeFrame, WfMem, placePromos_mem, pump_wfMem, requeue_mem]

theorem frameTurn_wfMem (d : Dev) (h : WfMem d) : WfMem (frameTurn d) := wfMem_forEach wakeFrame_wfMem h

theorem custodyTurn_wfMem (d : Dev) (h : WfMem d) : WfMem (custodyTurn d) := by
  grind [custodyTurn, WfMem, pumpCustody_wfMem, setPairState_mem, claimTurn_mem]

theorem selfDiagnose_wfMem (d : Dev) (h : WfMem d) : WfMem (selfDiagnose d) := by
  grind [selfDiagnose, WfMem, sendStatusMsg_mem, sendYield_mem, custodyTurn_wfMem]

theorem copyAcked_wfMem (d : Dev) (k chamber region : Nat) (h : WfMem d) : WfMem (copyAcked d k chamber region) := by
  grind [copyAcked, WfMem, bump_mem, custodyTurn_wfMem]

theorem endHold_wfMem (d : Dev) (act : Nat) (h : WfMem d) : WfMem (endHold d act) := by
  grind [endHold, WfMem, pump_wfMem]

theorem calCancel_wfMem (d : Dev) (act : Nat) (h : WfMem d) : WfMem (calCancel d act) := by
  grind [calCancel, WfMem, endHold_wfMem, releaseSnapshot_mem]

theorem resumeSet_wfMem (d : Dev) (set : Nat) (h : WfMem d) : WfMem (resumeSet d set) := by
  grind [resumeSet, WfMem, pumpCustody_wfMem]

theorem treeLocal_wfMem (d : Dev) (act op : Nat) (e : TreeEntry) (h : WfMem d) : WfMem (treeLocal d act op e).1 := by
  grind [treeLocal, WfMem, releaseSnapshot_mem, retainSnapshot_mem, calPost_mem, calCancel_wfMem, resumeSet_wfMem]

theorem treeOpen_wfMem (d : Dev) (act op root : Nat) (parent : Option Nat) (e : TreeEntry) (h : WfMem d) : WfMem (treeOpen d act op root parent e) := by
  grind [treeOpen, WfMem, forEach_mem, sendCtrl_mem, ownPart_mem, messageCutDrained_mem, treeLocal_wfMem]

theorem actStep_wfMem (d : Dev) (act op : Nat) (g : Gather) (h : WfMem d) : WfMem (actStep d act op g) := by
  grind [actStep, WfMem, treeOpen_wfMem, actEnd_mem]

theorem actTurn_wfMem (n : Nat) (d : Dev) (h : WfMem d) : WfMem (actTurn n d) := by
  induction n generalizing d with
  | zero => exact h
  | succ n ih =>
    rw [actTurn]
    split
    · exact h
    · exact ih _ (wfMem_of_mem_eq (releaseGathered_mem ..) (actStep_wfMem _ _ _ _ h))

theorem bulkAck_wfMem (d : Dev) (p : Pkt) (k : Nat) (chm : Option Nat) (h : WfMem d) : WfMem (bulkAck d p k chm) := by
  grind [bulkAck, WfMem, modConn_mem, addReq_mem, pump_wfMem]

theorem bulkTaken_wfMem {d : Dev} {p : Pkt} {k : Nat} {a : About} {good : Bool} {go : Dev → Dev} (hgo : ∀ e, WfMem e → WfMem (go e)) (h : WfMem d) : WfMem (bulkTaken d p k a good go) := by
  unfold bulkTaken
  split
  · exact wfMem_of_mem_eq ((fatalNak_mem ..).trans (bump_mem ..)) h
  · split
    · exact wfMem_of_mem_eq (sendBusy_mem ..) h
    · exact hostBuf_wfMem hgo h

theorem bulkCommand_wfMem (d : Dev) (p : Pkt) (kind : BulkKind) (b : BulkPayload) (h : WfMem d) : WfMem (bulkCommand d p kind b) := by
  unfold bulkCommand
  extract_lets +onlyGivenNames chm
  refine receive_wfMem (fun e k he => he) (fun e k he => ?_) h
  extract_lets +onlyGivenNames mine persist good
  refine bulkTaken_wfMem (fun e he => ?_) he
  extract_lets +onlyGivenNames cmd
  split
  · extract_lets +onlyGivenNames rec
    refine bulkAck_wfMem _ _ _ _ (wfMem_of_mem_eq (sendCompletion_mem ..) ?_)
    exact wfMem_of_mem_eq (bump_mem e .BLK_CNT 0 3) he
  extract_lets +onlyGivenNames src d1 d2
  have h2 : WfMem d2 := wfMem_of_mem_eq (bump_mem ..) he
  clear_value d2
  have hack : WfMem (bulkAck (if enteringLow d2 then { bump d2 .BLK_CNT 0 9 with pwr.latched := some .service } else d2) p k chm) :=
    bulkAck_wfMem _ _ _ _ (wfMem_ite (wfMem_of_mem_eq (bump_mem d2 .BLK_CNT 0 9) h2) h2)
  exact wfMem_ite (wfMem_of_mem_eq (bulkFinish_mem ..) hack) hack

theorem abandonAct_wfMem (d : Dev) (c : BulkCmd) (h : WfMem d) : WfMem (abandonAct d c) := by
  unfold abandonAct
  split
  · split
    · exact h
    extract_lets +onlyGivenNames d1
    have h1 : WfMem d1 := wfMem_of_mem_eq (actDone_mem ..) h
    clear_value d1
    split
    · exact h1
    extract_lets +onlyGivenNames me d2
    have h2 : WfMem d2 := by
      unfold d2
      split <;> exact treeOpen_wfMem _ _ _ _ _ _ h1
    clear_value d2
    refine actTurn_wfMem _ _ ?_
    split
    · exact h2
    · exact treeOpen_wfMem _ _ _ _ _ _ h2
  · exact h

theorem abortCmd_wfMem (d : Dev) (c : BulkCmd) (h : WfMem d) : WfMem (abortCmd d c) := by
  grind [abortCmd, WfMem, bump_mem, bulkFinish_mem, setBulk_mem, bulkSettle_mem, dropPieces_mem, abandonAct_wfMem]

theorem bulkAbort_wfMem (d : Dev) (p : Pkt) (tag : Nat) (wellFormed : Bool) (h : WfMem d) : WfMem (bulkAbort d p tag wellFormed) := by
  refine receive_wfMem (fun e k he => he) (fun e k he => bulkTaken_wfMem (fun e he => ?_) he) h
  extract_lets +onlyGivenNames d1
  have h1 : WfMem d1 := wfMem_of_mem_eq (bump_mem ..) (bulkAck_wfMem _ _ _ _ he)
  clear_value d1
  split
  · exact abortCmd_wfMem _ _ h1
  split
  · exact wfMem_of_mem_eq ((sendCompletion_mem ..).trans (bump_mem ..)) h1
  · exact wfMem_of_mem_eq ((sendCompletion_mem ..).trans (bump_mem ..)) h1

theorem takeMirror_wfMem (d : Dev) (p : Pkt) (k : Nat) (kind : ReqKind) (chamber off len : Nat) (data : List Byte) (digest : Nat) (dup : Bool) (h : WfMem d) :
    WfMem (takeMirror d p k kind chamber off len data digest dup) := by
  unfold takeMirror
  extract_lets +onlyGivenNames c psn x pkts ts claim
  clear_value claim ts pkts x psn c
  split
  · exact wfMem_of_mem_eq (bump_mem ..) h
  rename_i d1 buf htaken
  have h1 : WfMem d1 := wfMem_of_mem_eq (takeBufs_mem htaken) h
  extract_lets +onlyGivenNames d2 r writes old
  have h2 : WfMem d2 := by
    unfold d2
    split
    · exact h1
    · exact wfMem_of_mem_eq (modConn_mem ..) h1
  clear_value old r d2
  split
  · exact pump_wfMem _ (wfMem_of_mem_eq ((dropBuf_mem ..).trans (setReq_mem ..)) h2)
  extract_lets +onlyGivenNames d3 home d4
  have h3 : WfMem d3 := by
    refine wfMem_of_mem_eq (addReq_mem ..) ?_
    split
    · exact wfMem_of_mem_eq (bump_mem ..) h2
    · exact h2
  clear_value d3
  refine pump_wfMem _ ?_
  unfold d4
  split
  · exact wfMem_of_mem_eq (setReq_mem ..) h3
  split
  · exact wfMem_of_mem_eq (setReq_mem ..) h3
  split
  · exact wfMem_of_mem_eq (setReq_mem ..) h3
  split
  · split
    · exact wfMem_of_mem_eq ((claimTurn_mem ..).trans ((claimSeen_mem ..).trans (setReq_mem ..))) h3
    · exact wfMem_of_mem_eq (retryMirror_mem ..) h3
  · exact wfMem_of_mem_eq (setReq_mem ..) h3

theorem mirrorFrame_wfMem (d : Dev) (p : Pkt) (op : OpKind) (kind : ReqKind) (chamber off len : Nat) (data : List Byte) (digest : Nat) (fits : Bool) (h : WfMem d) :
    WfMem (mirrorFrame d p op kind chamber off len data digest fits) := by
  unfold mirrorFrame
  split
  · exact h
  refine receive_wfMem (fun e k he => ?_) (fun e k he => ?_) h
  · split
    · exact takeMirror_wfMem _ _ _ _ _ _ _ _ _ _ he
    · exact he
  · split
    · exact takeMirror_wfMem _ _ _ _ _ _ _ _ _ _ he
    · exact wfMem_of_mem_eq (fatalNak_mem ..) he

theorem mirrorWrite_wfMem (d : Dev) (p : Pkt) (a : ChmAddr) (data : List Byte) (copy : Bool) (h : WfMem d) : WfMem (mirrorWrite d p a data copy) := by
  grind [mirrorWrite, WfMem, wholeDone_mem, mirrorFrame_wfMem]

theorem promotionHint_wfMem (d : Dev) (p : Pkt) (chamber page : Nat) (h : WfMem d) : WfMem (promotionHint d p chamber page) := by
  grind [promotionHint, WfMem, startPromo_mem, mirrorFrame_wfMem]

theorem mirrorImm_wfMem (d : Dev) (p : Pkt) (imm : Nat) (a : ChmAddr) (data : List Byte) (h : WfMem d) : WfMem (mirrorImm d p imm a data) := by
  grind [mirrorImm, WfMem, mirrorFrame_wfMem, promotionHint_wfMem]

theorem lineRepairRequest_wfMem (d : Dev) (p : Pkt) (chamber page : Nat) (line : Option Nat) (h : WfMem d) : WfMem (lineRepairRequest d p chamber page line) := by
  unfold lineRepairRequest
  split
  · exact mirrorFrame_wfMem _ _ _ _ _ _ _ _ _ _ h
  extract_lets +onlyGivenNames x
  have hx : WfMem x := mirrorFrame_wfMem _ _ _ _ _ _ _ _ _ _ h
  clear_value x
  split
  · exact wfMem_of_mem_eq (takeBack_mem ..) hx
  · exact hx

theorem ackedOne_wfMem (d : Dev) (k : Nat) (s : Sent) (h : WfMem d) : WfMem (ackedOne d k s) := by
  grind [ackedOne, WfMem, setPart_mem, copyAcked_wfMem]

theorem ackUpTo_wfMem (d : Dev) (k psn : Nat) (by_ : Covering) (h : WfMem d) : WfMem (ackUpTo d k psn by_) := by
  have hadv := wfMem_of_mem_eq (ackAdvance_mem d k psn by_) h
  unfold ackUpTo
  generalize ackAdvance d k psn by_ = x at hadv
  exact wfMem_ite (pump_wfMem _ (wfMem_forEach (fun e s he => ackedOne_wfMem e k s he) hadv)) h

theorem acknowledge_wfMem (d : Dev) (k psn hops : Nat) (h : WfMem d) : WfMem (acknowledge d k psn hops) := by
  grind [acknowledge, WfMem, ackUpTo_wfMem]

theorem mirrorAcknowledge_wfMem (d : Dev) (k psn hops claim : Nat) (h : WfMem d) : WfMem (mirrorAcknowledge d k psn hops claim) := by
  grind [mirrorAcknowledge, WfMem, custodyTurn_wfMem, claimSeen_mem, ackUpTo_wfMem]

theorem resyncCopyAck_wfMem (d : Dev) (k psn hops claim : Nat) (h : WfMem d) : WfMem (resyncCopyAck d k psn hops claim) := by
  grind [resyncCopyAck, WfMem, custodyTurn_wfMem, claimSeen_mem, ackUpTo_wfMem]

theorem seqNak_wfMem (d : Dev) (k psn : Nat) (h : WfMem d) : WfMem (seqNak d k psn) := by
  grind [seqNak, WfMem, setConn_mem, retransmit_mem, ackUpTo_wfMem]

theorem nakReceived_wfMem (d : Dev) (k syndrome psn : Nat) (h : WfMem d) : WfMem (nakReceived d k syndrome psn) := by
  grind [nakReceived, WfMem, connError_mem, ackUpTo_wfMem, rnrWait_mem, seqNak_wfMem]

theorem refusedOne_wfMem (d : Dev) (k : Nat) (s : Sent) (status : Nat) (h : WfMem d) : WfMem (refusedOne d k s status) := by
  grind [refusedOne, WfMem, sealLost_wfMem, setPart_mem]

theorem statusNakReceived_wfMem (d : Dev) (k psn status detail : Nat) (h : WfMem d) : WfMem (statusNakReceived d k psn status detail) := by
  unfold statusNakReceived
  extract_lets +onlyGivenNames c
  split
  · exact h
  extract_lets +onlyGivenNames d1 st
  have h1 : WfMem d1 := by
    unfold d1
    split
    · exact wfMem_of_mem_eq (bump_mem ..) h
    · exact h
  clear_value d1
  split
  · exact wfMem_of_mem_eq (rnrWait_mem ..) (ackUpTo_wfMem _ _ _ _ h1)
  split
  · exact wfMem_of_mem_eq (retransmit_mem ..) (ackUpTo_wfMem _ _ _ _ h1)
  split
  · exact h1
  extract_lets +onlyGivenNames e
  have hadv := wfMem_of_mem_eq (ackAdvance_mem d1 k (psnMod (e.psn + e.pkts + 2 ^ 24 - 1)) .nak) h1
  generalize ackAdvance d1 k (psnMod (e.psn + e.pkts + 2 ^ 24 - 1)) .nak = x at hadv
  exact custodyTurn_wfMem _ (pump_wfMem _ (refusedOne_wfMem _ _ _ _ (wfMem_forEach (fun e x he => ackedOne_wfMem e k x he) hadv)))

theorem sealAnswer_wfMem (d : Dev) (k : Nat) (data : List Byte) (marks : List Nat) (h : WfMem d) : WfMem (sealAnswer d k data marks) := by
  unfold sealAnswer
  extract_lets +onlyGivenNames c own mine
  split
  · exact sealLost_wfMem _ _ h
  split
  · exact wfMem_of_mem_eq (bump_mem ..) (installPage_wfMem _ _ _ _ h)
  split
  · exact wfMem_of_mem_eq ((askPage_mem ..).trans (askDirty_mem ..)) h
  exact wfMem_of_mem_eq ((logEvent_mem ..).trans (bump_mem ..)) (installPage_wfMem { d with mem := memWrite d.mem (pageAddr k) data } k [] true (memWrite_wf _ _ _ h))

theorem resolvePage_wfMem (d : Dev) (k : Nat) (data : List Byte) (marks : List Nat) (h : WfMem d) : WfMem (resolvePage d k data marks) := by
  have hb := wfMem_of_mem_eq (bringPage_mem d k .plan) h
  unfold resolvePage
  generalize bringPage d k .plan = brought at hb
  extract_lets +onlyGivenNames differs
  split
  · exact h
  split
  · exact h
  split
  · split
    · exact wfMem_of_mem_eq ((askPage_mem ..).trans (askDirty_mem ..)) hb
    · exact wfMem_of_mem_eq ((logEvent_mem ..).trans (bump_mem ..)) (wfMem_forEach (fun e i he => applyBytes_wfMem e k _ _ _ he) hb)
  · exact hb
  · exact wfMem_of_mem_eq (askPage_mem ..) hb

theorem pageAnswer_wfMem (d : Dev) (k : Nat) (data : List Byte) (marks : List Nat) (h : WfMem d) : WfMem (pageAnswer d k data marks) := by
  grind [pageAnswer, WfMem, askPage_mem, sealAnswer_wfMem, resolvePage_wfMem]

theorem lineRepairAnswer_wfMem (d : Dev) (k psn : Nat) (data : List Byte) (pmh : List (Option (BitVec 64))) (h : WfMem d) : WfMem (lineRepairAnswer d k psn data pmh) := by
  unfold lineRepairAnswer
  split
  · exact h
  split
  · exact h
  extract_lets +onlyGivenNames mtu d1
  have h1 : WfMem d1 := ackUpTo_wfMem _ _ _ _ h
  clear_value d1
  split
  · exact pump_wfMem _ (wfMem_of_mem_eq (compareAgain_mem ..) (applyRepair_wfMem _ _ _ _ h1))
  · exact pump_wfMem _ (pageAnswer_wfMem _ _ _ _ h1)
  · exact h1

theorem openService_wfMem (d : Dev) (h : WfMem d) : WfMem (openService d) := by
  grind [openService, WfMem, announce_mem, custodyTurn_wfMem, enterStep_mem]

theorem advance_wfMem (n : Nat) (d : Dev) (h : WfMem d) : WfMem (advance n d) := by
  induction n generalizing d with
  | zero => exact h
  | succ n ih =>
    rw [advance]
    split
    · exact h
    · split
      · exact openService_wfMem d h
      · split
        · exact ih _ (wfMem_of_mem_eq (goStep_mem ..) h)
        · exact h

theorem startProgress_wfMem (d : Dev) (h : WfMem d) : WfMem (startProgress d) := by
  grind [startProgress, WfMem, advance_wfMem]

theorem hostOp_wfMem (d : Dev) (p : Pkt) (op : OpKind) (kind : ReqKind) (r : Reth) (data : List Byte) (arg : Nat × Nat) (errs : List LineErr) (h : WfMem d) :
    WfMem (hostOp d p op kind r data arg errs) := by
  unfold hostOp
  extract_lets n chm
  refine receive_wfMem (fun e k he => ?_) (fun e k he => ?_) h
  · split
    · exact hostRequest_wfMem _ _ _ _ _ _ _ _ _ he
    · exact he
  · split
    · exact hostRequest_wfMem _ _ _ _ _ _ _ _ _ he
    · exact wfMem_of_mem_eq ((fatalNak_mem ..).trans (bump_mem ..)) he

theorem hostWrite_wfMem (d : Dev) (p : Pkt) (r : Reth) (data : List Byte) (h : WfMem d) : WfMem (hostWrite d p r data) := by
  grind [hostWrite, WfMem, hostOp_wfMem]

theorem sendTaken_wfMem (d : Dev) (p : Pkt) (k n : Nat) (h : WfMem d) : WfMem (sendTaken d p k n) := by
  grind [sendTaken, WfMem, modConn_mem, addReq_mem, pump_wfMem]

theorem sendReceived_wfMem (d : Dev) (p : Pkt) (bytes : Nat) (h : WfMem d) : WfMem (sendReceived d p bytes) := by
  unfold sendReceived
  extract_lets +onlyGivenNames n
  refine receive_wfMem (fun e k he => he) (fun e k he => ?_) h
  extract_lets +onlyGivenNames a
  split
  · exact wfMem_of_mem_eq ((fatalNak_mem ..).trans (bump_mem ..)) he
  split
  · exact wfMem_of_mem_eq (sendBusy_mem ..) he
  split
  · exact wfMem_of_mem_eq (sendBusyPool_mem ..) he
  · exact hostBuf_wfMem (fun e he => sendTaken_wfMem _ _ _ _ he) he

theorem runRequest_wfMem (d : Dev) (p : Pkt) (b : ReqBody) (h : WfMem d) : WfMem (runRequest d p b) := by
  unfold runRequest
  cases b with
  | write r data => exact hostWrite_wfMem _ _ _ _ h
  | read r errs => exact hostOp_wfMem _ _ _ _ _ _ _ _ h
  | cas r compare swap errs => exact hostOp_wfMem _ _ _ _ _ _ _ _ h
  | faa r add errs => exact hostOp_wfMem _ _ _ _ _ _ _ _ h
  | send bytes => exact sendReceived_wfMem _ _ _ h
  | commit r => exact hostOp_wfMem _ _ _ _ _ _ _ _ h
  | bulk kind pl => exact bulkCommand_wfMem _ _ _ _ h
  | bulkAbort tag ok => exact bulkAbort_wfMem _ _ _ _ h
  | mirrorWrite a data copy => exact wfMem_of_mem_eq (twinWake_mem ..) (mirrorWrite_wfMem _ _ _ _ _ h)
  | mirrorImm imm a data => exact wfMem_of_mem_eq (twinWake_mem ..) (mirrorImm_wfMem _ _ _ _ _ h)
  | repair ch page line => exact wfMem_of_mem_eq (twinWake_mem ..) (lineRepairRequest_wfMem _ _ _ _ _ h)

theorem nakClaim_wfMem (d : Dev) (k claim : Nat) (h : WfMem d) : WfMem (nakClaim d k claim) := by
  grind [nakClaim, WfMem, custodyTurn_wfMem, claimSeen_mem]

theorem runResponse_wfMem (d : Dev) (hd : RspPkt) (b : RspBody) (h : WfMem d) : WfMem (runResponse d hd b) := by
  cases b with
  | ack k psn => exact acknowledge_wfMem _ _ _ _ h
  | nak k syn psn => exact nakClaim_wfMem _ _ _ (nakReceived_wfMem _ _ _ _ h)
  | statusNak k psn st detail =>
    have hs : WfMem (nakClaim (statusNakReceived d k.val psn.toNat st.toNat detail.toNat) k.val (rspClaim hd)) := nakClaim_wfMem _ _ _ (statusNakReceived_wfMem _ _ _ _ _ h)
    unfold runResponse
    dsimp only
    split
    · exact wfMem_of_mem_eq (queryMode_mem ..) hs
    · exact hs
  | cnp => exact wfMem_of_mem_eq (congestionNotification_mem ..) h
  | mirrorAck k psn => exact mirrorAcknowledge_wfMem _ _ _ _ _ h
  | copyAck k psn => exact resyncCopyAck_wfMem _ _ _ _ _ h
  | repairAns k psn data pmh => exact lineRepairAnswer_wfMem _ _ _ _ _ h

theorem takeResponse_wfMem (d : Dev) (hd : RspPkt) (b : RspBody) (h : WfMem d) : WfMem (takeResponse d hd b) := by
  unfold takeResponse
  split
  · exact wfMem_of_mem_eq (bump_mem ..) h
  split
  · exact runResponse_wfMem _ _ _ h
  split
  · exact wfMem_of_mem_eq (bump_mem ..) h
  split
  · exact h
  split
  · exact wfMem_of_mem_eq (bump_mem ..) h
  · exact runResponse_wfMem _ _ _ h

theorem runFrame_wfMem (d : Dev) (f : DataFrame) (h : WfMem d) : WfMem (runFrame d f) := by
  have hcount : ∀ (b : Prop) [Decidable b] p, WfMem (if b then bump d .PORT_CNG_CNT p 7 else d) := by
    intro b _ p
    split
    · exact wfMem_of_mem_eq (bump_mem ..) h
    · exact h
  unfold runFrame
  split
  · exact h
  cases f with
  | req p b =>
    dsimp only
    split
    · exact wfMem_of_mem_eq (badFrame_mem ..) h
    split
    · exact runRequest_wfMem _ _ _ (wfMem_of_mem_eq (learnHost_mem ..) h)
    · exact wfMem_of_mem_eq ((forwardFrame_mem ..).trans (countPcp_mem ..)) h
  | rsp hd b =>
    dsimp only
    split
    · exact runResponse_wfMem _ _ _ h
    split
    · exact wfMem_of_mem_eq (badFrame_mem ..) h
    · exact takeResponse_wfMem _ _ _ (wfMem_of_mem_eq (learnHost_mem ..) (hcount _ _))
  | fwd f => exact wfMem_of_mem_eq (forwardFrame_mem ..) (hcount _ _)

theorem releaseHeld_wfMem (d : Dev) (go : HeldFrame → Bool) (h : WfMem d) : WfMem (releaseHeld d go) :=
  wfMem_forEach (fun e f he => runFrame_wfMem e f.frame he) h

theorem proveSettle_wfMem (d : Dev) (h : WfMem d) : WfMem (proveSettle d) := by
  grind [proveSettle, WfMem, releaseHeld_wfMem]

theorem fenceSettle_wfMem (d : Dev) (h : WfMem d) : WfMem (fenceSettle d) := by
  grind [fenceSettle, WfMem, pump_wfMem]

theorem impairTurn_wfMem (d : Dev) (h : WfMem d) : WfMem (impairTurn d) := by
  grind [impairTurn, WfMem, selfDiagnose_wfMem]

/-- All that follows by itself after a command keeps memory well-formed. -/
theorem afterStep_wfMem (d : Dev) (h : WfMem d) : WfMem (afterStep d) := by
  have hfull : WfMem (fullTurn (frameTurn (fenceSettle (fallNow d)))) := wfMem_of_mem_eq (fullTurn_mem _) (frameTurn_wfMem _ (fenceSettle_wfMem _ (fallNow_wfMem d h)))
  have himpair := impairTurn_wfMem _ (wfMem_of_mem_eq (statesTurn_mem _) hfull)
  have hstart := startProgress_wfMem _ (proveSettle_wfMem _ (wfMem_of_mem_eq (drainAll_mem _) himpair))
  unfold afterStep
  exact wfMem_of_mem_eq ((keyTurn_mem _).trans ((vaultNext_mem _).trans ((dozeAll_mem _).trans (leaderCheck_mem _)))) hstart

end Sys2Proof.Machine
end

section
/-!
SUPPORT. Host writes and atomics into a device whose frame table is out of order (spec/03_chambers.md R59, R60).
-/
namespace Sys2Proof.Machine
open Sys2Proof

/-- A request frame of a host on port 0, at the PSN that connection 1 expects. -/
def hostPkt (op : BitVec 8) : Pkt := ⟨0, 3, .plain, 200, true, 4791, 0x99, 0xA100000000000000, 2, 64, op, 0x40001, 5, true, some (oxhOf 3 false false false false 0 0 1 0 1 50), []⟩

/-- A device in SERVICE whose connection 1 may change chamber 3 under key 2, with room for two more dirty lines in the home cell of the chamber's page 3. That page is MODIFIED in slot 0; the frame of
page 4 stands before it in the table, against the order of keys. Memory lists the byte at a with the value 0. -/
def swappedFrames (a : Nat) : Dev :=
  let d : Dev :=
    { pwr := { state := .service, inputGood := true }, ldr := { step := 15, ident := ⟨0, some 2, 4, 4⟩ }, hbm := [(0, { st := .online })], med := [(0, { st := .online })],
      chm := { chambers := [(3, { state := .active, cls := .localC, owner := 0, comp := false, xts := 0, set := 0, pref := 0, pages := 8 })],
               keys := [(2, { state := .live, gen := 1, chamber := 3, base := 12, len := 8, rd := true, wr := true, at_ := true, ps := true })] },
      fab := { topo := ⟨[4], [⟨0, 1, 1, 1, 2⟩, ⟨0, 2, 2, 2, 3⟩], 5⟩ }, ports := [(0, { link := .up })],
      conns := [(1, { state := .ready, gen := 1, version := 3, epsn := 5, npsn := 3, remoteQpn := 99, addr := 0x99 })],
      tier := { frames := [(pageKey 3 4, { slot := 1, st := .clean }), (pageKey 3 3, { slot := 0, st := .modified, lines := [2], firstMod := 5 })] },
      per := { dirtyCredit := [(0, 2)], sump := [(0, ({ state := .armed }, {}))] }, mem := [(a, 0)] }
  setReg d .FAB_PORT_ROLE 0 0 0x321

/-- An RDMA WRITE of bytes 16380 to 16383 of the key's range, the last of page 3 of chamber 3. -/
def lastBytes : Reth := ⟨0x201, 16380, 4⟩

theorem does_rdmaWrite (s : State) (p : Pkt) (r : Reth) (data : List Byte) : Does (.rdmaWrite p r data) s (frameIn s.dev (.req p (.write r data))) :=
  does_run _ s (fun d => frameIn d (.req p (.write r data))) rfl

/-- The write waits for dirty space: the page's frame is found where the table was searched, and put at a second place, so that its dirty lines count twice. The byte 0 stays listed. -/
theorem write_swappedFrames_waits : ¬ WfMem (afterStep (frameIn (swappedFrames (chmAddr 3 65532)) (.req (hostPkt 0xCA) (.write lastBytes [1, 2, 3, 4])))) := by
  unfold WfMem
  decide +kernel

/-- Refutes O18: in a device whose frame table is not in order of its keys, an admitted write of four bytes waits. The memory that O18 asks for is well-formed and stays so; the device's is not. -/
theorem not_hostWrites : ¬ Obligations.HostWrites := by
  intro h
  obtain ⟨e, hdoes, hmem, -⟩ := h ⟨swappedFrames (chmAddr 3 65532), []⟩ (hostPkt 0xCA) lastBytes [1, 2, 3, 4]
    { state := .active, cls := .localC, owner := 0, comp := false, xts := 0, set := 0, pref := 0, pages := 8 } { slot := 0, st := .modified, lines := [2], firstMod := 5 }
    (by decide +kernel) (by decide +kernel) (by decide +kernel) (by decide +kernel) (by decide +kernel) (by decide +kernel) (by decide +kernel) (by decide +kernel)
  have hwf : WfMem (afterStep e) := by
    refine afterStep_wfMem e ?_
    unfold WfMem
    rw [hmem]
    decide +kernel
  rw [does_unique hdoes (does_rdmaWrite ..)] at hwf
  exact write_swappedFrames_waits hwf

/-- A COMPARE AND SWAP of the last eight bytes of page 3 of chamber 3. -/
def lastWord : Reth := ⟨0x201, 16376, 8⟩

theorem does_compareAndSwap (s : State) (p : Pkt) (r : Reth) (cmp swp : BitVec 64) : Does (.compareAndSwap p r cmp swp []) s (frameIn s.dev (.req p (.cas r cmp swp []))) :=
  does_run _ s (fun d => frameIn d (.req p (.cas r cmp swp []))) rfl

theorem cas_swappedFrames_waits : ¬ WfMem (afterStep (frameIn (swappedFrames (chmAddr 3 65528)) (.req (hostPkt 0xD3) (.cas lastWord 0 7 [])))) := by
  unfold WfMem
  decide +kernel

/-- Refutes O20, as O18 is refuted: a COMPARE AND SWAP whose compare value equals the eight bytes waits for dirty space and stores nothing. -/
theorem not_hostAtomics : ¬ Obligations.HostAtomics := by
  intro h
  obtain ⟨hcas, -⟩ := h ⟨swappedFrames (chmAddr 3 65528), []⟩ (hostPkt 0xD3) lastWord
    { state := .active, cls := .localC, owner := 0, comp := false, xts := 0, set := 0, pref := 0, pages := 8 } { slot := 0, st := .modified, lines := [2], firstMod := 5 }
  obtain ⟨e, hdoes, hmem, -⟩ := hcas 0 7 (by decide +kernel) (by decide +kernel) (by decide +kernel) (by decide +kernel) (by decide +kernel) (by decide +kernel)
    (by decide +kernel) (by decide +kernel) (by decide +kernel)
  have hwf : WfMem (afterStep e) := by
    refine afterStep_wfMem e ?_
    unfold WfMem
    rw [hmem]
    decide +kernel
  rw [does_unique hdoes (does_compareAndSwap ..)] at hwf
  exact cas_swappedFrames_waits hwf

end Sys2Proof.Machine
end

section
/-!
SUPPORT. What the functions on an answer's way leave as it is, and a frame on its way out (spec/04_memory_transport.md R86, spec/06_federation_fabric.md R93, R103, R111).
-/
namespace Sys2Proof.Machine
open Sys2Proof

/-! ### A device that stands as to its connections, hosts, requests and the frames at its ports -/

/-- e serves the connections, hosts, keys and requests that d does and holds the same bytes, its ports stand as to link, fence and waiting frames, and no frame that had left is missing. -/
structure Steady (d e : Dev) : Prop where
  conns : e.conns = d.conns
  hosts : e.fab.hosts = d.fab.hosts
  pwr : e.pwr = d.pwr
  ident : e.ldr.ident = d.ldr.ident
  reqs : e.reqs = d.reqs
  keys : e.chm.keys = d.chm.keys
  chambers : e.chm.chambers = d.chm.chambers
  snap : e.snap = d.snap
  mem : e.mem = d.mem
  out : ∃ l, e.out = d.out ++ l
  ports : ∀ p, (getPort e p).link = (getPort d p).link ∧ (getPort e p).fence = (getPort d p).fence ∧ (getPort e p).queue = (getPort d p).queue

theorem Steady.refl (d : Dev) : Steady d d := ⟨rfl, rfl, rfl, rfl, rfl, rfl, rfl, rfl, rfl, ⟨[], (List.append_nil _).symm⟩, fun _ => ⟨rfl, rfl, rfl⟩⟩

theorem Steady.trans {d e f : Dev} (h : Steady d e) (h' : Steady e f) : Steady d f where
  conns := h'.conns.trans h.conns
  hosts := h'.hosts.trans h.hosts
  pwr := h'.pwr.trans h.pwr
  ident := h'.ident.trans h.ident
  reqs := h'.reqs.trans h.reqs
  keys := h'.keys.trans h.keys
  chambers := h'.chambers.trans h.chambers
  snap := h'.snap.trans h.snap
  mem := h'.mem.trans h.mem
  out := by
    obtain ⟨l, hl⟩ := h.out
    obtain ⟨l', hl'⟩ := h'.out
    exact ⟨l ++ l', by rw [hl', hl, List.append_assoc]⟩
  ports p := ⟨(h'.ports p).1.trans (h.ports p).1, (h'.ports p).2.1.trans (h.ports p).2.1, (h'.ports p).2.2.trans (h.ports p).2.2⟩

theorem steady_ite {P : Prop} [Decidable P] {d x y : Dev} (hx : Steady d x) (hy : Steady d y) : Steady d (if P then x else y) := by
  split
  · exact hx
  · exact hy

theorem steady_forEach {α : Type} {f : Dev → α → Dev} (hf : ∀ e x, Steady e (f e x)) (l : List α) (d : Dev) : Steady d (forEach l d f) := by
  induction l generalizing d with
  | nil => exact .refl d
  | cons x l ih => exact (hf d x).trans (ih (f d x))

theorem steady_setReg (d : Dev) (r : RegId) (c i : Nat) (v : Word) : Steady d (setReg d r c i v) :=
  ⟨rfl, rfl, rfl, rfl, rfl, rfl, rfl, rfl, rfl, ⟨[], (List.append_nil _).symm⟩, fun _ => ⟨rfl, rfl, rfl⟩⟩

theorem steady_bump (d : Dev) (r : RegId) (c i : Nat) : Steady d (bump d r c i) := steady_setReg ..

theorem steady_send (d : Dev) (o : Out) : Steady d (send d o) := ⟨rfl, rfl, rfl, rfl, rfl, rfl, rfl, rfl, rfl, ⟨[o], rfl⟩, fun _ => ⟨rfl, rfl, rfl⟩⟩

theorem getPort_setPort_ne (d : Dev) {p q : Nat} (v : Port) (h : q ≠ p) : getPort (setPort d p v) q = getPort d q := ngetD_nset_ne _ _ _ _ _ h

theorem steady_setPort (d : Dev) (p : Nat) (v : Port) (hl : v.link = (getPort d p).link) (hf : v.fence = (getPort d p).fence) (hq : v.queue = (getPort d p).queue) : Steady d (setPort d p v) := by
  refine ⟨rfl, rfl, rfl, rfl, rfl, rfl, rfl, rfl, rfl, ⟨[], (List.append_nil _).symm⟩, fun q => ?_⟩
  by_cases h : q = p
  · subst h
    rw [getPort_setPort_same]
    exact ⟨hl, hf, hq⟩
  · rw [getPort_setPort_ne d v h]
    exact ⟨rfl, rfl, rfl⟩

theorem steady_pfcGroup (c : Nat) (d : Dev) (g : Nat) : Steady d (pfcGroup c d g) := by
  obtain ⟨-, -, e⟩ | ⟨-, -, e⟩ | ⟨-, e⟩ := pfcGroup_cases c d g <;> rw [e]
  · refine .trans ?_ (steady_send ..)
    exact steady_setPort d c _ rfl rfl rfl
  · refine .trans (.trans ?_ (steady_send ..)) (steady_bump ..)
    exact steady_setPort d c _ rfl rfl rfl
  · exact .refl d

theorem steady_pfcUpdate (d : Dev) (c : Nat) : Steady d (pfcUpdate d c) := steady_ite (steady_forEach (steady_pfcGroup c) [0, 1, 2] d) (.refl d)

theorem steady_journalAdd (d : Dev) (r : LogRec) : Steady d (journalAdd d r) := by
  unfold journalAdd
  refine steady_ite (steady_ite ?_ ((?_ : Steady d _).trans (steady_bump ..))) (.refl d)
  all_goals exact ⟨rfl, rfl, rfl, rfl, rfl, rfl, rfl, rfl, rfl, ⟨[], (List.append_nil _).symm⟩, fun _ => ⟨rfl, rfl, rfl⟩⟩

/-- A change of nothing that matters to a connection, a host, a request or a port. -/
theorem steady_of_eq {d e : Dev} (hconns : e.conns = d.conns) (hhosts : e.fab.hosts = d.fab.hosts) (hpwr : e.pwr = d.pwr) (hident : e.ldr.ident = d.ldr.ident) (hreqs : e.reqs = d.reqs)
    (hkeys : e.chm.keys = d.chm.keys) (hchambers : e.chm.chambers = d.chm.chambers) (hsnap : e.snap = d.snap) (hmem : e.mem = d.mem) (hout : e.out = d.out) (hports : e.ports = d.ports) : Steady d e :=
  ⟨hconns, hhosts, hpwr, hident, hreqs, hkeys, hchambers, hsnap, hmem, ⟨[], by rw [hout, List.append_nil]⟩, fun p => by rw [getPort_of e d p hports]; exact ⟨rfl, rfl, rfl⟩⟩

theorem steady_logRecord (d : Dev) (sev cls cause unit requester reqCell access : Nat) (merged : Bool) (addr : Nat) (detail : List Nat) :
    Steady d (logRecord d sev cls cause unit requester reqCell access merged addr detail) := by
  unfold logRecord
  extract_lets +onlyGivenNames d1 r src d2
  have h2 : Steady d d2 := steady_of_eq rfl rfl rfl rfl rfl rfl rfl rfl rfl rfl rfl
  clear_value d2
  split
  · exact (h2.trans (steady_bump ..)).trans (steady_journalAdd ..)
  · refine h2.trans (.trans (.trans ?_ (steady_bump ..)) (steady_journalAdd ..))
    exact steady_of_eq rfl rfl rfl rfl rfl rfl rfl rfl rfl rfl rfl

theorem steady_capture (d : Dev) (x : Capture) : Steady d (capture d x) := by
  unfold capture
  dsimp only
  split <;> exact steady_of_eq rfl rfl rfl rfl rfl rfl rfl rfl rfl rfl rfl

/-- A fault of a class below 3 stops nothing. -/
theorem steady_raise (d : Dev) (e : FaultEvt) (act : SevereAct) (h : e.cls < 3) : Steady d (raise d e act) := by
  unfold raise
  extract_lets +onlyGivenNames d1 d2 d3 caught merged d4 sev d5
  have h3 : Steady d d3 := steady_of_eq rfl rfl rfl rfl rfl rfl rfl rfl rfl rfl rfl
  have h4 : Steady d3 d4 := steady_ite (steady_capture ..) (.refl _)
  have h5 : Steady d4 d5 := steady_ite (.refl _) (steady_logRecord ..)
  rw [if_neg (Nat.not_le.mpr h)]
  exact (h3.trans h4).trans h5

theorem steady_fenceCell (d : Dev) (c cause : Nat) : Steady d (fenceCell d c cause) := steady_ite (.refl d) (steady_of_eq rfl rfl rfl rfl rfl rfl rfl rfl rfl rfl rfl)

theorem steady_setBufs (d : Dev) (m : NMap Buf) : Steady d { d with res.bufs := m } := steady_of_eq rfl rfl rfl rfl rfl rfl rfl rfl rfl rfl rfl

theorem steady_dropRef (d : Dev) (id : Nat) : Steady d (dropRef d id) := by
  have hunder : ∀ (b : Buf) (x : FaultEvt), x.cls < 3 → Steady d (raise (fenceCell { d with res.bufs := nset d.res.bufs id b } (bufCell id) 0x07) x) := fun b x hx =>
    ((steady_setBufs d _).trans (steady_fenceCell ..)).trans (steady_raise _ _ _ hx)
  unfold dropRef
  dsimp only
  split
  · exact hunder _ _ (Nat.lt_succ_self 2)
  · exact steady_ite (hunder _ _ (Nat.lt_succ_self 2)) (steady_ite ((steady_setBufs d _).trans (steady_pfcUpdate ..)) (steady_setBufs d _))

theorem steady_dropBuf (d : Dev) (b : Option Nat) : Steady d (dropBuf d b) := by
  cases b with
  | none => exact .refl d
  | some id => exact steady_dropRef d id

theorem steady_takeBuf (d : Dev) (c pool size requester : Nat) : Steady d (takeBuf d c pool size requester).1 := by
  unfold takeBuf
  generalize freeBuf d c pool = id
  exact ((steady_setBufs d _).trans (steady_ite (.refl _) (steady_bump ..))).trans (steady_pfcUpdate ..)

theorem steady_takePieces {n : Nat} {d : Dev} {c size who : Nat} {reserve : Bool} {x : Dev × Nat} (h : takePieces n d c size who reserve = some x) : Steady d x.1 := by
  induction n generalizing d size with
  | zero =>
    obtain ⟨p, -, rfl⟩ := Option.map_eq_some_iff.mp h
    exact steady_takeBuf d c p 1 who
  | succ n ih =>
    rw [takePieces] at h
    dsimp only at h
    split at h
    · cases h
    · split at h
      · cases h
        exact steady_takeBuf ..
      · exact ((steady_takeBuf ..).trans (steady_dropRef ..)).trans (ih h)

theorem steady_takeBufs {d : Dev} {c size who : Nat} {reserve : Bool} {x : Dev × Nat} (h : takeBufs d c size who reserve = some x) : Steady d x.1 := steady_takePieces h

theorem steady_failCheck (d : Dev) (c : Nat) (x : Bool) (i status key qpn : Nat) : Steady d (failCheck d c x i status key qpn) :=
  ((steady_bump ..).trans (steady_setReg ..)).trans (steady_setReg ..)

theorem steady_cacheKey (d : Dev) (c idx : Nat) : Steady d (cacheKey d c idx) := by
  unfold cacheKey
  dsimp only
  refine .trans (steady_ite (P := (ngetD d.chm.kcache c []).contains idx) (.refl d) (steady_bump d .CELL_KEYCHK_CNT c 7)) ?_
  exact steady_of_eq rfl rfl rfl rfl rfl rfl rfl rfl rfl rfl rfl

end Sys2Proof.Machine
end

section
/-!
SUPPORT. A frame that has joined a port's queue is there until it has left (spec/05_congestion.md R93, spec/06_federation_fabric.md R103).
-/
namespace Sys2Proof.Machine
open Sys2Proof

/-- What is said of a frame does not depend on when it leaves. -/
def AnyTime (F : Out → Prop) : Prop := ∀ t o, F o → F (sentAt t o)

theorem mem_eraseP_of_find? {α : Type} {f : α → Bool} {l : List α} {a b : α} (hfind : l.find? f = some a) (hb : b ∈ l) (hne : b ≠ a) : b ∈ l.eraseP f := by
  induction l with
  | nil => exact absurd hb List.not_mem_nil
  | cons x l ih =>
    cases hx : f x with
    | true =>
      rw [List.find?_cons_of_pos hx, Option.some.injEq] at hfind
      rw [List.eraseP_cons_of_pos hx]
      exact List.mem_of_ne_of_mem (hfind ▸ hne) hb
    | false =>
      rw [List.find?_cons_of_neg (by simp [hx])] at hfind
      rw [List.eraseP_cons_of_neg (by simp [hx])]
      obtain rfl | hl := List.mem_cons.mp hb
      · exact List.mem_cons_self
      · exact List.mem_cons_of_mem x (ih hfind hl)

variable {F : Out → Prop}

theorem sentOut_steady {d e : Dev} (h : Steady d e) (hs : SentOut d F) : SentOut e F := by
  obtain ⟨o, ho, hF⟩ | ⟨p, q, hq, hF⟩ := hs
  · obtain ⟨l, hl⟩ := h.out
    exact .inl ⟨o, hl ▸ List.mem_append_left l ho, hF⟩
  · exact .inr ⟨p, q, (h.ports p).2.2 ▸ hq, hF⟩

theorem sentOut_modPort {d : Dev} {p : Nat} {f : Port → Port} (hqueue : (f (getPort d p)).queue = (getPort d p).queue) (hs : SentOut d F) : SentOut (modPort d p f) F := by
  obtain ⟨o, ho, hF⟩ | ⟨p', q, hq, hF⟩ := hs
  · exact .inl ⟨o, ho, hF⟩
  · refine .inr ⟨p', q, ?_, hF⟩
    by_cases h : p' = p
    · subst h
      rw [modPort, getPort_setPort_same, hqueue]
      exact hq
    · rw [modPort, getPort_setPort_ne d _ h]
      exact hq

@[simp] theorem getPort_send (d : Dev) (o : Out) (p : Nat) : getPort (send d o) p = getPort d p := rfl

/-- The first frame of a PCP leaves: it is out, and every other frame is where it was. -/
theorem sentOut_emit {d : Dev} {p : Nat} {e : Egress} (hF : AnyTime F) (he : (getPort d p).queue.find? (fun x => x.pcp == e.pcp) = some e) (hs : SentOut d F) : SentOut (emit d p e) F := by
  refine sentOut_steady (steady_dropBuf ..) ?_
  obtain ⟨o, ho, hFo⟩ | ⟨p', q, hq, hFq⟩ := hs
  · exact .inl ⟨o, List.mem_append_left _ ho, hFo⟩
  · by_cases hqe : q = e
    · subst hqe
      exact .inl ⟨sentAt (fedTime d) q.frame, List.mem_append_right _ (List.mem_singleton_self _), hF _ _ hFq⟩
    · refine .inr ⟨p', q, ?_, hFq⟩
      by_cases h : p' = p
      · subst h
        rw [getPort_send, modPort, getPort_setPort_same]
        exact mem_eraseP_of_find? he hq hqe
      · rw [getPort_send, modPort, getPort_setPort_ne d _ h]
        exact hq

theorem pcp_of_find? {l : List Egress} {pcp : Nat} {e : Egress} (h : l.find? (fun x => x.pcp == pcp) = some e) : l.find? (fun x => x.pcp == e.pcp) = some e := by
  have hpcp : e.pcp = pcp := by simpa using List.find?_some h
  rw [hpcp]
  exact h

theorem sentOut_drainCtrl (n : Nat) {d : Dev} {p : Nat} (hF : AnyTime F) (hs : SentOut d F) : SentOut (drainCtrl n d p) F := by
  induction n generalizing d with
  | zero => exact hs
  | succ n ih =>
    rw [drainCtrl]
    split
    · exact hs
    · rename_i e he
      split
      · refine ih (sentOut_emit hF ?_ (sentOut_modPort rfl hs))
        rw [modPort, getPort_setPort_same]
        exact pcp_of_find? he
      · exact hs

theorem sentOut_drrTurn (n : Nat) {d : Dev} {p pcp : Nat} (hF : AnyTime F) (hs : SentOut d F) : SentOut (drrTurn n d p pcp) F := by
  induction n generalizing d with
  | zero => exact hs
  | succ n ih =>
    rw [drrTurn]
    split
    · exact sentOut_modPort rfl hs
    · rename_i e he
      dsimp only
      split
      · refine ih (sentOut_emit hF ?_ (sentOut_modPort rfl hs))
        rw [modPort, getPort_setPort_same]
        exact pcp_of_find? he
      · exact hs

theorem sentOut_forEach {α : Type} {f : Dev → α → Dev} (hf : ∀ e x, SentOut e F → SentOut (f e x) F) {l : List α} {d : Dev} (hs : SentOut d F) : SentOut (forEach l d f) F := by
  induction l generalizing d with
  | nil => exact hs
  | cons x l ih => exact ih (hf d x hs)

theorem sentOut_drrRounds (n : Nat) {d : Dev} {p : Nat} (hF : AnyTime F) (hs : SentOut d F) : SentOut (drrRounds n d p) F := by
  induction n generalizing d with
  | zero => exact hs
  | succ n ih =>
    rw [drrRounds]
    split
    · exact hs
    · refine ih (sentOut_forEach (fun e pcp he => ?_) hs)
      split
      · exact he
      · exact sentOut_drrTurn _ hF (sentOut_modPort rfl he)

theorem sentOut_drainPort {d : Dev} {p : Nat} (hF : AnyTime F) (hs : SentOut d F) : SentOut (drainPort d p) F := by
  have hctrl := sentOut_drainCtrl (getPort d p).queue.length (p := p) hF hs
  unfold drainPort
  split
  · exact hs
  · dsimp only
    split
    · exact sentOut_drrRounds _ hF hctrl
    · exact hctrl

theorem sentOut_carried {d : Dev} {p pcp : Nat} (hs : SentOut d F) : SentOut (carried d p pcp) F := by
  unfold carried
  split
  · exact hs
  · exact sentOut_modPort rfl hs

/-- A frame given to a port that is up and not fenced is on its way out. -/
theorem sentOut_enqueue {d : Dev} {p pcp bytes : Nat} {frame : Out} {buf : Option Nat} (hF : AnyTime F) (hup : (getPort d p).link = .up) (hfence : (getPort d p).fence = none) (hframe : F frame) :
    SentOut (enqueue d p pcp bytes frame buf) F := by
  unfold enqueue
  rw [hfence, hup]
  dsimp only [Option.isSome_none]
  have hqueued : ∀ (e : Egress), e.frame = frame → SentOut (modPort d p fun q => { q with queue := q.queue ++ [e] }) F := by
    intro e he
    refine .inr ⟨p, e, ?_, he ▸ hframe⟩
    rw [modPort, getPort_setPort_same]
    exact List.mem_append_right _ (List.mem_singleton_self e)
  have hdrained := sentOut_drainPort (p := p) hF (sentOut_carried (p := p) (pcp := pcp) (hqueued ⟨pcp, onWire d p bytes, d.now, frame, buf⟩ rfl))
  rw [if_neg Bool.false_ne_true, if_neg (by decide)]
  split
  · exact sentOut_steady (steady_bump ..) hdrained
  · exact hdrained

/-- A response on a data connection whose host can be answered is on its way out. -/
theorem sentOut_respond {d : Dev} {k extra : Nat} {pmh : Bool} {frame : Wire → Out} (hF : AnyTime F) (hdown : isDown d = false) (hservice : (getConn d k).service = .data) (hreach : Reachable d k)
    (hframe : ∀ w, F (frame w)) : SentOut (respond d k extra pmh frame) F := by
  obtain ⟨hk, hret, p, t, hhost, hup, hfence⟩ := hreach
  have hroute : ∀ qpn pcp, routeOut d (getConn d k).addr (getConn d k).ret qpn pcp = (d, some p) := by
    intro qpn pcp
    simp [routeOut, hret, hhost]
  unfold respond connOut
  simp only [hdown, Bool.false_eq_true, if_false, if_neg (Nat.not_le.mpr hk), hservice, hroute]
  exact sentOut_enqueue hF hup hfence (hframe _)

end Sys2Proof.Machine
end

section
/-!
SUPPORT. A host's write that fails an access check: it is over at once, and its status is on its way out (spec/03_chambers.md R50 to R52, spec/04_memory_transport.md R86).
-/
namespace Sys2Proof.Machine
open Sys2Proof

/-! ### The peer of a connection -/

/-- In e the host of connection k is reached as in d. -/
structure SamePeer (d e : Dev) (k : Nat) : Prop where
  hosts : e.fab.hosts = d.fab.hosts
  pwr : e.pwr = d.pwr
  ident : e.ldr.ident = d.ldr.ident
  ports : ∀ p, (getPort e p).link = (getPort d p).link ∧ (getPort e p).fence = (getPort d p).fence
  ret : (getConn e k).ret = (getConn d k).ret
  addr : (getConn e k).addr = (getConn d k).addr
  service : (getConn e k).service = (getConn d k).service
  version : (getConn e k).version = (getConn d k).version
  state : (getConn e k).state = (getConn d k).state

theorem SamePeer.trans {d e f : Dev} {k : Nat} (h : SamePeer d e k) (h' : SamePeer e f k) : SamePeer d f k where
  hosts := h'.hosts.trans h.hosts
  pwr := h'.pwr.trans h.pwr
  ident := h'.ident.trans h.ident
  ports p := ⟨(h'.ports p).1.trans (h.ports p).1, (h'.ports p).2.trans (h.ports p).2⟩
  ret := h'.ret.trans h.ret
  addr := h'.addr.trans h.addr
  service := h'.service.trans h.service
  version := h'.version.trans h.version
  state := h'.state.trans h.state

theorem Steady.samePeer {d e : Dev} (h : Steady d e) (k : Nat) : SamePeer d e k := by
  have hc : getConn e k = getConn d k := getConn_of _ _ _ h.conns
  exact ⟨h.hosts, h.pwr, h.ident, fun p => ⟨(h.ports p).1, (h.ports p).2.1⟩, by rw [hc], by rw [hc], by rw [hc], by rw [hc], by rw [hc]⟩

theorem samePeer_reqs (d : Dev) (l : List Req) (n k : Nat) : SamePeer d { d with reqs := l, nextReq := n } k := ⟨rfl, rfl, rfl, fun _ => ⟨rfl, rfl⟩, rfl, rfl, rfl, rfl, rfl⟩

theorem samePeer_modConn (d : Dev) (k : Nat) (f : Conn → Conn) (hret : (f (getConn d k)).ret = (getConn d k).ret) (haddr : (f (getConn d k)).addr = (getConn d k).addr)
    (hservice : (f (getConn d k)).service = (getConn d k).service) (hversion : (f (getConn d k)).version = (getConn d k).version) (hstate : (f (getConn d k)).state = (getConn d k).state) :
    SamePeer d (modConn d k f) k := by
  refine ⟨rfl, rfl, rfl, fun _ => ⟨rfl, rfl⟩, ?_, ?_, ?_, ?_, ?_⟩ <;> rw [modConn, getConn_setConn_same] <;> assumption

theorem SamePeer.reachable {d e : Dev} {k : Nat} (h : SamePeer d e k) (hr : Reachable d k) : Reachable e k := by
  obtain ⟨hk, hret, p, t, hhost, hup, hfence⟩ := hr
  refine ⟨hk, ?_, p, t, ?_, (h.ports p).1.trans hup, (h.ports p).2.trans hfence⟩
  · rw [h.ret, hret, ordinal, ordinal, h.ident]
  · rw [h.hosts, h.addr, hhost]

theorem SamePeer.isDown {d e : Dev} {k : Nat} (h : SamePeer d e k) : isDown e = isDown d := by rw [Machine.isDown, Machine.isDown, h.pwr]

/-! ### A status answer -/

/-- A status NAK with a status and no detail. -/
def IsStatus (st : Nat) (o : Out) : Prop := ∃ h y, o = .statusNak h y st 0

theorem anyTime_isStatus (st : Nat) : AnyTime (IsStatus st) := by
  rintro t o ⟨h, y, rfl⟩
  exact ⟨hdrAt t h, y, rfl⟩

theorem samePeer_addReplay (d : Dev) (k : Nat) (r : Replay) : SamePeer d (addReplay d k r) k := by
  apply samePeer_modConn <;> dsimp only <;> split <;> rfl

theorem samePeer_answered (d : Dev) (k psn : Nat) : SamePeer d (answered d k psn) k := samePeer_modConn _ _ _ rfl rfl rfl rfl rfl

theorem sentOut_sendStatus {d : Dev} {k : Nat} {a : About} {psn kind st : Nat} (hdown : isDown d = false) (hservice : (getConn d k).service = .data) (hversion : 2 ≤ (getConn d k).version)
    (hreach : Reachable d k) : SentOut (sendStatus d k a psn kind st) (IsStatus st) := by
  have hsame : SamePeer d (answered (addReplay d k ⟨psn, kind, st, 0⟩) k a.psn) k := (samePeer_addReplay ..).trans (samePeer_answered ..)
  rw [sendStatus, if_neg (by omega)]
  refine sentOut_steady (steady_bump ..) ?_
  exact sentOut_respond (anyTime_isStatus st) (hsame.isDown.trans hdown) (hsame.service.trans hservice) (hsame.reachable hreach) fun w => ⟨_, _, rfl⟩

theorem samePeer_delReq (d : Dev) (id k : Nat) : SamePeer d (delReq d id) k := samePeer_reqs ..

/-- A failed write with no part under way is answered with its status. -/
theorem answerOne_write {d : Dev} {q : Req} {st : Nat} (hkind : q.kind = .write) (hparts : q.parts = []) (hsilent : q.silent = false)
    (hready : (getConn d q.conn).state = .ready) (hbusy : st ≠ stBusy) (hok : st ≠ stOk) :
    answerOne d q st = sendStatus (delReq (dropBuf d q.buf) q.id) q.conn (aboutReq q q.psn) q.psn 1 st := by
  unfold answerOne
  simp [hkind, hparts, hsilent, hready, hbusy, hok, replayKind]

theorem sentOut_answerOne {d : Dev} {q : Req} {st : Nat} (hkind : q.kind = .write) (hparts : q.parts = []) (hsilent : q.silent = false) (hready : (getConn d q.conn).state = .ready)
    (hbusy : st ≠ stBusy) (hok : st ≠ stOk) (hdown : isDown d = false) (hservice : (getConn d q.conn).service = .data) (hversion : 2 ≤ (getConn d q.conn).version) (hreach : Reachable d q.conn) :
    SentOut (answerOne d q st) (IsStatus st) := by
  have hsame : SamePeer d (delReq (dropBuf d q.buf) q.id) q.conn := ((steady_dropBuf d q.buf).samePeer _).trans (samePeer_delReq ..)
  rw [answerOne_write hkind hparts hsilent hready hbusy hok]
  exact sentOut_sendStatus (hsame.isDown.trans hdown) (hsame.service.trans hservice) (hsame.version.symm ▸ hversion) (hsame.reachable hreach)

/-! ### A request that is over has no turn -/

/-- The only request is over with a status, and no part of it is under way. -/
structure OnlyOver (d : Dev) (q : Req) (st : Nat) : Prop where
  reqs : d.reqs = [q]
  stage : q.stage = .over st
  parts : q.parts = []
  silent : q.silent = false

variable {d : Dev} {q : Req} {st : Nat}

theorem OnlyOver.getReq (h : OnlyOver d q st) : getReq d q.id = some q := by simp [Machine.getReq, h.reqs]

theorem OnlyOver.issueReq (h : OnlyOver d q st) : issueReq d q.id = d := by
  unfold Machine.issueReq
  rw [h.getReq]
  simp [h.stage]

theorem OnlyOver.finishReq (h : OnlyOver d q st) : finishReq d q.id = d := by
  unfold Machine.finishReq
  rw [h.getReq]
  simp [h.stage]

theorem OnlyOver.arrivals (h : OnlyOver d q st) : arrivals d = [] := by simp [Machine.arrivals, h.reqs, h.parts]

theorem OnlyOver.issuable (h : OnlyOver d q st) : issuable d = false := by simp [Machine.issuable, h.reqs, h.parts]

theorem forEach_nil {α : Type} (d : Dev) (f : Dev → α → Dev) : forEach [] d f = d := rfl

theorem OnlyOver.runReqs (h : OnlyOver d q st) (n : Nat) : runReqs n d = d := by
  cases n with
  | zero => rfl
  | succ n =>
    have hissue : forEach (d.reqs.map (·.id)) d Machine.issueReq = d := by
      rw [h.reqs]
      exact h.issueReq
    have hfinish : forEach (d.reqs.map (·.id)) d Machine.finishReq = d := by
      rw [h.reqs]
      exact h.finishReq
    rw [Machine.runReqs, hissue, h.arrivals, forEach_nil, hfinish, h.issuable]
    rfl

theorem OnlyOver.pump (h : OnlyOver d q st) : pump d = dropSilent (answerOne d q st) := by
  have hanswer : answerConn 1 d q.conn = answerOne d q st := by
    rw [answerConn]
    simp [h.reqs, h.silent, h.stage, answerConn]
  unfold Machine.pump
  dsimp only
  rw [h.runReqs, h.reqs]
  show dropSilent (answerConn d.reqs.length d q.conn) = _
  rw [h.reqs]
  exact congrArg dropSilent hanswer

theorem sentOut_delReq {F : Out → Prop} {id : Nat} (hs : SentOut d F) : SentOut (delReq d id) F := hs

theorem sentOut_dropSilent {F : Out → Prop} (hs : SentOut d F) : SentOut (dropSilent d) F :=
  sentOut_forEach (fun e r he => sentOut_delReq (sentOut_steady (steady_dropBuf e r.buf) he)) hs

/-! ### The access checks (Table CHM-6) -/

/-- The first access check that a write of n bytes fails, and its status. -/
inductive FirstFailure (d : Dev) (p : Pkt) (r : Reth) (n : Nat) : Nat → Prop
  | key {st : Nat} (h : keyClass d r.key.toNat = some st) : FirstFailure d p r n st
  | chamber {c : Chamber} (hkey : keyClass d r.key.toNat = none) (hbound : bindingOk (keyOf d r) (getConn d (connOf p)).tenant (ordinal d) (qpnOf (getConn d (connOf p)).gen (connOf p)) = true)
      (hc : nget d.chm.chambers (keyOf d r).chamber = some c) (h : c.state ≠ .active) : FirstFailure d p r n stUnavailable
  | late {c : Chamber} {st : Nat} (hgranted : Granted d p r c) (h : (boundsOk (keyOf d r) .write r.va.toNat n = false ∧ st = stBounds) ∨
      (boundsOk (keyOf d r) .write r.va.toNat n = true ∧ rightsOk (keyOf d r) .write (persistOf p .write) = false ∧ st = stRights)) : FirstFailure d p r n st

theorem keyClass_status {d : Dev} {key st : Nat} (h : keyClass d key = some st) : st = stKeyInvalid ∨ st = stKeyStale := by
  unfold keyClass at h
  dsimp only at h
  split at h
  · exact .inl (Option.some.inj h).symm
  · split at h
    · cases h
    · exact .inr (Option.some.inj h).symm

/-- A failed check's status is neither OK nor BUSY. -/
theorem FirstFailure.status {p : Pkt} {r : Reth} {n : Nat} (h : FirstFailure d p r n st) : st ≠ stBusy ∧ st ≠ stOk := by
  cases h with
  | key h => obtain rfl | rfl := keyClass_status h <;> decide
  | chamber => decide
  | late _ h => obtain ⟨-, rfl⟩ | ⟨-, -, rfl⟩ := h <;> decide

/-- The later checks, which a request of a serving device passes through before its parts are made. -/
theorem admitReq_refused {q : Req} (hpaused : d.snap.paused = [])
    (h : (boundsOk (ngetD d.chm.keys q.keyIdx {}) q.kind q.va q.len = false ∧ st = stBounds) ∨
      (boundsOk (ngetD d.chm.keys q.keyIdx {}) q.kind q.va q.len = true ∧ rightsOk (ngetD d.chm.keys q.keyIdx {}) q.kind q.persist = false ∧ st = stRights)) :
    ∃ e, Steady d e ∧ admitReq d q = setReq e { q with stage := .over st } := by
  have hrun : pausedFor d q = false := by
    unfold pausedFor
    rw [hpaused]
    cases nget d.chm.chambers q.chamber <;> simp [nhas, nget]
  unfold admitReq lateChecks
  rw [hrun]
  obtain ⟨hb, rfl⟩ | ⟨hb, hr, rfl⟩ := h
  · exact ⟨_, steady_failCheck .., by simp only [hb]; rfl⟩
  · exact ⟨_, steady_failCheck .., by simp only [hb, hr]; rfl⟩

end Sys2Proof.Machine
end

section
/-!
SUPPORT. A host's write from its port to the access check that it fails (spec/03_chambers.md R50 to R52, spec/04_memory_transport.md R75).
-/
namespace Sys2Proof.Machine
open Sys2Proof

variable {d : Dev} {p : Pkt} {r : Reth} {data : List Byte} {st : Nat}

theorem keyOf_of_keys {e : Dev} (h : e.chm.keys = d.chm.keys) : keyOf e r = keyOf d r := by rw [keyOf, keyOf, h]

theorem keyClass_of_keys {e : Dev} (h : e.chm.keys = d.chm.keys) (key : Nat) : keyClass e key = keyClass d key := by rw [keyClass, keyClass, h]

theorem samePeer_addReq (d : Dev) (q : Req) (k : Nat) : SamePeer d (addReq d q) k := samePeer_reqs ..

/-- A device that holds the bytes that d holds, and one request, which is over with a status: the write of connection k, whose host is reached as in d. -/
def RefusedWrite (d : Dev) (k st : Nat) (e : Dev) : Prop := ∃ q, OnlyOver e q st ∧ q.kind = .write ∧ q.conn = k ∧ SamePeer d e k ∧ e.mem = d.mem

/-- The request's record becomes over: the device holds it alone, and nothing else of its peer has changed. -/
theorem refusedWrite_setReq {e f : Dev} {q : Req} {k : Nat} (hsame : SamePeer d e k) (hmem : e.mem = d.mem) (hreqs : e.reqs = [q]) (hsteady : Steady e f) (hparts : q.parts = [])
    (hsilent : q.silent = false) (hkind : q.kind = .write) (hconn : q.conn = k) : RefusedWrite d k st (setReq f { q with stage := .over st }) := by
  refine ⟨{ q with stage := .over st }, ⟨?_, rfl, hparts, hsilent⟩, hkind, hconn, (hsame.trans (hsteady.samePeer k)).trans (samePeer_reqs ..), hsteady.mem.trans hmem⟩
  simp [setReq, hsteady.reqs, hreqs]

theorem custodyGate_unshared {n : Nat} {ch : Chamber} {reads : Bool} (h : ch.cls ≠ .mirrored) : custodyGate d n ch reads = .open_ := if_pos h

/-- A write that fails a check is taken, and over with the status of that check. -/
theorem hostRequest_refused (hbusy : busyWait d = none) (hpaused : d.snap.paused = []) (hreqs : d.reqs = [])
    (hbufs : (takeBufs d (connCell (connOf p)) (messageBytes p data.length (getConn d (connOf p)).pmtu) (connIdx (connOf p)) false).isSome = true)
    (hfail : FirstFailure d p r data.length st) :
    ∀ C : Dev → Prop, (∀ e, RefusedWrite d (connOf p) st e → C (pump e)) → C (hostRequest d p (connOf p) .write r data (0, 0) [] false) := by
  intro C hC
  unfold hostRequest
  extract_lets +onlyGivenNames c cell psn len pkts key e persist a
  split
  · rename_i hw
    rw [hbusy] at hw
    cases hw
  split
  · rename_i hnone
    rw [hnone] at hbufs
    cases hbufs
  rename_i d1 buf htaken
  extract_lets +onlyGivenNames d2 qpn off q d3 refuse d4
  have h1 : Steady d d1 := steady_takeBufs htaken
  have h2 : SamePeer d1 d2 (connOf p) := samePeer_modConn d1 _ (fun c => advanceTo c (psnMod (psn + pkts))) rfl rfl rfl rfl rfl
  have h3 : SamePeer d d3 (connOf p) := ((h1.samePeer _).trans h2).trans (samePeer_addReq ..)
  have hq : d3.reqs = [q] := by
    show d1.reqs ++ [q] = [q]
    rw [h1.reqs, hreqs]
    rfl
  have hrefuse : ∀ f st, Steady d3 f → RefusedWrite d (connOf p) st (refuse f st) := fun f st hf => refusedWrite_setReq h3 h1.mem hq hf rfl rfl rfl rfl
  have hlate : ∀ f st, Steady d3 f → (∃ g, Steady f g ∧ admitReq f q = setReq g { q with stage := .over st }) → RefusedWrite d (connOf p) st (admitReq f q) := by
    rintro f st hf ⟨g, hg, he⟩
    rw [he]
    exact refusedWrite_setReq h3 h1.mem hq (hf.trans hg) rfl rfl rfl rfl
  have hbits : q.keyIdx = key / 256 ∧ q.kind = .write ∧ q.va = r.va.toNat ∧ q.len = data.length ∧ q.persist = persistOf p .write := ⟨rfl, rfl, rfl, rfl, rfl⟩
  have hclass : keyClass d3 key = keyClass d r.key.toNat := keyClass_of_keys (d := d) (e := d3) h1.keys _
  have h4 : Steady d3 d4 := steady_cacheKey ..
  have hkeys : d4.chm.keys = d.chm.keys := h4.keys.trans h1.keys
  have hchambers : d4.chm.chambers = d.chm.chambers := h4.chambers.trans h1.chambers
  have hsnap : d4.snap.paused = [] := by rw [h4.snap, show d3.snap = d.snap from h1.snap, hpaused]
  have hord : ordinal d4 = ordinal d := by rw [ordinal, ordinal, h4.ident, h3.ident]
  clear_value d4 refuse d3 q d2
  refine hC _ ?_
  rw [hclass, hord, hchambers]
  obtain ⟨hidx, hkind, hva, hlen, hpersist⟩ := hbits
  have hentry : ngetD d4.chm.keys q.keyIdx {} = keyOf d r := by rw [hkeys, hidx]; rfl
  cases hfail with
  | key h =>
    rw [h]
    exact hrefuse _ _ (steady_failCheck ..)
  | chamber hkey hbound hc hstate =>
    rw [hkey]
    dsimp only
    rw [if_neg (by rw [show bindingOk e c.tenant (ordinal d) qpn = true from hbound]; decide), show nget d.chm.chambers e.chamber = some _ from hc]
    dsimp only
    rw [if_pos hstate]
    exact hrefuse _ _ (h4.trans (steady_failCheck ..))
  | late hgranted h =>
    obtain ⟨hkey, hbound, hc, hactive, hcls⟩ := hgranted
    rw [hkey]
    dsimp only
    rw [if_neg (by rw [show bindingOk e c.tenant (ordinal d) qpn = true from hbound]; decide), show nget d.chm.chambers e.chamber = some _ from hc]
    dsimp only
    rw [if_neg (not_not_intro hactive), custodyGate_unshared hcls]
    refine hlate _ _ h4 (admitReq_refused hsnap ?_)
    rw [hentry, hkind, hva, hlen, hpersist]
    exact h

end Sys2Proof.Machine
end

section
/-!
SUPPORT. The way of a host's write from its port to the access checks, and the answer of a check that fails (spec/03_chambers.md R50 to R52, spec/04_memory_transport.md R75, R86).
-/
namespace Sys2Proof.Machine
open Sys2Proof

/-! ### The way of a frame to its operation -/

/-- MACsec counts frames and packet numbers, and nothing else. -/
theorem macGate_keeps (d : Dev) (p : Nat) (t : SecTag) : (macGate d p t).1.tst = d.tst ∧ (macGate d p t).1.mem = d.mem := by
  unfold macGate
  split
  · cases t with
    | plain => exact ⟨rfl, rfl⟩
    | badIcv => exact ⟨rfl, rfl⟩
    | protect old pn =>
      dsimp only
      (repeat' split) <;> exact ⟨rfl, rfl⟩
  · exact ⟨rfl, rfl⟩

theorem carried_tst (d : Dev) (p pcp : Nat) : (carried d p pcp).tst = d.tst := by
  unfold carried
  split <;> rfl

theorem frameIn_of_enters {d : Dev} {f : DataFrame} (h : Enters d f) : frameIn d f = runFrame (entered d f) f := by
  obtain ⟨hdown, hport, hmac, hprove⟩ := h
  have htst : (entered d f).tst.proving ≠ some (framePort f) := by
    rw [entered, carried_tst, (macGate_keeps ..).1]
    exact hprove
  unfold frameIn
  dsimp only
  rw [hdown, hport, hmac, if_neg (by decide), if_neg (by decide)]
  exact if_neg fun hp : (entered d f).tst.proving = some (framePort f) ∧ _ => htst hp.1

theorem learnHost_pwr (d : Dev) (p a : Nat) : (learnHost d p a).pwr = d.pwr := by
  unfold learnHost
  split
  · rfl
  · split
    · rfl
    · split <;> rfl

theorem learnHost_ldr (d : Dev) (p a : Nat) : (learnHost d p a).ldr = d.ldr := by
  unfold learnHost
  split
  · rfl
  · split
    · rfl
    · split <;> rfl

theorem learnHost_prefix (d : Dev) (p a i : Nat) (hi : i < 2) : reg (learnHost d p a) .FAB_PREFIX 0 i = reg d .FAB_PREFIX 0 i := by
  unfold learnHost
  split
  · rfl
  · split
    · rfl
    · split
      · refine reg_bump_ne _ _ _ _ _ _ _ ?_
        have hr : RegId.FAB_PREFIX.ctorIdx ≠ RegId.FAB_CNT.ctorIdx := by decide
        unfold regKey
        omega
      · rfl

theorem countPcp_pwr (d : Dev) (p : Pkt) (want : Nat) : (countPcp d p want).pwr = d.pwr := by
  unfold countPcp
  split <;> rfl

theorem countPcp_ldr (d : Dev) (p : Pkt) (want : Nat) : (countPcp d p want).ldr = d.ldr := by
  unfold countPcp
  split <;> rfl

theorem countPcp_prefix (d : Dev) (p : Pkt) (want i : Nat) (hi : i < 2) : reg (countPcp d p want) .FAB_PREFIX 0 i = reg d .FAB_PREFIX 0 i := by
  unfold countPcp
  split
  · refine reg_bump_ne _ _ _ _ _ _ _ ?_
    have hr : RegId.FAB_PREFIX.ctorIdx ≠ RegId.PORT_CNG_CNT.ctorIdx := by decide
    unfold regKey
    omega
  · rfl

theorem isDown_frameHeard (d : Dev) (p : Pkt) (b : ReqBody) : isDown (frameHeard d p b) = isDown (entered d (.req p b)) := by
  rw [isDown, isDown, frameHeard, countPcp_pwr, learnHost_pwr]

theorem forThis_frameHeard (d : Dev) (p : Pkt) (b : ReqBody) : forThis (frameHeard d p b) p = forThis (entered d (.req p b)) p := by
  have hprefix : fabPrefix (frameHeard d p b) = fabPrefix (entered d (.req p b)) := by
    simp only [fabPrefix, frameHeard, countPcp_prefix _ _ _ _ Nat.zero_lt_two, countPcp_prefix _ _ _ _ Nat.one_lt_two, learnHost_prefix _ _ _ _ Nat.zero_lt_two, learnHost_prefix _ _ _ _ Nat.one_lt_two]
  have hord : ordinal (frameHeard d p b) = ordinal (entered d (.req p b)) := by rw [ordinal, ordinal, frameHeard, countPcp_ldr, learnHost_ldr]
  rw [forThis, forThis, parseAddr, parseAddr, hprefix, hord]

/-- A request frame for this device that passes the packet checks reaches its operation. -/
theorem runFrame_req {d : Dev} {p : Pkt} {b : ReqBody} (hdown : isDown (frameHeard d p b) = false) (hicrc : p.icrcOk = true) (hudp : p.udpPort = 4791) (hthis : forThis (frameHeard d p b) p = true) :
    runFrame (entered d (.req p b)) (.req p b) = runRequest (learnHost (entered d (.req p b)) p.port p.srcAddr.toNat) p b := by
  rw [isDown_frameHeard] at hdown
  rw [forThis_frameHeard] at hthis
  unfold runFrame
  dsimp only
  rw [hdown, hthis, if_neg Bool.false_ne_true, if_neg (by rw [hicrc, hudp]; decide), if_pos rfl]

/-- A request at the expected PSN of a READY connection that passes the checks of Table OMT-8 runs. -/
theorem receive_expected {d : Dev} {p : Pkt} {chm : Option Nat} {op : OpKind} {payload : Bool} {pkts : Nat → Nat} {again go : Dev → Nat → Dev} (h : Expected (countPcp d p 0) p op payload) :
    receive d p chm op payload pkts again go = go (taken (countPcp d p 0) p) (connOf p) := by
  obtain ⟨hdown, hicrc, hudp, -, hmirror, hcarrier, hgen, hgenEq, hready, hheader, hage, hclass, hepoch, hreplay⟩ := h
  unfold receive
  extract_lets +onlyGivenNames d1 k gen oxh a
  have hnone : ∀ n, replayed (taken d1 p) k a op n = none := by
    intro n
    have hfind : (getConn (taken d1 p) k).replay.find? (fun e => e.psn == a.psn && e.status == stOk && onceKind op == some e.kind) = none := by
      rw [List.find?_eq_none, show getConn (taken d1 p) k = _ from getConn_setConn_same ..]
      simpa using hreplay
    unfold replayed
    rw [hfind]
  rw [if_neg (by rw [hdown, hicrc, hudp]; decide), if_neg hmirror, if_neg (by rw [hcarrier]; decide)]
  extract_lets +onlyGivenNames c
  rw [if_neg (show ¬(gen = 0 ∨ c.gen ≠ gen ∨ ¬(c.state = .connecting ∨ c.state = .ready ∨ c.state = .draining)) from by
    rintro (h0 | hne | hst)
    · exact hgen h0
    · exact hne hgenEq
    · exact hst (.inr (.inl hready)))]
  rw [if_neg (show ¬(c.state = .connecting ∧ a.psn = c.epsn) from fun hc => by rw [show c.state = .ready from hready] at hc; exact absurd hc.1 (by decide))]
  extract_lets +onlyGivenNames e c' cls
  rw [if_neg (show ¬(!headerOk c' oxh p.pmh p.opcode.toNat op payload) = true from by rw [show headerOk c' oxh p.pmh p.opcode.toNat op payload = true from hheader]; decide)]
  rw [if_neg (show ¬oxh.any (overAge e p.port) = true from by rw [show oxh.any (overAge e p.port) = false from hage]; decide), show cls = .expected from hclass]
  dsimp only
  rw [if_neg (show ¬c'.state = .draining from fun hc => by rw [show c'.state = .ready from hready] at hc; exact absurd hc (by decide))]
  rw [show setConn e k { c' with nakSent := false } = taken d1 p from rfl]
  rw [if_neg (show ¬oxh.any (fun x => !epochOk (taken d1 p) x.epoch) = true from by rw [show oxh.any (fun x => !epochOk (taken d1 p) x.epoch) = false from hepoch]; decide), hnone]
  rfl

/-- A device that is otherwise quiet does not answer BUSY, pauses no write and has no request. -/
theorem idle_of_quiet {d : Dev} {p : Pkt} {n : Nat} (h : Quiet d p n) : busyWait d = none ∧ d.snap.paused = [] ∧ d.reqs = [] ∧
    (takeBufs d (connCell (connOf p)) (messageBytes p n (getConn d (connOf p)).pmtu) (connIdx (connOf p)) false).isSome = true := by
  obtain ⟨hreqs, -, hstate, hmove, hpaused, -, -, hbufs⟩ := h
  exact ⟨by simp [busyWait, hstate, hmove], hpaused, hreqs, hbufs⟩

/-- A host's write at the expected PSN of a READY data connection is a host request. -/
theorem frameIn_write {d : Dev} {p : Pkt} {r : Reth} {data : List Byte} (hin : Enters d (.req p (.write r data))) (hexp : Expected (frameHeard d p (.write r data)) p .write (data != []))
    (hop : p.opcode.toNat ≠ 0x0B) (hop' : p.opcode.toNat ≠ 0xCB) (hservice : (getConn (taken (frameHeard d p (.write r data)) p) (connOf p)).service = .data) :
    frameIn d (.req p (.write r data)) = hostRequest (taken (frameHeard d p (.write r data)) p) p (connOf p) .write r data (0, 0) [] false := by
  have hchecks := hexp
  obtain ⟨hdown, hicrc, hudp, hthis, -⟩ := hchecks
  have hcode : ¬(p.opcode.toNat = 0x0B ∨ p.opcode.toNat = 0xCB) := not_or_intro hop hop'
  rw [frameIn_of_enters hin, runFrame_req hdown hicrc hudp hthis]
  show hostWrite _ p r data = _
  rw [hostWrite, if_neg hcode, hostOp]
  dsimp only
  refine (receive_expected hexp).trans ?_
  exact if_pos hservice

theorem frameHeard_mem (d : Dev) (p : Pkt) (b : ReqBody) : (frameHeard d p b).mem = d.mem := by
  rw [frameHeard, countPcp_mem, learnHost_mem, entered, carried_mem, (macGate_keeps ..).2]

/-! ### What becomes of the refused write -/

/-- The request of a refused write ends at once, and no byte changes. -/
theorem refusedWrite_pump_mem {d e : Dev} {k st : Nat} (h : RefusedWrite d k st e) (hready : (getConn d k).state = .ready) (hst : st ≠ stBusy ∧ st ≠ stOk) : (pump e).mem = d.mem := by
  obtain ⟨q, hover, hkind, rfl, hsame, hmem⟩ := h
  rw [hover.pump, dropSilent_mem, answerOne_write hkind hover.parts hover.silent (hsame.state.trans hready) hst.1 hst.2, sendStatus_mem, delReq_mem, dropBuf_mem, hmem]

/-- The status of a refused write is on its way to a host that can be answered. -/
theorem refusedWrite_pump_sentOut {d e : Dev} {k st : Nat} (h : RefusedWrite d k st e) (hready : (getConn d k).state = .ready) (hst : st ≠ stBusy ∧ st ≠ stOk) (hdown : isDown d = false)
    (hservice : (getConn d k).service = .data) (hversion : 2 ≤ (getConn d k).version) (hreach : Reachable d k) : SentOut (pump e) (IsStatus st) := by
  obtain ⟨q, hover, hkind, rfl, hsame, -⟩ := h
  rw [hover.pump]
  exact sentOut_dropSilent (sentOut_answerOne hkind hover.parts hover.silent (hsame.state.trans hready) hst.1 hst.2 (hsame.isDown.trans hdown) (hsame.service.trans hservice)
    (hsame.version.symm ▸ hversion) (hsame.reachable hreach))

theorem write_refused {s : State} {p : Pkt} {r : Reth} {data : List Byte} {st : Nat} (hin : Enters s.dev (.req p (.write r data)))
    (hexp : Expected (frameHeard s.dev p (.write r data)) p .write (data != [])) (hop : p.opcode.toNat ≠ 0x0B) (hop' : p.opcode.toNat ≠ 0xCB)
    (hservice : (getConn (taken (frameHeard s.dev p (.write r data)) p) (connOf p)).service = .data) (hversion : 2 ≤ (getConn (taken (frameHeard s.dev p (.write r data)) p) (connOf p)).version)
    (hquiet : Quiet (taken (frameHeard s.dev p (.write r data)) p) p data.length) (hfail : FirstFailure (taken (frameHeard s.dev p (.write r data)) p) p r data.length st) :
    ∃ e, Does (.rdmaWrite p r data) s e ∧ e.mem = s.dev.mem ∧ (Reachable (taken (frameHeard s.dev p (.write r data)) p) (connOf p) → SentOut e (IsStatus st)) := by
  refine ⟨_, does_rdmaWrite s p r data, ?_⟩
  rw [frameIn_write hin hexp hop hop' hservice]
  obtain ⟨hbusy, hpaused, hreqs, hbufs⟩ := idle_of_quiet hquiet
  obtain ⟨hdown, -, -, -, -, -, -, -, hready, -⟩ := hexp
  have hready' : (getConn (taken (frameHeard s.dev p (.write r data)) p) (connOf p)).state = .ready := by
    rw [taken, getConn_setConn_same]
    exact hready
  have hmem : (taken (frameHeard s.dev p (.write r data)) p).mem = s.dev.mem := (setConn_mem ..).trans (frameHeard_mem ..)
  refine hostRequest_refused hbusy hpaused hreqs hbufs hfail (fun e => e.mem = s.dev.mem ∧ (_ → SentOut e (IsStatus st))) fun e he => ⟨?_, fun hreach => ?_⟩
  · exact (refusedWrite_pump_mem he hready' hfail.status).trans hmem
  · exact refusedWrite_pump_sentOut he hready' hfail.status hdown hservice hversion hreach

/-- Settles O22: each failed check of Table CHM-6 ends the write before any part of it is made, and its status goes out. -/
theorem accessChecks : Obligations.AccessChecks := by
  intro s p r data c b d0 d refused hin hexp hop hop' hservice hversion hquiet
  have hrefused : ∀ st, FirstFailure d p r data.length st → refused st := fun st hfail => write_refused hin hexp hop hop' hservice hversion hquiet hfail
  refine ⟨fun st hkey => ?_, fun hkey hbound hc hstate => ?_, fun hgranted hbounds => ?_, fun hgranted hbounds hrights => ?_⟩
  · exact hrefused _ (.key hkey)
  · exact hrefused _ (.chamber hkey hbound hc hstate)
  · exact hrefused _ (.late hgranted (.inl ⟨hbounds, rfl⟩))
  · exact hrefused _ (.late hgranted (.inr ⟨hbounds, hrights, rfl⟩))

end Sys2Proof.Machine
end

section
/-!
SUPPORT. Connections: what the connection manager and the timers of a connection do, and how a connection ends (spec/04_olisar_transport.md R67, R76, R81, R82, spec/05_congestion.md R98).
-/
namespace Sys2Proof.Machine
open Sys2Proof

/-! ### What the commands of rows 33 to 66 do -/

theorem does_cmReq (s : State) (q : CmReq) : Does (.cmReq q) s (cmReq s.dev q) := does_run _ s (fun d => cmReq d q) rfl

theorem does_cmRtu (s : State) (m : CmMsg) : Does (.cmRtu m) s (cmRtu s.dev m) := does_run _ s (fun d => cmRtu d m) rfl

theorem does_cmDreq (s : State) (m : CmMsg) : Does (.cmDreq m) s (cmDreqReceived s.dev m) := does_run _ s (fun d => cmDreqReceived d m) rfl

theorem does_cmDrep (s : State) (m : CmMsg) : Does (.cmDrep m) s (cmDrepReceived s.dev m) := does_run _ s (fun d => cmDrepReceived d m) rfl

theorem does_connectTimeout (s : State) (k : Fin 262160) : Does (.connectTimeout k) s (connectTimeout (reachO s.dev (connTime s.dev k.val .connecting)) k.val) :=
  does_run _ s (fun d => connectTimeout (reachO d (connTime d k.val .connecting)) k.val) rfl

theorem does_connectionDrainDone (s : State) (k : Fin 262160) : Does (.connectionDrainDone k) s (connectionDrainDone s.dev k.val) :=
  does_run _ s (fun d => connectionDrainDone d k.val) rfl

theorem does_connectionErrorSettled (s : State) (k : Fin 262160) : Does (.connectionErrorSettled k) s (connectionErrorSettled s.dev k.val) :=
  does_run _ s (fun d => connectionErrorSettled d k.val) rfl

theorem does_connectionQuarantineEnd (s : State) (k : Fin 262160) :
    Does (.connectionQuarantineEnd k) s (connectionQuarantineEnd (reachO s.dev (connTime s.dev k.val .quarantine)) k.val) :=
  does_run _ s (fun d => connectionQuarantineEnd (reachO d (connTime d k.val .quarantine)) k.val) rfl

theorem does_retransmitTimerExpiry (s : State) (k : ConnNo) : Does (.retransmitTimerExpiry k) s (retransmitTimerExpiry (reachO s.dev (getConn s.dev k.val).timer) k.val) :=
  does_run _ s (fun d => retransmitTimerExpiry (reachO d (getConn d k.val).timer) k.val) rfl

theorem does_rnrWaitExpiry (s : State) (k : ConnNo) : Does (.rnrWaitExpiry k) s (rnrWaitExpiry (reachO s.dev (getConn s.dev k.val).rnrUntil) k.val) :=
  does_run _ s (fun d => rnrWaitExpiry (reachO d (getConn d k.val).rnrUntil) k.val) rfl

theorem does_ackCoalesceTimer (s : State) (k : ConnNo) : Does (.ackCoalesceTimer k) s (ackCoalesceTimer (reachO s.dev (ackTime s.dev k.val)) k.val) :=
  does_run _ s (fun d => ackCoalesceTimer (reachO d (ackTime d k.val)) k.val) rfl

theorem does_pacerRelease (s : State) (k : ConnNo) : Does (.pacerRelease k) s (pacerRelease (reachO s.dev (pacerTime s.dev k.val)) k.val) :=
  does_run _ s (fun d => pacerRelease (reachO d (pacerTime d k.val)) k.val) rfl

theorem does_pfcFrameReceived (s : State) (m : PfcFrame) : Does (.pfcFrameReceived m) s (pfcFrameReceived s.dev m) := does_run _ s (fun d => pfcFrameReceived d m) rfl

theorem does_xoffRefresh (s : State) (p : CellNo) (g : Fin 3) : Does (.xoffRefresh p g) s (xoffRefresh (reachO s.dev (refreshTime s.dev p.val g.val)) p.val g.val) :=
  does_run _ s (fun d => xoffRefresh (reachO d (refreshTime d p.val g.val)) p.val g.val) rfl

theorem does_pauseWatchdogExpiry (s : State) (p : CellNo) (pcp : Fin 8) :
    Does (.pauseWatchdogExpiry p pcp) s (pauseWatchdogExpiry (reachO s.dev (watchdogTime s.dev p.val pcp.val)) p.val pcp.val) :=
  does_run _ s (fun d => pauseWatchdogExpiry (reachO d (watchdogTime d p.val pcp.val)) p.val pcp.val) rfl

theorem does_xoffStormExpiry (s : State) (p : CellNo) (g : Fin 3) : Does (.xoffStormExpiry p g) s (xoffStormExpiry (reachO s.dev (stormTime s.dev p.val g.val)) p.val g.val) :=
  does_run _ s (fun d => xoffStormExpiry (reachO d (stormTime d p.val g.val)) p.val g.val) rfl

theorem does_portFenceRelease (s : State) (w : Writer) (p : CellNo) : Does (.portFenceRelease w p) s (portFenceRelease s.dev w p.val) :=
  does_run _ s (fun d => portFenceRelease d w p.val) rfl

theorem does_linkTrained (s : State) (l : Trained) : Does (.linkTrained l) s (linkTrained s.dev l.port.val l.rate) := does_run _ s (fun d => linkTrained d l.port.val l.rate) rfl

theorem does_linkDown (s : State) (p : CellNo) : Does (.linkDown p) s (linkDown s.dev p.val) := does_run _ s (fun d => linkDown d p.val) rfl

theorem does_neighbourHello (s : State) (m : Hello) : Does (.neighbourHello m) s (neighbourHello s.dev m) := does_run _ s (fun d => neighbourHello d m) rfl

theorem does_helloTimer (s : State) (p : CellNo) : Does (.helloTimer p) s (helloTimer (reachO s.dev (helloTime s.dev p.val)) p.val) :=
  does_run _ s (fun d => helloTimer (reachO d (helloTime d p.val)) p.val) rfl

theorem does_helloTimeout (s : State) (p : CellNo) : Does (.helloTimeout p) s (helloTimeout (reachO s.dev (silentTime s.dev p.val)) p.val) :=
  does_run _ s (fun d => helloTimeout (reachO d (silentTime d p.val)) p.val) rfl

theorem does_identityRetryTimer (s : State) (p : CellNo) : Does (.identityRetryTimer p) s (identityRetryTimer (reachO s.dev (getPort s.dev p.val).retryAt) p.val) :=
  does_run _ s (fun d => identityRetryTimer (reachO d (getPort d p.val).retryAt) p.val) rfl

theorem does_linkState (s : State) (m : LinkStateMsg) : Does (.linkState m) s (linkState s.dev m) := does_run _ s (fun d => linkState d m) rfl

theorem does_linkStateTimer (s : State) : Does .linkStateTimer s (linkStateTimer (reachO s.dev (some s.dev.fab.nextLs))) :=
  does_run _ s (fun d => linkStateTimer (reachO d (some d.fab.nextLs))) rfl

theorem does_linkStateRecordExpiry (s : State) (o : Ordinal) :
    Does (.linkStateRecordExpiry o) s (linkStateRecordExpiry (reachO s.dev ((nget s.dev.fab.db o.val).map fun r => r.at_ + sec 10)) o.val) := rfl

theorem does_routeConvergenceEnd (s : State) : Does .routeConvergenceEnd s (routeConvergenceEnd (reachO s.dev (convergeTime s.dev))) :=
  does_run _ s (fun d => routeConvergenceEnd (reachO d (convergeTime d))) rfl

theorem does_routeAnnounce (s : State) (m : RouteAnn) : Does (.routeAnnounce m) s (routeAnnounce s.dev m) := does_run _ s (fun d => routeAnnounce d m) rfl

theorem does_routeAnnounceTimer (s : State) : Does .routeAnnounceTimer s (routeAnnounceTimer (reachO s.dev (some s.dev.fab.nextAnn))) :=
  does_run _ s (fun d => routeAnnounceTimer (reachO d (some d.fab.nextAnn))) rfl

theorem does_pairRouteExpiry (s : State) (pair : BitVec 13) :
    Does (.pairRouteExpiry pair) s (pairRouteExpiry (reachO s.dev ((nget s.dev.fab.pairs pair.toNat).map fun r => r.at_ + sec 5)) pair.toNat) := rfl

theorem does_residenceExpiry (s : State) (p : CellNo) : Does (.residenceExpiry p) s (residenceExpiry (reachO s.dev (residenceTime s.dev p.val)) p.val) :=
  does_run _ s (fun d => residenceExpiry (reachO d (residenceTime d p.val)) p.val) rfl

theorem does_neighbourSolicitation (s : State) (p : CellNo) (target : BitVec 128) : Does (.neighbourSolicitation p target) s (neighbourSolicitation s.dev p.val target.toNat) :=
  does_run _ s (fun d => neighbourSolicitation d p.val target.toNat) rfl

theorem does_hostAttachmentExpiry (s : State) (addr : BitVec 128) :
    Does (.hostAttachmentExpiry addr) s (hostAttachmentExpiry (reachO s.dev ((nget s.dev.fab.hosts addr.toNat).map fun r => r.2 + sec 60)) addr.toNat) := rfl

theorem connectionCommandsComplete : Claims.ConnectionCommandsComplete :=
  ⟨does_cmReq, does_cmRtu, does_cmDreq, does_cmDrep, does_connectTimeout, does_connectionDrainDone, does_connectionErrorSettled, does_connectionQuarantineEnd, does_retransmitTimerExpiry,
    does_rnrWaitExpiry, does_ackCoalesceTimer, does_pacerRelease, does_pfcFrameReceived, does_xoffRefresh, does_pauseWatchdogExpiry, does_xoffStormExpiry, does_portFenceRelease,
    does_linkTrained, does_linkDown, does_neighbourHello, does_helloTimer, does_helloTimeout, does_identityRetryTimer, does_linkState, does_linkStateTimer, does_linkStateRecordExpiry,
    does_routeConvergenceEnd, does_routeAnnounce, does_routeAnnounceTimer, does_pairRouteExpiry, does_forwardFrame, does_residenceExpiry, does_neighbourSolicitation,
    does_hostAttachmentExpiry⟩

/-! ### The timers of a connection (R81, R82, R98) -/

section
variable {d : Dev} {k : Nat}

/-- What the expiry of a retransmit timer begins with: the timer is due, and the expiry is counted. -/
theorem retransmitTimerExpiry_due {c : Conn} {t : Nat} (hc : getConn d k = c) (hready : c.state = .ready) (ht : c.timer = some t) (hdue : due d t = true) :
    let e := bump d .OMT_CNT (connCell k) 5
    retransmitTimerExpiry d k =
      if retryLimit e (connCell k) ≤ c.retries then connError e k
      else retransmit (setConn e k { c with retries := c.retries + 1, timerVal := 2 * c.timerVal, timer := some (e.now + 2 * c.timerVal),
                                            win := if windowed c then { c.win with w := c.pmtu, additive := false } else c.win }) k := by
  have hexpired : c.state = .ready ∧ (c.timer.any fun t => due d t) = true := ⟨hready, by rw [ht]; exact hdue⟩
  rw [retransmitTimerExpiry, hc]
  exact if_pos hexpired

theorem rnrWaitExpiry_due {c : Conn} {t : Nat} (hc : getConn d k = c) (ht : c.rnrUntil = some t) (hdue : due d t = true) :
    rnrWaitExpiry d k = trySend (retransmit (setConn d k { c with rnrUntil := none, timer := some (d.now + c.timerVal) }) k) k := by
  have hexpired : (c.rnrUntil.any fun t => due d t) = true := by rw [ht]; exact hdue
  rw [rnrWaitExpiry, hc]
  exact if_pos hexpired

theorem ackCoalesceTimer_due {c : Conn} {t : Nat} (hc : getConn d k = c) (ht : c.unackedAt = some t) (hdue : due d (t + us 1) = true) :
    ackCoalesceTimer d k = sendAck d k ⟨c.ackPsn, c.ackChm, c.ackPersist⟩ := by
  have hexpired : (c.unackedAt.any fun t => due d (t + us 1)) = true := by rw [ht]; exact hdue
  rw [ackCoalesceTimer, hc]
  exact if_pos hexpired

theorem pacerTime_single {x : Sent} (hsent : (getConn d k).sent = [x]) (hleft : x.left = false) : pacerTime d k = some (paceEnd d k x.bytes) := by
  simp [pacerTime, hsent, hleft]

/-- The only waiting packet of a connection leaves when it may. -/
theorem trySend_single {x : Sent} (hsent : (getConn d k).sent = [x]) (hleft : x.left = false) (hmay : mayLeave d k x = true) : trySend d k = leave d k x := by
  simp [trySend, hsent, hleft, hmay]

end

theorem connectionTimers : Claims.ConnectionTimers := by
  refine ⟨fun s k t => ?again, fun s k t => ?limit, fun s k t => ?rnr, fun s k t => ?ack, fun s k x => ?pacer⟩
  case again =>
    intro c d hready ht hmore
    refine does_congr (does_retransmitTimerExpiry s k) ?_
    rw [ht, reachO, retransmitTimerExpiry_due (getConn_reach ..) hready ht (due_reach ..)]
    exact if_neg (Nat.not_le.mpr hmore)
  case limit =>
    intro c d hready ht hlimit
    refine does_congr (does_retransmitTimerExpiry s k) ?_
    rw [ht, reachO, retransmitTimerExpiry_due (getConn_reach ..) hready ht (due_reach ..)]
    exact if_pos hlimit
  case rnr =>
    intro c d ht
    refine does_congr (does_rnrWaitExpiry s k) ?_
    rw [ht, reachO, rnrWaitExpiry_due (getConn_reach ..) ht (due_reach ..)]
  case ack =>
    intro c d ht
    refine does_congr (does_ackCoalesceTimer s k) ?_
    have htime : ackTime s.dev k.val = some (t + us 1) := by rw [ackTime, ht]; rfl
    rw [htime, reachO, ackCoalesceTimer_due (getConn_reach ..) ht (due_reach ..)]
  case pacer =>
    intro c d hsent hleft hmay
    refine does_congr (does_pacerRelease s k) ?_
    rw [pacerTime_single hsent hleft, reachO, pacerRelease, trySend_single ((congrArg Conn.sent (getConn_reach ..)).trans hsent) hleft hmay]

/-! ### The ends of a connection (R55, R67, R68, R76) -/

section
variable {d : Dev} {k : Nat}

theorem reachO_connTime {st : ConnState} (hst : (getConn d k).state = st) : reachO d (connTime d k st) = reach d (getConn d k).deadline := by
  rw [connTime, if_pos hst, reachO]

theorem connectTimeout_due (hst : (getConn d k).state = .connecting) (hdue : due d (getConn d k).deadline = true) : connectTimeout d k = quarantineConn d k := if_pos ⟨hst, hdue⟩

theorem connectionDrainDone_empty (hst : (getConn d k).state = .draining) (hreqs : (d.reqs.all fun r => r.conn != k) = true) (hbulk : (d.bulk.cmds.all fun b => b.conn != k) = true) :
    connectionDrainDone d k = sendCmConn (quarantineConn d k) k cmDrep [] [] := if_pos ⟨hst, hreqs, hbulk⟩

/-- A change of which every part is past its waits is not open. -/
theorem connectionErrorSettled_settled (hst : (getConn d k).state = .error)
    (hreqs : (d.reqs.all fun r => r.conn != k || !isChange r.kind || (r.parts != [] && r.parts.all fun p => !pendingPart p.st)) = true) :
    connectionErrorSettled d k = sendCmConn (quarantineConn d k) k cmDreq [] [] := by
  unfold connectionErrorSettled
  extract_lets c opened
  have hopened : opened = false := by
    refine List.any_eq_false.mpr fun r hr => ?_
    have hsettled := List.all_eq_true.mp hreqs r hr
    have hparts : r.conn = k → isChange r.kind = true → (r.parts.isEmpty || r.parts.any fun p => pendingPart p.st) = false := by
      intro hconn hchange
      simpa [hconn, hchange, List.isEmpty_eq_false_iff] using hsettled
    simp only [Bool.and_eq_true, beq_iff_eq, not_and]
    intro hmine
    split
    · exact Bool.false_ne_true
    · rw [hparts hmine.1 hmine.2]
      exact Bool.false_ne_true
  exact if_pos ⟨hst, hopened⟩

theorem connectionQuarantineEnd_due (hst : (getConn d k).state = .quarantine) (hin : inService3 d = true) (hdue : due d (getConn d k).deadline = true) :
    connectionQuarantineEnd d k = setConn d k { gen := (getConn d k).gen } := if_pos ⟨hst, hin, hdue⟩

end

theorem connectionEnds : Claims.ConnectionEnds := by
  refine ⟨fun s k => ?timeout, fun s k => ?drained, fun s k => ?settled, fun s k => ?quarantined⟩
  case timeout =>
    intro c hst
    refine does_congr (does_connectTimeout s k) ?_
    have hsame : getConn (reach s.dev c.deadline) k.val = c := getConn_reach ..
    rw [reachO_connTime hst, connectTimeout_due]
    · rw [hsame, hst]
    · rw [hsame]; exact due_reach ..
  case drained => exact fun hst hreqs hbulk => does_congr (does_connectionDrainDone s k) (connectionDrainDone_empty hst hreqs hbulk)
  case settled => exact fun hst hreqs => does_congr (does_connectionErrorSettled s k) (connectionErrorSettled_settled hst hreqs)
  case quarantined =>
    intro c hst hin
    refine does_congr (does_connectionQuarantineEnd s k) ?_
    have hsame : getConn (reach s.dev c.deadline) k.val = c := getConn_reach ..
    rw [reachO_connTime hst, connectionQuarantineEnd_due, hsame]
    · rw [hsame, hst]
    · rw [inService3_reach, hin]
    · rw [hsame]; exact due_reach ..

/-- Settles O32: once its time has come, each expiry finds its timer due and takes its branch. -/
theorem connectionTimersAndEnds : Obligations.ConnectionTimersAndEnds := ⟨connectionTimers, connectionEnds, connectionCommandsComplete⟩

/-! ### The connection manager (R66, R67, R76, R110, R340) -/

section
variable {d : Dev}

/-- A REQ for this device that has arrived on a port is checked here. -/
theorem cmReq_forMe {q : CmReq} {p : CellNo} {x : Dev × Bool} (hx : cmArrives d p.val q.pcp.val q.srcAddr.toNat q.sec = x) (hvia : q.via = .port p) (harrives : x.2 = true)
    (hme : cmForMe x.1 q.dst.toNat = true) : cmReq d q = cmReqHere x.1 q p.val := by
  rw [cmReq, hvia]
  dsimp only
  rw [hx, if_neg (by rw [harrives]; decide), if_pos hme]

/-- A service ID that the device does not know is the first check to fail. -/
theorem cmReqHere_unknown {q : CmReq} {p : Nat} (hdata : q.service.toNat ≠ 20301) (hmgmt : q.service.toNat ≠ 20302) : cmReqHere d q p = sendRej d q 8 [] := if_pos ⟨hdata, hmgmt⟩

/-- A REQ for a data connection that passes all six checks gets the lowest free connection of its cell, and a REP. -/
theorem cmReqHere_accepted {q : CmReq} {p c v t i : Nat} (hservice : q.service.toNat = 20301) (hin : inService3 d = true) (hfrom : portRole d p = 1 ∨ q.fromDevice = true)
    (hcell : reqCell d p = some c) (hfence : cellFenced d c = false) (htx : txOn d c = true)
    (hversion : chooseVersion (offered q.priv).1 (offered q.priv).2 (minVer d c) (maxVer d c) = some v) (htenant : tenantOf d q.srcAddr.toNat = some t) (hquota : connQuotaOk d t = true)
    (hfree : (((List.range 1023).map (· + 1)).find? fun i => (getConn d (connKey c i)).state == .free) = some i) :
    cmReqHere d q p = sendRep (allocConn d (connKey c i) t v .data q (min (mtuOf (cfld d .OMT_CFG c 15 12)) (mtuOf q.pmtu.toNat))) (connKey c i) := by
  have hknown : ¬(q.service.toNat ≠ 20301 ∧ q.service.toNat ≠ 20302) := fun h => h.1 hservice
  have hport : (!inService3 d || (portRole d p != 1 && !q.fromDevice)) = false := by
    rcases hfrom with h | h <;> simp [hin, h]
  have hlive : ¬(cellFenced d c || !txOn d c) = true := by simp [hfence, htx]
  have hdata : ¬ q.service.toNat = 20302 := by omega
  rw [cmReqHere, if_neg hknown, hport, if_neg Bool.false_ne_true, hcell]
  dsimp only
  rw [if_neg hlive, hversion, htenant]
  dsimp only
  rw [if_neg (fun h => hdata h.1), if_neg (by simp [hdata, hquota]), hfree, if_neg hdata]

/-- A message that names a connection by its current generation reaches it. -/
theorem cmNamed_port {m : CmMsg} {p : CellNo} {k : Nat} {x : Dev × Bool} (go : Dev → Nat → Dev) (hx : cmArrives d p.val m.pcp.val m.srcAddr.toNat m.sec = x) (hvia : m.via = .port p)
    (harrives : x.2 = true) (hk : connOfQpn x.1 m.qpn.toNat = some k) : cmNamed d m go = go x.1 k := by
  rw [cmNamed, hvia]
  dsimp only
  rw [hx, if_pos harrives, hk]
  rfl

/-- On the management port a message names one of its 16 connections by number. -/
theorem cmNamed_mgmt {m : CmMsg} (go : Dev → Nat → Dev) (hvia : m.via = .mgmt) (hserved : served d (.port 0) = true) : cmNamed d m go = go d (portConnKey (m.qpn.toNat % 16)) := by
  rw [cmNamed, hvia]
  exact if_pos hserved

end

/-- Settles O3, check by check in the order in which the connection manager makes them. -/
theorem connectionManager : Obligations.ConnectionManager := by
  refine ⟨fun s q p c v t i => ?accepted, fun s q p => ?unknown, fun s m p k => ?named, fun s m => ?mgmt⟩
  case accepted =>
    intro x d hvia harrives hme hservice hin hfrom hcell hfence htx hversion htenant hquota hfree
    refine does_congr (does_cmReq s q) ?_
    rw [cmReq_forMe rfl hvia harrives hme, cmReqHere_accepted hservice hin hfrom hcell hfence htx hversion htenant hquota hfree]
  case unknown =>
    intro x hvia harrives hme hdata hmgmt
    refine does_congr (does_cmReq s q) ?_
    rw [cmReq_forMe rfl hvia harrives hme, cmReqHere_unknown hdata hmgmt]
  case named =>
    intro x hvia harrives hk
    refine ⟨fun hst => does_congr (does_cmRtu s m) ?_, fun hst => does_congr (does_cmDreq s m) ?_, does_congr (does_cmDrep s m) ?_⟩
    · exact (cmNamed_port _ rfl hvia harrives hk).trans (if_pos hst)
    · exact (cmNamed_port _ rfl hvia harrives hk).trans (if_pos hst)
    · exact cmNamed_port _ rfl hvia harrives hk
  case mgmt =>
    intro hvia hserved hst
    exact does_congr (does_cmRtu s m) ((cmNamed_mgmt _ hvia hserved).trans (if_pos hst))

end Sys2Proof.Machine
end

section
/-!
SUPPORT. A frame on its way out stays so: no function that runs by itself after a command drops a frame that has left or that waits at a port (spec/05_congestion.md R93,
spec/06_federation_fabric.md R103). The ground of the device: its tables, its events and errors, its pools, its ports and its routes.
-/
namespace Sys2Proof.Machine
open Sys2Proof

/-- A frame of a kind is among those sent, or waits at a port; the kind does not depend on when it leaves. -/
def Underway (F : Out → Prop) (out : List Out) (ports : NMap Port) : Prop :=
  AnyTime F ∧ ((∃ o ∈ out, F o) ∨ ∃ p, ∃ q ∈ (ngetD ports p {}).queue, F q.frame)

/-- A frame of a kind has left the device, or waits at one of its ports. -/
abbrev OnWay (F : Out → Prop) (d : Dev) : Prop := Underway F d.out d.ports

variable {F : Out → Prop}

theorem onWay_iff {d : Dev} : OnWay F d ↔ AnyTime F ∧ SentOut d F := Iff.rfl

theorem onWay_steady {d e : Dev} (hs : Steady d e) (h : OnWay F d) : OnWay F e := ⟨h.1, sentOut_steady hs h.2⟩

theorem onWay_ite {P : Prop} [Decidable P] {d e : Dev} (hd : OnWay F d) (he : OnWay F e) : OnWay F (if P then d else e) := by
  split
  · exact hd
  · exact he

theorem onWay_foldl {α β : Type} {f : Dev × β → α → Dev × β} {l : List α} {a : Dev × β} (hf : ∀ a x, OnWay F a.1 → OnWay F (f a x).1) (h : OnWay F a.1) :
    OnWay F (l.foldl f a).1 := by
  induction l generalizing a with
  | nil => exact h
  | cons x l ih => exact ih (hf a x h)

/-- e has sent what d has sent, and its ports stand as those of d. -/
def SameWay (d e : Dev) : Prop := e.out = d.out ∧ e.ports = d.ports

/-- A placement of promotions sends nothing and leaves the ports. -/
def KeepsWay (g : Dev → Nat → (Promo → Bool) → Dev) : Prop := ∀ d c f, SameWay d (g d c f)

/-- The recursive call that a body has at hand sends nothing and leaves the ports. -/
def CallKeepsWay : (n : Nat) → Placements n → Prop
  | 0, _ => True
  | _ + 1, b => KeepsWay b.1

theorem keepsWay_brecOn {body : (n : Nat) → Placements n → Dev → Nat → (Promo → Bool) → Dev} (h : ∀ n b, CallKeepsWay n b → KeepsWay (body n b)) (n : Nat) :
    KeepsWay (Nat.brecOn (motive := fun _ => Dev → Nat → (Promo → Bool) → Dev) n body) := by
  change KeepsWay (Nat.brecOn.go n body).1
  induction n with
  | zero => exact h _ _ trivial
  | succ n ih => exact h _ _ ih

theorem keepsWay_match {h0 : Dev → Nat → (Promo → Bool) → Placements 0 → Dev} {h1 : (n : Nat) → Dev → Nat → (Promo → Bool) → Placements (n + 1) → Dev}
    (hzero : ∀ d c f b, SameWay d (h0 d c f b)) (hsucc : ∀ n d c f b, KeepsWay b.1 → SameWay d (h1 n d c f b)) (n : Nat) (b : Placements n) (h : CallKeepsWay n b)
    (d : Dev) (c : Nat) (f : Promo → Bool) :
    SameWay d ((match (motive := (n : Nat) → (_ : Dev) → (_ : Nat) → (_ : Promo → Bool) → Placements n → Dev) n, d, c, f with
      | 0, d, c, f => h0 d c f
      | n + 1, d, c, f => h1 n d c f) b) := by
  cases n with
  | zero => exact hzero d c f b
  | succ n => exact hsucc n d c f b h

theorem placePromos_sameWay (n : Nat) (d : Dev) (c : Nat) (f : Promo → Bool) : SameWay d (placePromos n d c f) := by
  delta placePromos
  refine keepsWay_brecOn ?_ n d c f
  intro n b h d c f
  delta placePromos._f
  refine keepsWay_match ?_ ?_ n b h d c f
  · exact fun _ _ _ _ => ⟨rfl, rfl⟩
  · intro n d c f b hrec
    generalize freeSlot d c = slot
    split
    · exact hrec _ _ _
    · exact ⟨rfl, rfl⟩

theorem onWay_sameWay {d e : Dev} (hs : SameWay d e) (h : OnWay F d) : OnWay F e := by
  obtain ⟨hout, hports⟩ := hs
  rw [OnWay, hout, hports]
  exact h

theorem onWay_ite_fst {α : Type} {P : Prop} [Decidable P] {x y : Dev × α} (hx : OnWay F x.1) (hy : OnWay F y.1) : OnWay F (if P then x else y).1 := by
  split
  · exact hx
  · exact hy

theorem setReg_onWay (d : Dev) (r : RegId) (c i : Nat) (v : Word) (h : OnWay F d) : OnWay F (setReg d r c i v) := h

theorem bumpBy_onWay (d : Dev) (r : RegId) (c i n : Nat) (h : OnWay F d) : OnWay F (bumpBy d r c i n) := h

theorem bump_onWay (d : Dev) (r : RegId) (c i : Nat) (h : OnWay F d) : OnWay F (bump d r c i) := h

theorem stamped_onWay (d : Dev) (h : OnWay F d) : OnWay F (stamped d) := h

theorem send_onWay (d : Dev) (o : Out) (h : OnWay F d) : OnWay F (send d o) := ⟨h.1, sentOut_steady (steady_send d o) h.2⟩

theorem freeStep_onWay (d : Dev) (h : OnWay F d) : OnWay F (freeStep d) := h

theorem setPoison_onWay (d : Dev) (l : Nat) (h : OnWay F d) : OnWay F (setPoison d l) := h

theorem clearPoison_onWay (d : Dev) (l : Nat) (h : OnWay F d) : OnWay F (clearPoison d l) := h

theorem clearPagePoison_onWay (d : Dev) (k : Nat) (h : OnWay F d) : OnWay F (clearPagePoison d k) := h

theorem setConn_onWay (d : Dev) (k : Nat) (c : Conn) (h : OnWay F d) : OnWay F (setConn d k c) := h

theorem modConn_onWay (d : Dev) (k : Nat) (f : Conn → Conn) (h : OnWay F d) : OnWay F (modConn d k f) := h

theorem setHbm_onWay (d : Dev) (c : Nat) (h : Hbm) (hd : OnWay F d) : OnWay F (setHbm d c h) := hd

theorem setMed_onWay (d : Dev) (c : Nat) (m : Media) (h : OnWay F d) : OnWay F (setMed d c m) := h

theorem setAlc_onWay (d : Dev) (c : Nat) (a : Alcove) (h : OnWay F d) : OnWay F (setAlc d c a) := h

theorem setEng_onWay (d : Dev) (c : Nat) (e : Engines) (h : OnWay F d) : OnWay F (setEng d c e) := h

theorem setSump_onWay (d : Dev) (c : Nat) (v : SumpSet × SumpSet) (h : OnWay F d) : OnWay F (setSump d c v) := h

theorem setRail_onWay (d : Dev) (n : Nat) (r : Rail) (h : OnWay F d) : OnWay F (setRail d n r) := h

theorem forEach_onWay {α : Type} {f : Dev → α → Dev} {l : List α} {d : Dev} (hf : ∀ e x, OnWay F e → OnWay F (f e x)) (h : OnWay F d) : OnWay F (forEach l d f) := by
  induction l generalizing d with
  | nil => exact h
  | cons x l ih => exact ih (hf d x h)

theorem journalAdd_onWay (d : Dev) (r : LogRec) (h : OnWay F d) : OnWay F (journalAdd d r) := by
  grind [journalAdd, bump_onWay]

theorem logRecord_onWay (d : Dev) (sev cls cause unit requester reqCell access : Nat) (merged : Bool) (addr : Nat) (detail : List Nat) (h : OnWay F d) :
    OnWay F (logRecord d sev cls cause unit requester reqCell access merged addr detail) := by
  grind [logRecord, bump_onWay, journalAdd_onWay, stamped_onWay]

theorem logEvent_onWay (d : Dev) (sev unit : Nat) (detail : List Nat) (h : OnWay F d) : OnWay F (logEvent d sev unit detail) := by
  grind [logEvent, logRecord_onWay]

theorem setClassBit_onWay (d : Dev) (c : Nat) (h : OnWay F d) : OnWay F (setClassBit d c) := h

theorem openSump_onWay (d : Dev) (c : Nat) (h : OnWay F d) : OnWay F (openSump d c) := by
  grind [openSump, setSump_onWay]

theorem bulkError_onWay (d : Dev) (k : Nat) (h : OnWay F d) : OnWay F (bulkError d k) := by
  grind [bulkError, bumpBy_onWay]

theorem connError_onWay (d : Dev) (k : Nat) (h : OnWay F d) : OnWay F (connError d k) := by
  grind [connError, setConn_onWay, bulkError_onWay, bump_onWay]

theorem countDrain_onWay (d : Dev) (c : Nat) (e : MbEnt) (h : OnWay F d) : OnWay F (countDrain d c e) := h

theorem leaveProving_onWay (d : Dev) (cause : Nat) (h : OnWay F d) : OnWay F (leaveProving d cause) := by
  grind [leaveProving]

theorem endConns_onWay (d : Dev) (h : OnWay F d) : OnWay F (endConns d) := by
  grind [endConns, connError_onWay, forEach_onWay]

theorem haltNoFlush_onWay (d : Dev) (h : OnWay F d) : OnWay F (haltNoFlush d) := by
  grind [haltNoFlush, bump_onWay, forEach_onWay, leaveProving_onWay, endConns_onWay]

theorem severe_onWay (d : Dev) (cls : Nat) (act : SevereAct) (h : OnWay F d) : OnWay F (severe d cls act) := by
  unfold severe
  (repeat' split) <;> grind [haltNoFlush_onWay]

theorem capture_onWay (d : Dev) (x : Capture) (h : OnWay F d) : OnWay F (capture d x) := by
  grind [capture]

theorem raise_onWay (d : Dev) (e : FaultEvt) (act : SevereAct) (h : OnWay F d) : OnWay F (raise d e act) := by
  grind [raise, severe_onWay, logRecord_onWay, capture_onWay, stamped_onWay, setClassBit_onWay, bump_onWay]

theorem corrected_onWay (d : Dev) (cause unit addr access : Nat) (h : OnWay F d) : OnWay F (corrected d cause unit addr access) := by
  grind [corrected, raise_onWay]

theorem fenceCell_onWay (d : Dev) (c cause : Nat) (h : OnWay F d) : OnWay F (fenceCell d c cause) := onWay_steady (steady_fenceCell d c cause) h

theorem activate_onWay (d : Dev) (c a : Nat) (r : Requester) (h : OnWay F d) : OnWay F (activate d c a r) := by
  grind [activate, bump_onWay, bumpBy_onWay, setHbm_onWay]

theorem throttleTake_onWay (d : Dev) (c slot lo n : Nat) (r : Requester) (h : OnWay F d) : OnWay F (throttleTake d c slot lo n r) := by
  grind [throttleTake, setHbm_onWay]

theorem correctCodeword_onWay (d : Dev) (c a : Nat) (lanes : List Nat) (h : OnWay F d) : OnWay F (correctCodeword d c a lanes) := by
  grind [correctCodeword, corrected_onWay, setHbm_onWay, forEach_onWay, bump_onWay]

theorem failChannel_onWay (d : Dev) (c cause : Nat) (h : OnWay F d) : OnWay F (failChannel d c cause) := by
  grind [failChannel, fenceCell_onWay, raise_onWay, setHbm_onWay]

theorem ueLine_onWay (d : Dev) (c a codewords : Nat) (r : Requester) (h : OnWay F d) : OnWay F (ueLine d c a codewords r) := by
  grind [ueLine, failChannel_onWay, raise_onWay, setHbm_onWay, bump_onWay, bumpBy_onWay]

theorem setFrame_onWay (d : Dev) (k : Nat) (f : Frame) (h : OnWay F d) : OnWay F (setFrame d k f) := h

theorem delFrame_onWay (d : Dev) (k : Nat) (h : OnWay F d) : OnWay F (delFrame d k) := h

theorem decodeLine_onWay (d : Dev) (c a : Nat) (lanes : List Nat × List Nat) (r : Requester) (h : OnWay F d) : OnWay F (decodeLine d c a lanes r).1 := by
  grind [decodeLine, ueLine_onWay, bump_onWay, correctCodeword_onWay, forEach_onWay]

theorem setPort_onWay_of_subset {d : Dev} {p : Nat} {v : Port} (hqueue : ∀ q ∈ (getPort d p).queue, q ∈ v.queue) (h : OnWay F d) : OnWay F (setPort d p v) := by
  obtain ⟨hF, hout | ⟨p', q, hq, hFq⟩⟩ := h
  · exact ⟨hF, .inl hout⟩
  · refine ⟨hF, .inr ⟨p', q, ?_, hFq⟩⟩
    show q ∈ (getPort (setPort d p v) p').queue
    by_cases hp : p' = p
    · subst hp
      rw [getPort_setPort_same]
      exact hqueue q hq
    · rw [getPort_setPort_ne d v hp]
      exact hq

theorem setPort_onWay (d : Dev) (p : Nat) (v : Port) (hqueue : v.queue = (getPort d p).queue) (h : OnWay F d) : OnWay F (setPort d p v) := setPort_onWay_of_subset (fun _ hq => hqueue ▸ hq) h

theorem modPort_onWay (d : Dev) (p : Nat) (f : Port → Port) (hqueue : (f (getPort d p)).queue = (getPort d p).queue) (h : OnWay F d) : OnWay F (modPort d p f) := setPort_onWay d p _ hqueue h

theorem sendPfc_onWay (d : Dev) (p g quanta : Nat) (h : OnWay F d) : OnWay F (sendPfc d p g quanta) := send_onWay _ _ h

theorem pfcUpdate_onWay (d : Dev) (c : Nat) (h : OnWay F d) : OnWay F (pfcUpdate d c) := onWay_steady (steady_pfcUpdate d c) h

theorem takeBuf_onWay (d : Dev) (c pool size requester : Nat) (h : OnWay F d) : OnWay F (takeBuf d c pool size requester).1 := onWay_steady (steady_takeBuf d c pool size requester) h

theorem dropRef_onWay (d : Dev) (id : Nat) (h : OnWay F d) : OnWay F (dropRef d id) := onWay_steady (steady_dropRef d id) h

theorem dropBuf_onWay (d : Dev) (b : Option Nat) (h : OnWay F d) : OnWay F (dropBuf d b) := onWay_steady (steady_dropBuf d b) h

theorem takePieces_onWay {n : Nat} {d : Dev} {c size who : Nat} {reserve : Bool} {x : Dev × Nat} (h : takePieces n d c size who reserve = some x) (hd : OnWay F d) :
    OnWay F x.1 := onWay_steady (steady_takePieces h) hd

theorem takeBufs_onWay {d : Dev} {c size who : Nat} {reserve : Bool} {x : Dev × Nat} (h : takeBufs d c size who reserve = some x) (hd : OnWay F d) :
    OnWay F x.1 := onWay_steady (steady_takeBufs h) hd

theorem addRef_onWay (d : Dev) (id : Nat) (h : OnWay F d) : OnWay F (addRef d id).1 := by
  grind [addRef, takeBuf_onWay, bump_onWay]

theorem engineWait_onWay (d : Dev) (c requester : Nat) (use : WaitUse) (h : OnWay F d) : OnWay F (engineWait d c requester use) := h

theorem grantComp_onWay (d : Dev) (c : Nat) (h : OnWay F d) : OnWay F (grantComp d c) := h

theorem submitComp_onWay (d : Dev) (c cls page : Nat) (h : OnWay F d) : OnWay F (submitComp d c cls page) := by
  grind [submitComp, setEng_onWay, grantComp_onWay, engineWait_onWay]

theorem emit_onWay (d : Dev) (p : Nat) (e : Egress) (he : (getPort d p).queue.find? (fun x => x.pcp == e.pcp) = some e) (h : OnWay F d) : OnWay F (emit d p e) := ⟨h.1, sentOut_emit h.1 he h.2⟩

theorem drainCtrl_onWay (n : Nat) (d : Dev) (p : Nat) (h : OnWay F d) : OnWay F (drainCtrl n d p) := ⟨h.1, sentOut_drainCtrl n h.1 h.2⟩

theorem drrTurn_onWay (n : Nat) (d : Dev) (p pcp : Nat) (h : OnWay F d) : OnWay F (drrTurn n d p pcp) := ⟨h.1, sentOut_drrTurn n h.1 h.2⟩

theorem drrRounds_onWay (n : Nat) (d : Dev) (p : Nat) (h : OnWay F d) : OnWay F (drrRounds n d p) := ⟨h.1, sentOut_drrRounds n h.1 h.2⟩

theorem drainPort_onWay (d : Dev) (p : Nat) (h : OnWay F d) : OnWay F (drainPort d p) := ⟨h.1, sentOut_drainPort h.1 h.2⟩

theorem drainAll_onWay (d : Dev) (h : OnWay F d) : OnWay F (drainAll d) := by
  grind [drainAll, drainPort_onWay, forEach_onWay]

theorem carried_onWay (d : Dev) (p pcp : Nat) (h : OnWay F d) : OnWay F (carried d p pcp) := ⟨h.1, sentOut_carried h.2⟩

theorem enqueue_onWay (d : Dev) (p pcp bytes : Nat) (frame : Out) (buf : Option Nat) (h : OnWay F d) : OnWay F (enqueue d p pcp bytes frame buf) := by
  have hqueued : ∀ e : Egress, OnWay F (modPort d p fun q => { q with queue := q.queue ++ [e] }) := fun e =>
    setPort_onWay_of_subset (fun _ hq => List.mem_append_left _ hq) h
  unfold enqueue
  split
  · exact dropBuf_onWay _ _ h
  split
  · exact dropBuf_onWay _ _ h
  · exact onWay_ite (drainPort_onWay _ _ (carried_onWay _ _ _ (hqueued _))) (drainPort_onWay _ _ (carried_onWay _ _ _ (hqueued _)))

theorem sendCtl_onWay (d : Dev) (p bytes : Nat) (o : Out) (h : OnWay F d) : OnWay F (sendCtl d p bytes o) := by
  unfold sendCtl
  (repeat' split) <;> grind [bump_onWay, enqueue_onWay, takeBufs_onWay]

theorem sendClaimed_onWay (d : Dev) (opcode dest claim : Nat) (fields : List Nat) (h : OnWay F d) : OnWay F (sendClaimed d opcode dest claim fields) := by
  grind [sendClaimed, sendCtl_onWay, modPort_onWay, send_onWay]

theorem sendCtrl_onWay (d : Dev) (opcode dest : Nat) (fields : List Nat) (h : OnWay F d) : OnWay F (sendCtrl d opcode dest fields) := by
  grind [sendCtrl, sendClaimed_onWay]

theorem sendCopies_onWay (d : Dev) (opcode cell : Nat) (ports fields : List Nat) (h : OnWay F d) : OnWay F (sendCopies d opcode cell ports fields) := by
  unfold sendCopies
  split
  · exact h
  dsimp only
  split
  · exact bump_onWay _ _ _ _ h
  · rename_i htaken
    exact dropRef_onWay _ _ (forEach_onWay (fun e p he => enqueue_onWay _ _ _ _ _ _ (addRef_onWay _ _ he)) (takeBufs_onWay htaken h))

theorem flowletHop_onWay (d : Dev) (key : Nat) (h : HopSet) (pcp : Nat) (hd : OnWay F d) : OnWay F (flowletHop d key h pcp).1 := by
  grind [flowletHop, bump_onWay]

theorem learnHost_onWay (d : Dev) (p addr : Nat) (h : OnWay F d) : OnWay F (learnHost d p addr) := by
  grind [learnHost, bump_onWay]

theorem routeOut_onWay (d : Dev) (addr ret qpn pcp : Nat) (h : OnWay F d) : OnWay F (routeOut d addr ret qpn pcp).1 := by
  grind [routeOut, flowletHop_onWay, bump_onWay]

theorem connOut_onWay (d : Dev) (k : Nat) (response : Bool) (bytes : Nat) (frame : Wire → Out) (h : OnWay F d) : OnWay F (connOut d k response bytes frame) := by
  grind [connOut, routeOut_onWay, enqueue_onWay, send_onWay]

end Sys2Proof.Machine
end

section
/-!
SUPPORT. A frame on its way out stays so: no function that runs by itself after a command drops a frame that has left or that waits at a port (spec/05_congestion.md R93,
spec/06_federation_fabric.md R103). Requests: the transport, the home cell and the requests of hosts and twins.
-/
namespace Sys2Proof.Machine
open Sys2Proof

variable {F : Out → Prop}

theorem answered_onWay (d : Dev) (k psn : Nat) (h : OnWay F d) : OnWay F (answered d k psn) := h

theorem respond_onWay (d : Dev) (k extra : Nat) (pmh : Bool) (frame : Wire → Out) (h : OnWay F d) : OnWay F (respond d k extra pmh frame) := by
  grind [respond, connOut_onWay]

theorem putAck_onWay (d : Dev) (k : Nat) (a : About) (h : OnWay F d) : OnWay F (putAck d k a) := by
  grind [putAck, respond_onWay]

theorem putNak_onWay (d : Dev) (k : Nat) (a : About) (syndrome : Nat) (h : OnWay F d) : OnWay F (putNak d k a syndrome) := by
  grind [putNak, respond_onWay]

theorem putStatusNak_onWay (d : Dev) (k : Nat) (a : About) (syndrome status detail : Nat) (h : OnWay F d) : OnWay F (putStatusNak d k a syndrome status detail) := by
  grind [putStatusNak, respond_onWay]

theorem putAtomic_onWay (d : Dev) (k : Nat) (a : About) (orig : Nat) (h : OnWay F d) : OnWay F (putAtomic d k a orig) := by
  grind [putAtomic, respond_onWay]

theorem putRead_onWay (d : Dev) (k : Nat) (a : About) (addr : Nat) (bytes : List Byte) (bad : List Nat) (n : Nat) (h : OnWay F d) : OnWay F (putRead d k a addr bytes bad n) := by
  grind [putRead, bumpBy_onWay, respond_onWay, forEach_onWay]

theorem sendAck_onWay (d : Dev) (k : Nat) (a : About) (h : OnWay F d) : OnWay F (sendAck d k a) := by
  grind [sendAck, answered_onWay, putAck_onWay]

theorem fatalNak_onWay (d : Dev) (k : Nat) (a : About) (syndrome : Nat) (h : OnWay F d) : OnWay F (fatalNak d k a syndrome) := by
  grind [fatalNak, putNak_onWay, bump_onWay, connError_onWay]

theorem sendBusyCode_onWay (d : Dev) (k : Nat) (a : About) (code wait : Nat) (h : OnWay F d) : OnWay F (sendBusyCode d k a code wait) := by
  grind [sendBusyCode, putStatusNak_onWay, putNak_onWay, bump_onWay]

theorem sendBusy_onWay (d : Dev) (k : Nat) (a : About) (wait : Nat) (h : OnWay F d) : OnWay F (sendBusy d k a wait) := by
  grind [sendBusy, sendBusyCode_onWay]

theorem sendBusyPool_onWay (d : Dev) (k : Nat) (a : About) (h : OnWay F d) : OnWay F (sendBusyPool d k a) := by
  grind [sendBusyPool, sendBusyCode_onWay]

theorem sendEpoch_onWay (d : Dev) (k : Nat) (a : About) (h : OnWay F d) : OnWay F (sendEpoch d k a) := by
  grind [sendEpoch, putStatusNak_onWay, putNak_onWay, bump_onWay]

theorem addReplay_onWay (d : Dev) (k : Nat) (r : Replay) (h : OnWay F d) : OnWay F (addReplay d k r) := h

theorem sendStatus_onWay (d : Dev) (k : Nat) (a : About) (reqPsn kind status : Nat) (h : OnWay F d) : OnWay F (sendStatus d k a reqPsn kind status) := by
  grind [sendStatus, addReplay_onWay, answered_onWay, putStatusNak_onWay, bump_onWay, fatalNak_onWay]

theorem putRequest_onWay (d : Dev) (k : Nat) (s : Sent) (ackReq : Bool) (h : OnWay F d) : OnWay F (putRequest d k s ackReq) := by
  grind [putRequest, connOut_onWay]

theorem leave_onWay (d : Dev) (k : Nat) (s : Sent) (h : OnWay F d) : OnWay F (leave d k s) := by
  grind [leave, setConn_onWay, putRequest_onWay]

theorem trySend_onWay (d : Dev) (k : Nat) (h : OnWay F d) : OnWay F (trySend d k) := by
  refine onWay_foldl (fun a s ha => ?_) h
  exact onWay_ite_fst (leave_onWay _ _ _ ha) ha

theorem sendRequest_onWay (d : Dev) (k addr : Nat) (kind : SentKind) (hold persist : Bool) (ts : Nat) (data : List Byte) (bad : List Nat) (buf : Option Nat) (h : OnWay F d) :
    OnWay F (sendRequest d k addr kind hold persist ts data bad buf) := by
  grind [sendRequest, dropBuf_onWay, setConn_onWay, trySend_onWay]

theorem closeSample_onWay (d : Dev) (k rtt sentAt : Nat) (h : OnWay F d) : OnWay F (closeSample d k rtt sentAt) := by
  grind [closeSample, setConn_onWay, bump_onWay]

theorem dropSample_onWay (d : Dev) (k : Nat) (h : OnWay F d) : OnWay F (dropSample d k) := by
  grind [dropSample, setConn_onWay, bump_onWay]

theorem sampleAck_onWay (d : Dev) (k psn : Nat) (h : OnWay F d) : OnWay F (sampleAck d k psn) := by
  unfold sampleAck
  (repeat' split) <;> grind [closeSample_onWay, dropSample_onWay]

theorem ackAdvance_onWay (d : Dev) (k psn : Nat) (by_ : Covering) (h : OnWay F d) : OnWay F (ackAdvance d k psn by_).1 := by
  unfold ackAdvance
  (repeat' split) <;> grind [trySend_onWay, sampleAck_onWay, dropBuf_onWay, forEach_onWay, setConn_onWay, modConn_onWay]

theorem retransmit_onWay (d : Dev) (k : Nat) (h : OnWay F d) : OnWay F (retransmit d k) := by
  grind [retransmit, putRequest_onWay, forEach_onWay, dropSample_onWay]

theorem mirrorStamp_onWay (d : Dev) (n : Nat) (h : OnWay F d) : OnWay F (mirrorStamp d n).1 := h

theorem stampSent_onWay (d : Dev) (n ts : Nat) (h : OnWay F d) : OnWay F (stampSent d n ts) := h

theorem sendMirror_onWay (d : Dev) (n addr : Nat) (kind : SentKind) (hold persist : Bool) (ts : Nat) (data : List Byte) (bad : List Nat) (buf : Option Nat) (h : OnWay F d) :
    OnWay F (sendMirror d n addr kind hold persist ts data bad buf) := by
  grind [sendMirror, sendRequest_onWay, dropBuf_onWay]

theorem alcDropFrame_onWay (d : Dev) (c slot : Nat) (h : OnWay F d) : OnWay F (alcDropFrame d c slot) := h

theorem takeFlip_onWay (d : Dev) (target c a : Nat) (h : OnWay F d) : OnWay F (takeFlip d target c a).1 := by
  grind [takeFlip]

theorem flipT1_onWay (d : Dev) (c a : Nat) (h : OnWay F d) : OnWay F (flipT1 d c a) := by
  grind [flipT1, takeFlip_onWay]

theorem flipT0_onWay (d : Dev) (target c a : Nat) (site : Nat → ErrSite) (h : OnWay F d) : OnWay F (flipT0 d target c a site) := by
  grind [flipT0, takeFlip_onWay]

theorem dropSites_onWay (d : Dev) (c a : Nat) (f : ErrSite → Bool) (h : OnWay F d) : OnWay F (dropSites d c a f) := by
  grind [dropSites]

theorem installLine_onWay (d : Dev) (c a : Nat) (p : Bool) (h : OnWay F d) : OnWay F (installLine d c a p) := by
  grind [installLine, flipT0_onWay, setAlc_onWay, dropSites_onWay]

theorem touchRepair_onWay (d : Dev) (line : Nat) (h : OnWay F d) : OnWay F (touchRepair d line) := h

theorem askRepair_onWay (d : Dev) (line : Nat) (h : OnWay F d) : OnWay F (askRepair d line) := by
  grind [askRepair, sendMirror_onWay]

theorem fetchT1_onWay (d : Dev) (c a line : Nat) (le : List Nat × List Nat) (r : Requester) (h : OnWay F d) : OnWay F (fetchT1 d c a line le r) := by
  grind [fetchT1, setPoison_onWay, decodeLine_onWay, ueLine_onWay, askRepair_onWay, activate_onWay]

theorem drainT1_onWay (d : Dev) (c a : Nat) (e : MbEnt) (h : OnWay F d) : OnWay F (drainT1 d c a e) := by
  grind [drainT1, activate_onWay, fetchT1_onWay]

theorem drainEntry_onWay (d : Dev) (c : Nat) (e : MbEnt) (h : OnWay F d) : OnWay F (drainEntry d c e) := by
  grind [drainEntry, drainT1_onWay, flipT1_onWay, setAlc_onWay, countDrain_onWay]

theorem alcErr_onWay (d : Dev) (c kind a : Nat) (h : OnWay F d) : OnWay F (alcErr d c kind a) := h

theorem mbRead_onWay (d : Dev) (c line : Nat) (sites : List ErrSite) (h : OnWay F d) : OnWay F (mbRead d c line sites) := by
  unfold mbRead
  (repeat' split) <;> grind [corrected_onWay, drainEntry_onWay, setPoison_onWay, bump_onWay, alcErr_onWay, raise_onWay, dropSites_onWay]

theorem drainRead_onWay (d : Dev) (c : Nat) (e : MbEnt) (h : OnWay F d) : OnWay F (drainRead d c e) := by
  grind [drainRead, drainEntry_onWay, mbRead_onWay]

theorem drainCell_onWay (d : Dev) (c : Nat) (h : OnWay F d) : OnWay F (drainCell d c) := by
  grind [drainCell, drainRead_onWay, forEach_onWay]

theorem mbWrite_onWay (d : Dev) (c line lo n : Nat) (mark : Bool) (h : OnWay F d) : OnWay F (mbWrite d c line lo n mark) := by
  grind [mbWrite, dropSites_onWay, drainRead_onWay, flipT0_onWay, setAlc_onWay, bump_onWay]

theorem alcUncorrectable_onWay (d : Dev) (c a : Nat) (h : OnWay F d) : OnWay F (alcUncorrectable d c a) := by
  grind [alcUncorrectable, raise_onWay, setAlc_onWay, bump_onWay, alcErr_onWay]

theorem alcBad_onWay (d : Dev) (c a : Nat) (sites : List ErrSite) (h : OnWay F d) : OnWay F (alcBad d c a sites) := by
  grind [alcBad, alcUncorrectable_onWay, setAlc_onWay, dropSites_onWay, bump_onWay, alcErr_onWay]

theorem alcCorrected_onWay (d : Dev) (c a : Nat) (sites : List ErrSite) (h : OnWay F d) : OnWay F (alcCorrected d c a sites) := by
  grind [alcCorrected, setAlc_onWay, dropSites_onWay, bump_onWay, corrected_onWay]

theorem readLine_onWay (d : Dev) (line base : Nat) (span : Nat × Nat) (errs : List LineErr) (noFill : Bool) (r : Requester) (h : OnWay F d) :
    OnWay F (readLine d line base span errs noFill r) := by
  grind [readLine, installLine_onWay, fetchT1_onWay, alcCorrected_onWay, alcBad_onWay, bump_onWay, mbRead_onWay]

theorem readSpan_onWay (d : Dev) (addr n base : Nat) (errs : List LineErr) (noFill : Bool) (r : Requester) (h : OnWay F d) : OnWay F (readSpan d addr n base errs noFill r) := by
  grind [readSpan, readLine_onWay, forEach_onWay]

theorem writePageT1_onWay (d : Dev) (k : Nat) (r : Requester) (h : OnWay F d) : OnWay F (writePageT1 d k r) := by
  grind [writePageT1, flipT1_onWay, activate_onWay, forEach_onWay]

theorem askCredit_onWay (d : Dev) (tenant c : Nat) (h : OnWay F d) : OnWay F (askCredit d tenant c) := by
  grind [askCredit]

theorem takeCredit_onWay (d : Dev) (k : Nat) (h : OnWay F d) : OnWay F (takeCredit d k) := by
  grind [takeCredit, askCredit_onWay]

theorem askDirty_onWay (d : Dev) (c : Nat) (h : OnWay F d) : OnWay F (askDirty d c) := by
  grind [askDirty]

theorem modSnapPage_onWay (d : Dev) (act k : Nat) (f : SnapPage → SnapPage) (h : OnWay F d) : OnWay F (modSnapPage d act k f) := h

theorem preserve_onWay (d : Dev) (k : Nat) (snaps : List Nat) (h : OnWay F d) : OnWay F (preserve d k snaps) := by
  grind [preserve, forEach_onWay]

theorem openCut_onWay (d : Dev) (act set t : Nat) (msg : Bool) (h : OnWay F d) : OnWay F (openCut d act set t msg) := by
  grind [openCut]

theorem openCuts_onWay (d : Dev) (chamber ts : Nat) (h : OnWay F d) : OnWay F (openCuts d chamber ts) := by
  grind [openCuts, openCut_onWay, forEach_onWay]

theorem touchMeta_onWay (d : Dev) (c : Nat) (h : OnWay F d) : OnWay F (touchMeta d c) := h

theorem setMapEnt_onWay (d : Dev) (k : Nat) (e : MapEnt) (h : OnWay F d) : OnWay F (setMapEnt d k e) := h

theorem dropCharge_onWay (d : Dev) (k : Nat) (h : OnWay F d) : OnWay F (dropCharge d k) := h

theorem wakeDestaged_onWay (d : Dev) (k : Nat) (h : OnWay F d) : OnWay F (wakeDestaged d k) := h

theorem forgetPage_onWay (d : Dev) (k : Nat) (h : OnWay F d) : OnWay F (forgetPage d k) := by
  grind [forgetPage, wakeDestaged_onWay, clearPagePoison_onWay, dropCharge_onWay, setAlc_onWay, alcDropFrame_onWay, dropBuf_onWay]

theorem trimPage_onWay (d : Dev) (k : Nat) (h : OnWay F d) : OnWay F (trimPage d k) := by
  grind [trimPage, forgetPage_onWay, setMapEnt_onWay]

theorem markRegion_onWay (d : Dev) (k : Nat) (h : OnWay F d) : OnWay F (markRegion d k) := by
  grind [markRegion, bump_onWay]

theorem raisePromo_onWay (d : Dev) (k : Nat) (p : Promo) (h : OnWay F d) : OnWay F (raisePromo d k p) := by
  grind [raisePromo, submitComp_onWay]

theorem startPromo_onWay (d : Dev) (k : Nat) (cls : PromoClass) (h : OnWay F d) : OnWay F (startPromo d k cls).1 := by
  grind [startPromo, sendMirror_onWay, setFrame_onWay, bump_onWay, raisePromo_onWay]

theorem placePromos_onWay (n : Nat) (d : Dev) (c : Nat) (f : Promo → Bool) (h : OnWay F d) : OnWay F (placePromos n d c f) := onWay_sameWay (placePromos_sameWay n d c f) h

theorem bringPage_onWay (d : Dev) (k : Nat) (cls : PromoClass) (h : OnWay F d) : OnWay F (bringPage d k cls).1 := by
  unfold bringPage
  (repeat' split) <;> grind [setPoison_onWay, forEach_onWay, setFrame_onWay, startPromo_onWay]

theorem applyLine_onWay (d : Dev) (slot line lo n : Nat) (mark : Bool) (h : OnWay F d) : OnWay F (applyLine d slot line lo n mark) := by
  grind [applyLine, mbWrite_onWay, setAlc_onWay, flipT0_onWay, alcBad_onWay, touchRepair_onWay, clearPoison_onWay, setPoison_onWay]

theorem applyRepair_onWay (d : Dev) (line : Nat) (data : Option (List Byte)) (bad : Bool) (h : OnWay F d) : OnWay F (applyRepair d line data bad) := by
  grind [applyRepair, applyLine_onWay, askRepair_onWay, bump_onWay]

theorem applyBytes_onWay (d : Dev) (k off : Nat) (data : List Byte) (marks : List Nat) (h : OnWay F d) : OnWay F (applyBytes d k off data marks) := by
  grind [applyBytes, applyLine_onWay, forEach_onWay, setFrame_onWay, takeCredit_onWay]

theorem writeGate_onWay (d : Dev) (r : Req) (p : Part) (n credit dirty : Nat) (h : OnWay F d) : OnWay F (writeGate d r p n credit dirty).1 := by
  unfold writeGate
  extract_lets k c twin e who snaps counted thr t whole
  have he : OnWay F e := onWay_ite (openCuts_onWay _ _ _ h) h
  have hbring : OnWay F (bringPage e k).1 := bringPage_onWay e k _ he
  generalize thr = thr'
  generalize e = e' at *
  generalize bringPage e' k = brought at *
  generalize freeSlot e' c = slot
  split
  · split
    · exact he
    · exact bump_onWay _ _ _ _ he
  · cases thr' with
    | some t => exact he
    | none =>
      dsimp only
      split
      · exact he
      · generalize hb : (if whole = true then _ else brought) = b
        have hb' : OnWay F b.1 := by
          rw [← hb]
          split
          · split <;> exact he
          · exact hbring
        obtain ⟨f, at0⟩ := b
        change OnWay F f at hb'
        cases at0 with
        | wait => exact bump_onWay _ _ _ _ hb'
        | noFrame => exact hb'
        | failed =>
          dsimp only
          split
          · exact hb'
          · exact bump_onWay _ _ _ _ hb'
        | here =>
          exact onWay_ite_fst (bump_onWay _ _ _ _ hb') (onWay_ite_fst (askCredit_onWay _ _ _ hb') (onWay_ite_fst hb'
            (onWay_ite (askDirty_onWay _ _ hb') (bump_onWay _ _ _ _ (askDirty_onWay _ _ hb')))))

theorem frameFor_onWay (d : Dev) (k : Nat) (h : OnWay F d) : OnWay F (frameFor d k) := by
  grind [frameFor, setFrame_onWay]

theorem afterApply_onWay (d : Dev) (r : Req) (p : Part) (data : List Byte) (marks : List Nat) (h : OnWay F d) : OnWay F (afterApply d r p data marks).1 := by
  grind [afterApply, stampSent_onWay, sendMirror_onWay, addRef_onWay, markRegion_onWay]

theorem gateAll_onWay (d : Dev) (r : Req) (ps : List Part) (h : OnWay F d) : OnWay F (gateAll d r ps).1 := by
  unfold gateAll
  extract_lets x
  have hx : OnWay F x.1 := by
    refine onWay_foldl (fun a p ha => ?_) h
    have hgate := writeGate_onWay a.1 r p p.n a.2.2.2.1 a.2.2.2.2 ha
    generalize writeGate a.1 r p p.n a.2.2.2.1 a.2.2.2.2 = g at hgate
    obtain ⟨e, res⟩ := g
    cases res <;> exact hgate
  generalize x = y at hx
  generalize freeFrames y.1 _ = free
  split
  · exact hx
  · exact onWay_ite_fst hx hx

theorem applyWrite_onWay (d : Dev) (r : Req) (p : Part) (h : OnWay F d) : OnWay F (applyWrite d r p).1 := by
  grind [applyWrite, frameFor_onWay, applyBytes_onWay, afterApply_onWay, preserve_onWay, throttleTake_onWay]

theorem runWrite_onWay (d : Dev) (r : Req) (ps : List Part) (h : OnWay F d) : OnWay F (runWrite d r ps).1 := by
  have hg := gateAll_onWay d r ps h
  unfold runWrite
  generalize gateAll d r ps = g at hg
  obtain ⟨e, qs, pass⟩ := g
  cases pass with
  | false => exact hg
  | true => exact onWay_foldl (fun a p ha => applyWrite_onWay a.1 r p ha) hg

theorem partTake_onWay (d : Dev) (r : Req) (p : Part) (who : Requester) (h : OnWay F d) : OnWay F (partTake d r p who) := by
  grind [partTake, throttleTake_onWay]

theorem runAtomic_onWay (d : Dev) (r : Req) (p : Part) (h : OnWay F d) : OnWay F (runAtomic d r p).1 := by
  unfold runAtomic
  extract_lets +onlyGivenNames to_ who
  have hbring := bringPage_onWay d (pageKey r.chamber p.page) .demand h
  generalize bringPage d (pageKey r.chamber p.page) = brought at hbring
  split
  · exact h
  · exact hbring
  · exact hbring
  · exact bump_onWay _ _ _ _ hbring
  · rename_i e
    extract_lets +onlyGivenNames k addr d1 d2
    have h2 : OnWay F d2 := readLine_onWay _ _ _ _ _ _ _ (partTake_onWay _ _ _ _ hbring)
    clear_value d2
    refine onWay_ite_fst h2 ?_
    extract_lets +onlyGivenNames old hit
    refine onWay_ite_fst (addReplay_onWay _ _ _ h2) ?_
    have hgate := writeGate_onWay d2 r p 8 0 0 h2
    generalize writeGate d2 r p 8 0 0 = gate at hgate
    split
    · exact hgate
    · exact afterApply_onWay _ _ _ _ _ (addReplay_onWay _ _ _ (applyBytes_onWay _ _ _ _ _ (preserve_onWay _ _ _ hgate)))

theorem runRead_onWay (d : Dev) (r : Req) (p : Part) (h : OnWay F d) : OnWay F (runRead d r p).1 := by
  grind [runRead, readSpan_onWay, partTake_onWay, bump_onWay, bringPage_onWay]

theorem runTrim_onWay (d : Dev) (r : Req) (p : Part) (h : OnWay F d) : OnWay F (runTrim d r p).1 := by
  grind [runTrim, afterApply_onWay, preserve_onWay, trimPage_onWay, askDirty_onWay, bump_onWay]

theorem runLoad_onWay (d : Dev) (r : Req) (p : Part) (h : OnWay F d) : OnWay F (runLoad d r p).1 := by
  grind [runLoad, bringPage_onWay]

theorem runVerify_onWay (d : Dev) (r : Req) (p : Part) (h : OnWay F d) : OnWay F (runVerify d r p).1 := by
  grind [runVerify, partTake_onWay, readSpan_onWay, bringPage_onWay]

theorem failCheck_onWay (d : Dev) (c : Nat) (x : Bool) (i status key qpn : Nat) (h : OnWay F d) : OnWay F (failCheck d c x i status key qpn) := h

theorem failReq_onWay (d : Dev) (r : Req) (x : Bool) (i status : Nat) (h : OnWay F d) : OnWay F (failReq d r x i status) := h

theorem cacheKey_onWay (d : Dev) (c idx : Nat) (h : OnWay F d) : OnWay F (cacheKey d c idx) := by
  grind [cacheKey, bump_onWay]

theorem setReq_onWay (d : Dev) (r : Req) (h : OnWay F d) : OnWay F (setReq d r) := h

theorem delReq_onWay (d : Dev) (i : Nat) (h : OnWay F d) : OnWay F (delReq d i) := h

theorem addReq_onWay (d : Dev) (r : Req) (h : OnWay F d) : OnWay F (addReq d r) := h

theorem lateChecks_onWay (d : Dev) (r : Req) (key : Nat) (h : OnWay F d) : OnWay F (lateChecks d r key).1 := by
  grind [lateChecks, failCheck_onWay]

theorem admitReq_onWay (d : Dev) (r : Req) (h : OnWay F d) : OnWay F (admitReq d r) := by
  grind [admitReq, lateChecks_onWay, setReq_onWay]

theorem refuseMirror_onWay (d : Dev) (r : Req) (h : OnWay F d) : OnWay F (refuseMirror d r) := h

theorem retryMirror_onWay (d : Dev) (r : Req) (h : OnWay F d) : OnWay F (retryMirror d r) := by
  grind [retryMirror, refuseMirror_onWay, setReq_onWay]

theorem retryCustody_onWay (d : Dev) (r : Req) (h : OnWay F d) : OnWay F (retryCustody d r) := by
  grind [retryCustody, admitReq_onWay, failReq_onWay, setReq_onWay, retryMirror_onWay]

theorem copied_onWay (d : Dev) (k : Nat) (h : OnWay F d) : OnWay F (copied d k) := by
  grind [copied]

theorem bringDigest_onWay (d : Dev) (k : Nat) (h : OnWay F d) : OnWay F (bringDigest d k).1 := by
  grind [bringDigest, bringPage_onWay]

theorem runMarker_onWay (d : Dev) (r : Req) (p : Part) (h : OnWay F d) : OnWay F (runMarker d r p).1 := by
  grind [runMarker, sendMirror_onWay, bringDigest_onWay]

theorem runCommitMark_onWay (d : Dev) (r : Req) (p : Part) (h : OnWay F d) : OnWay F (runCommitMark d r p).1 := by
  grind [runCommitMark, sendMirror_onWay]

theorem putParts_onWay (d : Dev) (id : Nat) (ps : List Part) (h : OnWay F d) : OnWay F (putParts d id ps) := by
  grind [putParts, setReq_onWay]

theorem runPart_onWay (d : Dev) (r : Req) (p : Part) (h : OnWay F d) : OnWay F (runPart d r p) := by
  grind [runPart, setReq_onWay, runAtomic_onWay, runTrim_onWay, runLoad_onWay, runCommitMark_onWay, runMarker_onWay, runVerify_onWay, runRead_onWay, putParts_onWay]

theorem forEach_page_onWay {copy : Dev → Nat → Dev} {key : Part → Nat} {d : Dev} {l : List Part} (hcopy : ∀ e k, OnWay F e → OnWay F (copy e k)) (h : OnWay F d) :
    OnWay F (forEach l d fun d p => copy d (key p)) :=
  forEach_onWay (fun e p => hcopy e (key p)) h

theorem runGroup_onWay (d : Dev) (r : Req) (ps : List Part) (h : OnWay F d) : OnWay F (runGroup d r ps) := by
  have hw := runWrite_onWay d r ps h
  unfold runGroup
  generalize runWrite d r ps = x at hw
  exact putParts_onWay _ _ _ (onWay_ite (forEach_page_onWay (copy := copied) copied_onWay hw) hw)

theorem restamp_onWay (d : Dev) (r : Req) (p : Part) (h : OnWay F d) : OnWay F (restamp d r p).1 := by
  grind [restamp, mirrorStamp_onWay]

theorem runCommit_onWay (d : Dev) (r : Req) (h : OnWay F d) : OnWay F (runCommit d r) := by
  grind [runCommit, setReq_onWay]

theorem issuePart_onWay (d : Dev) (id : Nat) (p : Part) (h : OnWay F d) : OnWay F (issuePart d id p) := by
  grind [issuePart, putParts_onWay, mirrorStamp_onWay]

theorem issueReq_onWay (d : Dev) (id : Nat) (h : OnWay F d) : OnWay F (issueReq d id) := by
  grind [issueReq, issuePart_onWay, setReq_onWay, forEach_onWay]

theorem runArrival_onWay (d : Dev) (x : Nat × Nat × Nat) (h : OnWay F d) : OnWay F (runArrival d x) := by
  have hfold : ∀ (l : List Part) (r : Req), OnWay F (l.foldl (fun (a : Dev × List Part) q => let z := restamp a.1 r q; (z.1, a.2 ++ [z.2])) (d, [])).1 :=
    fun l r => onWay_foldl (fun a q ha => restamp_onWay a.1 r q ha) h
  unfold runArrival
  split
  · exact h
  split
  · exact h
  dsimp only
  split
  · exact h
  split
  · split
    · exact putParts_onWay _ _ _ h
    split
    · exact h
    · exact runGroup_onWay _ _ _ (hfold _ _)
  split
  · exact h
  · exact runPart_onWay _ _ _ (restamp_onWay _ _ _ h)

theorem finishReq_onWay (d : Dev) (id : Nat) (h : OnWay F d) : OnWay F (finishReq d id) := by
  grind [finishReq, setReq_onWay, runCommit_onWay]

theorem runReqs_onWay (n : Nat) (d : Dev) (h : OnWay F d) : OnWay F (runReqs n d) := by
  induction n generalizing d with
  | zero => exact h
  | succ n ih =>
    have hrun : ∀ e l₁ l₂ l₃, OnWay F e → OnWay F (forEach l₃ (forEach l₂ (forEach l₁ e issueReq) runArrival) finishReq) := fun e l₁ l₂ l₃ he =>
      forEach_onWay finishReq_onWay (forEach_onWay runArrival_onWay (forEach_onWay issueReq_onWay he))
    rw [runReqs]
    split
    · exact ih _ (hrun _ _ _ _ h)
    · exact hrun _ _ _ _ h

theorem setPlan_onWay (d : Dev) (n : Nat) (p : Plan) (h : OnWay F d) : OnWay F (setPlan d n p) := h

theorem unpin_onWay (d : Dev) (n slot : Nat) (h : OnWay F d) : OnWay F (unpin d n slot) := by
  unfold unpin
  extract_lets p d1
  have h1 : OnWay F d1 := setPlan_onWay _ _ _ h
  split
  · exact h1
  extract_lets k
  split
  · exact h1
  extract_lets pins d2
  have h2 : OnWay F d2 := setFrame_onWay _ _ _ h1
  split
  · exact onWay_ite (delFrame_onWay _ _ h2) h2
  · exact h2

theorem moveCursor_onWay (d : Dev) (n c : Nat) (h : OnWay F d) : OnWay F (moveCursor d n c) := by
  grind [moveCursor, unpin_onWay, forEach_onWay, setPlan_onWay, bumpBy_onWay]

theorem consumeRead_onWay (d : Dev) (tenant chamber off len : Nat) (h : OnWay F d) : OnWay F (consumeRead d tenant chamber off len) := by
  grind [consumeRead, moveCursor_onWay, setPlan_onWay, bump_onWay, forEach_onWay]

theorem answerRead_onWay (d : Dev) (r : Req) (h : OnWay F d) : OnWay F (answerRead d r) := by
  grind [answerRead, sendStatus_onWay, bump_onWay, answered_onWay, putRead_onWay]

theorem answerWrite_onWay (d : Dev) (r : Req) (h : OnWay F d) : OnWay F (answerWrite d r) := by
  grind [answerWrite, setConn_onWay, sendAck_onWay]

theorem answerBusy_onWay (d : Dev) (r : Req) (h : OnWay F d) : OnWay F (answerBusy d r) := by
  grind [answerBusy, dropBuf_onWay, forEach_onWay, modConn_onWay, sendBusy_onWay]

theorem answerOne_onWay (d : Dev) (r : Req) (status : Nat) (h : OnWay F d) : OnWay F (answerOne d r status) := by
  grind [answerOne, sendStatus_onWay, answerWrite_onWay, addReplay_onWay, sendAck_onWay, answered_onWay, putAtomic_onWay, answerRead_onWay, answerBusy_onWay, setReq_onWay, dropBuf_onWay,
      delReq_onWay, consumeRead_onWay]

theorem answerConn_onWay (n : Nat) (d : Dev) (k : Nat) (h : OnWay F d) : OnWay F (answerConn n d k) := by
  induction n generalizing d with
  | zero => exact h
  | succ n ih =>
    rw [answerConn]
    split
    · exact h
    split
    · exact ih _ (answerOne_onWay _ _ _ h)
    · exact h

theorem dropSilent_onWay (d : Dev) (h : OnWay F d) : OnWay F (dropSilent d) := by
  grind [dropSilent, dropBuf_onWay, delReq_onWay, forEach_onWay]

theorem pump_onWay (d : Dev) (h : OnWay F d) : OnWay F (pump d) := by
  grind [pump, answerConn_onWay, forEach_onWay, dropSilent_onWay, runReqs_onWay]

theorem requeue_onWay (d : Dev) (f : Req → Part → Bool) (h : OnWay F d) : OnWay F (requeue d f) := h

theorem pumpCustody_onWay (d : Dev) (h : OnWay F d) : OnWay F (pumpCustody d) := by
  grind [pumpCustody, retryCustody_onWay, forEach_onWay, pump_onWay]

theorem countPcp_onWay (d : Dev) (p : Pkt) (want : Nat) (h : OnWay F d) : OnWay F (countPcp d p want) := by
  grind [countPcp, bump_onWay]

theorem enterReady_onWay (d : Dev) (k : Nat) (h : OnWay F d) : OnWay F (enterReady d k) := h

theorem duplicate_onWay {d : Dev} {k : Nat} {a : About} {op : OpKind} {again : Dev → Dev} (hagain : ∀ e, OnWay F e → OnWay F (again e)) (h : OnWay F d) : OnWay F (duplicate d k a op again) := by
  grind [duplicate, connError_onWay, putAck_onWay, putAtomic_onWay, putStatusNak_onWay, putNak_onWay, bump_onWay]

theorem replayed_onWay {d e : Dev} {k : Nat} {a : About} {op : OpKind} {pkts : Nat} (he : replayed d k a op pkts = some e) (h : OnWay F d) : OnWay F e := by
  grind [replayed, putAtomic_onWay, putAck_onWay, answered_onWay, modConn_onWay, bump_onWay]

theorem receive_onWay {d : Dev} {p : Pkt} {chm : Option Nat} {op : OpKind} {payload : Bool} {pkts : Nat → Nat} {again go : Dev → Nat → Dev}
    (hagain : ∀ e k, OnWay F e → OnWay F (again e k)) (hgo : ∀ e k, OnWay F e → OnWay F (go e k)) (h : OnWay F d) : OnWay F (receive d p chm op payload pkts again go) := by
  unfold receive
  extract_lets +onlyGivenNames d1 k gen oxh a
  have h1 : OnWay F d1 := countPcp_onWay _ _ _ h
  clear_value d1 k gen oxh a
  split
  · exact h1
  split
  · exact bump_onWay _ _ _ _ h1
  split
  · exact bump_onWay _ _ _ _ h1
  extract_lets +onlyGivenNames c
  split
  · exact bump_onWay _ _ _ _ h1
  extract_lets +onlyGivenNames d2 c2 cls
  have h2 : OnWay F d2 := onWay_ite (enterReady_onWay _ _ h1) h1
  clear_value cls c2 d2
  split
  · split
    · exact fatalNak_onWay _ _ _ _ (bump_onWay _ _ _ _ h2)
    · exact h2
  split
  · exact bump_onWay _ _ _ _ h2
  split
  · exact duplicate_onWay (fun e => hagain e k) h2
  · split
    · exact h2
    · exact bump_onWay _ _ _ _ (putNak_onWay _ _ _ _ (setConn_onWay _ _ _ h2))
  extract_lets +onlyGivenNames d3
  have h3 : OnWay F d3 := setConn_onWay _ _ _ h2
  clear_value d3
  split
  · exact bump_onWay _ _ _ _ (putNak_onWay _ _ _ _ h3)
  split
  · exact sendEpoch_onWay _ _ _ h3
  split
  · rename_i he
    exact replayed_onWay he h3
  · exact hgo _ _ h3

theorem hostBuf_onWay {d : Dev} {p : Pkt} {k : Nat} {a : About} {go : Dev → Dev} (hgo : ∀ e, OnWay F e → OnWay F (go e)) (h : OnWay F d) : OnWay F (hostBuf d p k a go) := by
  unfold hostBuf
  (repeat' split) <;> grind [dropRef_onWay, sendBusyPool_onWay, bump_onWay, takeBufs_onWay]

theorem hostRequest_onWay (d : Dev) (p : Pkt) (k : Nat) (kind : ReqKind) (reth : Reth) (data : List Byte) (arg : Nat × Nat) (errs : List LineErr) (dup : Bool) (h : OnWay F d) :
    OnWay F (hostRequest d p k kind reth data arg errs dup) := by
  unfold hostRequest
  extract_lets +onlyGivenNames c cell psn len pkts key e persist a
  clear_value a persist e key pkts len psn cell c
  split
  · exact sendBusy_onWay _ _ _ _ h
  split
  · exact bump_onWay _ _ _ _ (sendBusyPool_onWay _ _ _ h)
  rename_i d1 buf htaken
  have h1 : OnWay F d1 := takeBufs_onWay htaken h
  extract_lets +onlyGivenNames d2 qpn off r d3 refuse d4
  have h3 : OnWay F d3 := addReq_onWay _ _ (onWay_ite h1 (modConn_onWay _ _ _ h1))
  have hrefuse : ∀ e st, OnWay F e → OnWay F (refuse e st) := fun e st he => setReq_onWay _ _ he
  clear_value refuse d3 r
  refine pump_onWay _ ?_
  unfold d4
  split
  · exact hrefuse _ _ (failCheck_onWay _ _ _ _ _ _ _ h3)
  have h5 : OnWay F (cacheKey d3 cell (key / 256)) := cacheKey_onWay _ _ _ h3
  generalize cacheKey d3 cell (key / 256) = d5 at h5
  have hfail : ∀ st cell chamber code, OnWay F (refuse (failCheck d5 cell chamber code st key qpn) st) := fun _ _ _ _ => hrefuse _ _ (failCheck_onWay _ _ _ _ _ _ _ h5)
  split
  · exact hfail ..
  split
  · exact hfail ..
  split
  · exact hfail ..
  split
  · exact hfail ..
  · exact setReq_onWay _ _ h5
  · exact admitReq_onWay _ _ h5

end Sys2Proof.Machine
end

section
/-!
SUPPORT. A frame on its way out stays so: no function that runs by itself after a command drops a frame that has left or that waits at a port (spec/05_congestion.md R93,
spec/06_federation_fabric.md R103). Engines, keys, chambers, the fabric, time, persistence and the tiers.
-/
namespace Sys2Proof.Machine
open Sys2Proof

variable {F : Out → Prop}

theorem cacheUse_onWay (d : Dev) (c slot : Nat) (h : OnWay F d) : OnWay F (cacheUse d c slot) := h

theorem keyFault_onWay (d : Dev) (c slot : Nat) (h : OnWay F d) : OnWay F (keyFault d c slot) := by
  grind [keyFault, bump_onWay, raise_onWay]

theorem needKey_onWay (d : Dev) (c slot : Nat) (h : OnWay F d) : OnWay F (needKey d c slot) := by
  grind [needKey, bump_onWay, cacheUse_onWay]

theorem grantTo_onWay (d : Dev) (c cls pipe : Nat) (h : OnWay F d) : OnWay F (grantTo d c cls pipe) := by
  grind [grantTo, setEng_onWay]

theorem grantFree_onWay (d : Dev) (c : Nat) (h : OnWay F d) : OnWay F (grantFree d c) := by
  grind [grantFree, grantTo_onWay, forEach_onWay]

theorem submitCipher_onWay (d : Dev) (c cls : Nat) (w : CiphWork) (h : OnWay F d) : OnWay F (submitCipher d c cls w) := by
  grind [submitCipher, setEng_onWay, needKey_onWay, grantFree_onWay, engineWait_onWay, keyFault_onWay, dropBuf_onWay]

theorem purgeSlot_onWay (d : Dev) (k : Nat) (h : OnWay F d) : OnWay F (purgeSlot d k) := h

theorem settleSlot_onWay (d : Dev) (k : Nat) (s : KeySlot) (h : OnWay F d) : OnWay F (settleSlot d k s) := by
  grind [settleSlot, purgeSlot_onWay]

theorem settleKeys_onWay (d : Dev) (h : OnWay F d) : OnWay F (settleKeys d) := by
  grind [settleKeys, settleSlot_onWay, forEach_onWay]

theorem keyDone_onWay (d : Dev) (op : Nat) (r : KeyResult) (rets : List (Nat × Nat)) (h : OnWay F d) : OnWay F (keyDone d op r rets) := by
  grind [keyDone, setReg_onWay, forEach_onWay]

theorem destroyEnd_onWay (d : Dev) (k : Nat) (h : OnWay F d) : OnWay F (destroyEnd d k) := h

theorem keyTurn_onWay (d : Dev) (h : OnWay F d) : OnWay F (keyTurn d) := by
  grind [keyTurn, settleKeys_onWay, destroyEnd_onWay]

theorem chmDone_onWay (d : Dev) (r : ChmResult) (rets : List (Nat × Nat)) (h : OnWay F d) : OnWay F (chmDone d r rets) := by
  grind [chmDone, setReg_onWay, forEach_onWay]

theorem createFails_onWay (d : Dev) (n : Nat) (r : ChmResult) (release : Bool) (h : OnWay F d) : OnWay F (createFails d n r release) := by
  grind [createFails, sendCtrl_onWay, chmDone_onWay]

theorem createAbort_onWay (d : Dev) (h : OnWay F d) : OnWay F (createAbort d) := by
  grind [createAbort, createFails_onWay]

theorem flood_onWay (d : Dev) (opcode except_ : Nat) (fields : List Nat) (h : OnWay F d) : OnWay F (flood d opcode except_ fields) := by
  grind [flood, sendCopies_onWay]

theorem originateLs_onWay (d : Dev) (h : OnWay F d) : OnWay F (originateLs d) := by
  grind [originateLs, flood_onWay]

theorem lsCheck_onWay (d : Dev) (h : OnWay F d) : OnWay F (lsCheck d) := by
  grind [lsCheck, originateLs_onWay, bump_onWay]

theorem announce_onWay (d : Dev) (h : OnWay F d) : OnWay F (announce d) := by
  grind [announce, flood_onWay]

theorem resendPart_onWay (d : Dev) (r : Req) (p : Part) (ts : Nat) (h : OnWay F d) : OnWay F (resendPart d r p ts) := by
  grind [resendPart, sendMirror_onWay, addRef_onWay]

theorem forwardTo_onWay (d : Dev) (f : FwdFrame) (t : Nat) (buf : Option Nat) (h : OnWay F d) : OnWay F (forwardTo d f t buf) := by
  grind [forwardTo, enqueue_onWay, flowletHop_onWay, bump_onWay, dropBuf_onWay]

theorem toHost_onWay (d : Dev) (f : FwdFrame) (buf : Option Nat) (h : OnWay F d) : OnWay F (toHost d f buf) := by
  grind [toHost, enqueue_onWay, bump_onWay, dropBuf_onWay]

theorem forwardOn_onWay (d : Dev) (f : FwdFrame) (buf : Option Nat) (h : OnWay F d) : OnWay F (forwardOn d f buf) := by
  grind [forwardOn, toHost_onWay, bump_onWay, forwardTo_onWay, dropBuf_onWay]

theorem forwardFrame_onWay (d : Dev) (f : FwdFrame) (h : OnWay F d) : OnWay F (forwardFrame d f) := by
  unfold forwardFrame
  dsimp only
  split
  · exact h
  split
  · exact onWay_ite (bump_onWay _ _ _ _ h) h
  have hlearned : OnWay F (learnHost (carried d f.port.val f.pcp) f.port.val f.src.toNat) := learnHost_onWay _ _ _ (carried_onWay _ _ _ h)
  split
  · rename_i htaken
    exact forwardOn_onWay _ _ _ (takeBufs_onWay htaken hlearned)
  · exact bump_onWay _ _ _ _ hlearned

theorem foldSlew_onWay (d : Dev) (h : OnWay F d) : OnWay F (foldSlew d) := h

theorem setTime_onWay (d : Dev) (t : Nat) (h : OnWay F d) : OnWay F (setTime d t) := h

theorem enterLocked_onWay (d : Dev) (h : OnWay F d) : OnWay F (enterLocked d) := h

theorem sendAnnounce_onWay (d : Dev) (p : Nat) (h : OnWay F d) : OnWay F (sendAnnounce d p) := by
  grind [sendAnnounce, sendCtrl_onWay]

theorem announceAll_onWay (d : Dev) (except_ : Nat) (h : OnWay F d) : OnWay F (announceAll d except_) := by
  grind [announceAll, sendAnnounce_onWay, forEach_onWay]

theorem becomeRoot_onWay (d : Dev) (h : OnWay F d) : OnWay F (becomeRoot d) := by
  grind [becomeRoot, bump_onWay, announceAll_onWay, enterLocked_onWay, setTime_onWay]

theorem startElection_onWay (d : Dev) (h : OnWay F d) : OnWay F (startElection d) := by
  grind [startElection, freeStep_onWay, announceAll_onWay, becomeRoot_onWay]

theorem lastWrites_onWay (d : Dev) (h : OnWay F d) : OnWay F (lastWrites d) := by
  grind [lastWrites, drainCell_onWay, forEach_onWay, pump_onWay, leaveProving_onWay, endConns_onWay]

theorem flushBuffers_onWay (d : Dev) (h : OnWay F d) : OnWay F (flushBuffers d) := by
  refine forEach_onWay (fun e c he => ?_) h
  split
  · rename_i htaken
    exact submitCipher_onWay _ _ _ _ (takeBufs_onWay htaken he)
  · exact he

theorem serDesOff_onWay (d : Dev) (n : Nat) (h : OnWay F d) : OnWay F (serDesOff d n) := by
  grind [serDesOff, setRail_onWay]

theorem beginFlush_onWay (d : Dev) (kind : FlushKind) (h : OnWay F d) : OnWay F (beginFlush d kind) := by
  grind [beginFlush, openSump_onWay, serDesOff_onWay, forEach_onWay, flushBuffers_onWay, lastWrites_onWay]

theorem fallNow_onWay (d : Dev) (h : OnWay F d) : OnWay F (fallNow d) := by
  grind [fallNow, beginFlush_onWay]

theorem failEntry_onWay (d : Dev) (n slot cause : Nat) (h : OnWay F d) : OnWay F (failEntry d n slot cause) := by
  grind [failEntry, setPlan_onWay]

theorem planFailure_onWay (d : Dev) (k cause : Nat) (h : OnWay F d) : OnWay F (planFailure d k cause) := by
  grind [planFailure, unpin_onWay, failEntry_onWay, forEach_onWay]

theorem freePromo_onWay (d : Dev) (k : Nat) (h : OnWay F d) : OnWay F (freePromo d k) := by
  grind [freePromo, dropBuf_onWay]

theorem retireDone_onWay (d : Dev) (c result : Nat) (h : OnWay F d) : OnWay F (retireDone d c result) := h

theorem queuePpr_onWay (d : Dev) (c bank row : Nat) (h : OnWay F d) : OnWay F (queuePpr d c bank row).1 := by
  grind [queuePpr, setHbm_onWay]

theorem retireEnter_onWay (d : Dev) (c f : Nat) (persist : Bool) (h : OnWay F d) : OnWay F (retireEnter d c f persist) := by
  grind [retireEnter, queuePpr_onWay, forEach_onWay, setHbm_onWay, setReg_onWay]

theorem moveData_onWay (d : Dev) (c f : Nat) (persist : Bool) (h : OnWay F d) : OnWay F (moveData d c f persist) := by
  unfold moveData
  (repeat' split) <;> grind [alcDropFrame_onWay, setFrame_onWay, retireEnter_onWay, retireDone_onWay]

theorem moveStaged_onWay (d : Dev) (c f : Nat) (persist : Bool) (h : OnWay F d) : OnWay F (moveStaged d c f persist) := by
  grind [moveStaged, modSnapPage_onWay, retireEnter_onWay, retireDone_onWay]

theorem tryMove_onWay (d : Dev) (c : Nat) (h : OnWay F d) : OnWay F (tryMove d c) := by
  grind [tryMove, moveData_onWay, moveStaged_onWay]

theorem installPage_onWay (d : Dev) (k : Nat) (lost : List Nat) (modified : Bool) (h : OnWay F d) : OnWay F (installPage d k lost modified) := by
  unfold installPage
  split
  · exact h
  extract_lets +onlyGivenNames raw c d1 d2 f1 pois d3 tier d4 f2 d5
  have h1 : OnWay F d1 := onWay_ite h (planFailure_onWay _ _ _ (bump_onWay _ _ _ _ h))
  have h2 : OnWay F d2 := onWay_ite h1 (bump_onWay _ _ _ _ h1)
  have h3 : OnWay F d3 := freePromo_onWay _ _ h2
  clear_value d3
  have h4 : OnWay F d4 := writePageT1_onWay _ _ _ h3
  clear_value d4
  have h5 : OnWay F d5 := tryMove_onWay _ _ (setFrame_onWay _ _ _ h4)
  exact pump_onWay _ (requeue_onWay _ _ h5)

theorem sealLost_onWay (d : Dev) (k : Nat) (h : OnWay F d) : OnWay F (sealLost d k) := by
  grind [sealLost, installPage_onWay]

theorem wakeFrame_onWay (d : Dev) (c : Nat) (h : OnWay F d) : OnWay F (wakeFrame d c) := by
  grind [wakeFrame, requeue_onWay, pump_onWay, placePromos_onWay]

theorem frameTurn_onWay (d : Dev) (h : OnWay F d) : OnWay F (frameTurn d) := by
  grind [frameTurn, wakeFrame_onWay, forEach_onWay]

theorem fullCheck_onWay (d : Dev) (c : Nat) (h : OnWay F d) : OnWay F (fullCheck d c) := by
  grind [fullCheck, raise_onWay, setMed_onWay]

theorem fullTurn_onWay (d : Dev) (h : OnWay F d) : OnWay F (fullTurn d) := by
  grind [fullTurn, fullCheck_onWay, forEach_onWay]

theorem sendMarker_onWay (d : Dev) (k : Nat) (lost : List Nat) (h : OnWay F d) : OnWay F (sendMarker d k lost) := by
  grind [sendMarker, stampSent_onWay, sendMirror_onWay, bump_onWay, mirrorStamp_onWay]

theorem compareAgain_onWay (d : Dev) (k : Nat) (h : OnWay F d) : OnWay F (compareAgain d k) := by
  grind [compareAgain, sendMarker_onWay]

end Sys2Proof.Machine
end

section
/-!
SUPPORT. A frame on its way out stays so: no function that runs by itself after a command drops a frame that has left or that waits at a port (spec/05_congestion.md R93,
spec/06_federation_fabric.md R103). Custody, the calendar, trees, bulk commands and the mirror.
-/
namespace Sys2Proof.Machine
open Sys2Proof

variable {F : Out → Prop}

theorem sendStatusMsg_onWay (d : Dev) (h : OnWay F d) : OnWay F (sendStatusMsg d) := by
  unfold sendStatusMsg
  grind [sendClaimed_onWay]

theorem putClaim_onWay (d : Dev) (dest kind scope chamber number : Nat) (h : OnWay F d) : OnWay F (putClaim d dest kind scope chamber number) := by
  grind [putClaim, sendClaimed_onWay, bump_onWay]

theorem askWitness_onWay (d : Dev) (kind : ClaimKind) (scope chamber : Nat) (h : OnWay F d) : OnWay F (askWitness d kind scope chamber) := by
  grind [askWitness, putClaim_onWay]

theorem sendYield_onWay (d : Dev) (h : OnWay F d) : OnWay F (sendYield d) := by
  grind [sendYield, putClaim_onWay, sendStatusMsg_onWay, bump_onWay, askWitness_onWay]

theorem settlePart_onWay (d : Dev) (r : Req) (p : Part) (ts : Nat) (again : Bool) (h : OnWay F d) : OnWay F (settlePart d r p ts again).1 := by
  grind [settlePart, resendPart_onWay, markRegion_onWay]

theorem setPart_onWay (d : Dev) (id page : Nat) (st : PartState) (h : OnWay F d) : OnWay F (setPart d id page st) := h

theorem settleParts_onWay (d : Dev) (h : OnWay F d) : OnWay F (settleParts d) := by
  grind [settleParts, setPart_onWay, settlePart_onWay, forEach_onWay]

theorem sendMeta_onWay (d : Dev) (h : OnWay F d) : OnWay F (sendMeta d) := by
  grind [sendMeta, sendCtrl_onWay, forEach_onWay]

theorem setPairState_onWay (d : Dev) (h : OnWay F d) : OnWay F (setPairState d) := by
  grind [setPairState, sendStatusMsg_onWay, sendMeta_onWay, settleParts_onWay, createAbort_onWay]

theorem claimTurn_onWay (d : Dev) (h : OnWay F d) : OnWay F (claimTurn d) := by
  grind [claimTurn, askWitness_onWay]

theorem custodyTurn_onWay (d : Dev) (h : OnWay F d) : OnWay F (custodyTurn d) := by
  grind [custodyTurn, setPairState_onWay, claimTurn_onWay, pumpCustody_onWay]

theorem selfDiagnose_onWay (d : Dev) (h : OnWay F d) : OnWay F (selfDiagnose d) := by
  grind [selfDiagnose, sendYield_onWay, custodyTurn_onWay, sendStatusMsg_onWay]

theorem claimSeen_onWay (d : Dev) (o claim : Nat) (h : OnWay F d) : OnWay F (claimSeen d o claim) := by
  grind [claimSeen]

theorem dropCreating_onWay (d : Dev) (h : OnWay F d) : OnWay F (dropCreating d) := h

theorem copyAcked_onWay (d : Dev) (k chamber region : Nat) (h : OnWay F d) : OnWay F (copyAcked d k chamber region) := by
  grind [copyAcked, bump_onWay, custodyTurn_onWay]

theorem wholeDone_onWay (d : Dev) (h : OnWay F d) : OnWay F (wholeDone d) := h

theorem endHold_onWay (d : Dev) (act : Nat) (h : OnWay F d) : OnWay F (endHold d act) := by
  grind [endHold, pump_onWay]

theorem releaseSnapshot_onWay (d : Dev) (act : Nat) (h : OnWay F d) : OnWay F (releaseSnapshot d act) := h

theorem retainSnapshot_onWay (d : Dev) (act : Nat) (h : OnWay F d) : OnWay F (retainSnapshot d act) := h

theorem calPost_onWay (d : Dev) (kind flags act time arg : Nat) (wellFormed : Bool) (h : OnWay F d) : OnWay F (calPost d kind flags act time arg wellFormed).1 := by
  grind [calPost]

theorem calCancel_onWay (d : Dev) (act : Nat) (h : OnWay F d) : OnWay F (calCancel d act) := by
  grind [calCancel, releaseSnapshot_onWay, endHold_onWay]

theorem sendCalPost_onWay (d : Dev) (p act op result : Nat) (entry : List Byte) (h : OnWay F d) : OnWay F (sendCalPost d p act op result entry) := by
  grind [sendCalPost, sendCtrl_onWay]

theorem queryMode_onWay (d : Dev) (h : OnWay F d) : OnWay F (queryMode d) := by
  grind [queryMode, sendCalPost_onWay, forEach_onWay]

theorem sendCompletion_onWay (d : Dev) (conn : Nat) (chm : Option Nat) (persist : Bool) (r : BulkRec) (outcome : Nat) (abort : Bool) (h : OnWay F d) :
    OnWay F (sendCompletion d conn chm persist r outcome abort) := by
  grind [sendCompletion, respond_onWay]

theorem bulkFinish_onWay (d : Dev) (c : BulkCmd) (status detail : Nat) (outcome : Nat) (abort : Bool) (h : OnWay F d) : OnWay F (bulkFinish d c status detail outcome abort) := by
  grind [bulkFinish, bump_onWay, sendCompletion_onWay]

theorem setBulk_onWay (d : Dev) (c : BulkCmd) (h : OnWay F d) : OnWay F (setBulk d c) := h

theorem bulkAct_onWay (d : Dev) (b : Option Nat) (status detail result result2 : Nat) (h : OnWay F d) : OnWay F (bulkAct d b status detail result result2) := by
  grind [bulkAct, bulkFinish_onWay]

theorem relayCheck_onWay (d : Dev) (key : Nat) (h : OnWay F d) : OnWay F (relayCheck d key) := by
  grind [relayCheck, sendCtrl_onWay]

theorem addToRelay_onWay (d : Dev) (key : Nat) (f : Relay → Relay) (h : OnWay F d) : OnWay F (addToRelay d key f) := by
  grind [addToRelay, relayCheck_onWay]

theorem ownPart_onWay (d : Dev) (key code : Nat) (h : OnWay F d) : OnWay F (ownPart d key code) := by
  grind [ownPart, addToRelay_onWay]

theorem messageCutDrained_onWay (d : Dev) (act : Nat) (h : OnWay F d) : OnWay F (messageCutDrained d act) := by
  grind [messageCutDrained, ownPart_onWay, openCut_onWay]

theorem resumeSet_onWay (d : Dev) (set : Nat) (h : OnWay F d) : OnWay F (resumeSet d set) := by
  grind [resumeSet, pumpCustody_onWay]

theorem treeLocal_onWay (d : Dev) (act op : Nat) (e : TreeEntry) (h : OnWay F d) : OnWay F (treeLocal d act op e).1 := by
  grind [treeLocal, resumeSet_onWay, releaseSnapshot_onWay, retainSnapshot_onWay, calCancel_onWay, calPost_onWay]

theorem treeOpen_onWay (d : Dev) (act op root : Nat) (parent : Option Nat) (e : TreeEntry) (h : OnWay F d) : OnWay F (treeOpen d act op root parent e) := by
  grind [treeOpen, messageCutDrained_onWay, ownPart_onWay, treeLocal_onWay, sendCtrl_onWay, forEach_onWay]

theorem actDone_onWay (d : Dev) (result : Nat) (h : OnWay F d) : OnWay F (actDone d result) := h

theorem actEnd_onWay (d : Dev) (r : ActRun) (result status detail res res2 : Nat) (h : OnWay F d) : OnWay F (actEnd d r result status detail res res2) := by
  grind [actEnd, actDone_onWay, bulkAct_onWay]

theorem actStep_onWay (d : Dev) (act op : Nat) (g : Gather) (h : OnWay F d) : OnWay F (actStep d act op g) := by
  grind [actStep, treeOpen_onWay, actEnd_onWay]

theorem releaseGathered_onWay (d : Dev) (act op : Nat) (h : OnWay F d) : OnWay F (releaseGathered d act op) := by
  grind [releaseGathered, bulkFinish_onWay]

theorem actTurn_onWay (n : Nat) (d : Dev) (h : OnWay F d) : OnWay F (actTurn n d) := by
  induction n generalizing d with
  | zero => exact h
  | succ n ih =>
    rw [actTurn]
    split
    · exact h
    · exact ih _ (releaseGathered_onWay _ _ _ (actStep_onWay _ _ _ _ h))

theorem bulkAck_onWay (d : Dev) (p : Pkt) (k : Nat) (chm : Option Nat) (h : OnWay F d) : OnWay F (bulkAck d p k chm) := by
  grind [bulkAck, addReq_onWay, pump_onWay, modConn_onWay]

theorem bulkTaken_onWay {d : Dev} {p : Pkt} {k : Nat} {a : About} {good : Bool} {go : Dev → Dev} (hgo : ∀ e, OnWay F e → OnWay F (go e)) (h : OnWay F d) :
    OnWay F (bulkTaken d p k a good go) := by
  grind [bulkTaken, hostBuf_onWay, sendBusy_onWay, bump_onWay, fatalNak_onWay]

theorem bulkCommand_onWay (d : Dev) (p : Pkt) (kind : BulkKind) (b : BulkPayload) (h : OnWay F d) : OnWay F (bulkCommand d p kind b) := by
  unfold bulkCommand
  extract_lets +onlyGivenNames chm
  refine receive_onWay (fun e k he => he) (fun e k he => ?_) h
  extract_lets +onlyGivenNames mine persist good
  refine bulkTaken_onWay (fun e he => ?_) he
  extract_lets +onlyGivenNames cmd
  split
  · extract_lets +onlyGivenNames rec
    exact bulkAck_onWay _ _ _ _ (sendCompletion_onWay _ _ _ _ _ _ _ (bump_onWay e .BLK_CNT 0 3 he))
  extract_lets +onlyGivenNames src d1 d2
  have h2 : OnWay F d2 := bump_onWay _ _ _ _ he
  clear_value d2
  have hack : OnWay F (bulkAck (if enteringLow d2 then { bump d2 .BLK_CNT 0 9 with pwr.latched := some .service } else d2) p k chm) :=
    bulkAck_onWay _ _ _ _ (onWay_ite (bump_onWay d2 .BLK_CNT 0 9 h2) h2)
  exact onWay_ite (bulkFinish_onWay _ _ _ _ _ _ hack) hack

theorem bulkSettle_onWay (d : Dev) (id : Nat) (h : OnWay F d) : OnWay F (bulkSettle d id) := by
  grind [bulkSettle, bulkFinish_onWay]

theorem dropPieces_onWay (d : Dev) (id : Nat) (h : OnWay F d) : OnWay F (dropPieces d id) := by
  grind [dropPieces, dropBuf_onWay, forEach_onWay]

theorem abandonAct_onWay (d : Dev) (c : BulkCmd) (h : OnWay F d) : OnWay F (abandonAct d c) := by
  grind [abandonAct, actTurn_onWay, treeOpen_onWay, actDone_onWay]

theorem abortCmd_onWay (d : Dev) (c : BulkCmd) (h : OnWay F d) : OnWay F (abortCmd d c) := by
  grind [abortCmd, setBulk_onWay, bulkSettle_onWay, dropPieces_onWay, abandonAct_onWay, bump_onWay, bulkFinish_onWay]

theorem bulkAbort_onWay (d : Dev) (p : Pkt) (tag : Nat) (wellFormed : Bool) (h : OnWay F d) : OnWay F (bulkAbort d p tag wellFormed) := by
  refine receive_onWay (fun e k he => he) (fun e k he => bulkTaken_onWay (fun e he => ?_) he) h
  extract_lets +onlyGivenNames d1
  have h1 : OnWay F d1 := bump_onWay _ _ _ _ (bulkAck_onWay _ _ _ _ he)
  clear_value d1
  split
  · exact abortCmd_onWay _ _ h1
  split
  · exact sendCompletion_onWay _ _ _ _ _ _ _ (bump_onWay _ _ _ _ h1)
  · exact sendCompletion_onWay _ _ _ _ _ _ _ (bump_onWay _ _ _ _ h1)

theorem takeMirror_onWay (d : Dev) (p : Pkt) (k : Nat) (kind : ReqKind) (chamber off len : Nat) (data : List Byte) (digest : Nat) (dup : Bool) (h : OnWay F d) :
    OnWay F (takeMirror d p k kind chamber off len data digest dup) := by
  unfold takeMirror
  extract_lets +onlyGivenNames c psn x pkts ts claim
  clear_value claim ts pkts x psn c
  split
  · exact bump_onWay _ _ _ _ h
  rename_i d1 buf htaken
  have h1 : OnWay F d1 := takeBufs_onWay htaken h
  extract_lets +onlyGivenNames d2 r writes old
  have h2 : OnWay F d2 := onWay_ite h1 (modConn_onWay _ _ _ h1)
  clear_value old r d2
  split
  · exact pump_onWay _ (dropBuf_onWay _ _ (setReq_onWay _ _ h2))
  extract_lets +onlyGivenNames d3 home d4
  have h3 : OnWay F d3 := addReq_onWay _ _ (onWay_ite (bump_onWay _ _ _ _ h2) h2)
  clear_value d3
  refine pump_onWay _ ?_
  unfold d4
  split
  · exact setReq_onWay _ _ h3
  split
  · exact setReq_onWay _ _ h3
  split
  · exact setReq_onWay _ _ h3
  split
  · split
    · exact claimTurn_onWay _ (claimSeen_onWay _ _ _ (setReq_onWay _ _ h3))
    · exact retryMirror_onWay _ _ h3
  · exact setReq_onWay _ _ h3

theorem mirrorFrame_onWay (d : Dev) (p : Pkt) (op : OpKind) (kind : ReqKind) (chamber off len : Nat) (data : List Byte) (digest : Nat) (fits : Bool) (h : OnWay F d) :
    OnWay F (mirrorFrame d p op kind chamber off len data digest fits) := by
  grind [mirrorFrame, fatalNak_onWay, takeMirror_onWay, receive_onWay]

theorem mirrorWrite_onWay (d : Dev) (p : Pkt) (a : ChmAddr) (data : List Byte) (copy : Bool) (h : OnWay F d) : OnWay F (mirrorWrite d p a data copy) := by
  grind [mirrorWrite, mirrorFrame_onWay, wholeDone_onWay]

theorem promotionHint_onWay (d : Dev) (p : Pkt) (chamber page : Nat) (h : OnWay F d) : OnWay F (promotionHint d p chamber page) := by
  grind [promotionHint, startPromo_onWay, mirrorFrame_onWay]

theorem mirrorImm_onWay (d : Dev) (p : Pkt) (imm : Nat) (a : ChmAddr) (data : List Byte) (h : OnWay F d) : OnWay F (mirrorImm d p imm a data) := by
  grind [mirrorImm, promotionHint_onWay, mirrorFrame_onWay]

theorem takeBack_onWay (d : Dev) (k : Nat) (h : OnWay F d) : OnWay F (takeBack d k) := by
  grind [takeBack, askRepair_onWay, forEach_onWay, compareAgain_onWay]

theorem lineRepairRequest_onWay (d : Dev) (p : Pkt) (chamber page : Nat) (line : Option Nat) (h : OnWay F d) : OnWay F (lineRepairRequest d p chamber page line) := by
  unfold lineRepairRequest
  (repeat' split) <;> grind [takeBack_onWay, mirrorFrame_onWay]

theorem ackedOne_onWay (d : Dev) (k : Nat) (s : Sent) (h : OnWay F d) : OnWay F (ackedOne d k s) := by
  grind [ackedOne, copyAcked_onWay, setPart_onWay]

theorem ackUpTo_onWay (d : Dev) (k psn : Nat) (by_ : Covering) (h : OnWay F d) : OnWay F (ackUpTo d k psn by_) := by
  grind [ackUpTo, ackedOne_onWay, forEach_onWay, pump_onWay, ackAdvance_onWay]

theorem acknowledge_onWay (d : Dev) (k psn hops : Nat) (h : OnWay F d) : OnWay F (acknowledge d k psn hops) := by
  grind [acknowledge, ackUpTo_onWay]

theorem mirrorAcknowledge_onWay (d : Dev) (k psn hops claim : Nat) (h : OnWay F d) : OnWay F (mirrorAcknowledge d k psn hops claim) := by
  grind [mirrorAcknowledge, ackUpTo_onWay, claimSeen_onWay, custodyTurn_onWay]

theorem resyncCopyAck_onWay (d : Dev) (k psn hops claim : Nat) (h : OnWay F d) : OnWay F (resyncCopyAck d k psn hops claim) := by
  grind [resyncCopyAck, ackUpTo_onWay, claimSeen_onWay, custodyTurn_onWay]

theorem rnrWait_onWay (d : Dev) (k wait : Nat) (h : OnWay F d) : OnWay F (rnrWait d k wait) := by
  grind [rnrWait, setConn_onWay, dropSample_onWay, connError_onWay]

theorem seqNak_onWay (d : Dev) (k psn : Nat) (h : OnWay F d) : OnWay F (seqNak d k psn) := by
  grind [seqNak, setConn_onWay, retransmit_onWay, ackUpTo_onWay]

theorem nakReceived_onWay (d : Dev) (k syndrome psn : Nat) (h : OnWay F d) : OnWay F (nakReceived d k syndrome psn) := by
  grind [nakReceived, connError_onWay, ackUpTo_onWay, rnrWait_onWay, seqNak_onWay]

theorem refusedOne_onWay (d : Dev) (k : Nat) (s : Sent) (status : Nat) (h : OnWay F d) : OnWay F (refusedOne d k s status) := by
  grind [refusedOne, sealLost_onWay, setPart_onWay]

theorem statusNakReceived_onWay (d : Dev) (k psn status detail : Nat) (h : OnWay F d) : OnWay F (statusNakReceived d k psn status detail) := by
  unfold statusNakReceived
  (repeat' split) <;> grind [refusedOne_onWay, pump_onWay, custodyTurn_onWay, ackedOne_onWay, forEach_onWay, ackAdvance_onWay, retransmit_onWay, ackUpTo_onWay, rnrWait_onWay, bump_onWay]

theorem congestionNotification_onWay (d : Dev) (p : Nat) (h : OnWay F d) : OnWay F (congestionNotification d p) := by
  grind [congestionNotification, bump_onWay]

theorem askPage_onWay (d : Dev) (k : Nat) (forSeal : Bool) (h : OnWay F d) : OnWay F (askPage d k forSeal) := by
  grind [askPage, sendMirror_onWay]

theorem sealAnswer_onWay (d : Dev) (k : Nat) (data : List Byte) (marks : List Nat) (h : OnWay F d) : OnWay F (sealAnswer d k data marks) := by
  grind [sealAnswer, logEvent_onWay, askDirty_onWay, askPage_onWay, installPage_onWay, bump_onWay, sealLost_onWay]

theorem resolvePage_onWay (d : Dev) (k : Nat) (data : List Byte) (marks : List Nat) (h : OnWay F d) : OnWay F (resolvePage d k data marks) := by
  grind [resolvePage, bump_onWay, logEvent_onWay, applyBytes_onWay, forEach_onWay, askDirty_onWay, askPage_onWay, bringPage_onWay]

theorem pageAnswer_onWay (d : Dev) (k : Nat) (data : List Byte) (marks : List Nat) (h : OnWay F d) : OnWay F (pageAnswer d k data marks) := by
  grind [pageAnswer, resolvePage_onWay, askPage_onWay, sealAnswer_onWay]

theorem lineRepairAnswer_onWay (d : Dev) (k psn : Nat) (data : List Byte) (pmh : List (Option (BitVec 64))) (h : OnWay F d) : OnWay F (lineRepairAnswer d k psn data pmh) := by
  unfold lineRepairAnswer
  (repeat' split) <;> grind [pageAnswer_onWay, applyRepair_onWay, compareAgain_onWay, pump_onWay, ackUpTo_onWay]

end Sys2Proof.Machine
end

section
/-!
SUPPORT. A frame on its way out stays so: no function that runs by itself after a command drops a frame that has left or that waits at a port (spec/05_congestion.md R93,
spec/06_federation_fabric.md R103). Start, power, the Vault, frames, and all that follows by itself after a command.
-/
namespace Sys2Proof.Machine
open Sys2Proof

variable {F : Out → Prop}

theorem enterStep_onWay (d : Dev) (n : Nat) (h : OnWay F d) : OnWay F (enterStep d n) := h

theorem enterFormation_onWay (d : Dev) (h : OnWay F d) : OnWay F (enterFormation d) := by
  grind [enterFormation, sendStatusMsg_onWay, sendYield_onWay, dropCreating_onWay]

theorem atEntry_onWay (d : Dev) (n : Nat) (h : OnWay F d) : OnWay F (atEntry d n) := by
  unfold atEntry
  (repeat' split) <;> grind [startElection_onWay, enterFormation_onWay, queryMode_onWay, originateLs_onWay]

theorem goStep_onWay (d : Dev) (n : Nat) (h : OnWay F d) : OnWay F (goStep d n) := by
  grind [goStep, enterStep_onWay, atEntry_onWay]

theorem openService_onWay (d : Dev) (h : OnWay F d) : OnWay F (openService d) := by
  grind [openService, announce_onWay, custodyTurn_onWay, enterStep_onWay]

theorem advance_onWay (n : Nat) (d : Dev) (h : OnWay F d) : OnWay F (advance n d) := by
  induction n generalizing d with
  | zero => exact h
  | succ n ih =>
    rw [advance]
    split
    · exact h
    split
    · exact openService_onWay d h
    split
    · exact ih _ (goStep_onWay _ _ h)
    · exact h

theorem startProgress_onWay (d : Dev) (h : OnWay F d) : OnWay F (startProgress d) := by
  grind [startProgress, advance_onWay]

theorem leaderCheck_onWay (d : Dev) (h : OnWay F d) : OnWay F (leaderCheck d) := by
  grind [leaderCheck, logEvent_onWay]

theorem beginMove_onWay (d : Dev) (entry : Bool) (t : DevState) (ns : Nat) (h : OnWay F d) : OnWay F (beginMove d entry t ns) := h

theorem twinWake_onWay (d : Dev) (h : OnWay F d) : OnWay F (twinWake d) := by
  grind [twinWake, beginMove_onWay]

theorem modDoze_onWay (d : Dev) (p : Nat) (f : Doze → Doze) (h : OnWay F d) : OnWay F (modDoze d p f) := by
  grind [modDoze, modPort_onWay]

theorem stayAwake_onWay (d : Dev) (p : Nat) (h : OnWay F d) : OnWay F (stayAwake d p) := by
  grind [stayAwake, modDoze_onWay]

theorem dozeWake_onWay (d : Dev) (p : Nat) (h : OnWay F d) : OnWay F (dozeWake d p) := by
  grind [dozeWake, bump_onWay, modDoze_onWay, bumpBy_onWay]

theorem dozeStir_onWay (d : Dev) (p : Nat) (h : OnWay F d) : OnWay F (dozeStir d p) := by
  grind [dozeStir, modDoze_onWay, dozeWake_onWay]

theorem dozeSettle_onWay (d : Dev) (p : Nat) (h : OnWay F d) : OnWay F (dozeSettle d p) := by
  grind [dozeSettle, stayAwake_onWay, drainPort_onWay, modDoze_onWay, dozeStir_onWay]

theorem dozeAll_onWay (d : Dev) (h : OnWay F d) : OnWay F (dozeAll d) := by
  grind [dozeAll, dozeSettle_onWay, forEach_onWay]

theorem vaultFails_onWay (d : Dev) (h : OnWay F d) : OnWay F (vaultFails d) := h

theorem vaultStart_onWay (d : Dev) (o : VaultOp) (inner : Bool) (h : OnWay F d) : OnWay F (vaultStart d o inner) := by
  grind [vaultStart, vaultFails_onWay, bump_onWay]

theorem vaultNext_onWay (d : Dev) (h : OnWay F d) : OnWay F (vaultNext d) := by
  grind [vaultNext, vaultStart_onWay]

theorem hostOp_onWay (d : Dev) (p : Pkt) (op : OpKind) (kind : ReqKind) (r : Reth) (data : List Byte) (arg : Nat × Nat) (errs : List LineErr) (h : OnWay F d) :
    OnWay F (hostOp d p op kind r data arg errs) := by
  grind [hostOp, bump_onWay, fatalNak_onWay, hostRequest_onWay, receive_onWay]

theorem hostWrite_onWay (d : Dev) (p : Pkt) (r : Reth) (data : List Byte) (h : OnWay F d) : OnWay F (hostWrite d p r data) := by
  grind [hostWrite, hostOp_onWay]

theorem sendTaken_onWay (d : Dev) (p : Pkt) (k n : Nat) (h : OnWay F d) : OnWay F (sendTaken d p k n) := by
  grind [sendTaken, addReq_onWay, pump_onWay, modConn_onWay]

theorem sendReceived_onWay (d : Dev) (p : Pkt) (bytes : Nat) (h : OnWay F d) : OnWay F (sendReceived d p bytes) := by
  unfold sendReceived
  extract_lets +onlyGivenNames n
  refine receive_onWay (fun e k he => he) (fun e k he => ?_) h
  extract_lets +onlyGivenNames a
  split
  · exact fatalNak_onWay _ _ _ _ (bump_onWay _ _ _ _ he)
  split
  · exact sendBusy_onWay _ _ _ _ he
  split
  · exact sendBusyPool_onWay _ _ _ he
  · exact hostBuf_onWay (fun e he => sendTaken_onWay _ _ _ _ he) he

theorem runRequest_onWay (d : Dev) (p : Pkt) (b : ReqBody) (h : OnWay F d) : OnWay F (runRequest d p b) := by
  unfold runRequest
  (repeat' split) <;> grind [lineRepairRequest_onWay, mirrorImm_onWay, mirrorWrite_onWay, twinWake_onWay, bulkAbort_onWay, bulkCommand_onWay, sendReceived_onWay, hostOp_onWay,
      hostWrite_onWay]

theorem nakClaim_onWay (d : Dev) (k claim : Nat) (h : OnWay F d) : OnWay F (nakClaim d k claim) := by
  grind [nakClaim, claimSeen_onWay, custodyTurn_onWay]

theorem runResponse_onWay (d : Dev) (hd : RspPkt) (b : RspBody) (h : OnWay F d) : OnWay F (runResponse d hd b) := by
  unfold runResponse
  (repeat' split) <;> grind [lineRepairAnswer_onWay, resyncCopyAck_onWay, mirrorAcknowledge_onWay, congestionNotification_onWay, queryMode_onWay, statusNakReceived_onWay, nakReceived_onWay,
      nakClaim_onWay, acknowledge_onWay]

theorem takeResponse_onWay (d : Dev) (hd : RspPkt) (b : RspBody) (h : OnWay F d) : OnWay F (takeResponse d hd b) := by
  grind [takeResponse, runResponse_onWay, bump_onWay]

theorem badFrame_onWay (d : Dev) (p : Nat) (h : OnWay F d) : OnWay F (badFrame d p) := by
  grind [badFrame, modPort_onWay]

theorem runFrame_onWay (d : Dev) (f : DataFrame) (h : OnWay F d) : OnWay F (runFrame d f) := by
  unfold runFrame
  (repeat' split) <;> grind [bump_onWay, takeResponse_onWay, runResponse_onWay, countPcp_onWay, forwardFrame_onWay, learnHost_onWay, runRequest_onWay, badFrame_onWay]

theorem releaseHeld_onWay (d : Dev) (go : HeldFrame → Bool) (h : OnWay F d) : OnWay F (releaseHeld d go) := by
  grind [releaseHeld, runFrame_onWay, forEach_onWay]

theorem proveSettle_onWay (d : Dev) (h : OnWay F d) : OnWay F (proveSettle d) := by
  grind [proveSettle, releaseHeld_onWay]

theorem fenceSettle_onWay (d : Dev) (h : OnWay F d) : OnWay F (fenceSettle d) := by
  grind [fenceSettle, pump_onWay]

theorem statesTurn_onWay (d : Dev) (h : OnWay F d) : OnWay F (statesTurn d) := by
  grind [statesTurn, lsCheck_onWay]

theorem impairTurn_onWay (d : Dev) (h : OnWay F d) : OnWay F (impairTurn d) := by
  grind [impairTurn, selfDiagnose_onWay]

theorem afterStep_onWay (d : Dev) (h : OnWay F d) : OnWay F (afterStep d) := by
  have hfull : OnWay F (fullTurn (frameTurn (fenceSettle (fallNow d)))) := fullTurn_onWay _ (frameTurn_onWay _ (fenceSettle_onWay _ (fallNow_onWay d h)))
  have himpair := impairTurn_onWay _ (statesTurn_onWay _ hfull)
  have hstart := startProgress_onWay _ (proveSettle_onWay _ (drainAll_onWay _ himpair))
  unfold afterStep
  exact keyTurn_onWay _ (vaultNext_onWay _ (dozeAll_onWay _ (leaderCheck_onWay _ hstart)))

end Sys2Proof.Machine
end

section
/-!
SUPPORT. A PERSIST COMMIT under a key whose range begins beyond every page of the chamber space (spec/01_architecture.md R14, spec/03_chambers.md R50 to R52, spec/04_olisar_transport.md R73).
-/
namespace Sys2Proof.Machine
open Sys2Proof

theorem does_persistCommit (s : State) (p : Pkt) (r : Reth) : Does (.persistCommit p r) s (frameIn s.dev (.req p (.commit r))) :=
  does_run _ s (fun d => frameIn d (.req p (.commit r))) rfl

/-! ### No acknowledgement on its way -/

def isAck : Out → Bool
  | .ack _ => true
  | _ => false

theorem isAck_of_ack {o : Out} (h : ∃ x, o = .ack x) : isAck o = true := by
  obtain ⟨x, rfl⟩ := h
  rfl

theorem anyTime_ack : AnyTime fun o => ∃ h, o = .ack h := by
  rintro t o ⟨h, rfl⟩
  exact ⟨hdrAt t h, rfl⟩

theorem mem_of_nget {α : Type} {m : NMap α} {k : Nat} {v : α} (h : nget m k = some v) : (k, v) ∈ m := by
  induction m with
  | nil => cases h
  | cons x m ih =>
    rw [nget] at h
    split at h
    · rename_i hk
      cases h
      exact hk ▸ List.mem_cons_self
    · exact List.mem_cons_of_mem _ (ih h)

theorem queue_getPort_eq_nil {d : Dev} (h : ∀ x ∈ d.ports, x.2.queue = []) (p : Nat) : (getPort d p).queue = [] := by
  unfold getPort ngetD
  cases hp : nget d.ports p with
  | none => rfl
  | some v => exact h _ (mem_of_nget hp)

theorem not_sentOut_ack {d : Dev} (hout : d.out.any isAck = false) (hports : ∀ x ∈ d.ports, x.2.queue = []) : ¬ SentOut d fun o => ∃ h, o = .ack h := by
  rintro (⟨o, ho, hack⟩ | ⟨p, q, hq, -⟩)
  · exact absurd (List.any_eq_true.mpr ⟨o, ho, isAck_of_ack hack⟩) (by simp [hout])
  · rw [queue_getPort_eq_nil hports] at hq
    exact List.not_mem_nil hq

/-! ### The commit that is refused -/

/-- A device in SERVICE whose connection 1 may commit bytes of chamber 3 under key 2. The range of the key begins at page 2^36 of the chamber. Cell 3 is fenced: it is the home cell of that page
as `homeCell` gives it, whereas the page's key counts the page as one of chamber 4, whose home cell 4 is in service. -/
def farRange : Dev :=
  let d := swappedFrames 0
  { d with chm.keys := [(2, { state := .live, gen := 1, chamber := 3, base := 2 ^ 38, len := 8, rd := true, wr := true, at_ := true, ps := true })], flt.fences := [(3, 0x13)] }

/-- The first four bytes of the key's range. -/
def firstBytes : Reth := ⟨0x201, 0, 4⟩

theorem out_commit_farRange : (afterStep (frameIn farRange (.req (hostPkt 0xD5) (.commit firstBytes)))).out.any isAck = false := by decide +kernel

theorem ports_commit_farRange : ∀ x ∈ (afterStep (frameIn farRange (.req (hostPkt 0xD5) (.commit firstBytes)))).ports, x.2.queue = [] := by decide +kernel

theorem reachable_farRange : Reachable (taken (frameHeard farRange (hostPkt 0xD5) (.commit firstBytes)) (hostPkt 0xD5)) (connOf (hostPkt 0xD5)) :=
  ⟨by decide +kernel, by decide +kernel, 0, 0, by decide +kernel, by decide +kernel, by decide +kernel⟩

/-- Refutes O21: a key entry may name a range that begins at page 2^36 of its chamber. The two ways to find that page's home cell then differ: O21 asks that the one be in service, and the commit is
checked against the other, which is fenced. The commit is answered UNAVAILABLE and never acknowledged: a frame on its way out in the device that O21 asks for is so after the step too. -/
theorem not_commitsAndSends : ¬ Obligations.CommitsAndSends := by
  rintro ⟨hcommit, -⟩
  obtain ⟨e, hdoes, -, hack⟩ := hcommit ⟨farRange, []⟩ (hostPkt 0xD5) firstBytes
    { state := .active, cls := .localC, owner := 0, comp := false, xts := 0, set := 0, pref := 0, pages := 8 }
    (by decide +kernel) (by decide +kernel) (by decide +kernel) (by decide +kernel) (by decide +kernel) (by decide +kernel) (by decide +kernel) (by decide +kernel)
    (by decide +kernel)
  obtain ⟨-, hsent⟩ := onWay_iff.mp (afterStep_onWay e (onWay_iff.mpr ⟨anyTime_ack, hack reachable_farRange⟩))
  rw [does_unique hdoes (does_persistCommit ..)] at hsent
  exact not_sentOut_ack out_commit_farRange ports_commit_farRange hsent

end Sys2Proof.Machine
end

section
/-!
SUPPORT. Pause of a port, the fences that end a pause that lasts too long, and link doze (spec/05_congestion.md R102 to R106, spec/16_power.md R360, R361).
-/
namespace Sys2Proof.Machine
open Sys2Proof

/-! ### What a pause's end and the commands of link doze do -/

theorem does_pauseQuantaExpiry (s : State) (p : CellNo) (pcp : Fin 8) :
    Does (.pauseQuantaExpiry p pcp) s (pauseQuantaExpiry (reachO s.dev (pauseTimeEnd s.dev p.val pcp.val)) p.val pcp.val) :=
  does_run _ s (fun d => pauseQuantaExpiry (reachO d (pauseTimeEnd d p.val pcp.val)) p.val pcp.val) rfl

theorem does_dozeIdleTimer (s : State) (p : CellNo) : Does (.dozeIdleTimer p) s (dozeIdleTimer (reachO s.dev (idleTime s.dev p.val)) p.val) :=
  does_run _ s (fun d => dozeIdleTimer (reachO d (idleTime d p.val)) p.val) rfl

theorem does_dozeReq (s : State) (p : CellNo) (sec : SecTag) (seq : BitVec 8) : Does (.dozeReq p sec seq) s (dozeReq s.dev p.val sec seq.toNat) :=
  does_run _ s (fun d => dozeReq d p.val sec seq.toNat) rfl

theorem does_dozeAck (s : State) (p : CellNo) (sec : SecTag) (seq res : BitVec 8) : Does (.dozeAck p sec seq res) s (dozeAck s.dev p.val sec seq.toNat res.toNat) :=
  does_run _ s (fun d => dozeAck d p.val sec seq.toNat res.toNat) rfl

theorem does_dozeReqTimeout (s : State) (p : CellNo) : Does (.dozeReqTimeout p) s (dozeReqTimeout (reachO s.dev (dozeReqTime s.dev p.val)) p.val) :=
  does_run _ s (fun d => dozeReqTimeout (reachO d (dozeReqTime d p.val)) p.val) rfl

theorem does_dozeWake (s : State) (p : CellNo) : Does (.dozeWake p) s (dozeWake s.dev p.val) := does_run _ s (fun d => dozeWake d p.val) rfl

/-! ### A port once a time has been reached -/

theorem le_now_reach (d : Dev) (t : Nat) : t ≤ (reach d t).now := of_decide_eq_true (due_reach d t)

theorem portRole_reach (d : Dev) (t p : Nat) : portRole (reach d t) p = portRole d p := by rw [portRole, reg_reach, portRole]

theorem pfcOn_reach (d : Dev) (t p : Nat) : pfcOn (reach d t) p = pfcOn d p := by rw [pfcOn, portRole_reach, reg_reach, pfcOn]

theorem txOn_reach (d : Dev) (t p : Nat) : txOn (reach d t) p = txOn d p := by rw [txOn, getPort_reach, txOn]

theorem dataQueued_reach (d : Dev) (t p : Nat) : dataQueued (reach d t) p = dataQueued d p := by rw [dataQueued, getPort_reach, dataQueued]

theorem isDown_reach (d : Dev) (t : Nat) : isDown (reach d t) = isDown d := by rw [isDown, reach_pwr, isDown]

/-! ### Pause (R102, R103, R105, R106) -/

section
variable {d : Dev} {p : Nat}

/-- A frame that pauses one class, not paused so far, starts its pause now. -/
theorem pfcFrameReceived_one {m : PfcFrame} {pcp : Fin 8} {q : BitVec 16} (hm : m.quanta = [(pcp, q)]) (h7 : pcp.val ≠ 7) (hq : q.toNat ≠ 0) :
    let e := bump d .PORT_CNG_CNT m.port.val 1
    let v := getPort e m.port.val
    pfcOn e m.port.val = true → nget v.rx pcp.val = none →
    pfcFrameReceived d m =
      drainPort (pauseEnds (setPort e m.port.val { v with rx := nset v.rx pcp.val (e.now + q.toNat * 512 / max 1 v.rateGbps, e.now),
                                                          pauseFrom := some (v.pauseFrom.getD e.now) }) m.port.val) m.port.val := by
  intro e v hon hnone
  have hnot7 : (m.quanta.any fun x => x.1.val == 7) = false := by simp [hm, h7]
  have hkept : (m.quanta.filter fun x => x.1.val != 7) = [(pcp, q)] := by simp [hm, h7]
  rw [pfcFrameReceived]
  simp only [hnot7, hkept, Bool.false_eq_true, if_false, forEach, List.foldl_cons, List.foldl_nil, if_neg hq]
  rw [if_neg (by rw [hon]; decide), hnone]

theorem pauseQuantaExpiry_due {pcp e t : Nat} (hrx : nget (getPort d p).rx pcp = some (e, t)) (hdue : e ≤ d.now) :
    pauseQuantaExpiry d p pcp = drainPort (pauseEnds (modPort d p fun q => { q with rx := ndel q.rx pcp }) p) p := by
  rw [pauseQuantaExpiry, hrx]
  exact if_pos hdue

theorem xoffRefresh_due {g t e : Nat} (hxoff : nget (getPort d p).xoff g = some (t, e)) (hdue : e ≤ d.now) (hon : pfcOn d p = true) (htx : txOn d p = true) :
    xoffRefresh d p g = bump (sendPfc (modPort d p fun q => { q with xoff := nset q.xoff g (t, d.now + pauseTime d p / 2) }) p g 0xFFFF) .PORT_CNG_CNT p 0 := by
  rw [xoffRefresh, hxoff]
  exact if_pos ⟨hdue, hon, htx⟩

theorem pcpPaused_of_lt {pcp e t : Nat} (hrx : nget (getPort d p).rx pcp = some (e, t)) (hon : pfcOn d p = true) (hlt : d.now < e) : pcpPaused d p pcp = true := by
  rw [pcpPaused, hon, hrx, Bool.true_and]
  exact decide_eq_true hlt

theorem pauseWatchdogExpiry_due {pcp e t : Nat} (hrx : nget (getPort d p).rx pcp = some (e, t)) (hpaused : pcpPaused d p pcp = true)
    (hdue : tickAfter (t + msLimit (cfld d .PORT_PFC_CFG p 23 16)) ≤ d.now) (hfence : (getPort d p).fence = none) : pauseWatchdogExpiry d p pcp = pauseFence d p 1 pcp := by
  rw [pauseWatchdogExpiry, hrx]
  exact if_pos ⟨hpaused, hdue, hfence⟩

theorem xoffStormExpiry_due {g t e : Nat} (hxoff : nget (getPort d p).xoff g = some (t, e)) (hdue : tickAfter (t + msLimit (cfld d .PORT_PFC_CFG p 15 8)) ≤ d.now)
    (hfence : (getPort d p).fence = none) : xoffStormExpiry d p g = pauseFence d p 2 g := by
  rw [xoffStormExpiry, hxoff]
  exact if_pos ⟨hdue, hfence⟩

theorem portFenceRelease_accepted {w : Writer} {cause cls : Nat} (ha : Accepts d w .PORT_FENCE p) (hfence : (getPort d p).fence = some (cause, cls)) (hcause : cause = 1 ∨ cause = 2) :
    portFenceRelease d w p = lsCheck (modPort (asked d w .PORT_FENCE p 0) p fun q => { q with fence := none, link := .training }) := by
  have hsame : (getPort (asked d w .PORT_FENCE p 0) p).fence = some (cause, cls) := by rw [getPort_of _ d p (asked_ports ..), hfence]
  rw [portFenceRelease, command_accepted _ _ _ _ _ _ ha, hsame]
  exact if_pos hcause

end

theorem pauseAndFences : Claims.PauseAndFences := by
  refine ⟨fun s m pcp q => ?received, fun s p pcp e t => ?quantaEnd, fun s p g t e => ?refresh, fun s p pcp e t => ?watchdog, fun s p g e t => ?storm, fun s w p cause cls => ?released⟩
  case received => exact fun hm h7 hq hon hnone => does_congr (does_pfcFrameReceived s m) (pfcFrameReceived_one hm h7 hq hon hnone)
  case quantaEnd =>
    intro hrx
    refine does_congr (does_pauseQuantaExpiry s p pcp) ?_
    rw [pauseTimeEnd, hrx, Option.map_some, reachO]
    exact pauseQuantaExpiry_due (by rw [getPort_reach, hrx]) (le_now_reach ..)
  case refresh =>
    intro d hxoff hon htx
    refine does_congr (does_xoffRefresh s p g) ?_
    rw [refreshTime, hxoff, Option.map_some, reachO]
    exact xoffRefresh_due (by rw [getPort_reach, hxoff]) (le_now_reach ..) (by rw [pfcOn_reach, hon]) (by rw [txOn_reach, htx])
  case watchdog =>
    intro d hrx hon hlt hfence
    have hrx' : nget (getPort d p.val).rx pcp.val = some (e, t) := by rw [getPort_reach, hrx]
    refine does_congr (does_pauseWatchdogExpiry s p pcp) ?_
    rw [watchdogTime, hrx, Option.map_some, reachO]
    exact pauseWatchdogExpiry_due hrx' (pcpPaused_of_lt hrx' (by rw [pfcOn_reach, hon]) hlt) (by rw [cfld_reach]; exact le_now_reach ..) (by rw [getPort_reach, hfence])
  case storm =>
    intro d hxoff hfence
    refine does_congr (does_xoffStormExpiry s p g) ?_
    rw [stormTime, hxoff, Option.map_some, reachO]
    exact xoffStormExpiry_due (by rw [getPort_reach, hxoff]) (by rw [cfld_reach]; exact le_now_reach ..) (by rw [getPort_reach, hfence])
  case released => exact fun ha hfence hcause => does_congr (does_portFenceRelease s w p) (portFenceRelease_accepted ha hfence hcause)

/-! ### Link doze (R360, R361) -/

section
variable {d : Dev} {p : Nat}

theorem dozeIdleTimer_due (hst : (getPort d p).doze.st = .active) (hmay : mayDoze d p = true) (hidle : dataQueued d p = false)
    (hdue : due d ((getPort d p).doze.idleSince + us (max 5 (cfld d .PORT_DOZE_CFG p 7 0))) = true) (hup : isDown d = false) : let q := ((getPort d p).doze.seq + 1) % 256
    dozeIdleTimer d p = sendCtrl (modDoze d p fun z => { z with st := .requested, seq := q, deadline := d.now + us 10 }) 0xEA p (payload (dozeBytes q 0)) :=
  if_pos ⟨hst, hmay, hidle, hdue, hup⟩

section
variable {t : SecTag} {x : Dev × Bool} (hx : ctrlHeard d p t = x) (hheard : x.2 = true)
include hx hheard

/-- A request heard while none is out is agreed to where the port is idle and may doze, and else refused. -/
theorem dozeReq_active (seq : Nat) (hst : (getPort x.1 p).doze.st = .active) :
    dozeReq d p t seq =
      if mayDoze x.1 p = true ∧ dataQueued x.1 p = false then enterDoze (sendCtrl x.1 0xEB p (payload (dozeBytes seq 0))) p
      else bump (sendCtrl x.1 0xEB p (payload (dozeBytes seq 1))) .PORT_DOZE_CNT p 1 := by
  simp [dozeReq, hx, hheard, hst]

/-- An answer to the request that is out ends it. -/
theorem dozeAck_requested {seq : Nat} (res : Nat) (hst : (getPort x.1 p).doze.st = .requested) (hseq : (getPort x.1 p).doze.seq = seq) :
    dozeAck d p t seq res = if res = 0 then enterDoze x.1 p else bump (stayAwake x.1 p) .PORT_DOZE_CNT p 1 := by
  simp [dozeAck, hx, hheard, hst, hseq]

end

theorem dozeReqTimeout_due (hst : (getPort d p).doze.st = .requested) (hdue : due d (getPort d p).doze.deadline = true) : dozeReqTimeout d p = stayAwake d p := if_pos ⟨hst, hdue⟩

theorem dozeWake_doze (hst : (getPort d p).doze.st = .doze) :
    dozeWake d p =
      bumpBy (modDoze d p fun z => { z with st := .exiting, deadline := d.now + us 1 }) .PORT_DOZE_CNT p 3 ((d.now - (getPort d p).doze.deadline) / 1000) := by
  simp only [dozeWake, hst]

theorem dozeWake_entering (hst : (getPort d p).doze.st = .entering) (hlatch : (getPort d p).doze.latched = false) :
    dozeWake d p = bump (modDoze d p fun z => { z with latched := true }) .PORT_DOZE_CNT p 2 := by
  simp only [dozeWake, hst, hlatch, Bool.false_eq_true, if_false]

end

theorem linkDoze : Claims.LinkDoze := by
  refine ⟨fun s p => ?asks, fun s p sec seq => ?agrees, fun s p sec seq => ?refuses, fun s p sec seq res => ?answered, fun s p => ?silence, fun s p => ?wakes, fun s p => ?latches⟩
  case asks =>
    intro z d q hst hmay hidle hup
    have hsame : getPort d p.val = getPort s.dev p.val := getPort_reach ..
    refine does_congr (does_dozeIdleTimer s p) ?_
    rw [idleTime, if_pos hst, reachO, dozeIdleTimer_due (by rw [hsame, hst]) hmay (by rw [dataQueued_reach, hidle]) (by rw [hsame, cfld_reach]; exact due_reach ..) (by rw [isDown_reach, hup]), hsame]
  case agrees =>
    intro x hheard hst hmay hidle
    refine does_congr (does_dozeReq s p sec seq) ?_
    rw [dozeReq_active rfl hheard _ hst]
    exact if_pos ⟨hmay, hidle⟩
  case refuses =>
    intro x hheard hst hbusy
    have hbars : ¬(mayDoze x.1 p.val = true ∧ dataQueued x.1 p.val = false) := by
      rcases hbusy with h | h <;> simp [h]
    refine does_congr (does_dozeReq s p sec seq) ?_
    rw [dozeReq_active rfl hheard _ hst]
    exact if_neg hbars
  case answered =>
    intro x hheard hst hseq
    have hends := does_congr (does_dozeAck s p sec seq res) (dozeAck_requested rfl hheard res.toNat hst hseq)
    have hzero : res.toNat = 0 ↔ res = 0 := BitVec.toNat_inj (y := 0)
    exact ⟨fun h => does_congr hends (if_pos (hzero.mpr h)), fun h => does_congr hends (if_neg (mt hzero.mp h))⟩
  case silence =>
    intro hst
    have hsame := getPort_reach s.dev (getPort s.dev p.val).doze.deadline p.val
    refine does_congr (does_dozeReqTimeout s p) ?_
    rw [dozeReqTime, if_pos hst, reachO, dozeReqTimeout_due (by rw [hsame, hst]) (by rw [hsame]; exact due_reach ..)]
  case wakes => exact fun hst => does_congr (does_dozeWake s p) (dozeWake_doze hst)
  case latches => exact fun hst hlatch => does_congr (does_dozeWake s p) (dozeWake_entering hst hlatch)

/-- Settles O33: each timer, once its time has come, each frame that is heard, and each accepted release takes the branch that its clause names. -/
theorem pauseAndDoze : Obligations.PauseAndDoze := ⟨pauseAndFences, linkDoze⟩

end Sys2Proof.Machine
end

section
/-!
SUPPORT. Training of a port whose control connection held a buffer outside the cells of the device (spec/06_federation_fabric.md R107, R117; spec/05_congestion.md R102).
-/
namespace Sys2Proof.Machine
open Sys2Proof

/-- A port whose link has come up, with the connection of its last link gone. -/
def trainedPort (d : Dev) (p : Nat) (rate : PortRate) : Dev :=
  resetControl (setPort d p { getPort d p with link := .up, passed := false, lastHello := d.now, doze := {}, bucket := bucketNow d p, bucketAt := d.now, rateGbps := rate.gbps }) p

/-- A port that may train but is no fabric port once it has done so sends no HELLO. -/
theorem linkTrained_noHello {d : Dev} {p : Nat} {rate : PortRate}
    (htrains : ¬(portRole d p = 0 ∨ 4 < portRole d p ∨ isDown d ∨ ((getPort d p).fence.any fun f => f.1 != 3) = true)) (hlost : fabricPort (trainedPort d p rate) p = false) :
    linkTrained d p rate = lsCheck (trainedPort d p rate) :=
  (if_neg htrains).trans (if_neg (Bool.not_eq_true _ ▸ hlost))

/-- A device in SERVICE whose port 0 is GLOBAL and leads to device 2. A request of the port's control connection holds a buffer of cell 1024, where cells end at 255. The port of that number has PFC on
and an XOFF threshold above all that the cell has free. Its count PORT_CNG_CNT[0] would stand at the key of FAB_PORT_ROLE[0]. -/
def strayBuffer : Dev :=
  let d : Dev :=
    { pwr := { state := .service, inputGood := true }, ldr := { step := 15, ident := ⟨0, some 2, 4, 4⟩ }, fab := { topo := ⟨[4], [⟨0, 0, 2, 2, 4⟩], 5⟩ }, ports := [(1024, { link := .up })],
      res := { bufs := [(1024 * 1024, { requester := 0, refs := 1 })] },
      conns := [(0, { state := .ready, version := 3, service := .control, remoteOrd := 2, npsn := 4,
                      sent := [{ psn := 3, pkts := 1, opcode := 0x04, bytes := 100, kind := .mgmt, last := true, hold := false, persist := false, ts := 0, data := [], pmh := none,
                                 buf := some (1024 * 1024) }] })] }
  setReg (setReg (setReg d .FAB_PORT_ROLE 0 0 4) .FAB_PORT_ROLE 0 128 2) .POOL_PFC 1024 0 0x3FF

/-- That device once its port 0 has trained. -/
def strayBufferUp : Dev := trainedPort strayBuffer 0 .g800

/-- What the first clause of O4 says of that device: the connection is READY again and a HELLO leaves. -/
def strayBufferHello : Dev :=
  lsCheck (sendHello (setConn strayBufferUp (connKey 0 0) { state := .ready, version := 3, service := .control, remoteOrd := 2, port := 0, ackPsn := 2 ^ 24 - 1 }) 0)

/-- With the buffer freed, the port of cell 1024 sends XOFF, as the cell has less free than its threshold (R102). Counting that XOFF advances the role of port 0 from 4 to the reserved 5. -/
theorem portRole_strayBufferUp : portRole strayBufferUp 0 = 5 := by decide +kernel

theorem linkTrained_strayBuffer : linkTrained strayBuffer 0 .g800 = lsCheck strayBufferUp :=
  linkTrained_noHello (by decide +kernel) (by rw [fabricPort, ← strayBufferUp, portRole_strayBufferUp]; decide)

theorem control_strayBufferUp : (getConn (afterStep (lsCheck strayBufferUp)) 0).state = .free := by decide +kernel

theorem control_strayBufferHello : (getConn (afterStep strayBufferHello) 0).state = .ready := by decide +kernel

/-- Refutes O4: the state may list a buffer of a cell that no device has. Where the control connection of a port holds one, its release may count an XOFF over the port's role, and the port then trains
without a HELLO and without its connection. -/
theorem not_neighbourIdentity : ¬ Obligations.NeighbourIdentity := by
  rintro ⟨htrained, -⟩
  have hclause : Does (.linkTrained ⟨0, .g800⟩) ⟨strayBuffer, []⟩ strayBufferHello :=
    htrained ⟨strayBuffer, []⟩ 0 .g800 2 2 4 (by decide +kernel) (by decide +kernel) (by decide +kernel) (by decide +kernel)
  have hmodel : Does (.linkTrained ⟨0, .g800⟩) ⟨strayBuffer, []⟩ (lsCheck strayBufferUp) := does_congr (does_linkTrained ..) linkTrained_strayBuffer
  have hstate := congrArg (fun d => (getConn d 0).state) (does_unique hmodel hclause)
  simp only [control_strayBufferUp, control_strayBufferHello] at hstate
  cases hstate

end Sys2Proof.Machine
end

section
/-!
SUPPORT. A power failure in each state of the device, and what the end of a flush leaves as it was (spec/07_persistence.md R134, R135, R138, R139).
-/
namespace Sys2Proof.Machine
open Sys2Proof

/-! ### What the commands of rows 75 to 84 do (R129 to R131, R134, R135, R139, R144) -/

theorem does_powerFailNFall (s : State) : Does .powerFailNFall s (powerFailNFall s.dev) := does_run _ s powerFailNFall rfl

theorem does_inputUndervoltage (s : State) (mv : BitVec 16) : Does (.inputUndervoltage mv) s (inputUndervoltage s.dev mv.toNat) :=
  does_run _ s (fun d => inputUndervoltage d mv.toNat) rfl

theorem does_flushComplete (s : State) (pfHigh inputOk recordOk : Bool) (micros : Nat) (cells : FlushCells) :
    Does (.flushComplete pfHigh inputOk recordOk micros cells) s (flushComplete s.dev pfHigh inputOk recordOk micros cells.short cells.worn) :=
  does_run _ s (fun d => flushComplete d pfHigh inputOk recordOk micros cells.short cells.worn) rfl

theorem does_dirtyCreditRequest (s : State) (c : CellNo) : Does (.dirtyCreditRequest c) s (dirtyCreditRequest s.dev c.val) := does_run _ s (fun d => dirtyCreditRequest d c.val) rfl

theorem does_dirtyCreditGrant (s : State) : Does .dirtyCreditGrant s (dirtyCreditGrant s.dev) := does_run _ s dirtyCreditGrant rfl

theorem does_dirtyCreditReturn (s : State) (c : CellNo) : Does (.dirtyCreditReturn c) s (dirtyCreditReturn s.dev c.val) := does_run _ s (fun d => dirtyCreditReturn d c.val) rfl

theorem does_dirtyWaitExpiry (s : State) (c : CellNo) : Does (.dirtyWaitExpiry c) s (dirtyWaitExpiry (reachO s.dev (dirtyTime s.dev c.val)) c.val) :=
  does_run _ s (fun d => dirtyWaitExpiry (reachO d (dirtyTime d c.val)) c.val) rfl

theorem does_mirrorStallExpiry (s : State) (c : CellNo) : Does (.mirrorStallExpiry c) s (mirrorStallExpiry (reachO s.dev (mirrorStallTime s.dev c.val)) c.val) :=
  does_run _ s (fun d => mirrorStallExpiry (reachO d (mirrorStallTime d c.val)) c.val) rfl

theorem does_mirrorAckStallExpiry (s : State) : Does .mirrorAckStallExpiry s (mirrorAckStallExpiry (reachO s.dev (mirrorAckTime s.dev))) :=
  does_run _ s (fun d => mirrorAckStallExpiry (reachO d (mirrorAckTime d))) rfl

theorem does_sumpEraseDone (s : State) (c : CellNo) (set1 : Bool) (failed : List Nat) : Does (.sumpEraseDone c set1 failed) s (sumpEraseDone s.dev c.val set1 failed) :=
  does_run _ s (fun d => sumpEraseDone d c.val set1 failed) rfl

theorem persistenceCommandsComplete : Claims.PersistenceCommandsComplete :=
  ⟨does_powerFailNFall, does_inputUndervoltage, does_flushComplete, does_dirtyCreditRequest, does_dirtyCreditGrant, does_dirtyCreditReturn, does_dirtyWaitExpiry, does_mirrorStallExpiry,
    does_mirrorAckStallExpiry, does_sumpEraseDone⟩

/-! ### A power failure in each state (R138) -/

section
variable {d : Dev}

theorem powerFail_inService3 (kind : FlushKind) (hs : inService3 d = true) : powerFail d kind = beginFlush d kind := by
  unfold powerFail
  cases hstate : d.pwr.state
  case service | quiet | dormant => rfl
  case starting | flushing | halted | off => simp [inService3, hstate] at hs

theorem powerFail_starting (kind : FlushKind) (hs : d.pwr.state = .starting) : powerFail d kind = abandonStart d := by simp only [powerFail, hs]

theorem powerFail_isDown (kind : FlushKind) (hs : isDown d = true) : powerFail d kind = d := by
  unfold powerFail
  cases hstate : d.pwr.state
  case flushing | halted | off => rfl
  case service | quiet | dormant | starting => simp [isDown, hstate] at hs

theorem ne_off_of_inService3 (hs : inService3 d = true) : d.pwr.state ≠ .off := by
  intro hoff
  simp [inService3, hoff] at hs

/-- Without a fall of POWER_FAIL_N before it, an undervoltage is a C3 fault and then a power failure (R134). -/
theorem inputUndervoltage_unannounced (mv10 : Nat) (hs : d.pwr.state ≠ .off) (hn : d.pwr.powerFailN = true) :
    inputUndervoltage d mv10 =
      powerFail (raise (bump { d with pwr.inputMv := mv10 * 10, pwr.inputGood := false } .PWR_CNT 0 7) { cls := 3, cause := 0x03, unit := uHub 7, addr := mv10 } .stay) .undervoltage := by
  rw [inputUndervoltage, if_neg hs]
  exact if_pos hn

/-- After a fall of POWER_FAIL_N it is only counted. -/
theorem inputUndervoltage_announced (mv10 : Nat) (hs : d.pwr.state ≠ .off) (hn : d.pwr.powerFailN = false) :
    inputUndervoltage d mv10 = bump { d with pwr.inputMv := mv10 * 10, pwr.inputGood := false } .PWR_CNT 0 7 := by
  rw [inputUndervoltage, if_neg hs]
  exact if_neg (Bool.eq_false_iff.mp hn)

end

theorem powerFailure : Claims.PowerFailure := by
  refine ⟨?serves, ?starting, ?down, ?unannounced, ?announced⟩
  case serves => exact fun s hs => does_congr (does_powerFailNFall s) (powerFail_inService3 .powerFail hs)
  case starting => exact fun s hs => does_congr (does_powerFailNFall s) (powerFail_starting .powerFail hs)
  case down => exact fun s hs => does_congr (does_powerFailNFall s) (powerFail_isDown .powerFail hs)
  case unannounced => exact fun s mv hs hn => does_congr (does_inputUndervoltage s mv) (inputUndervoltage_unannounced mv.toNat (ne_off_of_inService3 hs) hn)
  case announced => exact fun s mv hs hn => does_congr (does_inputUndervoltage s mv) (inputUndervoltage_announced mv.toNat hs hn)

/-! ### What the end of a flush leaves as it was (R135, R139) -/

/-- A device has the chamber memory, the chambers and keys, and the reset asked for meanwhile, of another. -/
structure KeepsChambers (d e : Dev) : Prop where
  mem : e.mem = d.mem
  chm : e.chm = d.chm
  resetWanted : e.pwr.resetWanted = d.pwr.resetWanted

theorem KeepsChambers.refl (d : Dev) : KeepsChambers d d := ⟨rfl, rfl, rfl⟩

theorem KeepsChambers.after {d e f : Dev} (h' : KeepsChambers e f) (h : KeepsChambers d e) : KeepsChambers d f :=
  ⟨h'.mem.trans h.mem, h'.chm.trans h.chm, h'.resetWanted.trans h.resetWanted⟩

theorem KeepsChambers.forEach {α : Type} {d e : Dev} {f : Dev → α → Dev} (l : List α) (h : KeepsChambers d e) (hf : ∀ e x, KeepsChambers e (f e x)) :
    KeepsChambers d (forEach l e f) := by
  induction l generalizing e with
  | nil => exact h
  | cons x l ih => exact ih ((hf e x).after h)

theorem journalAdd_keepsChambers (d : Dev) (r : LogRec) : KeepsChambers d (journalAdd d r) := by
  unfold journalAdd
  (repeat' split) <;> exact ⟨rfl, rfl, rfl⟩

theorem logRecord_keepsChambers (d : Dev) (sev cls cause unit requester reqCell access : Nat) (merged : Bool) (addr : Nat) (detail : List Nat) :
    KeepsChambers d (logRecord d sev cls cause unit requester reqCell access merged addr detail) := by
  unfold logRecord
  dsimp only
  split <;> exact (journalAdd_keepsChambers ..).after ⟨rfl, rfl, rfl⟩

theorem capture_keepsChambers (d : Dev) (x : Capture) : KeepsChambers d (capture d x) := by
  unfold capture
  dsimp only
  split <;> exact ⟨rfl, rfl, rfl⟩

/-- A fault below C3 does nothing to the device but be counted, captured and recorded (R364 to R367). -/
theorem raise_keepsChambers (d : Dev) (e : FaultEvt) (act : SevereAct) (he : e.cls < 3) : KeepsChambers d (raise d e act) := by
  unfold raise
  dsimp only
  rw [if_neg (Nat.not_le.mpr he)]
  have hcounted : KeepsChambers d (stamped (setClassBit (bump d .FLT_CLASS_CNT 0 e.cls) e.cls)) := ⟨rfl, rfl, rfl⟩
  split <;> split
  · exact (capture_keepsChambers ..).after hcounted
  · exact hcounted
  · exact (logRecord_keepsChambers ..).after ((capture_keepsChambers ..).after hcounted)
  · exact (logRecord_keepsChambers ..).after hcounted

theorem retireBlock_keepsChambers (d : Dev) (c slot : Nat) : KeepsChambers d (retireBlock d c slot) := by
  unfold retireBlock
  dsimp only
  split <;> exact ⟨rfl, rfl, rfl⟩

theorem wornSump_keepsChambers (d : Dev) (c slot : Nat) : KeepsChambers d (wornSump d c slot) := by
  unfold wornSump
  split
  · exact retireBlock_keepsChambers d c slot
  · exact (raise_keepsChambers _ _ _ (Nat.lt_add_one 2)).after ⟨rfl, rfl, rfl⟩

theorem flushJrn_keepsChambers (d : Dev) (r : LogRec) : KeepsChambers d (flushJrn d r) := by
  unfold flushJrn
  split <;> exact ⟨rfl, rfl, rfl⟩

/-- An update of fields other than those adds nothing. -/
theorem KeepsChambers.update {d e f : Dev} (h : KeepsChambers d e) (hmem : f.mem = e.mem) (hchm : f.chm = e.chm) (hreset : f.pwr.resetWanted = e.pwr.resetWanted) : KeepsChambers d f :=
  KeepsChambers.after ⟨hmem, hchm, hreset⟩ h

theorem flushJournal_keepsChambers (d : Dev) : KeepsChambers d (flushJournal d) := by
  unfold flushJournal
  refine .update (.forEach _ ?counted flushJrn_keepsChambers) rfl rfl rfl
  case counted => exact ⟨rfl, rfl, rfl⟩

theorem groupOff_keepsChambers (d : Dev) (g : Nat) (keep30 : Bool) : KeepsChambers d (groupOff d g keep30) := by
  refine .forEach _ (.refl d) fun e n => ?_
  dsimp only
  split <;> exact ⟨rfl, rfl, rfl⟩

theorem flushEnds_keepsChambers (d : Dev) (f : Flush) (recordOk : Bool) (micros : Nat) (short worn : List (Fin 256 × Nat)) :
    KeepsChambers d (flushEnds d f recordOk micros short worn) := by
  unfold flushEnds
  refine .update (.forEach _ ((flushJournal_keepsChambers _).after ?record) fun e g => groupOff_keepsChambers ..) rfl rfl rfl
  case record =>
    refine .update (.forEach _ (.forEach _ ?closed ?counted) fun e x => wornSump_keepsChambers ..) rfl rfl rfl
    case closed => exact ⟨rfl, rfl, rfl⟩
    case counted => exact fun e c => ⟨rfl, rfl, rfl⟩

/-! ### What follows the flush (R139) -/

theorem flushComplete_flushing {d : Dev} {f : Flush} (pfHigh inputOk recordOk : Bool) (micros : Nat) (short worn : List (Fin 256 × Nat)) (hf : d.per.flush = some f)
    (hs : d.pwr.state = .flushing) :
    flushComplete d pfHigh inputOk recordOk micros short worn = afterFlush (flushEnds d f recordOk micros short worn) f pfHigh inputOk := by
  simp only [flushComplete, hf]
  exact if_pos hs

/-- After a flush for a C3 or C4 only a reset asked for meanwhile starts the device again. -/
theorem afterFlush_severe {d : Dev} {f : Flush} (pfHigh inputOk : Bool) (hk : f.kind = .severe) (hr : d.pwr.resetWanted = false) :
    afterFlush d f pfHigh inputOk = { d with pwr.powerFailN := pfHigh } := by simp [afterFlush, hk, hr]

/-- With the restart enabled, good input and POWER_FAIL_N high again, a flush for a power failure ends in a restart. -/
theorem afterFlush_powerFail_restarts {d : Dev} {f : Flush} (hk : f.kind = .powerFail) (hauto : fbit (hreg d .PWR_HOLDUP_CFG) 31 = true) :
    afterFlush d f true true = beginStart { d with pwr.powerFailN := true } true := by
  have hon : fbit (hreg { d with pwr.powerFailN := true } .PWR_HOLDUP_CFG) 31 = true := hauto
  simp [afterFlush, hk, hon]

/-- With POWER_FAIL_N still low it does not. -/
theorem afterFlush_powerFail_stays {d : Dev} {f : Flush} (inputOk : Bool) (hk : f.kind = .powerFail) (hr : d.pwr.resetWanted = false) :
    afterFlush d f false inputOk = { d with pwr.powerFailN := false } := by simp [afterFlush, hk, hr]

theorem flushEndsClaim : Claims.FlushEnds := by
  refine ⟨?severe, ?ends, ?powerFail⟩
  case severe =>
    intro s a b r n l w f hf hs hk hr
    have hkeeps := flushEnds_keepsChambers s.dev f r n l w
    refine ⟨{ flushEnds s.dev f r n l w with pwr.powerFailN := a }, does_congr (does_flushComplete s a b r n ⟨l, w⟩) ?_, rfl, rfl, rfl, hkeeps.mem, hkeeps.chm⟩
    rw [flushComplete_flushing a b r n l w hf hs, afterFlush_severe a b hk (hkeeps.resetWanted.trans hr)]
  case ends => exact fun s a b r n l w f hf hs => does_congr (does_flushComplete s a b r n ⟨l, w⟩) (flushComplete_flushing a b r n l w hf hs)
  case powerFail => exact fun d f b hk hauto _ => ⟨afterFlush_powerFail_restarts hk hauto, afterFlush_powerFail_stays b hk⟩

/-- Settles O35: a power failure by the state that it meets, and a flush whose end changes neither memory nor chambers and keys. -/
theorem powerFailureAndFlush : Obligations.PowerFailureAndFlush := ⟨powerFailure, flushEndsClaim⟩

end Sys2Proof.Machine
end

section
/-!
SUPPORT. Dirty credits, the waits of writes for dirty space and for their mirror, and the erase of a sump set (spec/07_persistence.md R129 to R131, R144; spec/10_dram_tier.md R215).
-/
namespace Sys2Proof.Machine
open Sys2Proof

/-! ### Dirty credits (R129) -/

section
variable {d : Dev} {c : Nat}

theorem dirtyCreditRequest_short (hs : inService3 d = true) (hshort : dirtyCreditOf d c < dirtyCount d c + 4 * 8192) (hasked : d.per.creditAsks.contains c = false) :
    dirtyCreditRequest d c = { d with per.creditAsks := d.per.creditAsks ++ [c] } := by
  rw [dirtyCreditRequest, if_pos hs, askDirty, hasked, if_pos (by simp [hshort])]

section
variable {rest : List Nat} (hasks : d.per.creditAsks = c :: rest)
include hasks

/-- The oldest request within the limits: it gets a whole credit, or what brings its cell to CELL_MIB. -/
theorem dirtyCreditGrant_within : let n := min creditLines (cellMib d * 8192 - dirtyCreditOf d c)
    n ≠ 0 → grantedLines d + n ≤ devGib d * 1024 * 8192 →
    dirtyCreditGrant d = wakeDirty { d with per.creditAsks := rest, per.dirtyCredit := nset d.per.dirtyCredit c (dirtyCreditOf d c + n) } c := by
  intro n hn hwithin
  rw [dirtyCreditGrant, hasks]
  exact (if_neg hn).trans (if_neg (Nat.not_lt.mpr hwithin))

/-- A request beyond DEV_GIB waits. -/
theorem dirtyCreditGrant_beyond : let n := min creditLines (cellMib d * 8192 - dirtyCreditOf d c)
    n ≠ 0 → devGib d * 1024 * 8192 < grantedLines d + n → dirtyCreditGrant d = d := by
  intro n hn hbeyond
  rw [dirtyCreditGrant, hasks]
  exact (if_neg hn).trans (if_pos hbeyond)

end

theorem dirtyCreditReturn_whole (hspare : dirtyCount d c + 20 * 8192 < dirtyCreditOf d c) (hwhole : dirtyCreditOf d c % creditLines = 0) :
    dirtyCreditReturn d c = { d with per.dirtyCredit := nset d.per.dirtyCredit c (dirtyCreditOf d c - creditLines) } := by
  rw [dirtyCreditReturn]
  exact (if_pos hspare).trans (by rw [if_pos hwhole])

end

theorem dirtyCredit : Claims.DirtyCredit := by
  refine ⟨?asks, ?granted, ?waits, ?returned⟩
  case asks => exact fun s c hs hshort hasked => does_congr (does_dirtyCreditRequest s c) (dirtyCreditRequest_short hs hshort hasked)
  case granted => exact fun s c rest hasks hn hwithin => does_congr (does_dirtyCreditGrant s) (dirtyCreditGrant_within hasks hn hwithin)
  case waits => exact fun s c rest hasks hn hbeyond => does_congr (does_dirtyCreditGrant s) (dirtyCreditGrant_beyond hasks hn hbeyond)
  case returned => exact fun s c hspare hwhole => does_congr (does_dirtyCreditReturn s c) (dirtyCreditReturn_whole hspare hwhole)

/-! ### Waits of writes (R130, R131) -/

@[simp] theorem stallMs_reach (d : Dev) (t : Nat) : stallMs (reach d t) = stallMs d := by rw [stallMs, hfld_reach, stallMs]

theorem soonest_single (t : Nat) : soonest [t] = some t := by simp [soonest]

section
variable {d : Dev} {c : Nat} {r : Req} {p : Part} (hreqs : d.reqs = [r]) (hparts : r.parts = [p])
include hreqs hparts

/-- With one request of one part, the time waited for is that part's. -/
theorem soonest_partTimes {f : Req → Part → Option Nat} {t : Nat} (ht : f r p = some t) : soonest (partTimes d f) = some t := by
  simp [partTimes, hreqs, hparts, ht, soonest_single]

/-- A write that waits for dirty space no longer completes BUSY and is counted. -/
theorem dirtyWaitExpiry_due {t : Nat} (hc : p.cell = c) (hown : fromTwin r.kind = false) (hst : p.st = .waitDirty t) (hdue : due d t = true) :
    dirtyWaitExpiry d c = pump (bump { d with reqs := [{ r with parts := [{ p with st := .failed stBusy }] }] } .CELL_FLUSH_CNT c 3) := by
  have hover : dirtyWaitOver d c r p = true := by simp [dirtyWaitOver, hc, hown, hst, hdue]
  simp [dirtyWaitExpiry, hreqs, hparts, hover, bump]

theorem dirtyTime_single {t : Nat} (hc : p.cell = c) (hown : fromTwin r.kind = false) (hst : p.st = .waitDirty t) : dirtyTime d c = some t :=
  soonest_partTimes hreqs hparts (by simp [hc, hown, hst])

/-- A mirror write that has waited for its promotion makes a follower with a witness yield. -/
theorem mirrorStallExpiry_due (hc : p.cell = c) (hk : r.kind = .mirrorWrite) (hst : p.st = .waitPromo) (hw : d.cus.witness.isSome = true) (hdue : due d (p.since + stallMs d) = true) :
    mirrorStallExpiry d c = sendYield d := by
  have hstalled : mirrorStalled d c r p = true := by
    have hwaited := of_decide_eq_true hdue
    simp [mirrorStalled, hc, hk, hst, hwaited]
  simp [mirrorStallExpiry, hreqs, hparts, hstalled, hw]

theorem mirrorStallTime_single (hc : p.cell = c) (hk : r.kind = .mirrorWrite) (hst : p.st = .waitPromo) : mirrorStallTime d c = some (p.since + stallMs d) :=
  soonest_partTimes hreqs hparts (by simp [hc, hk, hst])

/-- Without a witness a write whose mirror is not acknowledged in time completes UNAVAILABLE. -/
theorem mirrorAckStallExpiry_due {ts : Nat} (hst : p.st = .mirrored ts) (hissued : r.stage = .issued) (hw : d.cus.witness = none) (hdue : due d (p.since + stallMs d) = true) :
    mirrorAckStallExpiry d = pump { d with reqs := [{ r with stage := .over stUnavailable }] } := by
  have hlate : mirrorLate d p = true := by
    have hwaited := of_decide_eq_true hdue
    simp [mirrorLate, hst, hwaited]
  simp [mirrorAckStallExpiry, hreqs, hparts, hlate, hissued, hw]

theorem mirrorAckTime_single {ts : Nat} (hst : p.st = .mirrored ts) : mirrorAckTime d = some (p.since + stallMs d) :=
  soonest_partTimes hreqs hparts (by simp [hst])

end

/-- A line that the twin does not answer for stays poisoned (R215). -/
theorem lineRepairTimeout_due {d : Dev} {chamber page i : Nat} {r : Repair} (hr : nget d.repairs (pageKey chamber page * 128 + i) = some r) (hline : r.isSeal = false) (hdue : due d r.deadline = true) :
    lineRepairTimeout d chamber page (some i) = compareAgain { d with repairs := ndel d.repairs (pageKey chamber page * 128 + i) } (pageKey chamber page) := by
  simp [lineRepairTimeout, hr, hline, hdue]

theorem repairTime_line {d : Dev} {chamber page i : Nat} {r : Repair} (hr : nget d.repairs (pageKey chamber page * 128 + i) = some r) :
    repairTime d chamber page (some i) = some r.deadline := by
  simp only [repairTime, hr, Option.map_some]

/-- The command is opened by hand: to find `does_run`'s operation, unification would open the operation's own branches. -/
theorem does_lineRepairTimeout (s : State) (chamber : Fin 65536) (page : BitVec 36) (line : Option (Fin 128)) :
    Does (.lineRepairTimeout chamber page line) s
      (lineRepairTimeout (reachO s.dev (repairTime s.dev chamber.val page.toNat (line.map (·.val)))) chamber.val page.toNat (line.map (·.val))) := by
  have hruns : exec (.lineRepairTimeout chamber page line) s = execLineRepairTimeout chamber page line s := rfl
  rw [Does, hruns, execLineRepairTimeout, run]

theorem does_lineRepairTimeout_reached {s : State} {n : Fin 65536} {page : BitVec 36} {i : Fin 128} {r : Repair} (hr : nget s.dev.repairs (pageKey n.val page.toNat * 128 + i.val) = some r)
    (hline : r.isSeal = false) :
    Does (.lineRepairTimeout n page (some i)) s
      (compareAgain { reach s.dev r.deadline with repairs := ndel (reach s.dev r.deadline).repairs (pageKey n.val page.toNat * 128 + i.val) } (pageKey n.val page.toNat)) := by
  refine does_congr (does_lineRepairTimeout s n page (some i)) ?_
  rw [Option.map_some, repairTime_line hr, reachO]
  exact lineRepairTimeout_due (by rw [reach_repairs, hr]) hline (due_reach ..)

section
variable {s : State} {r : Req} {p : Part} (hreqs : s.dev.reqs = [r]) (hparts : r.parts = [p])
include hreqs hparts

theorem does_dirtyWaitExpiry_reached {c : CellNo} {t : Nat} (hc : p.cell = c.val) (hown : fromTwin r.kind = false) (hst : p.st = .waitDirty t) :
    Does (.dirtyWaitExpiry c) s (pump (bump { reach s.dev t with reqs := [{ r with parts := [{ p with st := .failed stBusy }] }] } .CELL_FLUSH_CNT c.val 3)) := by
  refine does_congr (does_dirtyWaitExpiry s c) ?_
  rw [dirtyTime_single hreqs hparts hc hown hst, reachO]
  exact dirtyWaitExpiry_due (by rw [reach_reqs, hreqs]) hparts hc hown hst (due_reach ..)

theorem does_mirrorStallExpiry_reached {c : CellNo} (hc : p.cell = c.val) (hk : r.kind = .mirrorWrite) (hst : p.st = .waitPromo) (hw : s.dev.cus.witness.isSome = true) :
    Does (.mirrorStallExpiry c) s (sendYield (reach s.dev (p.since + stallMs s.dev))) := by
  refine does_congr (does_mirrorStallExpiry s c) ?_
  rw [mirrorStallTime_single hreqs hparts hc hk hst, reachO]
  exact mirrorStallExpiry_due (by rw [reach_reqs, hreqs]) hparts hc hk hst (by rw [reach_cus, hw]) (by rw [stallMs_reach, due_reach])

theorem does_mirrorAckStallExpiry_reached {ts : Nat} (hst : p.st = .mirrored ts) (hissued : r.stage = .issued) (hw : s.dev.cus.witness = none) :
    Does .mirrorAckStallExpiry s (pump { reach s.dev (p.since + stallMs s.dev) with reqs := [{ r with stage := .over stUnavailable }] }) := by
  refine does_congr (does_mirrorAckStallExpiry s) ?_
  rw [mirrorAckTime_single hreqs hparts hst, reachO]
  exact mirrorAckStallExpiry_due (by rw [reach_reqs, hreqs]) hparts hst hissued (by rw [reach_cus, hw]) (by rw [stallMs_reach, due_reach])

end

theorem waitsOfWrites : Claims.WaitsOfWrites := by
  refine ⟨?busy, ?yields, ?unavailable, ?repair⟩
  case busy => exact fun s c r p t hreqs hparts hc hown hst => does_dirtyWaitExpiry_reached hreqs hparts hc hown hst
  case yields => exact fun s c r p hreqs hparts hc hk hst hw => does_mirrorStallExpiry_reached hreqs hparts hc hk hst hw
  case unavailable => exact fun s r p ts hreqs hparts hst hissued hw => does_mirrorAckStallExpiry_reached hreqs hparts hst hissued hw
  case repair => exact fun s n page i r hr hline => does_lineRepairTimeout_reached hr hline

/-! ### The erase of a sump set (R144) -/

theorem mem_sinsert {l : List Nat} {k x : Nat} : x ∈ sinsert l k ↔ x = k ∨ x ∈ l := by
  induction l with
  | nil => simp [sinsert]
  | cons h t ih =>
    unfold sinsert
    split
    · simp
    · split
      · next heq => simp [heq]
      · rw [List.mem_cons, ih, List.mem_cons, or_left_comm]

theorem mem_foldl_sinsert {ks l : List Nat} {x : Nat} : x ∈ ks.foldl sinsert l ↔ x ∈ ks ∨ x ∈ l := by
  induction ks generalizing l with
  | nil => simp
  | cons k ks ih => rw [List.foldl_cons, ih, mem_sinsert, List.mem_cons, or_left_comm, or_assoc]

theorem getMed_setMed_same (d : Dev) (c : Nat) (m : Media) : getMed (setMed d c m) c = m := ngetD_nset_same ..

theorem getSump_setSump_same (d : Dev) (c : Nat) (v : SumpSet × SumpSet) : getSump (setSump d c v) c = v := ngetD_nset_same ..

theorem sumpSet_setSumpSet_same (d : Dev) (c : Nat) (b : Bool) (x : SumpSet) : sumpSet (setSumpSet d c b x) c b = x := by
  cases b <;> simp [sumpSet, setSumpSet, getSump_setSump_same]

/-- The other set of the cell stands. -/
theorem sumpSet_setSumpSet_other (d : Dev) (c : Nat) (b : Bool) (x : SumpSet) : sumpSet (setSumpSet d c b x) c (!b) = sumpSet d c (!b) := by
  cases b <;> simp [sumpSet, setSumpSet, getSump_setSump_same]

/-- Erasing blocks moves no superblock to other dies. -/
theorem sbDies_eraseBlocks (m : Media) (slots : List Nat) (i : Nat) : sbDies (eraseBlocks m slots) i = sbDies m i := by
  induction slots generalizing m with
  | nil => rfl
  | cons k slots ih => exact ih _

/-- The dies that were erasing a set. -/
def sumpErasers (d : Dev) (c : Nat) (b : Bool) : List Nat := erasingDies (getMed d c) (.eraseSump b)

/-- Their blocks of the set. -/
def sumpErasedSlots (d : Dev) (c : Nat) (b : Bool) : List Nat := (sumpSlots (getMed d c) b).filter fun k => (sumpErasers d c b).contains (k / 8192)

/-- The channel once those dies are done. -/
def sumpErasedMed (d : Dev) (c : Nat) (b : Bool) : Media := freeDies (eraseBlocks (getMed d c) (sumpErasedSlots d c b)) (sumpErasers d c b)

/-- The device once those dies are done: the erases are counted, and the set knows them. -/
def sumpErased (d : Dev) (c : Nat) (b : Bool) : Dev :=
  setSumpSet (bumpBy (setMed d c (sumpErasedMed d c b)) .MED_CNT c 3 (sumpErasedSlots d c b).length) c b
    { sumpSet d c b with erased := (sumpErasers d c b).foldl sinsert (sumpSet d c b).erased }

theorem sbDies_sumpErasedMed (d : Dev) (c : Nat) (b : Bool) : sbDies (sumpErasedMed d c b) 0 = sbDies (getMed d c) 0 := sbDies_eraseBlocks ..

section
variable {d : Dev} {c : Nat} {b : Bool}

theorem sumpEraseDone_idle {l : List Nat} (hdies : sumpErasers d c b = []) : sumpEraseDone d c b l = d := if_pos hdies

/-- Where no block has failed or worn out, nothing is replaced. -/
theorem sumpEraseDone_unworn (hdies : sumpErasers d c b ≠ [])
    (hunworn : ((sumpErasedSlots d c b).all fun k => decide (peOf (sumpErasedMed d c b) (physOf (sumpErasedMed d c b) k) < 30000)) = true) :
    sumpEraseDone d c b [] = finishSump (sumpErased d c b) c b := by
  have hbad : ((sumpErasedSlots d c b).filter fun k => [].contains (k / 2048) || decide (30000 ≤ peOf (sumpErasedMed d c b) (physOf (sumpErasedMed d c b) k))) = [] := by
    refine List.filter_eq_nil_iff.mpr fun k hk => ?_
    have hpe := of_decide_eq_true (List.all_eq_true.mp hunworn k hk)
    simp [hpe]
  refine (if_neg hdies).trans ?_
  exact congrArg (fun l => finishSump (forEach l (sumpErased d c b) fun d k => wornSump d c k) c b) hbad

/-- A set whose blocks have all been erased is ARMED, and empty. -/
def armedSump (m : Media) (b : Bool) (x : SumpSet) : SumpSet := { state := .armed, maxPE := sumpPe m b, pendingRepl := x.pendingRepl }

theorem finishSump_complete (herasing : (sumpSet d c b).state = .erasing) (hsome : (sumpSet d c b).erased ≠ []) (hall : ∀ x ∈ sbDies (getMed d c) 0, x ∈ (sumpSet d c b).erased) :
    finishSump d c b = wakeDirty (setSumpSet d c b (armedSump (getMed d c) b (sumpSet d c b))) c := by
  refine if_neg ?_
  rintro (hstate | hnone | hmissing)
  · exact hstate herasing
  · exact hsome hnone
  · exact Bool.false_ne_true (hmissing.symm.trans (List.all_eq_true.mpr fun x hx => List.contains_iff_mem.mpr (hall x hx)))

theorem sumpEraseDone_complete (hdies : sumpErasers d c b ≠ []) (herasing : (sumpSet d c b).state = .erasing)
    (hall : ((sbDies (getMed d c) 0).all fun x => (sumpErasers d c b).contains x) = true)
    (hunworn : ((sumpErasedSlots d c b).all fun k => decide (peOf (sumpErasedMed d c b) (physOf (sumpErasedMed d c b) k) < 30000)) = true) :
    sumpEraseDone d c b [] = wakeDirty (setSumpSet (sumpErased d c b) c b (armedSump (sumpErasedMed d c b) b (sumpSet d c b))) c := by
  have hset : sumpSet (sumpErased d c b) c b = { sumpSet d c b with erased := (sumpErasers d c b).foldl sinsert (sumpSet d c b).erased } := sumpSet_setSumpSet_same ..
  have hmed : getMed (sumpErased d c b) c = sumpErasedMed d c b := getMed_setMed_same ..
  obtain ⟨x, hx⟩ := List.exists_mem_of_ne_nil _ hdies
  rw [sumpEraseDone_unworn hdies hunworn, finishSump_complete]
  · rw [hset, hmed]; rfl
  · rw [hset]; exact herasing
  · rw [hset]
    exact List.ne_nil_of_mem (mem_foldl_sinsert.mpr (.inl hx))
  · rw [hset, hmed, sbDies_sumpErasedMed]
    exact fun y hy => mem_foldl_sinsert.mpr (.inl (List.contains_iff_mem.mp (List.all_eq_true.mp hall y hy)))

theorem reg_sumpErased (x : SumpSet) : reg (setSumpSet (sumpErased d c b) c b x) .MED_CNT c 3 = reg d .MED_CNT c 3 + BitVec.ofNat 32 (sumpErasedSlots d c b).length :=
  reg_setReg_same (setMed d c (sumpErasedMed d c b)) ..

theorem sumpSet_sumpErased_other (x : SumpSet) : sumpSet (setSumpSet (sumpErased d c b) c b x) c (!b) = sumpSet d c (!b) :=
  (sumpSet_setSumpSet_other ..).trans (sumpSet_setSumpSet_other ..)

end

theorem sumpErase : Claims.SumpErase := by
  refine ⟨fun s c b => ?complete, fun s c b l hdies => does_congr (does_sumpEraseDone s c b l) (sumpEraseDone_idle hdies)⟩
  case complete =>
    intro m dies slots m' p hdies herasing hall hunworn
    have hstate : (sumpSet s.dev c.val b).state = .erasing := herasing
    let t := armedSump (sumpErasedMed s.dev c.val b) b (sumpSet s.dev c.val b)
    refine ⟨setSumpSet (sumpErased s.dev c.val b) c.val b t, does_congr (does_sumpEraseDone s c b []) (sumpEraseDone_complete hdies hstate hall hunworn), reg_sumpErased t, ?_⟩
    have hset := sumpSet_setSumpSet_same (sumpErased s.dev c.val b) c.val b t
    have hother := sumpSet_sumpErased_other (d := s.dev) (c := c.val) (b := b) t
    cases b <;> exact ⟨congrArg (·.state) hset, congrArg (·.lines) hset, congrArg (·.refPages) hset, congrArg (·.opened) hset, congrArg (·.closed) hset, hother⟩

/-- Settles O36: credits by their limits, waits by the time that their part reaches, and a sump set that all its dies have erased. -/
theorem dirtySpace : Obligations.DirtySpace := ⟨dirtyCredit, waitsOfWrites, sumpErase, persistenceCommandsComplete⟩

end Sys2Proof.Machine
end

section
/-!
SUPPORT. The Alcove: the way that a fill takes, the pointer of a set, and a read that hits (spec/08_tiers.md R160 to R162).
-/
namespace Sys2Proof.Machine
open Sys2Proof

/-! ### The way that a fill takes (R161) -/

section
variable {al : Alcove} {a : Nat}

/-- The way of the line's set that a fill takes: the first invalid one from the pointer on, else the one at the pointer. -/
def fillWay (al : Alcove) (a : Nat) : Nat :=
  (((List.range 16).map fun i => (ngetD al.ptr (alcSet a) 0 + i) % 16).find? fun w => !nhas al.ways (alcSet a * 16 + w)).getD (ngetD al.ptr (alcSet a) 0)

theorem alcFill_eq (al : Alcove) (a : Nat) (p : Bool) :
    alcFill al a p = { al with ways := nset al.ways (alcSet a * 16 + fillWay al a) ⟨a / 128, p⟩, ptr := nset al.ptr (alcSet a) ((fillWay al a + 1) % 16) } := rfl

theorem fillWay_firstInvalid {j : Nat} (hj : j < 16) (hvalid : ∀ i ∈ List.range j, nhas al.ways (alcSet a * 16 + (ngetD al.ptr (alcSet a) 0 + i) % 16) = true)
    (hinvalid : nhas al.ways (alcSet a * 16 + (ngetD al.ptr (alcSet a) 0 + j) % 16) = false) : fillWay al a = (ngetD al.ptr (alcSet a) 0 + j) % 16 := by
  have hfirst : (List.range 16).find? ((fun w => !nhas al.ways (alcSet a * 16 + w)) ∘ fun i => (ngetD al.ptr (alcSet a) 0 + i) % 16) = some j := by
    refine List.find?_range_eq_some.mpr ⟨?_, List.mem_range.mpr hj, fun i hi => ?_⟩
    · simp [hinvalid]
    · simp [hvalid i (List.mem_range.mpr hi)]
  rw [fillWay, List.find?_map, hfirst, Option.map_some, Option.getD_some]

theorem fillWay_allValid (hvalid : ∀ w ∈ List.range 16, nhas al.ways (alcSet a * 16 + w) = true) : fillWay al a = ngetD al.ptr (alcSet a) 0 := by
  have hnone : (((List.range 16).map fun i => (ngetD al.ptr (alcSet a) 0 + i) % 16).find? fun w => !nhas al.ways (alcSet a * 16 + w)) = none := by
    refine List.find?_eq_none.mpr fun w hw => ?_
    obtain ⟨i, -, rfl⟩ := List.mem_map.mp hw
    simp [hvalid _ (List.mem_range.mpr (Nat.mod_lt _ (by decide)))]
  rw [fillWay, hnone, Option.getD_none]

/-- A fill that takes a way writes that way alone, and moves its set's pointer alone, past it. -/
theorem alcFill_of_fillWay {w : Nat} (p : Bool) (hw : fillWay al a = w) : let e := alcFill al a p
    nget e.ways (alcSet a * 16 + w) = some ⟨a / 128, p⟩ ∧ (∀ k, k ≠ alcSet a * 16 + w → nget e.ways k = nget al.ways k) ∧ ngetD e.ptr (alcSet a) 0 = (w + 1) % 16 ∧
      ∀ t, t ≠ alcSet a → ngetD e.ptr t 0 = ngetD al.ptr t 0 := by
  subst hw
  rw [alcFill_eq]
  exact ⟨nget_nset_same .., fun k hk => nget_nset_ne _ _ _ _ hk, ngetD_nset_same .., fun t ht => ngetD_nset_ne _ _ _ _ _ ht⟩

end

/-! ### A read that hits (R161, R162) -/

section
variable {d : Dev} {c : Nat}

theorem mbRead_empty (line : Nat) (sites : List ErrSite) (hmb : (getAlc d c).mb = []) : mbRead d c line sites = d := by
  simp only [mbRead, hmb, List.find?_nil]

theorem alcBad_sound (d : Dev) (c a : Nat) : alcBad d c a [] = d := by
  rw [alcBad]
  split <;> rfl

theorem alcCorrected_sound (d : Dev) (c a : Nat) : alcCorrected d c a [] = d := rfl

/-- A line in the Alcove that holds no error, and whose read meets none, is read there: the read is counted and does nothing else. -/
theorem readLine_hit {line a : Nat} {f : Frame} (base : Nat) (span : Nat × Nat) (r : Requester) (hc : homeOf (line / 128) = c) (hf : getFrame d (line / 128) = some f)
    (ha : frameAddr d f.slot (line % 128) = a) (hmb : (getAlc d c).mb = []) (hon : (getAlc d c).disabled = false) (hway : (alcWay (getAlc d c) a).isSome = true)
    (hlatent : nget d.latent0 (latentKey c a) = none) : readLine d line base span [] false r = bump d .ALC_CNT c 0 := by
  have hsites : ngetD d.latent0 (latentKey c a) [] ++ readSites line base [] = [] := by simp [ngetD, hlatent, readSites]
  simp only [readLine, hc, hf, ha, mbRead_empty _ _ hmb, hmb, List.any_nil, Bool.false_eq_true, if_false, hon, Bool.or_self, hsites, alcBad_sound, alcCorrected_sound, hway, Bool.not_false,
    Bool.and_self, if_true]

end

/-- Settles O27: a fill writes the way that it takes and moves the pointer past it, and a read that hits is only counted. -/
theorem alcoveFill : Obligations.AlcoveFill := by
  refine ⟨?firstInvalid, ?allValid, ?hit⟩
  case firstInvalid => exact fun al a j p _ hj hvalid hinvalid => alcFill_of_fillWay p (fillWay_firstInvalid hj hvalid hinvalid)
  case allValid => exact fun al a p _ hvalid => alcFill_of_fillWay p (fillWay_allValid hvalid)
  case hit =>
    intro d line base span f r c a hf hmb hon hway hlatent
    rw [readLine_hit base span r rfl hf rfl hmb hon hway hlatent]
    rfl

end Sys2Proof.Machine
end

section
/-!
SUPPORT. Promotions, eviction, destage and the merging buffer at a cell, and T2 credit (spec/08_tiers.md R151, R152, R154, R155, R159, R164).
-/
namespace Sys2Proof.Machine
open Sys2Proof

/-! ### What the commands of rows 85 to 101 do (R151 to R172) -/

theorem does_promotionComplete (s : State) (chamber : Fin 65536) (page : BitVec 36) (sealOk : Bool) :
    Does (.promotionComplete chamber page sealOk) s (promotionComplete s.dev (pageKey chamber.val page.toNat) sealOk) :=
  does_run _ s (fun d => promotionComplete d (pageKey chamber.val page.toNat) sealOk) rfl

/-- The command is opened by hand, as `does_lineRepairTimeout` is. -/
theorem does_promotionTimeout (s : State) (chamber : Fin 65536) (page : BitVec 36) :
    Does (.promotionTimeout chamber page) s
      (promotionTimeout (reachO s.dev ((nget s.dev.tier.promos (pageKey chamber.val page.toNat)).map (·.deadline))) (pageKey chamber.val page.toNat)) := by
  have hruns : exec (.promotionTimeout chamber page) s = execPromotionTimeout chamber page s := rfl
  rw [Does, hruns, execPromotionTimeout, run]

theorem does_evictionSweep (s : State) (c : CellNo) : Does (.evictionSweep c) s (evictionSweep s.dev c.val) := does_run _ s (fun d => evictionSweep d c.val) rfl

theorem does_destageStart (s : State) (c : CellNo) : Does (.destageStart c) s (destageStart s.dev c.val) := does_run _ s (fun d => destageStart d c.val) rfl

theorem does_mergingBufferHoldExpiry (s : State) (c : CellNo) : Does (.mergingBufferHoldExpiry c) s (mergingBufferHoldExpiry (reachO s.dev (holdTime s.dev c.val)) c.val) :=
  does_run _ s (fun d => mergingBufferHoldExpiry (reachO d (holdTime d c.val)) c.val) rfl

theorem does_t2CreditGrant (s : State) : Does .t2CreditGrant s (t2CreditGrant s.dev) := does_run _ s t2CreditGrant rfl

theorem does_t2CreditReturn (s : State) (t : Fin 4096) (c : CellNo) : Does (.t2CreditReturn t c) s (t2CreditReturn s.dev t.val c.val) :=
  does_run _ s (fun d => t2CreditReturn d t.val c.val) rfl

theorem does_t2CreditWaitExpiry (s : State) (c : CellNo) : Does (.t2CreditWaitExpiry c) s (t2CreditWaitExpiry (reachO s.dev (creditTime s.dev c.val)) c.val) :=
  does_run _ s (fun d => t2CreditWaitExpiry (reachO d (creditTime d c.val)) c.val) rfl

theorem does_planCreate (s : State) (w : Writer) : Does (.planCreate w) s (planCreate s.dev w) := does_run _ s (fun d => planCreate d w) rfl

theorem does_planCursor (s : State) (w : Writer) : Does (.planCursor w) s (planCursor s.dev w) := does_run _ s (fun d => planCursor d w) rfl

theorem does_planLookahead (s : State) (w : Writer) : Does (.planLookahead w) s (planLookahead s.dev w) := does_run _ s (fun d => planLookahead d w) rfl

theorem does_planRelease (s : State) (w : Writer) : Does (.planRelease w) s (planRelease s.dev w) := does_run _ s (fun d => planRelease d w) rfl

theorem does_planQuery (s : State) (w : Writer) : Does (.planQuery w) s (planQuery s.dev w) := does_run _ s (fun d => planQuery d w) rfl

theorem does_entryQuery (s : State) (w : Writer) : Does (.entryQuery w) s (entryQuery s.dev w) := does_run _ s (fun d => entryQuery d w) rfl

theorem does_planCmdReserved (s : State) (w : Writer) (op : Fin 16) : Does (.planCmdReserved w op) s (planCmdReserved s.dev w op.val) :=
  does_run _ s (fun d => planCmdReserved d w op.val) rfl

theorem does_planListLoaded (s : State) : Does .planListLoaded s (planListLoaded s.dev) := does_run _ s planListLoaded rfl

theorem does_planEngineTurn (s : State) : Does .planEngineTurn s (planEngineTurn s.dev) := does_run _ s planEngineTurn rfl

theorem tierCommandsComplete : Claims.TierCommandsComplete :=
  ⟨does_promotionComplete, does_promotionTimeout, does_evictionSweep, does_destageStart, does_mergingBufferHoldExpiry, does_t2CreditGrant, does_t2CreditReturn, does_t2CreditWaitExpiry,
    does_planCreate, does_planCursor, does_planLookahead, does_planRelease, does_planQuery, does_entryQuery, does_planCmdReserved, does_planListLoaded, does_planEngineTurn⟩

/-! ### Promotions (R151, R152, R217) -/

theorem classOfPage_bump (d : Dev) (r : RegId) (c i k : Nat) : classOfPage (bump d r c i) k = classOfPage d k := rfl

section
variable {d : Dev} {k : Nat} {p : Promo} (hp : nget d.tier.promos k = some p)
include hp

section
variable {lost : List Nat} (hread : p.readDone = some lost) (hbuf : p.buf.isSome = true) (hrepair : nhas d.repairs (2 ^ 64 + k) = false)
  (hthrottle : agentThrottled d k ⟨0x1001, homeOf k, 6⟩ = false)
include hread hbuf hrepair hthrottle

/-- A page whose sectors were lost is installed with them poisoned; the seal of another page must match, where it is compared. -/
theorem promotionComplete_installs {ok : Bool} (hgood : lost ≠ [] ∨ ok = true ∨ p.compared = false) : promotionComplete d k ok = installPage d k lost false := by
  have hnone : p.buf.isNone = false := by simp [hbuf]
  simp only [promotionComplete, hp, hread, hrepair, hnone, hthrottle, Bool.or_self, Bool.false_eq_true, if_false]
  exact if_pos hgood

/-- The twin holds no copy of a page that is not Mirrored, so a seal that does not match loses the page. -/
theorem promotionComplete_sealLost (hlost : lost = []) (hcompared : p.compared = true) (hclass : classOfPage d k ≠ .mirrored) :
    promotionComplete d k false = sealLost (bump d .HBM_CNT (homeOf k) 13) k := by
  have hnone : p.buf.isNone = false := by simp [hbuf]
  simp only [promotionComplete, hp, hread, hrepair, hnone, hthrottle, hlost, hcompared, hclass, classOfPage_bump, Bool.or_self, Bool.false_eq_true, Bool.true_eq_false, ne_eq, not_true_eq_false,
    or_self, false_and, if_false]

end

theorem promotionTimeout_due (hdue : due d p.deadline = true) : promotionTimeout d k = promoFails { d with repairs := ndel d.repairs (2 ^ 64 + k) } k 3 := by
  simp only [promotionTimeout, hp, hdue, if_true]

end

/-- A promotion fails with cause 3 when local time reaches its deadline. -/
theorem does_promotionTimeout_reached {s : State} {n : Fin 65536} {page : BitVec 36} {p : Promo} (hp : nget s.dev.tier.promos (pageKey n.val page.toNat) = some p) :
    Does (.promotionTimeout n page) s
      (promoFails { reach s.dev p.deadline with repairs := ndel (reach s.dev p.deadline).repairs (2 ^ 64 + pageKey n.val page.toNat) } (pageKey n.val page.toNat) 3) := by
  refine does_congr (does_promotionTimeout s n page) ?_
  rw [hp, Option.map_some, reachO]
  exact promotionTimeout_due (by rw [reach_tier, hp]) (due_reach ..)

theorem promotions : Claims.Promotions := by
  refine ⟨?installed, ?lost, ?late⟩
  case installed =>
    exact fun s n page p lost ok hp hread hbuf hrepair hthrottle hgood => does_congr (does_promotionComplete s n page ok) (promotionComplete_installs hp hread hbuf hrepair hthrottle hgood)
  case lost =>
    exact fun s n page p hp hread hbuf hrepair hthrottle hcompared hclass =>
      does_congr (does_promotionComplete s n page false) (promotionComplete_sealLost hp hread hbuf hrepair hthrottle rfl hcompared hclass)
  case late => exact fun s n page p hp => does_promotionTimeout_reached hp

/-! ### Eviction, destage and the merging buffer (R154, R155, R164) -/

section
variable {d : Dev} {c : Nat}

theorem evictionSweep_short (hshort : freeFrames d c < freeLow d * liveFrames d c / 1000) :
    evictionSweep d c = wakeFrame (tryMove (evictUntil (cellFrames d c).length d c) c) c := if_pos hshort

theorem evictionSweep_room (hroom : freeLow d * liveFrames d c / 1000 ≤ freeFrames d c) : evictionSweep d c = d := if_neg (Nat.not_lt.mpr hroom)

section
variable {w : DestageWork} (hon : destageStopped d c = false) (hs : inService3 d = true) (hasked : (d.res.waits.any fun w => w.cell == c && w.use == .destage) = false)
  (hnext : nextDestage d c = some w) (hthrottle : workThrottled d c w = false)
include hon hs hasked hnext hthrottle

/-- A cell that may destage and has not asked for a buffer yet asks for one, for its next destage. -/
theorem destageStart_next : destageStart d c = withBuf d c 0x1000 16384 .destage fun d id => startDestage d c w id := by
  simp only [destageStart, hon, hs, hasked, hnext, hthrottle, Bool.not_true, Bool.or_self, Bool.false_eq_true, if_false]

theorem destageStart_buffered {x : Dev × Nat} (hbuf : takeBufs d c 16384 0x1000 (usesReserve d 0x1000) = some x) : destageStart d c = startDestage x.1 c w x.2 := by
  rw [destageStart_next hon hs hasked hnext hthrottle, withBuf, hbuf]

theorem destageStart_unbuffered (hbuf : takeBufs d c 16384 0x1000 (usesReserve d 0x1000) = none) : destageStart d c = addWait d c 0x1000 16384 .destage := by
  rw [destageStart_next hon hs hasked hnext hthrottle, withBuf, hbuf]

end

theorem startDestage_frame {k : Nat} {f : Frame} (buf : Nat) (hf : getFrame d k = some f) :
    startDestage d c (.frame k) buf =
      writePage (setFrame { d with tier.volQ := d.tier.volQ.filter (· != k) } k { f with destaging := some (d.nextReq, f.lines) }) c k buf false := by
  simp only [startDestage, hf]

/-- With no wait for a buffer at all, the cell has asked for none. -/
theorem notAsked_of_noWaits (h : d.res.waits = []) : (d.res.waits.any fun w => w.cell == c && w.use == .destage) = false := by rw [h, List.any_nil]

theorem getAlc_reach (d : Dev) (t c : Nat) : getAlc (reach d t) c = getAlc d c := by rw [getAlc, reach_tier, getAlc]

theorem mbHold_reach (d : Dev) (t c : Nat) : mbHold (reach d t) c = mbHold d c := by rw [mbHold, cfld_reach, mbHold]

theorem holdTime_single {e : MbEnt} (hmb : (getAlc d c).mb = [e]) : holdTime d c = some (e.opened + mbHold d c) := by
  rw [holdTime, hmb, List.map_singleton, soonest_single]

theorem mergingBufferHoldExpiry_due {e : MbEnt} (hmb : (getAlc d c).mb = [e]) (hdue : due d (e.opened + mbHold d c) = true) : mergingBufferHoldExpiry d c = drainRead d c e := by
  have hheld : [e].filter (fun e => decide (e.opened + mbHold d c ≤ d.now)) = [e] := List.filter_eq_self.mpr (by simpa [due] using hdue)
  rw [mergingBufferHoldExpiry, hmb, hheld]
  rfl

end

/-- An entry drains when local time reaches the end of its hold. -/
theorem does_mergingBufferHoldExpiry_reached {s : State} {c : CellNo} {e : MbEnt} (hmb : (getAlc s.dev c.val).mb = [e]) :
    Does (.mergingBufferHoldExpiry c) s (drainRead (reach s.dev (e.opened + mbHold s.dev c.val)) c.val e) := by
  refine does_congr (does_mergingBufferHoldExpiry s c) ?_
  rw [holdTime_single hmb, reachO]
  exact mergingBufferHoldExpiry_due (by rw [getAlc_reach, hmb]) (by rw [mbHold_reach, due_reach])

theorem cellTiers : Claims.CellTiers := by
  refine ⟨?short, ?room, ?starts, ?frame, ?waits, ?drains⟩
  case short => exact fun s c hshort => does_congr (does_evictionSweep s c) (evictionSweep_short hshort)
  case room => exact fun s c hroom => does_congr (does_evictionSweep s c) (evictionSweep_room hroom)
  case starts =>
    exact fun s c w x hon hs hasked hnext hthrottle hbuf => does_congr (does_destageStart s c) (destageStart_buffered hon hs hasked hnext hthrottle hbuf)
  case frame =>
    intro s c k f x d hon hs hwaits hnext hthrottle hbuf hf
    refine does_congr (does_destageStart s c) ?_
    rw [destageStart_buffered hon hs (notAsked_of_noWaits hwaits) hnext hthrottle hbuf, startDestage_frame x.2 hf]
  case waits =>
    exact fun s c w hon hs hwaits hnext hthrottle hbuf => does_congr (does_destageStart s c) (destageStart_unbuffered hon hs (notAsked_of_noWaits hwaits) hnext hthrottle hbuf)
  case drains => exact fun s c e hmb => does_mergingBufferHoldExpiry_reached hmb

/-! ### T2 credit (R159) -/

section
variable {d : Dev}

section
variable {a : CreditAsk} {rest : List CreditAsk} (hasks : d.tier.asks = a :: rest)
include hasks

/-- The oldest request, with no limit on the quota: a whole unit. -/
theorem t2CreditGrant_unlimited (hleft : t2Left { d with tier.asks := rest } a.tenant = none) :
    let e : Dev := { d with tier.asks := rest }
    let key := creditKey a.tenant a.cell
    t2CreditGrant d = pump (requeue { e with tier.credit := nset e.tier.credit key (ngetD e.tier.credit key 0 + 256) } (waitsCredit e a.tenant a.cell)) := by
  have hunit : 256 ≠ 0 := by decide
  simp only [t2CreditGrant, hasks, hleft, reduceCtorEq, hunit, if_false]

/-- With some of the quota left, a unit or what is left. -/
theorem t2CreditGrant_within {n : Nat} (hleft : t2Left { d with tier.asks := rest } a.tenant = some n) (hn : n ≠ 0) :
    let e : Dev := { d with tier.asks := rest }
    let key := creditKey a.tenant a.cell
    t2CreditGrant d = pump (requeue { e with tier.credit := nset e.tier.credit key (ngetD e.tier.credit key 0 + min n 256) } (waitsCredit e a.tenant a.cell)) := by
  have hunit : min n 256 ≠ 0 := by omega
  simp only [t2CreditGrant, hasks, hleft, Option.some.injEq, hn, hunit, if_false]

/-- With nothing left even after the recall, a refusal. -/
theorem t2CreditGrant_spent (hleft : t2Left { d with tier.asks := rest } a.tenant = some 0) (hrecalled : t2Left (recallCredit { d with tier.asks := rest } a.tenant) a.tenant = some 0) :
    let e := recallCredit { d with tier.asks := rest } a.tenant
    t2CreditGrant d = quotaFails e a.cell (waitsCredit e a.tenant a.cell) := by
  simp only [t2CreditGrant, hasks, hleft, hrecalled, if_true, Nat.zero_min]

end

theorem t2CreditReturn_spare {t c : Nat} (hspare : 512 < ngetD d.tier.credit (creditKey t c) 0) :
    t2CreditReturn d t c = { d with tier.credit := nset d.tier.credit (creditKey t c) (ngetD d.tier.credit (creditKey t c) 0 - 256) } := if_pos hspare

theorem t2CreditReturn_kept {t c : Nat} (hkept : ngetD d.tier.credit (creditKey t c) 0 ≤ 512) : t2CreditReturn d t c = d := if_neg (Nat.not_lt.mpr hkept)

section
variable {c t : Nat} {r : Req} {p : Part} (hreqs : d.reqs = [r]) (hparts : r.parts = [p])
include hreqs hparts

/-- With one request of one part, the refusal of that part is the refusal of one write. -/
theorem quotaFails_single {f : Req → Part → Bool} (hf : f r p = true) :
    quotaFails d c f = pump (bumpBy { d with reqs := [{ r with parts := [{ p with st := .failed stQuota }] }] } .CELL_TIER_CNT c 10 1) := by
  simp [quotaFails, hreqs, hparts, hf]

theorem creditTime_single (hc : p.cell = c) (hst : p.st = .waitCredit t) : creditTime d c = some t := soonest_partTimes hreqs hparts (by simp [hc, hst])

theorem t2CreditWaitExpiry_due (hc : p.cell = c) (hst : p.st = .waitCredit t) (hdue : due d t = true) :
    t2CreditWaitExpiry d c = pump (bumpBy { d with reqs := [{ r with parts := [{ p with st := .failed stQuota }] }] } .CELL_TIER_CNT c 10 1) :=
  quotaFails_single hreqs hparts (by simp [hc, hst, hdue])

end

end

/-- A write completes QUOTA when local time reaches the end of its wait. -/
theorem does_t2CreditWaitExpiry_reached {s : State} {c : CellNo} {r : Req} {p : Part} {t : Nat} (hreqs : s.dev.reqs = [r]) (hparts : r.parts = [p]) (hc : p.cell = c.val)
    (hst : p.st = .waitCredit t) :
    Does (.t2CreditWaitExpiry c) s (pump (bumpBy { reach s.dev t with reqs := [{ r with parts := [{ p with st := .failed stQuota }] }] } .CELL_TIER_CNT c.val 10 1)) := by
  refine does_congr (does_t2CreditWaitExpiry s c) ?_
  rw [creditTime_single hreqs hparts hc hst, reachO]
  exact t2CreditWaitExpiry_due (by rw [reach_reqs, hreqs]) hparts hc hst (due_reach ..)

theorem t2Credit : Claims.T2Credit := by
  refine ⟨?unlimited, ?within, ?spent, ?returned, ?kept, ?expired⟩
  case unlimited => exact fun s a rest hasks hleft => does_congr (does_t2CreditGrant s) (t2CreditGrant_unlimited hasks hleft)
  case within => exact fun s a rest n hasks hleft hn => does_congr (does_t2CreditGrant s) (t2CreditGrant_within hasks hleft hn)
  case spent => exact fun s a rest hasks hleft hrecalled => does_congr (does_t2CreditGrant s) (t2CreditGrant_spent hasks hleft hrecalled)
  case returned => exact fun s t c hspare => does_congr (does_t2CreditReturn s t c) (t2CreditReturn_spare hspare)
  case kept => exact fun s t c hkept => does_congr (does_t2CreditReturn s t c) (t2CreditReturn_kept hkept)
  case expired => exact fun s c r p t hreqs hparts hc hst => does_t2CreditWaitExpiry_reached hreqs hparts hc hst

/-- Settles O37: a promotion by what its read and its seal gave, a cell by what it has free, and credit by what the quota has left. Timers run once local time has reached their end
(notes/assumptions 3). -/
theorem tiersAndCredit : Obligations.TiersAndCredit := ⟨promotions, cellTiers, t2Credit, tierCommandsComplete⟩

end Sys2Proof.Machine
end

section
/-!
SUPPORT. Plans: the plan commands, the load of a plan's list, and the turn of the plan engine (spec/08_tiers.md R166 to R172).
-/
namespace Sys2Proof.Machine
open Sys2Proof

/-! ### Plan commands (R166 to R172, Table TIR-10) -/

section
variable {d : Dev} {w : Writer} (ha : Accepts d w .TIER_PLAN_CMD 0)
include ha

/-- While a command runs, another is only noted as an overrun. -/
theorem planCommand_overrun {n : Nat} (op : Nat) (go : Dev → Dev) (hr : d.tier.planRun = some n) :
    planCommand d w op go = { asked d w .TIER_PLAN_CMD 0 0 with tier.planOverrun := true } := by
  have hbusy : (asked d w .TIER_PLAN_CMD 0 0).tier.planRun.isSome = true := by rw [asked_tier, hr]; rfl
  rw [planCommand, command_accepted _ _ _ _ _ _ ha, hbusy, if_pos rfl]

section
variable (hr : d.tier.planRun = none)
include hr

/-- A command that is accepted while none runs takes its effect on the device that has noted its opcode. -/
theorem planCommand_accepted (op : Nat) (go : Dev → Dev) : planCommand d w op go = go (planAsked d w op) := by
  have hidle : (asked d w .TIER_PLAN_CMD 0 0).tier.planRun.isSome = false := by rw [asked_tier, hr]; rfl
  rw [planCommand, command_accepted _ _ _ _ _ _ ha, hidle, if_neg Bool.false_ne_true]
  rfl

theorem planCreate_accepted {e : Dev} {n count : Nat} (he : planAsked d w 1 = e) (hcount : parg e 1 % 2 ^ 17 = count) (hpos : 0 < count) (hmax : count ≤ 65536) (hlook : 16 ≤ parg e 5)
    (hn : nfreeFrom (e.tier.plans.filter fun p => p.2.state != .free) 0 1024 = some n) :
    planCreate d w =
      { setPlan e n { state := .loading, tenant := fld (reg e .TIER_PLAN_ARG 0 0) 27 16, count := count, key := parg e 2, va := parg e 3 + 2 ^ 32 * parg e 4, look := parg e 5 } with
        tier.planRun := some n } := by
  have hgood : ¬ (count = 0 ∨ 65536 < count ∨ parg e 5 < 16) := by omega
  rw [planCreate, planCommand_accepted ha hr, he]
  simp only [hcount, hn]
  rw [if_neg hgood]

section
variable {n : Nat} {p : Plan}

theorem planCursor_accepted {e : Dev} {i : Nat} (he : planAsked d w 2 = e) (hi : parg e 1 % 65536 = i) (hnamed : namedPlan e = some (n, p)) (hlt : i < p.count) :
    planCursor d w = planDone (setCursor (setPlan e n { p with state := .running }) n (firstSlot p.entries i)) .ok 0 [] := by
  rw [planCursor, planCommand_accepted ha hr, he]
  simp only [hnamed, hi]
  exact if_neg (Nat.not_le.mpr hlt)

/-- A plan without pins has none to drop. -/
theorem planLookahead_accepted {e : Dev} (he : planAsked d w 3 = e) (hnamed : namedPlan e = some (n, p)) (hlook : 16 ≤ parg e 5) (hpins : p.pinned = []) :
    planLookahead d w = planDone (setPlan e n { p with look := parg e 5 }) .ok 0 [] := by
  rw [planLookahead, planCommand_accepted ha hr, he]
  simp only [hnamed, hpins, List.reverse_nil, List.filter_nil, forEach, List.foldl_nil]
  exact if_neg (Nat.not_lt.mpr hlook)

theorem planRelease_accepted {e e1 : Dev} (he : planAsked d w 4 = e) (hnamed : namedPlan e = some (n, p)) (h1 : (forEach p.pinned e fun e s => unpin e n s) = e1) :
    planRelease d w = planDone { e1 with tier.plans := ndel e1.tier.plans n } .ok 0 [] := by
  rw [planRelease, planCommand_accepted ha hr, he]
  simp only [hnamed, h1]

theorem entryQuery_accepted {e : Dev} {i : Nat} {x : PlanEnt} (he : planAsked d w 6 = e) (hi : parg e 1 % 65536 = i) (hnamed : namedPlan e = some (n, p)) (hx : p.entries[i]? = some x) :
    entryQuery d w = planDone e .ok 0 [(0, at_ (entryState p i x) 30 + at_ (x.failed.getD 0) 16), (1, if x.failed.isSome then x.failedPage else 0)] := by
  rw [entryQuery, planCommand_accepted ha hr, he]
  simp only [hnamed, hi, hx]

end

/-- A plan that does not stand is shown as FREE, with nothing in it. -/
theorem planQuery_free {e : Dev} (he : planAsked d w 5 = e) (hfree : nget e.tier.plans (fld (reg e .TIER_PLAN_ARG 0 0) 9 0) = none) :
    planQuery d w = planDone e .ok 0 [(0, 0), (1, 0), (2, 0), (3, 0)] := by
  have hplan : getPlan e (fld (reg e .TIER_PLAN_ARG 0 0) 9 0) = {} := by rw [getPlan, ngetD, hfree, Option.getD_none]
  rw [planQuery, planCommand_accepted ha hr, he]
  simp only [hplan]
  rfl

end

end

theorem planCommands : Claims.PlanCommands := by
  refine ⟨?create, ?cursor, ?lookahead, ?release, ?query, ?entry, ?reserved, ?overrun⟩
  case create => exact fun s w n ha hr hpos hmax hlook hn => does_congr (does_planCreate s w) (planCreate_accepted ha hr rfl rfl hpos hmax hlook hn)
  case cursor => exact fun s w n p ha hr hnamed hlt => does_congr (does_planCursor s w) (planCursor_accepted ha hr rfl rfl hnamed hlt)
  case lookahead => exact fun s w n p ha hr hnamed hlook hpins => does_congr (does_planLookahead s w) (planLookahead_accepted ha hr rfl hnamed hlook hpins)
  case release => exact fun s w n p ha hr hnamed => ⟨_, does_congr (does_planRelease s w) (planRelease_accepted ha hr rfl hnamed rfl), rfl⟩
  case query => exact fun s w ha hr hfree => does_congr (does_planQuery s w) (planQuery_free ha hr rfl hfree)
  case entry => exact fun s w n p x ha hr hnamed hx => does_congr (does_entryQuery s w) (entryQuery_accepted ha hr rfl rfl hnamed hx)
  case reserved => exact fun s w op _ ha hr => does_congr (does_planCmdReserved s w op) (planCommand_accepted ha hr op.val _)
  case overrun => exact fun s w n ha hr => does_congr (does_planCreate s w) (planCommand_overrun ha 1 _ hr)

/-! ### The load of a plan's list (R166, R167) -/

/-- The entries that the bytes of a list give, 16 bytes each (R167). -/
def listEntries (d : Dev) (bytes : List Byte) (count : Nat) : List PlanEnt := (List.range count).map fun i => planEntry d ((bytes.drop (16 * i)).take 16)

theorem length_listEntries (d : Dev) (bytes : List Byte) (count : Nat) : (listEntries d bytes count).length = count := by rw [listEntries, List.length_map, List.length_range]

section
variable {d d1 : Dev} {n : Nat} (hrun : d.tier.planRun = some n)
include hrun

theorem planListLoaded_refused {st : Nat} (hcheck : listCheck d (getPlan d n) = some st) (hst : st ≠ stOk) : planListLoaded d = listFails d n st := by
  cases st with
  | zero => exact absurd rfl hst
  | succ st => simp only [planListLoaded, hrun, hcheck]

section
variable (hcheck : listCheck d (getPlan d n) = some stOk)
include hcheck

theorem planListLoaded_onItsWay (hbring : bringList (listPages d (getPlan d n)) d = (d1, some false)) : planListLoaded d = d1 := by
  simp only [planListLoaded, hrun, hcheck, stOk, hbring]

theorem planListLoaded_lost (hbring : bringList (listPages d (getPlan d n)) d = (d1, none)) : planListLoaded d = listFails d1 n stTierFail := by
  simp only [planListLoaded, hrun, hcheck, stOk, hbring]

/-- A list that is all in T1, and whose lines are sound once they have been read, sets the plan running with its entries. -/
theorem planListLoaded_runs {p : Plan} {k : KeyEnt} {off addr : Nat} {d2 : Dev} (hp : getPlan d n = p) (hbring : bringList (listPages d p) d = (d1, some true))
    (hk : ngetD d1.chm.keys (p.key / 256) {} = k) (hoff : k.base * 4096 + p.va = off) (haddr : chmAddr k.chamber off = addr)
    (hread : readSpan d1 addr (p.count * 16) (lineOfAddr addr) [] false (listReader (homeCell k.chamber (off / 16384))) = d2) (hsound : (linesOf addr (p.count * 16)).any (poisoned d2) = false) :
    planListLoaded d = planDone (setPlan d2 n { p with state := .running, entries := listEntries d2 (memRead d2.mem addr (p.count * 16)) p.count }) .ok 0 [(0, n)] := by
  subst hp
  simp only [planListLoaded, hrun, hcheck, stOk, hbring, hk, hoff, haddr, hread, hsound, Bool.false_eq_true, if_false]
  rfl

end

end

/-! ### The turn of the plan engine (R169) -/

/-- The only plan, if it runs, has every turn. -/
theorem planEngineTurn_single {d : Dev} {n slot i page : Nat} {p : Plan} {x : PlanEnt} (hplans : d.tier.plans = [(n, p)]) (hstate : p.state = .running)
    (hslot : nextSlot { d with tier.planTurn := n + 1 } p = some slot) (hx : slotAt p.entries 0 slot = some (i, x, page)) :
    planEngineTurn d = pinSlot { d with tier.planTurn := n + 1 } n slot x (pageKey x.chamber page) := by
  obtain ⟨l, hround⟩ : ∃ l, [n].filter (fun m => decide (d.tier.planTurn ≤ m)) ++ [n] = n :: l := by
    by_cases hturn : d.tier.planTurn ≤ n
    · exact ⟨[n], by simp [hturn]⟩
    · exact ⟨[], by simp [hturn]⟩
  have hrun : (d.tier.plans.filter fun p => p.2.state == .running).map (·.1) = [n] := by simp [hplans, hstate]
  have hplan : getPlan { d with tier.planTurn := n + 1 } n = p := by simp [getPlan, ngetD, hplans, nget]
  simp only [planEngineTurn, hrun, hround, hplan, hslot, hx]

theorem planEngine : Claims.PlanEngine := by
  refine ⟨?runs, ?onItsWay, ?lost, ?refused, ?turn⟩
  case runs =>
    exact fun s n d1 hrun hcheck hbring hsound => ⟨_, length_listEntries .., does_congr (does_planListLoaded s) (planListLoaded_runs hrun hcheck rfl hbring rfl rfl rfl rfl hsound)⟩
  case onItsWay => exact fun s n d1 hrun hcheck hbring => does_congr (does_planListLoaded s) (planListLoaded_onItsWay hrun hcheck hbring)
  case lost => exact fun s n d1 hrun hcheck hbring => does_congr (does_planListLoaded s) (planListLoaded_lost hrun hcheck hbring)
  case refused => exact fun s n st hrun hcheck hst => does_congr (does_planListLoaded s) (planListLoaded_refused hrun hcheck hst)
  case turn => exact fun s n slot i page p x hplans hstate hslot hx => does_congr (does_planEngineTurn s) (planEngineTurn_single hplans hstate hslot hx)

/-- Settles O38: each command acts on the device that has accepted it, a list is loaded once it is read and checked, and the engine pins the next slot of the plan whose turn it is. -/
theorem plans : Obligations.Plans := ⟨planCommands, planEngine⟩

end Sys2Proof.Machine
end

section
/-!
SUPPORT. Grants of a die, and what the commands of the media channels do (spec/09_media.md R186, R191; spec/16_power.md R356).
-/
namespace Sys2Proof.Machine
open Sys2Proof

/-! ### What the commands of rows 102 to 113 do (R182 to R201) -/

theorem does_mediaGrant (s : State) (c : CellNo) (die : Fin 16) : Does (.mediaGrant c die) s (mediaGrant s.dev c.val die.val) := does_run _ s (fun d => mediaGrant d c.val die.val) rfl

theorem does_mediaReadDone (s : State) (c : CellNo) (die : Fin 16) (ws : List CodeWord) (bad : Bool) :
    Does (.mediaReadDone c die ws bad) s (mediaReadDone s.dev c.val die.val ws bad) := does_run _ s (fun d => mediaReadDone d c.val die.val ws bad) rfl

theorem does_programPassDone (s : State) (c : CellNo) (die : Fin 16) (ok : Bool) (plane : Fin 4) :
    Does (.programPassDone c die ok plane) s (programPassDone s.dev c.val die.val ok plane.val) := does_run _ s (fun d => programPassDone d c.val die.val ok plane.val) rfl

theorem does_eraseDone (s : State) (c : CellNo) (sb : Fin 2048) (failed : List Nat) : Does (.eraseDone c sb failed) s (eraseDone s.dev c.val sb.val failed) :=
  does_run _ s (fun d => eraseDone d c.val sb.val failed) rfl

theorem does_mediaOperationTimeout (s : State) (c : CellNo) (die : Fin 16) : Does (.mediaOperationTimeout c die) s (mediaOperationTimeout s.dev c.val die.val) :=
  does_run _ s (fun d => mediaOperationTimeout d c.val die.val) rfl

theorem does_rebuildEnd (s : State) (c : CellNo) : Does (.rebuildEnd c) s (rebuildEnd s.dev c.val) := does_run _ s (fun d => rebuildEnd d c.val) rfl

theorem does_mapWritebackTimer (s : State) (c : CellNo) : Does (.mapWritebackTimer c) s (mapWritebackTimer (reachO s.dev (writebackTime s.dev c.val)) c.val) :=
  does_run _ s (fun d => mapWritebackTimer (reachO d (writebackTime d c.val)) c.val) rfl

theorem does_rootCheckpointTimer (s : State) (c : CellNo) : Does (.rootCheckpointTimer c) s (rootCheckpointTimer (reachO s.dev (checkpointTime s.dev c.val)) c.val) :=
  does_run _ s (fun d => rootCheckpointTimer (reachO d (checkpointTime d c.val)) c.val) rfl

theorem does_mediaScrubPassStart (s : State) (c : CellNo) : Does (.mediaScrubPassStart c) s (mediaScrubPassStart (reachO s.dev (scrubTime s.dev c.val)) c.val) :=
  does_run _ s (fun d => mediaScrubPassStart (reachO d (scrubTime d c.val)) c.val) rfl

theorem does_dieTemperatureRead (s : State) (c : CellNo) (t : BitVec 8) : Does (.dieTemperatureRead c t) s (dieTemperatureRead s.dev c.val t.toNat) :=
  does_run _ s (fun d => dieTemperatureRead d c.val t.toNat) rfl

theorem does_scrubNow (s : State) (w : Writer) (c : CellNo) : Does (.scrubNow w c) s (scrubNow s.dev w c.val) := does_run _ s (fun d => scrubNow d w c.val) rfl

theorem does_retireDie (s : State) (w : Writer) (c : CellNo) (die : Fin 16) : Does (.retireDie w c die) s (retireDie s.dev w c.val die.val) :=
  does_run _ s (fun d => retireDie d w c.val die.val) rfl

theorem mediaCommandsComplete : Claims.MediaCommandsComplete :=
  ⟨does_mediaGrant, does_mediaReadDone, does_programPassDone, does_eraseDone, does_mediaOperationTimeout, does_rebuildEnd, does_mapWritebackTimer, does_rootCheckpointTimer,
    does_mediaScrubPassStart, does_dieTemperatureRead, does_scrubNow, does_retireDie⟩

/-! ### Grants (R186, R191, R356) -/

section
variable {d : Dev} {c die : Nat}

theorem mediaGrant_barred (hbar : ¬ MayGrant d c die) : mediaGrant d c die = d := by
  have hnot : (!mediaOn d c || !dieIn (getMed d c).diesIn die || (d.pwr.move.any fun x => x.entry && x.target == .dormant)) = true := by
    refine (Bool.not_eq_false _).mp fun hpass => hbar ?_
    obtain ⟨hserved, hmove⟩ := Bool.or_eq_false_iff.mp hpass
    obtain ⟨hon, hin⟩ := Bool.or_eq_false_iff.mp hserved
    exact ⟨(Bool.not_eq_false' _).mp hon, (Bool.not_eq_false' _).mp hin, hmove⟩
  exact if_pos hnot

section
variable (hmay : MayGrant d c die)
include hmay

section
variable (hserves : d.pwr.state = .service ∨ d.pwr.state = .quiet)
include hserves

/-- An idle die takes the highest-ranked work, if there is any. -/
theorem mediaGrant_idle (hidle : nget (getMed d c).running die = none) : mediaGrant d c die = ((nextWork d c die).map (grantOp d c die)).getD d := by
  obtain ⟨hon, hin, hmove⟩ := hmay
  rcases hserves with hstate | hstate <;>
  · simp only [mediaGrant, hon, hin, hmove, hstate, hidle, Bool.not_true, Bool.or_self, Bool.false_eq_true, if_false]
    cases nextWork d c die <;> rfl

theorem mediaGrant_busy {r : DieRun} (hrun : nget (getMed d c).running die = some r) : mediaGrant d c die = suspendFor d c die r := by
  obtain ⟨hon, hin, hmove⟩ := hmay
  rcases hserves with hstate | hstate <;>
    simp only [mediaGrant, hon, hin, hmove, hstate, hrun, Bool.not_true, Bool.or_self, Bool.false_eq_true, if_false]

end

/-- During a start only sump sets are erased. -/
theorem mediaGrant_starting {t : Nat} {op : MedOp} (hstate : d.pwr.state = .starting) (hidle : nget (getMed d c).running die = none) (hwork : sumpWork4 d c die = some (t, op)) :
    mediaGrant d c die = grantOp d c die op := by
  obtain ⟨hon, hin, hmove⟩ := hmay
  simp only [mediaGrant, hon, hin, hmove, hstate, hidle, hwork, Bool.not_true, Bool.or_self, Bool.false_eq_true, if_false]

end

/-- Below the dirty level that makes a destage urgent, a read of rank 1 comes first; the suspension is counted. -/
theorem suspendFor_suspends {r : DieRun} {op : MedOp} (hlow : dirtyLevel d c < hiPct d) (hread : isRead r.op = false) (hfirst : r.suspended = false) (hurgent : urgentRead d c = some op)
    (halone : nhas (getMed d c).running (16 + die) = false) (hmay : fbit (reg d .MED_CFG c 0) 0 = true) (hlimit : r.suspends < suspLimit d c r.op) :
    suspendFor d c die r =
      grantOp (bump (setMed d c { getMed d c with running := nset (getMed d c).running die { r with suspended := true, suspends := r.suspends + 1 } }) .MED_CNT c 4) c (16 + die) op := by
  have hlow' : decide (hiPct d ≤ dirtyLevel d c) = false := decide_eq_false (Nat.not_le.mpr hlow)
  simp only [suspendFor, hurgent, hread, halone, hlow', hfirst, hmay, hlimit, decide_true, Bool.false_and, Bool.and_self, Bool.or_self, Bool.false_eq_true, if_false, if_true]

end

theorem mediaGrants : Claims.MediaGrants := by
  refine ⟨?work, ?noWork, ?starting, ?barred, ?suspends⟩
  case work => exact fun s c die op hmay hserves hidle hwork => does_congr (does_mediaGrant s c die) (by rw [mediaGrant_idle hmay hserves hidle, hwork, Option.map_some, Option.getD_some])
  case noWork => exact fun s c die hmay hserves hidle hwork => does_congr (does_mediaGrant s c die) (by rw [mediaGrant_idle hmay hserves hidle, hwork, Option.map_none, Option.getD_none])
  case starting => exact fun s c die t op hmay hstate hidle hwork => does_congr (does_mediaGrant s c die) (mediaGrant_starting hmay hstate hidle hwork)
  case barred => exact fun s c die hbar => does_congr (does_mediaGrant s c die) (mediaGrant_barred hbar)
  case suspends =>
    intro s c die r op m hmay hserves hlow hrun hread hfirst hurgent halone hallowed hlimit
    refine does_congr (does_mediaGrant s c die) ?_
    rw [mediaGrant_busy hmay hserves hrun, suspendFor_suspends hlow hread hfirst hurgent halone hallowed hlimit]

end Sys2Proof.Machine
end

section
/-!
SUPPORT. Ends of a die's operations: reads, program passes, erases and time-outs (spec/09_media.md R182, R184, R186, R188, R193, R198 to R200).
-/
namespace Sys2Proof.Machine
open Sys2Proof

/-! ### What a codeword at level 0 without corrected bits leaves as it was (R184, R197) -/

theorem getMed_congr {d e : Dev} (h : d.med = e.med) (c : Nat) : getMed d c = getMed e c := by rw [getMed, h, getMed]

theorem getMed_bumpBy (d : Dev) (r : RegId) (x i n c : Nat) : getMed (bumpBy d r x i n) c = getMed d c := rfl

theorem getMed_bump (d : Dev) (r : RegId) (x i c : Nat) : getMed (bump d r x i) c = getMed d c := rfl

theorem running_noteRead (d : Dev) (c die block : Nat) : (getMed (noteRead d c die block) c).running = (getMed d c).running := by
  simp only [noteRead, getMed_setMed_same]
  split <;> rfl

theorem levelOf_zero {w : CodeWord} (m : Media) (sb : Option Nat) (hw : w.level = 0) : levelOf m sb w = w := if_neg fun h => by simp [hw] at h

/-- A sound codeword is only counted: REFRESH_BITS is at least 16. -/
theorem readWord_sound {w : CodeWord} (d : Dev) (c die acc : Nat) (sb : Option Nat) (hlevel : w.level = 0) (hbits : w.bits = 0) :
    readWord d c die acc sb w = noteRead (bump d .MED_RETRY_CNT c 0) c die (w.addr / 8192 % 8192) := by
  simp [readWord, hlevel, hbits]

theorem running_readSound {ws : List CodeWord} (d : Dev) (c die acc : Nat) (sb : Option Nat) (hsound : ∀ w ∈ ws, w.level = 0 ∧ w.bits = 0) :
    (getMed (forEach ws d fun d w => readWord d c die acc sb w) c).running = (getMed d c).running := by
  induction ws generalizing d with
  | nil => rfl
  | cons w ws ih =>
    obtain ⟨hlevel, hbits⟩ := hsound w List.mem_cons_self
    refine (ih (readWord d c die acc sb w) fun x hx => hsound x (List.mem_cons_of_mem w hx)).trans ?_
    rw [readWord_sound d c die acc sb hlevel hbits, running_noteRead, getMed_bump]

/-! ### Reads (R182, R184, R198) -/

theorem runSlot_alone {m : Media} {die : Nat} (halone : nhas m.running (16 + die) = false) : runSlot m die = die := by rw [runSlot, halone, if_neg Bool.false_ne_true]

/-- The access that a corrected codeword of a read is reported with, and the pages that a read counts. -/
def readAccess : MedOp → Nat
  | .scrub _ => 8
  | _ => 5
def readPages : MedOp → Nat
  | .scrub _ | .check _ _ | .readBack _ => 4
  | _ => 1

/-- The device once a read's die is free: the pages are counted, and what the die failed to answer before is forgotten. -/
def readEnded (d : Dev) (c die : Nat) (op : MedOp) : Dev :=
  let m := getMed d c
  bumpBy (setMed d c { m with running := ndel m.running die, timeouts := ndel m.timeouts die }) .MED_CNT c 0 (readPages op)

section
variable {d : Dev} {c die : Nat} {r : DieRun} (hrun : nget (getMed d c).running die = some r) (halone : nhas (getMed d c).running (16 + die) = false)
include hrun halone

/-- A read that runs alone on its die brings its codewords, at the levels that the dies of its superblock allow. -/
theorem mediaReadDone_alone (ws : List CodeWord) (bad : Bool) (hread : isRead r.op = true) :
    let sb := opSb d c r.op
    let words := ws.map (levelOf (getMed d c) sb)
    mediaReadDone d c die ws bad = finishRead (forEach words (readEnded d c die r.op) fun d w => readWord d c die (readAccess r.op) sb w) c die r.op words bad := by
  have hown : ¬ die = 16 + die := by omega
  simp only [mediaReadDone, runSlot_alone halone, hrun, hread, hown, Bool.not_true, Bool.false_eq_true, false_and, if_false]
  rfl

/-- Sound codewords are served at level 0. -/
theorem mediaReadDone_sound {ws : List CodeWord} (bad : Bool) (hread : isRead r.op = true) (hsound : ∀ w ∈ ws, w.level = 0 ∧ w.bits = 0) :
    ∃ e, mediaReadDone d c die ws bad = finishRead e c die r.op ws bad ∧ (getMed e c).running = ndel (getMed d c).running die := by
  have hwords : ws.map (levelOf (getMed d c) (opSb d c r.op)) = ws := by
    refine (List.map_congr_left fun w hw => ?_).trans ws.map_id
    exact levelOf_zero _ _ (hsound w hw).1
  refine ⟨_, (mediaReadDone_alone hrun halone ws bad hread).trans (by rw [hwords]), ?_⟩
  rw [running_readSound _ _ _ _ _ hsound, readEnded, getMed_bumpBy, getMed_setMed_same]

end

/-- With the last page of its block, a check ends. -/
theorem finishRead_lastCheck (d : Dev) (c die b : Nat) (ws : List CodeWord) (bad : Bool) :
    finishRead d c die (.check b 8191) ws bad = bump (setMed d c { getMed d c with checks := ndel (getMed d c).checks b }) .MED_CNT c 11 := by simp only [finishRead, if_true]

/-! ### Program passes (R188, R189) -/

section
variable {d : Dev} {c die stream : Nat} {r : DieRun} (hrun : nget (getMed d c).running die = some r) (hop : r.op = .program stream) (hgoes : r.suspended = false)
include hrun hop hgoes

theorem programPassDone_ok (plane : Nat) :
    let m := getMed d c
    let v := getStream m stream
    let n := nextPass v die
    let e := setMed d c (setStream (freeDies m [die]) stream { v with passes := nset v.passes die (n + 1) })
    programPassDone d c die true plane = releaseStream (if firstPass n then e else bumpBy e .MED_CNT c 1 16) c stream := by
  obtain ⟨op, suspended, suspends⟩ := r
  subst hop hgoes
  simp only [programPassDone, hrun, if_true]

theorem programPassDone_failed (plane : Nat) :
    let m := getMed d c
    let row := passRow (nextPass (getStream m stream) die)
    programPassDone d c die false plane = releaseStream (rowFails (setMed d c (freeDies m [die])) c die stream row plane (4 * row)) c stream := by
  obtain ⟨op, suspended, suspends⟩ := r
  subst hop hgoes
  simp only [programPassDone, hrun, Bool.false_eq_true, if_false]

end

@[simp] theorem journalAdd_med (d : Dev) (r : LogRec) : (journalAdd d r).med = d.med := by
  unfold journalAdd
  (repeat' split) <;> simp

@[simp] theorem logRecord_med (d : Dev) (sev cls cause unit requester reqCell access : Nat) (merged : Bool) (addr : Nat) (detail : List Nat) :
    (logRecord d sev cls cause unit requester reqCell access merged addr detail).med = d.med := by
  simp only [logRecord]
  split <;> simp

theorem getMed_logEvent (d : Dev) (sev unit : Nat) (detail : List Nat) (c : Nat) : getMed (logEvent d sev unit detail) c = getMed d c :=
  getMed_congr (logRecord_med ..) c

theorem bad_mediaErr (d : Dev) (c kind die plane page block : Nat) : (getMed (mediaErr d c kind die plane page block) c).bad = (getMed d c).bad := by
  rw [mediaErr, getMed_setMed_same]

/-- The rows that fail are abandoned on a device that has recorded the block. -/
theorem rowFails_records (d : Dev) (c die s row plane page : Nat) :
    ∃ e, rowFails d c die s row plane page = abandonRows e c s row ∧ physOf (getMed d c) (blockKey die plane ((getStream (getMed d c) s).sb.getD 0)) ∈ (getMed e c).bad := by
  refine ⟨_, rfl, ?_⟩
  rw [getMed_logEvent, bad_mediaErr, getMed_bump, getMed_setMed_same]
  exact mem_sinsert.mpr (.inl rfl)

/-! ### Erases (R187, R193, R199) -/

/-- The dies that were erasing their blocks of a superblock. -/
def sbErasers (d : Dev) (c sb : Nat) : List Nat := erasingDies (getMed d c) (.erase sb)

/-- Their blocks of it. -/
def sbErasedSlots (d : Dev) (c sb : Nat) : List Nat := (sbSlots (getMed d c) sb).filter fun k => (sbErasers d c sb).contains (k / 8192)

/-- The superblock, and the channel, once those dies are done. -/
def sbErasedBy (d : Dev) (c sb : Nat) : Superblock := { getSb (getMed d c) sb with erased := (sbErasers d c sb).foldl sinsert (getSb (getMed d c) sb).erased }
def sbErasedMed (d : Dev) (c sb : Nat) : Media := setSb (freeDies (eraseBlocks (getMed d c) (sbErasedSlots d c sb)) (sbErasers d c sb)) sb (sbErasedBy d c sb)

/-- The device once those dies are done: the erases are counted. -/
def sbErased (d : Dev) (c sb : Nat) : Dev := bumpBy (setMed d c (sbErasedMed d c sb)) .MED_CNT c 3 (sbErasedSlots d c sb).length

/-- A block that failed its erase is named in MED_ERR_LAST; it is retired, as one recorded before is. -/
def retireErased (c : Nat) (failed : List Nat) (d : Dev) (k : Nat) : Dev :=
  retireBlock (if failed.contains (k / 2048) then mediaErr (bump d .MED_CNT c 6) c 3 (k / 8192) (k / 2048 % 4) 0 (physOf (getMed d c) k % 2048) else d) c k

/-- The blocks that are retired then. -/
def retiredByErase (d : Dev) (c sb : Nat) (failed : List Nat) : List Nat :=
  (sbErasedSlots d c sb).filter fun k => failed.contains (k / 2048) || (sbErasedMed d c sb).bad.contains (physOf (sbErasedMed d c sb) k)

theorem getSb_listed {m : Media} {i : Nat} {x : Superblock} (h : nget m.sbs i = some x) : getSb m i = x := by rw [getSb, h, Option.getD_some]

theorem eraseBlocks_bad (m : Media) (slots : List Nat) : (eraseBlocks m slots).bad = m.bad := by
  induction slots generalizing m with
  | nil => rfl
  | cons k slots ih => exact ih _

theorem eraseBlocks_physOf (m : Media) (slots : List Nat) (k : Nat) : physOf (eraseBlocks m slots) k = physOf m k := by
  induction slots generalizing m with
  | nil => rfl
  | cons j slots ih => exact ih _

theorem eraseBlocks_diesIn (m : Media) (slots : List Nat) : (eraseBlocks m slots).diesIn = m.diesIn := by
  induction slots generalizing m with
  | nil => rfl
  | cons k slots ih => exact ih _

section
variable {d : Dev} {c sb : Nat}

theorem getMed_sbErased : getMed (sbErased d c sb) c = sbErasedMed d c sb := getMed_setMed_same ..

theorem getSb_sbErasedMed : getSb (sbErasedMed d c sb) sb = sbErasedBy d c sb := getSb_listed (nget_nset_same ..)

theorem sbDies_sbErasedMed : sbDies (sbErasedMed d c sb) sb = sbDies (getMed d c) sb := by
  have hin : (sbErasedMed d c sb).diesIn = (getMed d c).diesIn := eraseBlocks_diesIn ..
  rw [sbDies, getSb_sbErasedMed, hin]
  rfl

theorem eraseDone_idle (failed : List Nat) (hdies : sbErasers d c sb = []) : eraseDone d c sb failed = d := if_pos hdies

theorem eraseDone_some (failed : List Nat) (hdies : sbErasers d c sb ≠ []) :
    eraseDone d c sb failed = fullCheck (wearCheck (forEach (retiredByErase d c sb failed) (finishErase (sbErased d c sb) c sb) (retireErased c failed)) c) c := if_neg hdies

/-- Where no block has failed, now or before, none is retired. -/
theorem retiredByErase_sound (hsound : ∀ k ∈ sbSlots (getMed d c) sb, physOf (getMed d c) k ∉ (getMed d c).bad) : retiredByErase d c sb [] = [] := by
  refine List.filter_eq_nil_iff.mpr fun k hk => ?_
  have hbad : (sbErasedMed d c sb).bad = (getMed d c).bad := eraseBlocks_bad ..
  have hphys : physOf (sbErasedMed d c sb) k = physOf (getMed d c) k := eraseBlocks_physOf ..
  simpa [hbad, hphys] using hsound k (List.mem_filter.mp hk).1

/-- A superblock that all its dies have erased is FREE, or a spare. -/
theorem st_finishErase (hst : (getSb (getMed d c) sb).st = .erasing) (hsome : (getSb (getMed d c) sb).erased ≠ []) (hall : ∀ x ∈ sbDies (getMed d c) sb, x ∈ (getSb (getMed d c) sb).erased) :
    (getSb (getMed (finishErase d c sb) c) sb).st = if sb < 2016 then .free else .spare := by
  have hdone : ¬ ((getSb (getMed d c) sb).erased = [] ∨ ((sbDies (getMed d c) sb).all fun x => (getSb (getMed d c) sb).erased.contains x) = false) := by
    rintro (hnone | hmissing)
    · exact hsome hnone
    · exact Bool.false_ne_true (hmissing.symm.trans (List.all_eq_true.mpr fun x hx => List.contains_iff_mem.mpr (hall x hx)))
  have hkept : (getSb (getMed d c) sb).st ≠ .retired := by rw [hst]; decide
  rw [finishErase, if_neg hdone]
  simp only [apply_ite (getMed · c), getMed_bump, ite_self, getMed_setMed_same, if_neg hkept]
  refine congrArg Superblock.st (getSb_listed (x := { st := if sb < 2016 then .free else .spare, dies := (getMed d c).diesIn }) ?_)
  exact nget_nset_same ..

theorem st_finishErase_sbErased (hdies : sbErasers d c sb ≠ []) (hst : (getSb (getMed d c) sb).st = .erasing)
    (hall : ((sbDies (getMed d c) sb).all fun x => (sbErasers d c sb).contains x) = true) :
    (getSb (getMed (finishErase (sbErased d c sb) c sb) c) sb).st = if sb < 2016 then .free else .spare := by
  obtain ⟨x, hx⟩ := List.exists_mem_of_ne_nil _ hdies
  apply st_finishErase
  · rw [getMed_sbErased, getSb_sbErasedMed]; exact hst
  · rw [getMed_sbErased, getSb_sbErasedMed]
    exact List.ne_nil_of_mem (mem_foldl_sinsert.mpr (.inl hx))
  · rw [getMed_sbErased, getSb_sbErasedMed, sbDies_sbErasedMed]
    exact fun y hy => mem_foldl_sinsert.mpr (.inl (List.contains_iff_mem.mp (List.all_eq_true.mp hall y hy)))

end

/-! ### Time-outs (R200) -/

/-- The device once a die has not answered in time: it is free, the time-outs in a row are counted, and MED_ERR_LAST names the die. -/
def timedOut (d : Dev) (c die : Nat) : Dev :=
  let m := getMed d c
  mediaErr (setMed d c { m with running := ndel m.running die, timeouts := nset m.timeouts die (ngetD m.timeouts die 0 + 1) }) c 4 die 0 0 0

section
variable {d : Dev} {c die : Nat} {r : DieRun} (hrun : nget (getMed d c).running die = some r) (halone : nhas (getMed d c).running (16 + die) = false)
include hrun halone

/-- A read that is not the third time-out in a row is served from parity. -/
theorem mediaOperationTimeout_read (hread : isRead r.op = true) (hfew : ngetD (getMed d c).timeouts die 0 < 2) :
    mediaOperationTimeout d c die = serveByParity (timedOut d c die) c die r.op 1 := by
  have hthird : ¬ 3 ≤ ngetD (getMed d c).timeouts die 0 + 1 := by omega
  obtain ⟨op, suspended, suspends⟩ := r
  simp only [mediaOperationTimeout, runSlot_alone halone, hrun, hthird, if_false]
  cases op
  case program | erase | eraseSump => exact absurd hread Bool.false_ne_true
  all_goals rfl

/-- An erase is tried again, until the third time-out in a row fails the die. -/
theorem mediaOperationTimeout_erase {sb : Nat} (hop : r.op = .erase sb) :
    mediaOperationTimeout d c die = if 3 ≤ ngetD (getMed d c).timeouts die 0 + 1 then dieFails (timedOut d c die) c die else timedOut d c die := by
  simp only [mediaOperationTimeout, runSlot_alone halone, hrun, hop]
  rfl

end

theorem mediaOperationsEnd : Claims.MediaOperationsEnd := by
  refine ⟨?check, ?promotion, ?mapPage, ?passOk, ?passFailed, ?erased, ?noErase, ?readTimeout, ?eraseTimeout⟩
  case check =>
    intro s c die r b bad m d hrun hop halone
    refine does_congr (does_mediaReadDone s c die [] bad) ?_
    rw [mediaReadDone_alone hrun halone [] bad (by rw [hop]; rfl), hop, List.map_nil, forEach_nil, finishRead_lastCheck]
    rfl
  case promotion =>
    intro s c die r k ws bad hrun hop halone hsound
    obtain ⟨e, he, hfreed⟩ := mediaReadDone_sound hrun halone bad (by rw [hop]; rfl) hsound
    exact ⟨e, does_congr (does_mediaReadDone s c die ws bad) (by rw [he, hop, finishRead]), hfreed⟩
  case mapPage =>
    intro s c die r mp ws hrun hop halone hsound
    obtain ⟨e, he, hfreed⟩ := mediaReadDone_sound hrun halone true (by rw [hop]; rfl) hsound
    exact ⟨e, does_congr (does_mediaReadDone s c die ws true) (by rw [he, hop, finishRead]), hfreed⟩
  case passOk => exact fun s c die plane r stream hrun hop hgoes => does_congr (does_programPassDone s c die true plane) (programPassDone_ok hrun hop hgoes plane.val)
  case passFailed =>
    intro s c die plane r stream m v hrun hop hgoes
    obtain ⟨e, he, hbad⟩ := rowFails_records (setMed s.dev c.val (freeDies m [die.val])) c.val die.val stream (passRow (nextPass v die.val)) plane.val (4 * passRow (nextPass v die.val))
    rw [getMed_setMed_same] at hbad
    exact ⟨e, does_congr (does_programPassDone s c die false plane) (by rw [programPassDone_failed hrun hop hgoes, he]), hbad⟩
  case erased =>
    intro s c sb m dies hdies hst hall hsound
    refine ⟨finishErase (sbErased s.dev c.val sb.val) c.val sb.val, does_congr (does_eraseDone s c sb []) ?_, st_finishErase_sbErased hdies hst hall⟩
    rw [eraseDone_some [] hdies, retiredByErase_sound hsound, forEach_nil]
  case noErase => exact fun s c sb l hdies => does_congr (does_eraseDone s c sb l) (eraseDone_idle l hdies)
  case readTimeout => exact fun s c die r hrun halone hread hfew => does_congr (does_mediaOperationTimeout s c die) (mediaOperationTimeout_read hrun halone hread hfew)
  case eraseTimeout =>
    intro s c die r sb m d hrun halone hop
    have hends := does_congr (does_mediaOperationTimeout s c die) (mediaOperationTimeout_erase hrun halone hop)
    exact ⟨fun hfew => does_congr hends (if_neg (Nat.not_le.mpr (Nat.succ_lt_succ hfew))), fun hmany => does_congr hends (if_pos (Nat.succ_le_succ hmany))⟩

end Sys2Proof.Machine
end

section
/-!
SUPPORT. The work of a media channel itself: rebuilds, write-back of map pages, root checkpoints, the patrol and the retirement of a die (spec/09_media.md R182, R196, R200, R201).
-/
namespace Sys2Proof.Machine
open Sys2Proof

theorem getMed_reach (d : Dev) (t c : Nat) : getMed (reach d t) c = getMed d c := getMed_congr (reach_med ..) c

theorem getMed_asked (d : Dev) (w : Writer) (r : RegId) (x i c : Nat) : getMed (asked d w r x i) c = getMed d c := getMed_congr (asked_med ..) c

section
variable {d : Dev} {c : Nat}

/-- A channel without superblocks has no block of the failed die left, nor of another one. -/
theorem rebuildEnd_empty {die : Nat} (hrebuild : (getMed d c).rebuild = some die) (hsbs : (getMed d c).sbs = []) (hleft : (getMed d c).formatLeft = []) :
    rebuildEnd d c = setMed (logEvent d 2 (uDie c die) [1]) c { getMed d c with st := .online, rebuild := none } := by
  have hother : (List.range 16).find? (fun x => !dieIn (getMed d c).diesIn x && false) = none := by simp
  simp only [rebuildEnd, hrebuild, hsbs, hleft, List.any_nil, hother, Bool.false_eq_true, if_false, if_true]

/-! ### Map pages and root checkpoints (R182) -/

section
variable {key t : Nat} (hdirty : (getMed d c).mapDirty = [(key, t)])
include hdirty

theorem writebackTime_single (hover : overMaps (getMed d c) = false) : writebackTime d c = some (t + 1000000000) := by
  rw [writebackTime, hover, if_neg Bool.false_ne_true, hdirty, List.map_singleton, soonest_single]

/-- The only changed map page is written back once it has been changed for a second. -/
theorem mapWritebackTimer_due (hon : mediaOn d c = true) (hdue : t + 1000000000 ≤ d.now) :
    mapWritebackTimer d c = writeMap (setMed d c { getMed d c with mapDirty := [] }) c key := by
  simp [mapWritebackTimer, hon, hdirty, hdue, dropEarly, nhas, nget, forEach]

end

theorem checkpointTime_written (hwrites : (getMed d c).mapWrites ≠ 0) : checkpointTime d c = some ((getMed d c).rootAt + 10000000000) := if_pos (.inl hwrites)

theorem rootCheckpointTimer_due (hwrites : (getMed d c).mapWrites ≠ 0) (hdue : (getMed d c).rootAt + 10000000000 ≤ d.now) : rootCheckpointTimer d c = checkpoint d c :=
  if_pos ⟨.inl hwrites, hdue⟩

/-! ### The patrol (R196) -/

/-- Once a pass is due, its latest time is not waited for. -/
theorem scrubTime_due (hscrub : scrubDue d c = true) : scrubTime d c = none := if_neg (by simp [hscrub])

theorem mediaScrubPassStart_due (hon : mediaOn d c = true) (hscrub : scrubDue d c = true) : mediaScrubPassStart d c = startScrub d c := if_pos (by rw [hon, hscrub]; rfl)

theorem scrubNow_accepted {w : Writer} (ha : Accepts d w .MED_CTRL c) : scrubNow d w c = startScrub (asked d w .MED_CTRL c 0) c := command_accepted _ _ _ _ _ _ ha

/-! ### The retirement of a die (R200) -/

section
variable {w : Writer} {die : Nat} (ha : Accepts d w .MED_CTRL c)
include ha

theorem retireDie_fails (hrebuild : (getMed d c).rebuild = none) (hdies : 12 < diesOf (getMed d c)) (hin : dieIn (getMed d c).diesIn die = true) :
    retireDie d w c die = dieFails (asked d w .MED_CTRL c 0) c die := by
  rw [retireDie, command_accepted _ _ _ _ _ _ ha]
  exact if_neg (by simp [getMed_asked, hrebuild, hin, Nat.not_le.mpr hdies])

/-- A rebuild, or too few dies, forbids it. -/
theorem retireDie_rejected (hbar : (getMed d c).rebuild.isSome = true ∨ diesOf (getMed d c) ≤ 12) :
    retireDie d w c die = setMed (asked d w .MED_CTRL c 0) c { getMed d c with rejected := true } := by
  rw [retireDie, command_accepted _ _ _ _ _ _ ha]
  simp only [getMed_asked]
  exact if_pos (hbar.imp_right .inl)

end

end

section
variable {s : State} {c : CellNo}

/-- A map page is written back when local time reaches a second from its first change. -/
theorem does_mapWritebackTimer_reached {key t : Nat} (hon : mediaOn s.dev c.val = true) (hdirty : (getMed s.dev c.val).mapDirty = [(key, t)]) (hover : overMaps (getMed s.dev c.val) = false) :
    Does (.mapWritebackTimer c) s (writeMap (setMed (reach s.dev (t + 1000000000)) c.val { getMed s.dev c.val with mapDirty := [] }) c.val key) := by
  refine does_congr (does_mapWritebackTimer s c) ?_
  rw [writebackTime_single hdirty hover, reachO,
    mapWritebackTimer_due (by rw [getMed_reach, hdirty]) (by rw [mediaOn, getMed_reach]; exact hon) (of_decide_eq_true (due_reach ..)), getMed_reach]

/-- A root checkpoint follows when local time reaches ten seconds from the last. -/
theorem does_rootCheckpointTimer_reached (hwrites : (getMed s.dev c.val).mapWrites ≠ 0) :
    Does (.rootCheckpointTimer c) s (checkpoint (reach s.dev ((getMed s.dev c.val).rootAt + 10000000000)) c.val) := by
  refine does_congr (does_rootCheckpointTimer s c) ?_
  rw [checkpointTime_written hwrites, reachO]
  exact rootCheckpointTimer_due (by rw [getMed_reach]; exact hwrites) (by rw [getMed_reach]; exact of_decide_eq_true (due_reach ..))

end

theorem mediaUpkeep : Claims.MediaUpkeep := by
  refine ⟨?rebuilt, ?writeback, ?checkpoint, ?patrol, ?scrubNow, ?temperature, ?retires, ?rejects⟩
  case rebuilt => exact fun s c die hrebuild hsbs hleft => does_congr (does_rebuildEnd s c) (rebuildEnd_empty hrebuild hsbs hleft)
  case writeback => exact fun s c key t hon hdirty hover => does_mapWritebackTimer_reached hon hdirty hover
  case checkpoint => exact fun s c hwrites => does_rootCheckpointTimer_reached hwrites
  case patrol =>
    intro s c hon hscrub
    refine does_congr (does_mediaScrubPassStart s c) ?_
    rw [scrubTime_due hscrub, reachO, mediaScrubPassStart_due hon hscrub]
  case scrubNow => exact fun s w c ha => does_congr (does_scrubNow s w c) (scrubNow_accepted ha)
  case temperature => exact fun s c t => does_dieTemperatureRead s c t
  case retires => exact fun s w c die ha hrebuild hdies hin => does_congr (does_retireDie s w c die) (retireDie_fails ha hrebuild hdies hin)
  case rejects => exact fun s w c die ha hbar => does_congr (does_retireDie s w c die) (retireDie_rejected ha hbar)

/-- Settles O39: what a die is granted by the channel's work, what each end of its operations leaves, and the upkeep that follows a timer or a command. Timers run once local time has reached their end
(notes/assumptions 3). -/
theorem mediaChannel : Obligations.MediaChannel := ⟨mediaGrants, mediaOperationsEnd, mediaUpkeep, mediaCommandsComplete⟩

end Sys2Proof.Machine
end

section
/-!
SUPPORT. Sending a control message leaves the records of custody as they are: the twin's, the chambers and keys, and the witness's (spec/05_congestion.md R93, R103; spec/11_pair_custody.md R240).
-/
namespace Sys2Proof.Machine
open Sys2Proof

/-- What custody and its witness decide by: the pair's own records, the chambers with their keys, and the records of watched pairs. -/
def custodyRecords (d : Dev) : CusPart × ChmPart × NMap Watch := (d.cus, d.chm, d.watch)

/-! ### Registers, ports, the log and faults -/

theorem custodyRecords_ite {P : Prop} [Decidable P] {d x y : Dev} (hx : custodyRecords x = custodyRecords d) (hy : custodyRecords y = custodyRecords d) :
    custodyRecords (if P then x else y) = custodyRecords d := by
  split
  · exact hx
  · exact hy

theorem custodyRecords_forEach {α : Type} {f : Dev → α → Dev} (hf : ∀ e x, custodyRecords (f e x) = custodyRecords e) (l : List α) (d : Dev) :
    custodyRecords (forEach l d f) = custodyRecords d := by
  induction l generalizing d with
  | nil => rfl
  | cons x l ih => exact (ih (f d x)).trans (hf d x)

@[simp] theorem custodyRecords_journalAdd (d : Dev) (r : LogRec) : custodyRecords (journalAdd d r) = custodyRecords d :=
  custodyRecords_ite (custodyRecords_ite rfl rfl) rfl

@[simp] theorem custodyRecords_logRecord (d : Dev) (sev cls cause unit requester reqCell access : Nat) (merged : Bool) (addr : Nat) (detail : List Nat) :
    custodyRecords (logRecord d sev cls cause unit requester reqCell access merged addr detail) = custodyRecords d := by
  unfold logRecord
  dsimp only
  split
  · exact custodyRecords_journalAdd ..
  · exact custodyRecords_journalAdd ..

@[simp] theorem custodyRecords_capture (d : Dev) (x : Capture) : custodyRecords (capture d x) = custodyRecords d := by
  unfold capture
  dsimp only
  split <;> rfl

/-- A fault of a class below 3 has no action on the device. -/
theorem custodyRecords_raise (d : Dev) (e : FaultEvt) (act : SevereAct) (h : e.cls < 3) : custodyRecords (raise d e act) = custodyRecords d := by
  unfold raise
  extract_lets +onlyGivenNames d1 d2 d3 caught merged d4 sev d5
  have h4 : custodyRecords d4 = custodyRecords d := custodyRecords_ite (custodyRecords_capture ..) rfl
  have h5 : custodyRecords d5 = custodyRecords d4 := custodyRecords_ite rfl (custodyRecords_logRecord ..)
  rw [if_neg (Nat.not_le.mpr h)]
  exact h5.trans h4

@[simp] theorem custodyRecords_fenceCell (d : Dev) (c cause : Nat) : custodyRecords (fenceCell d c cause) = custodyRecords d := custodyRecords_ite rfl rfl

/-! ### Buffers -/

@[simp] theorem custodyRecords_pfcUpdate (d : Dev) (c : Nat) : custodyRecords (pfcUpdate d c) = custodyRecords d := by
  refine custodyRecords_ite (custodyRecords_forEach (fun e g => ?_) _ d) rfl
  exact custodyRecords_ite (custodyRecords_ite rfl rfl) (custodyRecords_ite rfl rfl)

@[simp] theorem custodyRecords_takeBuf (d : Dev) (c pool size requester : Nat) : custodyRecords (takeBuf d c pool size requester).1 = custodyRecords d := by
  unfold takeBuf
  generalize freeBuf d c pool = id
  exact (custodyRecords_pfcUpdate ..).trans (custodyRecords_ite rfl rfl)

@[simp] theorem custodyRecords_dropRef (d : Dev) (id : Nat) : custodyRecords (dropRef d id) = custodyRecords d := by
  have hunder : ∀ (b : Buf) (x : FaultEvt), x.cls < 3 →
      custodyRecords (raise (fenceCell { d with res.bufs := nset d.res.bufs id b } (bufCell id) 0x07) x) = custodyRecords d :=
    fun b x hx => (custodyRecords_raise _ _ _ hx).trans (custodyRecords_fenceCell ..)
  unfold dropRef
  dsimp only
  split
  · exact hunder _ _ (Nat.lt_succ_self 2)
  · exact custodyRecords_ite (hunder _ _ (Nat.lt_succ_self 2)) (custodyRecords_ite (custodyRecords_pfcUpdate ..) rfl)

@[simp] theorem custodyRecords_dropBuf (d : Dev) (b : Option Nat) : custodyRecords (dropBuf d b) = custodyRecords d := by
  cases b with
  | none => rfl
  | some id => exact custodyRecords_dropRef d id

theorem custodyRecords_takePieces {n : Nat} {d : Dev} {c size who : Nat} {reserve : Bool} {x : Dev × Nat} (h : takePieces n d c size who reserve = some x) :
    custodyRecords x.1 = custodyRecords d := by
  induction n generalizing d size with
  | zero =>
    obtain ⟨p, -, rfl⟩ := Option.map_eq_some_iff.mp h
    exact custodyRecords_takeBuf d c p 1 who
  | succ n ih =>
    rw [takePieces] at h
    dsimp only at h
    split at h
    · cases h
    · split at h
      · cases h
        exact custodyRecords_takeBuf ..
      · exact (ih h).trans ((custodyRecords_dropRef ..).trans (custodyRecords_takeBuf ..))

theorem custodyRecords_takeBufs {d : Dev} {c size who : Nat} {reserve : Bool} {x : Dev × Nat} (h : takeBufs d c size who reserve = some x) : custodyRecords x.1 = custodyRecords d :=
  custodyRecords_takePieces h

/-! ### Frames on their way out -/

@[simp] theorem custodyRecords_emit (d : Dev) (p : Nat) (e : Egress) : custodyRecords (emit d p e) = custodyRecords d := custodyRecords_dropBuf ..

@[simp] theorem custodyRecords_drainCtrl (n : Nat) (d : Dev) (p : Nat) : custodyRecords (drainCtrl n d p) = custodyRecords d := by
  induction n generalizing d with
  | zero => rfl
  | succ n ih =>
    rw [drainCtrl]
    split
    · rfl
    · exact custodyRecords_ite ((ih _).trans (custodyRecords_emit ..)) rfl

@[simp] theorem custodyRecords_drrTurn (n : Nat) (d : Dev) (p pcp : Nat) : custodyRecords (drrTurn n d p pcp) = custodyRecords d := by
  induction n generalizing d with
  | zero => rfl
  | succ n ih =>
    rw [drrTurn]
    split
    · rfl
    · exact custodyRecords_ite ((ih _).trans (custodyRecords_emit ..)) rfl

@[simp] theorem custodyRecords_drrRounds (n : Nat) (d : Dev) (p : Nat) : custodyRecords (drrRounds n d p) = custodyRecords d := by
  induction n generalizing d with
  | zero => rfl
  | succ n ih =>
    refine custodyRecords_ite rfl ((ih _).trans (custodyRecords_forEach (fun e pcp => ?_) _ d))
    exact custodyRecords_ite rfl (custodyRecords_drrTurn ..)

@[simp] theorem custodyRecords_drainPort (d : Dev) (p : Nat) : custodyRecords (drainPort d p) = custodyRecords d :=
  custodyRecords_ite rfl (custodyRecords_ite ((custodyRecords_drrRounds ..).trans (custodyRecords_drainCtrl ..)) (custodyRecords_drainCtrl ..))

@[simp] theorem custodyRecords_carried (d : Dev) (p pcp : Nat) : custodyRecords (carried d p pcp) = custodyRecords d := custodyRecords_ite rfl rfl

@[simp] theorem custodyRecords_enqueue (d : Dev) (p pcp bytes : Nat) (frame : Out) (buf : Option Nat) : custodyRecords (enqueue d p pcp bytes frame buf) = custodyRecords d := by
  have hleaves : ∀ e : Dev, custodyRecords e = custodyRecords d → custodyRecords (drainPort (carried e p pcp) p) = custodyRecords d :=
    fun e he => (custodyRecords_drainPort ..).trans ((custodyRecords_carried ..).trans he)
  exact custodyRecords_ite (custodyRecords_dropBuf ..) (custodyRecords_ite (custodyRecords_dropBuf ..) (custodyRecords_ite (hleaves _ rfl) (hleaves _ rfl)))

@[simp] theorem custodyRecords_sendCtl (d : Dev) (p bytes : Nat) (frame : Out) : custodyRecords (sendCtl d p bytes frame) = custodyRecords d := by
  unfold sendCtl
  split
  next htaken => exact (custodyRecords_enqueue ..).trans (custodyRecords_takeBufs htaken)
  next => rfl

@[simp] theorem custodyRecords_sendClaimed (d : Dev) (opcode dest claim : Nat) (fields : List Nat) : custodyRecords (sendClaimed d opcode dest claim fields) = custodyRecords d := by
  unfold sendClaimed
  split
  · rfl
  · rfl
  · exact custodyRecords_ite rfl (custodyRecords_ite (custodyRecords_ite rfl rfl) (custodyRecords_sendCtl ..))

/-! ### Grants and answers of the witness (R240, R241) -/

@[simp] theorem custodyRecords_answerReq (d : Dev) (w : Watch) (dst kind number reason : Nat) : custodyRecords (answerReq d w dst kind number reason) = custodyRecords d :=
  custodyRecords_sendClaimed ..

@[simp] theorem custodyRecords_sendGrant (d : Dev) (w : Watch) : custodyRecords (sendGrant d w) = custodyRecords d := custodyRecords_sendClaimed ..

@[simp] theorem answerReq_mem (d : Dev) (w : Watch) (dst kind number reason : Nat) : (answerReq d w dst kind number reason).mem = d.mem := sendClaimed_mem ..

@[simp] theorem sendGrant_mem (d : Dev) (w : Watch) : (sendGrant d w).mem = d.mem := sendClaimed_mem ..

end Sys2Proof.Machine
end

section
/-!
SUPPORT. What the commands of the pair and of custody do, and the witness's grants (spec/11_pair_custody.md R236 to R253).
-/
namespace Sys2Proof.Machine
open Sys2Proof

/-! ### What the commands of rows 129 to 163 do (R237 to R255) -/

theorem does_heartbeatTimer (s : State) : Does .heartbeatTimer s (heartbeatTimer (reachO s.dev (beatTime s.dev))) := does_run _ s (fun d => heartbeatTimer (reachO d (beatTime d))) rfl

theorem does_heartbeat (s : State) (via : CtrlVia) (o : Ordinal) (claim : BitVec 48) (sentAt : BitVec 64) :
    Does (.heartbeat via o claim sentAt) s (ctrlIn s.dev via fun d => heartbeat d o.val via.port.val claim.toNat sentAt.toNat) :=
  does_run _ s (fun d => ctrlIn d via fun d => heartbeat d o.val via.port.val claim.toNat sentAt.toNat) rfl

theorem does_heartbeatAcknowledge (s : State) (o : Heard Ordinal) (claim : BitVec 48) (sentAt : BitVec 64) :
    Does (.heartbeatAcknowledge o claim sentAt) s (ctrlIn s.dev o.via fun d => heartbeatAcknowledge d o.msg.val claim.toNat sentAt.toNat) :=
  does_run _ s (fun d => ctrlIn d o.via fun d => heartbeatAcknowledge d o.msg.val claim.toNat sentAt.toNat) rfl

theorem does_peerSuspicion (s : State) (o : Ordinal) : Does (.peerSuspicion o) s (peerSuspicion (reachO s.dev (suspicionTime s.dev o.val)) o.val) :=
  does_run _ s (fun d => peerSuspicion (reachO d (suspicionTime d o.val)) o.val) rfl

theorem does_statusTimer (s : State) : Does .statusTimer s (statusTimer (reachO s.dev (statusTime s.dev))) := does_run _ s (fun d => statusTimer (reachO d (statusTime d))) rfl

theorem does_leaseExpiry (s : State) : Does .leaseExpiry s (leaseExpiry (reachO s.dev (leaseTime s.dev))) := does_run _ s (fun d => leaseExpiry (reachO d (leaseTime d))) rfl

theorem does_custodyWaitExpiry (s : State) : Does .custodyWaitExpiry s (custodyWaitExpiry (reachO s.dev (custodyWaitTime s.dev))) :=
  does_run _ s (fun d => custodyWaitExpiry (reachO d (custodyWaitTime d))) rfl

theorem does_claimLearnTimeout (s : State) : Does .claimLearnTimeout s (claimLearnTimeout (reachO s.dev (custodyTime s.dev true))) :=
  does_run _ s (fun d => claimLearnTimeout (reachO d (custodyTime d true))) rfl

theorem does_takeover (s : State) (m : Heard ClaimReq) : Does (.takeover m) s (ctrlIn s.dev m.via fun d => takeoverRequest d m.msg) :=
  does_run _ s (fun d => ctrlIn d m.via fun d => takeoverRequest d m.msg) rfl

theorem does_failback (s : State) (m : Heard ClaimReq) : Does (.failback m) s (ctrlIn s.dev m.via fun d => failbackRequest d m.msg) :=
  does_run _ s (fun d => ctrlIn d m.via fun d => failbackRequest d m.msg) rfl

theorem does_reclaim (s : State) (m : Heard ClaimReq) : Does (.reclaim m) s (ctrlIn s.dev m.via fun d => reclaimRequest d m.msg) :=
  does_run _ s (fun d => ctrlIn d m.via fun d => reclaimRequest d m.msg) rfl

theorem does_join (s : State) (m : Heard ClaimReq) : Does (.join m) s (ctrlIn s.dev m.via fun d => joinRequest d m.msg) :=
  does_run _ s (fun d => ctrlIn d m.via fun d => joinRequest d m.msg) rfl

theorem does_yield (s : State) (m : Heard ClaimReq) : Does (.yield m) s (ctrlIn s.dev m.via fun d => yieldRequest d m.msg) :=
  does_run _ s (fun d => ctrlIn d m.via fun d => yieldRequest d m.msg) rfl

theorem does_query (s : State) (m : Heard ClaimReq) : Does (.query m) s (ctrlIn s.dev m.via fun d => queryRequest d m.msg) :=
  does_run _ s (fun d => ctrlIn d m.via fun d => queryRequest d m.msg) rfl

theorem does_drain (s : State) (m : Heard ClaimReq) : Does (.drain m) s (ctrlIn s.dev m.via fun d => drainCommand d m.msg) :=
  does_run _ s (fun d => ctrlIn d m.via fun d => drainCommand d m.msg) rfl

theorem does_claimReservedKind (s : State) (m : Heard ClaimReq) (kind : Fin 16) : Does (.claimReservedKind m kind) s (ctrlIn s.dev m.via fun d => claimReservedKind d m.msg kind.val) :=
  does_run _ s (fun d => ctrlIn d m.via fun d => claimReservedKind d m.msg kind.val) rfl

theorem does_claimGrant (s : State) (m : Heard ClaimAns) : Does (.claimGrant m) s (ctrlIn s.dev m.via fun d => claimGrant d m.msg) :=
  does_run _ s (fun d => ctrlIn d m.via fun d => claimGrant d m.msg) rfl

theorem does_claimAnswer (s : State) (m : Heard ClaimAns) : Does (.claimAnswer m) s (ctrlIn s.dev m.via fun d => claimAnswer d m.msg) :=
  does_run _ s (fun d => ctrlIn d m.via fun d => claimAnswer d m.msg) rfl

theorem does_claimStatus (s : State) (m : Heard StatusAns) (named : Option Ordinal) : Does (.claimStatus m named) s (ctrlIn s.dev m.via fun d => claimStatus d m.msg (named.map (·.val))) := rfl

theorem does_takeoverHoldExpiry (s : State) (pair : BitVec 13) : Does (.takeoverHoldExpiry pair) s (takeoverHoldExpiry (reachO s.dev (heldTime s.dev pair.toNat)) pair.toNat) :=
  does_run _ s (fun d => takeoverHoldExpiry (reachO d (heldTime d pair.toNat)) pair.toNat) rfl

theorem does_claimRequestResend (s : State) : Does .claimRequestResend s (claimRequestResend (reachO s.dev (s.dev.cus.out.map (·.next)))) := rfl

theorem does_takeoverLeaseWaitEnd (s : State) : Does .takeoverLeaseWaitEnd s (takeoverLeaseWaitEnd (reachO s.dev (s.dev.cus.takeover.map (·.applyAt)))) := rfl

theorem does_yieldLapse (s : State) : Does .yieldLapse s (yieldLapse (reachO s.dev (s.dev.cus.yieldedAt.map (· + ms 10)))) :=
  does_run _ s (fun d => yieldLapse (reachO d (d.cus.yieldedAt.map (· + ms 10)))) rfl

theorem does_witnessYieldFlagExpiry (s : State) (pair : BitVec 13) : Does (.witnessYieldFlagExpiry pair) s (witnessYieldFlagExpiry (reachO s.dev (yieldFlagTime s.dev pair.toNat)) pair.toNat) :=
  does_run _ s (fun d => witnessYieldFlagExpiry (reachO d (yieldFlagTime d pair.toNat)) pair.toNat) rfl

theorem does_resyncCopy (s : State) (c : CellNo) (pulled : Option (Fin 65536 × BitVec 22)) :
    Does (.resyncCopy c pulled) s (resyncCopy (reachO s.dev (resyncTime s.dev)) c.val (pulled.map fun x => (x.1.val, x.2.toNat))) := rfl

theorem does_resyncCopyAck (s : State) (h : RspPkt) (k : ConnNo) (psn : BitVec 24) (_credit : BitVec 5) (_msn : BitVec 24) :
    Does (.resyncCopyAck h k psn _credit _msn) s (frameIn s.dev (.rsp h (.copyAck k psn))) :=
  does_run _ s (fun d => frameIn d (.rsp h (.copyAck k psn))) rfl

theorem does_failbackTimer (s : State) : Does .failbackTimer s (failbackTimer (reachO s.dev (failbackTime s.dev))) := does_run _ s (fun d => failbackTimer (reachO d (failbackTime d))) rfl

theorem does_failbackNow (s : State) (w : Writer) : Does (.failbackNow w) s (failbackNow s.dev w) := does_run _ s (fun d => failbackNow d w) rfl

theorem does_handover (s : State) (w : Writer) : Does (.handover w) s (handover s.dev w) := does_run _ s (fun d => handover d w) rfl

theorem does_compareNow (s : State) (w : Writer) : Does (.compareNow w) s (compareNow s.dev w) := does_run _ s (fun d => compareNow d w) rfl

theorem does_drainPointReached (s : State) : Does .drainPointReached s (drainPointReached s.dev) := does_run _ s drainPointReached rfl

theorem does_drainTimeout (s : State) : Does .drainTimeout s (drainTimeout (reachO s.dev (drainTime s.dev))) := does_run _ s (fun d => drainTimeout (reachO d (drainTime d))) rfl

theorem does_reclaimTimer (s : State) : Does .reclaimTimer s (reclaimTimer (reachO s.dev (reclaimTime s.dev))) := does_run _ s (fun d => reclaimTimer (reachO d (reclaimTime d))) rfl

theorem does_comparePassTimer (s : State) : Does .comparePassTimer s (comparePassTimer (reachO s.dev (compareTime s.dev))) :=
  does_run _ s (fun d => comparePassTimer (reachO d (compareTime d))) rfl

theorem does_coldStartExpiry (s : State) : Does .coldStartExpiry s (coldStartExpiry (reachO s.dev (coldTime s.dev))) := does_run _ s (fun d => coldStartExpiry (reachO d (coldTime d))) rfl

theorem custodyCommandsComplete : Claims.CustodyCommandsComplete :=
  ⟨does_heartbeatTimer, does_heartbeat, does_heartbeatAcknowledge, does_peerSuspicion, does_statusTimer, does_leaseExpiry, does_custodyWaitExpiry, does_claimLearnTimeout,
    does_takeover, does_failback, does_reclaim, does_join, does_yield, does_query, does_drain, does_claimReservedKind, does_claimGrant, does_claimAnswer, does_claimStatus,
    does_takeoverHoldExpiry, does_claimRequestResend, does_takeoverLeaseWaitEnd, does_yieldLapse, does_witnessYieldFlagExpiry, does_resyncCopy, does_resyncCopyAck,
    does_failbackTimer, does_failbackNow, does_handover, does_compareNow, does_drainPointReached, does_drainTimeout, does_reclaimTimer, does_comparePassTimer, does_coldStartExpiry⟩

/-- A control message that is heard takes its effect on the device that has heard it. -/
theorem does_heard {i : Instr} {s : State} {v : CtrlVia} {go : Dev → Dev} {e : Dev} (h : Does i s (ctrlIn s.dev v go)) (hv : Hears s.dev v) (he : go (ctrlOf s.dev v) = e) : Does i s e :=
  does_congr h ((ctrlIn_heard hv go).trans he)

/-! ### The record that a grant leaves (R241, Table PAI-5) -/

/-- The record of a pair once its witness has granted a request. -/
def grantedRecord (w : Watch) (kind scope chamber o number : Nat) : Watch :=
  let w := { w with cw := w.cw + 1, last := ⟨kind, scope, chamber, o, number⟩ }
  if kind = 1 then { w with solo := true, stale := staleCode (otherOf o) } else if kind = 4 then { w with solo := false, stale := 0 } else w

section
variable (d : Dev) (w : Watch) (kind scope chamber o number : Nat)

/-- A grant records itself, and leaves to the grantee and the other twin. -/
theorem grantReq_eq : grantReq d w kind scope chamber o number =
    answerReq (sendGrant (setWatch d (grantedRecord w kind scope chamber o number)) (grantedRecord w kind scope chamber o number)) (grantedRecord w kind scope chamber o number) (otherOf o) kind
      number 0 := by
  unfold grantReq grantedRecord
  dsimp only
  split
  · rfl
  · rfl
  next h1 h4 => rw [if_neg h1, if_neg h4]

theorem custodyRecords_grantReq : custodyRecords (grantReq d w kind scope chamber o number) = (d.cus, d.chm, nset d.watch (grantedRecord w kind scope chamber o number).pair
    (grantedRecord w kind scope chamber o number)) := by
  rw [grantReq_eq, custodyRecords_answerReq, custodyRecords_sendGrant]
  rfl

theorem grantReq_mem : (grantReq d w kind scope chamber o number).mem = d.mem := by
  rw [grantReq_eq, answerReq_mem, sendGrant_mem]
  rfl

theorem grantedRecord_pair : (grantedRecord w kind scope chamber o number).pair = w.pair := by
  unfold grantedRecord
  (repeat' split) <;> rfl

theorem grantedRecord_cw : (grantedRecord w kind scope chamber o number).cw = w.cw + 1 := by
  unfold grantedRecord
  (repeat' split) <;> rfl

theorem grantedRecord_last : (grantedRecord w kind scope chamber o number).last = ⟨kind, scope, chamber, o, number⟩ := by
  unfold grantedRecord
  (repeat' split) <;> rfl

theorem grantedRecord_held : (grantedRecord w kind scope chamber o number).held = w.held := by
  unfold grantedRecord
  (repeat' split) <;> rfl

end

theorem grantsRaiseTheClaim : Claims.GrantsRaiseTheClaim := by
  intro d w kind scope chamber o number e
  have hrecords : custodyRecords e = _ := custodyRecords_grantReq d w kind scope chamber o number
  have hpair := grantedRecord_pair w kind scope chamber o number
  simp only [custodyRecords, Prod.mk.injEq, hpair] at hrecords
  obtain ⟨hcus, hchm, hwatch⟩ := hrecords
  refine ⟨grantedRecord w kind scope chamber o number, by rw [hwatch, nget_nset_same], grantedRecord_cw .., grantedRecord_last .., grantedRecord_held .., ?takeover, ?join, ?other, hcus, hchm,
    grantReq_mem .., fun q hq => by rw [hwatch, nget_nset_ne _ _ _ _ hq]⟩
  case takeover =>
    rintro rfl
    exact ⟨rfl, rfl⟩
  case join =>
    rintro rfl
    exact ⟨rfl, rfl⟩
  case other =>
    intro h1 h4
    rw [grantedRecord, if_neg h1, if_neg h4]
    exact ⟨rfl, rfl⟩

/-! ### A request that the witness may grant (R236, R240, R241) -/

section
variable (w : Watch) (o : Nat)

@[simp] theorem dropOwnHeld_valid : (dropOwnHeld w o).valid = w.valid := by unfold dropOwnHeld; split <;> rfl

@[simp] theorem dropOwnHeld_cw : (dropOwnHeld w o).cw = w.cw := by unfold dropOwnHeld; split <;> rfl

@[simp] theorem dropOwnHeld_last : (dropOwnHeld w o).last = w.last := by unfold dropOwnHeld; split <;> rfl

@[simp] theorem dropOwnHeld_solo : (dropOwnHeld w o).solo = w.solo := by unfold dropOwnHeld; split <;> rfl

@[simp] theorem dropOwnHeld_stale : (dropOwnHeld w o).stale = w.stale := by unfold dropOwnHeld; split <;> rfl

end

/-- The record once the yield of a twin has been noted. -/
def yieldNoted (w : Watch) (o now : Nat) : Watch := if o % 2 = 0 then { w with yieldEven := some now } else { w with yieldOdd := some now }

theorem yieldNoted_valid (w : Watch) (o now : Nat) : (yieldNoted w o now).valid = w.valid := by unfold yieldNoted; split <;> rfl

/-- A record that is valid, whose last grant is another, whose claim the request shows and by which the requester may ask lets the request go on. -/
theorem witnessed_goes {w : Watch} {m : ClaimReq} {kind : Nat} (hvalid : w.valid = true) (hlast : ¬ (w.last.grantee = m.requester.val ∧ w.last.number = m.number.toNat))
    (hseen : m.cSeen.toNat = w.cw) (hstale : kind = 3 ∨ w.stale ≠ staleCode m.requester.val) (d : Dev) (go : Dev → Watch → Dev) : witnessed d w m kind go = go d w := by
  have hnew : ¬ (w.last.grantee = m.requester.val ∧ w.last.number = m.number.toNat ∧ w.last.kind ≠ 0) := fun ⟨hg, hn, _⟩ => hlast ⟨hg, hn⟩
  have hfresh : ¬ (w.stale = staleCode m.requester.val ∧ kind ≠ 3) := fun ⟨hs, hk⟩ => hstale.elim hk (· hs)
  simp only [witnessed, hvalid, Bool.not_true, Bool.false_eq_true, if_false, if_neg hnew, hseen, ne_eq, not_true_eq_false, if_neg hfresh]

section
variable {d : Dev} {m : ClaimReq} {w : Watch}

theorem claimRequest_atWitness {kind : Nat} (hw : Watched d m kind w) (twin : Option (Dev → Dev)) (f : Dev → Watch → Dev) :
    claimRequest d m kind twin (some f) = examineHeld (f d w) (m.requester.val / 2) := by
  obtain ⟨hup, htag, hrecord, -⟩ := hw
  simp only [claimRequest, hup, htag, hrecord, Bool.not_true, Bool.false_eq_true, if_false]

/-- A kind that does not belong at the witness is answered BAD_KIND. -/
theorem claimRequest_badKind {kind : Nat} (hw : Watched d m kind w) (twin : Option (Dev → Dev)) : claimRequest d m kind twin none = answerReq d w m.requester.val kind m.number.toNat 6 := by
  obtain ⟨hup, htag, hrecord, -⟩ := hw
  simp only [claimRequest, hup, htag, hrecord, Bool.not_true, Bool.false_eq_true, if_false]

theorem valid_of_watched {kind : Nat} (hw : Watched d m kind w) : w.valid = true := by
  obtain ⟨-, -, -, -, hvalid, -⟩ := hw
  exact hvalid

/-- A request of a kind passes what is common to the kinds that can be granted. -/
theorem witnessed_watched {kind : Nat} (hw : Watched d m kind w) (hstale : kind = 3 ∨ w.stale ≠ staleCode m.requester.val) (e : Dev) (go : Dev → Watch → Dev) :
    witnessed e w m kind go = go e w := by
  obtain ⟨-, -, -, -, hvalid, hlast, hseen⟩ := hw
  exact witnessed_goes hvalid hlast hseen hstale e go

/-- A kind other than TAKEOVER is granted when the record fits it. -/
theorem otherKind_granted {kind : Nat} {ok : Watch → Bool} (hw : Watched d m kind w) (hstale : kind = 3 ∨ w.stale ≠ staleCode m.requester.val) (hok : ok (dropOwnHeld w m.requester.val) = true) :
    otherKind d w m kind ok =
      grantReq (setWatch d (dropOwnHeld w m.requester.val)) (dropOwnHeld w m.requester.val) kind m.scope.toNat m.chamber.toNat m.requester.val m.number.toNat := by
  obtain ⟨-, -, -, -, hvalid, hlast, hseen⟩ := hw
  dsimp only [otherKind]
  refine (witnessed_goes ?_ ?_ ?_ ?_ _ _).trans ?_
  · rw [dropOwnHeld_valid, hvalid]
  · rwa [dropOwnHeld_last]
  · rw [dropOwnHeld_cw, hseen]
  · rwa [dropOwnHeld_stale]
  · exact if_pos hok

/-- A QUERY is answered with the record. -/
theorem queryRequest_answered (hw : Watched d m 6 w) : let w' := dropOwnHeld w m.requester.val
    queryRequest d m = examineHeld (answerReq (setWatch d w') w' m.requester.val 6 m.number.toNat 0) (m.requester.val / 2) := by
  intro w'
  have hvalid : w'.valid = true := (dropOwnHeld_valid ..).trans (valid_of_watched hw)
  rw [queryRequest, claimRequest_atWitness hw]
  exact congrArg (fun reason => examineHeld (answerReq (setWatch d w') w' m.requester.val 6 m.number.toNat reason) (m.requester.val / 2)) (if_pos hvalid)

/-- A YIELD is noted and acknowledged. -/
theorem yieldRequest_noted (hw : Watched d m 5 w) : let w' := yieldNoted (dropOwnHeld w m.requester.val) m.requester.val d.now
    yieldRequest d m = examineHeld (answerReq (setWatch d w') w' m.requester.val 5 m.number.toNat 0) (m.requester.val / 2) := by
  intro w'
  have hvalid : w'.valid = true := (yieldNoted_valid ..).trans ((dropOwnHeld_valid ..).trans (valid_of_watched hw))
  rw [yieldRequest, claimRequest_atWitness hw]
  exact congrArg (fun reason => examineHeld (answerReq (setWatch d w') w' m.requester.val 5 m.number.toNat reason) (m.requester.val / 2)) (if_pos hvalid)

/-! ### TAKEOVER at the witness (R241) -/

theorem heldByOther_none {o : Nat} (h : w.held = none) : heldByOther w o = none := by rw [heldByOther, h, Option.filter_none]

theorem heldByOther_some {o : Nat} {h : HeldTakeover} (hheld : w.held = some h) (hother : h.requester ≠ o) : heldByOther w o = some h := by
  rw [heldByOther, hheld]
  exact Option.filter_some_pos (bne_iff_ne.mpr hother)

section
variable (hw : Watched d m 1 w) (hstale : w.stale ≠ staleCode m.requester.val)
include hw hstale

/-- The twin that asks is the one whose TAKEOVER is held, or none is, and its conditions hold. -/
theorem takeoverAt_grants (hfree : heldByOther w m.requester.val = none) (hok : takeoverOk d w m.requester.val = true) :
    takeoverAt d w m = grantReq d { w with held := none } 1 0 0 m.requester.val m.number.toNat := by
  rw [takeoverAt, witnessed_watched hw (.inr hstale)]
  simp only [hfree, hok, if_true]

/-- The other twin's TAKEOVER stood first: it is granted, and this one is answered CLAIM_MOVED. -/
theorem takeoverAt_grantsOther {h : HeldTakeover} (hheld : w.held = some h) (hother : h.requester ≠ m.requester.val) : let e := grantReq d { w with held := none } 1 0 0 h.requester h.number
    takeoverAt d w m = answerReq e (ngetD e.watch w.pair w) m.requester.val 1 m.number.toNat 1 := by
  rw [takeoverAt, witnessed_watched hw (.inr hstale)]
  simp only [heldByOther_some hheld hother]

/-- The twin of a TAKEOVER lives: it is held. -/
theorem takeoverAt_holds (hnone : w.held = none) (hok : takeoverOk d w m.requester.val = false) :
    takeoverAt d w m = setWatch d { w with held := some ⟨m.requester.val, m.number.toNat, d.now, m.cSeen.toNat⟩ } := by
  rw [takeoverAt, witnessed_watched hw (.inr hstale)]
  simp only [heldByOther_none hnone, hok, Bool.false_eq_true, if_false, hnone, Option.map_none, Option.getD_none]

end
end

/-! ### Times at the witness (R241, Table PAI-5) -/

section
variable {d : Dev} {pair : Nat} {w : Watch} (hrecord : nget d.watch pair = some w)
include hrecord

theorem examineHeld_waits {h : HeldTakeover} (hheld : w.held = some h) (hseen : h.cSeen = w.cw) (hok : takeoverOk d w h.requester = false) : examineHeld d pair = d := by
  simp only [examineHeld, hrecord, hheld, hseen, hok, ne_eq, not_true_eq_false, Bool.false_eq_true, if_false]

theorem heldTime_held {h : HeldTakeover} (hheld : w.held = some h) : heldTime d pair = some (h.since + ms 2) := by
  rw [heldTime, hrecord, Option.bind_some, hheld, Option.map_some]

/-- Held for 2 ms without its conditions, a TAKEOVER is answered TWIN_ALIVE. -/
theorem takeoverHoldExpiry_due {h : HeldTakeover} (hheld : w.held = some h) (hseen : h.cSeen = w.cw) (hok : takeoverOk d w h.requester = false) (hdue : due d (h.since + ms 2) = true) :
    takeoverHoldExpiry d pair = answerReq (setWatch d { w with held := none }) w h.requester 1 h.number 3 := by
  simp only [takeoverHoldExpiry, examineHeld_waits hrecord hheld hseen hok, hrecord, hheld, hdue, if_true]

theorem yieldFlagTime_even {t : Nat} (heven : w.yieldEven = some t) (hodd : w.yieldOdd = none) : yieldFlagTime d pair = some (t + ms 10) := by
  simp only [yieldFlagTime, hrecord, Option.bind_some, heven, hodd, Option.toList_some, Option.toList_none, List.append_nil, List.map_cons, List.map_nil, soonest_single]

theorem witnessYieldFlagExpiry_even {t : Nat} (heven : w.yieldEven = some t) (hodd : w.yieldOdd = none) (hdue : due d (t + ms 10) = true) :
    witnessYieldFlagExpiry d pair = setWatch d { w with yieldEven := none } := by
  simp only [witnessYieldFlagExpiry, hrecord, heven, hodd, hdue, if_true]

end

theorem does_takeoverHoldExpiry_reached {s : State} {pair : BitVec 13} {w : Watch} {h : HeldTakeover} (hrecord : nget s.dev.watch pair.toNat = some w) (hheld : w.held = some h)
    (hseen : h.cSeen = w.cw) (hok : takeoverOk (reach s.dev (h.since + ms 2)) w h.requester = false) :
    Does (.takeoverHoldExpiry pair) s (answerReq (setWatch (reach s.dev (h.since + ms 2)) { w with held := none }) w h.requester 1 h.number 3) := by
  refine does_congr (does_takeoverHoldExpiry s pair) ?_
  rw [heldTime_held hrecord hheld, reachO]
  exact takeoverHoldExpiry_due (by rw [reach_watch, hrecord]) hheld hseen hok (due_reach ..)

theorem does_witnessYieldFlagExpiry_reached {s : State} {pair : BitVec 13} {w : Watch} {t : Nat} (hrecord : nget s.dev.watch pair.toNat = some w) (heven : w.yieldEven = some t)
    (hodd : w.yieldOdd = none) : Does (.witnessYieldFlagExpiry pair) s (setWatch (reach s.dev (t + ms 10)) { w with yieldEven := none }) := by
  refine does_congr (does_witnessYieldFlagExpiry s pair) ?_
  rw [yieldFlagTime_even hrecord heven hodd, reachO]
  exact witnessYieldFlagExpiry_even (by rw [reach_watch, hrecord]) heven hodd (due_reach ..)

theorem witnessGrants : Claims.WitnessGrants := by
  refine ⟨?takeover, ?other, ?held, ?failback, ?reclaim, ?join, ?query, ?yield, ?badKind, ?holdEnds, ?flagEnds⟩
  case takeover =>
    intro s v m w o hv hw hstale hfree hok
    exact does_heard (does_takeover s ⟨v, m⟩) hv ((claimRequest_atWitness hw ..).trans (by rw [takeoverAt_grants hw hstale hfree hok]))
  case other =>
    intro s v m w h o e hv hw hstale hheld hother
    exact does_heard (does_takeover s ⟨v, m⟩) hv ((claimRequest_atWitness hw ..).trans (by rw [takeoverAt_grantsOther hw hstale hheld hother]))
  case held =>
    intro s v m w o hv hw hstale hok hnone
    exact does_heard (does_takeover s ⟨v, m⟩) hv ((claimRequest_atWitness hw ..).trans (by rw [takeoverAt_holds hw hstale hnone hok]))
  case failback =>
    intro s v m w o w' hv hw hstale hjoined
    exact does_heard (does_failback s ⟨v, m⟩) hv ((claimRequest_atWitness hw ..).trans (by rw [otherKind_granted hw (.inr hstale) (by simp [hjoined])]))
  case reclaim =>
    intro s v m w o w' hv hw hjoined
    exact does_heard (does_reclaim s ⟨v, m⟩) hv ((claimRequest_atWitness hw ..).trans (by rw [otherKind_granted hw (.inl rfl) (by simp [hjoined])]))
  case join =>
    intro s v m w o w' hv hw hstale hsolo
    exact does_heard (does_join s ⟨v, m⟩) hv ((claimRequest_atWitness hw ..).trans (by rw [otherKind_granted hw (.inr hstale) (by simp [hsolo])]))
  case query =>
    intro s v m w o w' hv hw
    exact does_heard (does_query s ⟨v, m⟩) hv (queryRequest_answered hw)
  case yield =>
    intro s v m w o w' w2 hv hw
    exact does_heard (does_yield s ⟨v, m⟩) hv (yieldRequest_noted hw)
  case badKind =>
    intro s v m w k o hv hw
    exact does_heard (does_claimReservedKind s ⟨v, m⟩ k) hv (claimRequest_badKind hw none)
  case holdEnds => exact fun s pair w h hrecord hheld hseen hok => does_takeoverHoldExpiry_reached hrecord hheld hseen hok
  case flagEnds => exact fun s pair w t hrecord heven hodd => does_witnessYieldFlagExpiry_reached hrecord heven hodd

/-- Settles O44: a request that passes what is common to the kinds is decided by the record's own fields, and a grant is one write of the record. Timers run once local time has reached their end
(notes/assumptions 3). -/
theorem witnessAndClaims : Obligations.WitnessAndClaims := ⟨witnessGrants, grantsRaiseTheClaim⟩

end Sys2Proof.Machine
end

section
/-!
SUPPORT. Claims that a twin has outstanding, drains, failbacks, resync and compare passes (spec/11_pair_custody.md R238 to R253).
-/
namespace Sys2Proof.Machine
open Sys2Proof

/-! ### What custody decides by stands while time passes -/

section
variable (d : Dev) (t : Nat)

theorem ordinal_reach : ordinal (reach d t) = ordinal d := by rw [ordinal, reach_ldr, ordinal]

theorem twinOrd_reach : twinOrd (reach d t) = twinOrd d := by rw [twinOrd, reach_ldr, twinOrd]

theorem custodyOn_reach : custodyOn (reach d t) = custodyOn d := by simp only [custodyOn, standalone, reach_ldr, isDown_reach]

theorem impairment_reach : impairment (reach d t) = impairment d := by
  have hcell : impaired (reach d t) = impaired d := by
    funext c
    rw [impaired, cellFenced, reach_flt, getHbm, reach_hbm, getMed_reach, impaired, cellFenced, getHbm]
  rw [impairment, hcell, impairment]

theorem healthMax_reach : healthMax (reach d t) = healthMax d := by rw [healthMax, hfld_reach, healthMax]

theorem twinImpairment_reach : twinImpairment (reach d t) = twinImpairment d := by rw [twinImpairment, reach_cus, twinImpairment]

theorem mayFailback_reach : mayFailback (reach d t) = mayFailback d := by
  simp only [mayFailback, custodyOn_reach, impairment_reach, healthMax_reach, twinImpairment_reach, reach_cus]

theorem preferredAway_reach : preferredAway (reach d t) = preferredAway d := by simp only [preferredAway, reach_chm, twinOrd_reach, ordinal_reach]

end

theorem isDown_of_custodyOn {d : Dev} (h : custodyOn d = true) : isDown d = false := by
  simp only [custodyOn, Bool.and_eq_true, Bool.not_eq_true'] at h
  exact h.2

/-! ### Grants and answers to the device (R240, R242) -/

section
variable {d : Dev} {m : ClaimAns} (hon : custodyOn d = true)
include hon

theorem claimGrant_takeover {o : ClaimOut} (hok : ansOk d m = true) (hout : d.cus.out = some o) (hnumber : o.number = m.number.toNat) (hkind : kindCode o.kind = m.kind.toNat)
    (hrises : d.cus.pairClaim < m.claim.toNat) (htake : o.kind = .takeover) :
    claimGrant d m = { bump d .CUS_CNT 0 4 with cus.pairClaim := m.claim.toNat, cus.ownClaim := m.claim.toNat, cus.out := none,
                                                cus.takeover := some ⟨m.claim.toNat, (bump d .CUS_CNT 0 4).now + leaseNs (bump d .CUS_CNT 0 4)⟩ } := by
  simp only [claimGrant, hon, hok, bump_cus, hout, Bool.not_true, Bool.false_eq_true, if_false]
  exact (if_pos ⟨hnumber, hkind, hrises⟩).trans (if_pos htake)

theorem claimGrant_unverified (hok : ansOk d m = false) : claimGrant d m = bump d .CUS_CNT 0 8 := by
  simp only [claimGrant, hon, hok, Bool.not_true, Bool.not_false, Bool.false_eq_true, if_false, if_true]

/-- The answer to a QUERY shows the record that the device already has: admission goes on. -/
theorem claimAnswer_query {o : ClaimOut} (hok : ansOk d m = true) (hwitness : m.kind ≠ 7) (hout : d.cus.out = some o) (hnumber : o.number = m.number.toNat) (hquery : o.kind = .query)
    (hclaim : m.claim.toNat = d.cus.pairClaim) :
    claimAnswer d m = custodyTurn (recordLearned { bump d .CUS_CNT 0 5 with cus.out := none, cus.halted := none }) := by
  have hends : answerOut (bump d .CUS_CNT 0 5) m = { bump d .CUS_CNT 0 5 with cus.out := none, cus.halted := none } := by
    simp only [answerOut, bump_cus, hout, hnumber, hquery, ne_eq, not_true_eq_false, if_false]
  simp only [claimAnswer, hon, hok, Bool.not_true, Bool.false_eq_true, if_false, if_neg hwitness, bump_cus, hclaim, Nat.le_refl, if_true, hends]

end

/-! ### Times of an outstanding claim (R242, R244) -/

theorem does_takeoverLeaseWaitEnd_reached {s : State} {t : TakeoverWait} (htake : s.dev.cus.takeover = some t) :
    Does .takeoverLeaseWaitEnd s (applyGrant (reach s.dev t.applyAt) 1 0 0 t.claim (ordinal s.dev)) := by
  refine does_congr (does_takeoverLeaseWaitEnd s) ?_
  rw [htake, Option.map_some, reachO]
  simp only [takeoverLeaseWaitEnd, reach_cus, htake, due_reach, if_true, ordinal_reach]

theorem claimRequestResend_due {d : Dev} {o : ClaimOut} {w : Nat} (hout : d.cus.out = some o) (hwitness : d.cus.witness = some w) (hcause : causePersists d o.kind = true) (hopen : o.answered = false)
    (hdue : due d o.next = true) :
    claimRequestResend d = putClaim { d with cus.out := some { o with next := d.now + ms 1 } } w (kindCode o.kind) o.scope o.chamber o.number := by
  simp only [claimRequestResend, hout, hwitness, hdue, hcause, hopen, Bool.not_true, Bool.false_eq_true, if_false]

theorem does_claimRequestResend_reached {s : State} {o : ClaimOut} {w : Nat} (hout : s.dev.cus.out = some o) (hwitness : s.dev.cus.witness = some w)
    (hcause : causePersists (reach s.dev o.next) o.kind = true) (hopen : o.answered = false) : let d := reach s.dev o.next
    Does .claimRequestResend s (putClaim { d with cus.out := some { o with next := d.now + ms 1 } } w (kindCode o.kind) o.scope o.chamber o.number) := by
  refine does_congr (does_claimRequestResend s) ?_
  rw [hout, Option.map_some, reachO]
  exact claimRequestResend_due (by rw [reach_cus, hout]) (by rw [reach_cus, hwitness]) hcause hopen (due_reach ..)

theorem yieldLapse_due {d : Dev} {t : Nat} (hyield : d.cus.yieldedAt = some t) (hnone : d.cus.out = none) (hdue : due d (t + ms 10) = true) :
    yieldLapse d = custodyTurn (sendStatusMsg { d with cus.yieldedAt := none }) := by
  simp only [yieldLapse, hyield, hdue, if_true, hnone, Option.any_none, Bool.false_eq_true, if_false]

theorem does_yieldLapse_reached {s : State} {t : Nat} (hyield : s.dev.cus.yieldedAt = some t) (hnone : s.dev.cus.out = none) :
    Does .yieldLapse s (custodyTurn (sendStatusMsg { reach s.dev (t + ms 10) with cus.yieldedAt := none })) := by
  refine does_congr (does_yieldLapse s) ?_
  rw [hyield, Option.map_some, reachO]
  exact yieldLapse_due (by rw [reach_cus, hyield]) (by rw [reach_cus, hnone]) (due_reach ..)

/-! ### Messages of the twin (R238, R240, R244, R251) -/

section
variable {d : Dev} {m : ClaimReq} (hup : isDown d = false) (htwin : m.requester.val = twinOrd d) (hpair : standalone d = false) (hunwatched : nget d.watch (m.requester.val / 2) = none)
include hup htwin hpair hunwatched

/-- A claim request of the twin goes to the handling at the twin once its CLAIM has been seen. -/
theorem claimRequest_atTwin {kind : Nat} (htag : reqTagOk d m kind = true) (f : Dev → Dev) (witness : Option (Dev → Watch → Dev)) :
    claimRequest d m kind (some f) witness = f (claimSeen d m.requester.val m.cSeen.toNat) := by
  simp only [claimRequest, hup, htag, hunwatched, Bool.not_true, Bool.false_eq_true, if_false]
  exact if_pos ⟨htwin, hpair⟩

theorem yieldRequest_ofTwin (htag : reqTagOk d m 5 = true) : let e := claimSeen d m.requester.val m.cSeen.toNat
    yieldRequest d m = custodyTurn { e with cus.twinYield := some e.now } := by
  rw [yieldRequest, claimRequest_atTwin hup htwin hpair hunwatched htag]

/-- DRAIN reaches a twin of a pair that has a witness: the drain begins. -/
theorem drainCommand_ofTwin (htag : reqTagOk d m 7 = true) : let e := claimSeen d m.requester.val m.cSeen.toNat
    e.cus.witness.isSome = true → drainCommand d m = beginDrain e m.scope.toNat m.chamber.toNat (some m.number.toNat) := by
  intro e hwitness
  rw [drainCommand, claimRequest_atTwin hup htwin hpair hunwatched htag]
  exact if_neg (by rw [Option.isNone_iff_eq_none]; exact Option.isSome_iff_ne_none.mp hwitness)

end

theorem claimStatus_ofTwin {d : Dev} {m : StatusAns} (named : Option Nat) (hon : custodyOn d = true) (htag : statusTagOk d m = true) (hpair : m.pair.toNat = m.sender.val / 2)
    (htwin : m.sender.val = twinOrd d) (hpaired : standalone d = false) : claimStatus d m named = twinStatusSeen d m named := by
  have hfits : (!statusTagOk d m || m.pair.toNat != m.sender.val / 2 || !(m.sender.val == twinOrd d && !standalone d || nhas d.watch (m.sender.val / 2))) = false := by
    simp [htag, hpair, htwin, hpaired]
  simp only [claimStatus, isDown_of_custodyOn hon, hfits, Bool.false_eq_true, if_false, if_pos (And.intro htwin hpaired), hon, if_true]

theorem twinStatusSeen_settled {d : Dev} (m : StatusAns) (named : Option Nat) (hsettled : d.cus.settled = true) :
    let e : Dev := { d with cus.twin := some (statusOf m) }
    twinStatusSeen d m named = custodyTurn (wholeDone (claimSeen (twinForms e d.cus.twin (statusOf m)) (twinOrd e) (statusOf m).claim)) := by
  exact if_pos hsettled

theorem claimsOutstanding : Claims.ClaimsOutstanding := by
  refine ⟨?grant, ?unverified, ?answer, ?leaseWait, ?resend, ?lapse, ?yield, ?drain, ?status⟩
  case grant =>
    intro s v m o c d hv hon hok hout hnumber hkind hrises htake
    exact does_heard (does_claimGrant s ⟨v, m⟩) hv (claimGrant_takeover hon hok hout hnumber hkind hrises htake)
  case unverified => exact fun s v m hv hon hok => does_heard (does_claimGrant s ⟨v, m⟩) hv (claimGrant_unverified hon hok)
  case answer =>
    intro s v m o d hv hon hok hwitness hout hnumber hquery hclaim
    exact does_heard (does_claimAnswer s ⟨v, m⟩) hv (claimAnswer_query hon hok hwitness hout hnumber hquery hclaim)
  case leaseWait => exact fun s t htake => does_takeoverLeaseWaitEnd_reached htake
  case resend => exact fun s o w hout hwitness hcause hopen => does_claimRequestResend_reached hout hwitness hcause hopen
  case lapse => exact fun s t hyield hnone => does_yieldLapse_reached hyield hnone
  case yield =>
    intro s v m d e hv hup htag htwin hpair hunwatched
    exact does_heard (does_yield s ⟨v, m⟩) hv (yieldRequest_ofTwin hup htwin hpair hunwatched htag)
  case drain =>
    intro s v m d e hv hup htag htwin hpair hunwatched hwitness
    exact does_heard (does_drain s ⟨v, m⟩) hv (drainCommand_ofTwin hup htwin hpair hunwatched htag hwitness)
  case status =>
    intro s v m named d hv hon htag hpair htwin hpaired hsettled
    exact does_heard (does_claimStatus s ⟨v, m⟩ named) hv ((claimStatus_ofTwin _ hon htag hpair htwin hpaired).trans (twinStatusSeen_settled m _ hsettled))

/-! ### Drains and failback (R251, R252) -/

section
variable {d : Dev} {x : Drain} (hdrain : d.cus.drain = some x)
include hdrain

theorem drainPointReached_idle (hopen : x.reached = none) (hidle : drainBusy d x = false) :
    drainPointReached d = answerDrain { d with cus.drain := some { x with reached := some d.now } } (x.number.getD 0) 0 := by
  simp only [drainPointReached, hdrain]
  exact if_pos ⟨hopen, hidle⟩

theorem drainTime_open (hopen : x.reached = none) : drainTime d = some (x.began + ms (clampTo 1 50 (hfld d .CUS_CFG2 23 16))) := by
  simp only [drainTime, hdrain, Option.bind_some, hopen, Option.isNone_none, if_true]

theorem drainTimeout_due (hopen : x.reached = none) (hdue : due d (x.began + ms (clampTo 1 50 (hfld d .CUS_CFG2 23 16))) = true) :
    drainTimeout d = custodyTurn (endDrain (answerDrain d (x.number.getD 0) 7)) := by
  simp only [drainTimeout, hdrain]
  exact if_pos ⟨hopen, hdue⟩

variable {t : Nat} (hreached : x.reached = some t)
include hreached

theorem reclaimTime_reached : reclaimTime d = some (t + ms 5) := by rw [reclaimTime, hdrain, Option.bind_some, hreached, Option.map_some]

/-- 5 ms after the drain point the witness is asked for the drained chambers, when it has not been asked. -/
theorem reclaimTimer_due (hnone : d.cus.out = none) (hdue : due d (t + ms 5) = true) : reclaimTimer d = askWitness d .reclaim x.scope x.chamber := by
  simp only [reclaimTimer, hdrain]
  refine if_pos ⟨?_, ?_⟩
  · rw [hreached, Option.any_some, hdue]
  · rw [hnone, Option.any_none]

end

theorem does_drainTimeout_reached {s : State} {x : Drain} (hdrain : s.dev.cus.drain = some x) (hopen : x.reached = none) :
    Does .drainTimeout s (custodyTurn (endDrain (answerDrain (reach s.dev (x.began + ms (clampTo 1 50 (hfld s.dev .CUS_CFG2 23 16)))) (x.number.getD 0) 7))) := by
  refine does_congr (does_drainTimeout s) ?_
  rw [drainTime_open hdrain hopen, reachO]
  exact drainTimeout_due (by rw [reach_cus, hdrain]) hopen (by rw [hfld_reach, due_reach])

theorem does_reclaimTimer_reached {s : State} {x : Drain} {t : Nat} (hdrain : s.dev.cus.drain = some x) (hreached : x.reached = some t) (hnone : s.dev.cus.out = none) :
    Does .reclaimTimer s (askWitness (reach s.dev (t + ms 5)) .reclaim x.scope x.chamber) := by
  refine does_congr (does_reclaimTimer s) ?_
  rw [reclaimTime_reached hdrain hreached, reachO]
  exact reclaimTimer_due (by rw [reach_cus, hdrain]) hreached (by rw [reach_cus, hnone]) (due_reach ..)

/-- FAILBACK_S of Joined have passed: the twin is asked to drain the chambers that prefer this device. -/
theorem does_failbackTimer_reached {s : State} (hwait : hfld s.dev .CUS_CFG2 31 24 ≠ 0) (hmay : mayFailback s.dev = true) (hjoined : s.dev.cus.state = .joined)
    (haway : preferredAway s.dev = true) (hasked : s.dev.cus.drainOut = none) (hwanted : s.dev.cus.failback = none) :
    Does .failbackTimer s (sendDrain (reach s.dev (s.dev.cus.joinedSince + sec (hfld s.dev .CUS_CFG2 31 24)))) := by
  have htime : failbackTime s.dev = some (s.dev.cus.joinedSince + sec (hfld s.dev .CUS_CFG2 31 24)) := if_pos ⟨hwait, hjoined, haway⟩
  refine does_congr (does_failbackTimer s) ?_
  rw [htime, reachO]
  simp only [failbackTimer, hfld_reach, mayFailback_reach, preferredAway_reach, reach_cus, due_reach]
  exact if_pos ⟨hwait, hmay, hjoined, haway, hasked, hwanted, trivial⟩

section
variable {d : Dev} {w : Writer} (ha : Accepts d w .CUS_CTRL 0)
include ha

theorem failbackNow_may (hmay : mayFailback (asked d w .CUS_CTRL 0 0) = true) : failbackNow d w = sendDrain (asked d w .CUS_CTRL 0 0) :=
  (command_accepted _ _ _ _ _ _ ha).trans (if_pos hmay)

theorem handover_paired (hon : custodyOn (asked d w .CUS_CTRL 0 0) = true) (hwitness : (asked d w .CUS_CTRL 0 0).cus.witness.isSome = true) :
    handover d w = beginDrain (asked d w .CUS_CTRL 0 0) 0 0 none :=
  (command_accepted _ _ _ _ _ _ ha).trans (if_pos (by rw [hon, hwitness, Bool.and_self]))

/-- A pair without a witness ignores HANDOVER. -/
theorem handover_unwitnessed (hnone : (asked d w .CUS_CTRL 0 0).cus.witness = none) : handover d w = asked d w .CUS_CTRL 0 0 :=
  (command_accepted _ _ _ _ _ _ ha).trans (if_neg (by rw [hnone, Option.isSome_none, Bool.and_false]; exact Bool.false_ne_true))

theorem compareNow_joined (hon : custodyOn (asked d w .CUS_CTRL 0 0) = true) (hjoined : (asked d w .CUS_CTRL 0 0).cus.state = .joined) :
    compareNow d w = compareStep { asked d w .CUS_CTRL 0 0 with cus.comparing := some 0 } :=
  (command_accepted _ _ _ _ _ _ ha).trans (if_pos (by rw [hon, hjoined]; rfl))

end

/-! ### Compare passes and resync copies (R249, R253) -/

theorem does_comparePassTimer_reached {s : State} (hon : custodyOn s.dev = true) (hjoined : s.dev.cus.state = .joined) (hidle : s.dev.cus.comparing = none) (hdays : hfld s.dev .CUS_CFG2 7 0 ≠ 0) :
    let d := reach s.dev s.dev.cus.nextCompare
    Does .comparePassTimer s (compareStep { d with cus.comparing := some 0, cus.nextCompare := d.now + sec (hfld s.dev .CUS_CFG2 7 0 * 86400) }) := by
  have htime : compareTime s.dev = some s.dev.cus.nextCompare := if_pos (by simp [hon, hjoined, hidle, hdays])
  refine does_congr (does_comparePassTimer s) ?_
  rw [htime, reachO]
  simp only [comparePassTimer, custodyOn_reach, hon, reach_cus, hjoined, hidle, hfld_reach, due_reach, Bool.not_true, Bool.false_or, bne_self_eq_false,
    Option.isSome_none, Bool.false_eq_true, if_false]
  exact if_pos ⟨hdays, trivial⟩

section
variable {d : Dev} {c : Nat} (hon : custodyOn d = true) (hresync : d.cus.state = .resync) (hdue : due d d.cus.nextCopy = true)
include hon hresync hdue

/-- A region that the twin pulls is copied. -/
theorem resyncCopy_pulled {n r : Nat} (hpresent : absentPages d c n r = []) : resyncCopy d c (some (n, r)) = sendRegion d c n r := by
  simp only [resyncCopy, hon, hresync, hdue, hpresent, Bool.not_true, Bool.false_or, bne_self_eq_false, Bool.false_eq_true, if_false]

/-- The cell's next marked region is copied. -/
theorem resyncCopy_marked {k : Nat} (hfresh : d.cus.stale = false) (hmark : (d.cus.marks.find? fun p => p.1 / 2 ^ 40 == c && !nhas d.cus.copying p.1) = some (k, 0))
    (hpresent : absentPages d c (k / 2 ^ 22 % 2 ^ 16) (k % 2 ^ 22) = []) : resyncCopy d c none = sendRegion d c (k / 2 ^ 22 % 2 ^ 16) (k % 2 ^ 22) := by
  simp only [resyncCopy, hon, hresync, hdue, hfresh, hmark, Option.map_some, hpresent, Bool.not_true, Bool.false_or, bne_self_eq_false, Bool.false_eq_true, if_false]

end

theorem resyncTime_resync {d : Dev} (hon : custodyOn d = true) (hresync : d.cus.state = .resync) : resyncTime d = some d.cus.nextCopy := if_pos (by rw [hon, hresync]; rfl)

section
variable {s : State} {c : CellNo} (hon : custodyOn s.dev = true) (hresync : s.dev.cus.state = .resync)
include hon hresync

/-- In RESYNC a copy is taken up when the share of the twin links lets it leave. -/
theorem does_resyncCopy_reached (pulled : Option (Fin 65536 × BitVec 22)) :
    Does (.resyncCopy c pulled) s (resyncCopy (reach s.dev s.dev.cus.nextCopy) c.val (pulled.map fun x => (x.1.val, x.2.toNat))) := by
  refine does_congr (does_resyncCopy s c pulled) ?_
  rw [resyncTime_resync hon hresync, reachO]

theorem does_resyncCopy_pulled {n : Fin 65536} {r : BitVec 22} (hpresent : absentPages (reach s.dev s.dev.cus.nextCopy) c.val n.val r.toNat = []) :
    Does (.resyncCopy c (some (n, r))) s (sendRegion (reach s.dev s.dev.cus.nextCopy) c.val n.val r.toNat) :=
  does_congr (does_resyncCopy_reached hon hresync _) (resyncCopy_pulled (by rw [custodyOn_reach, hon]) (by rw [reach_cus, hresync]) (by rw [reach_cus, due_reach]) hpresent)

theorem does_resyncCopy_marked {k : Nat} (hfresh : s.dev.cus.stale = false) : let d := reach s.dev s.dev.cus.nextCopy
    (d.cus.marks.find? fun p => p.1 / 2 ^ 40 == c.val && !nhas d.cus.copying p.1) = some (k, 0) → absentPages d c.val (k / 2 ^ 22 % 2 ^ 16) (k % 2 ^ 22) = [] →
    Does (.resyncCopy c none) s (sendRegion d c.val (k / 2 ^ 22 % 2 ^ 16) (k % 2 ^ 22)) := by
  intro d hmark hpresent
  exact does_congr (does_resyncCopy_reached hon hresync none)
    (resyncCopy_marked (by rw [custodyOn_reach, hon]) (by rw [reach_cus, hresync]) (by rw [reach_cus, due_reach]) (by rw [reach_cus, hfresh]) hmark hpresent)

end

theorem drainsAndResync : Claims.DrainsAndResync := by
  refine ⟨?drained, ?drainEnds, ?reclaim, ?failback, ?failbackNow, ?handover, ?unwitnessed, ?compareNow, ?compare, ?pulled, ?marked⟩
  case drained => exact fun s x hdrain hopen hidle => does_congr (does_drainPointReached s) (drainPointReached_idle hdrain hopen hidle)
  case drainEnds => exact fun s x hdrain hopen => does_drainTimeout_reached hdrain hopen
  case reclaim => exact fun s x t hdrain hreached hnone => does_reclaimTimer_reached hdrain hreached hnone
  case failback => exact fun s hwait hmay hjoined haway hasked hwanted => does_failbackTimer_reached hwait hmay hjoined haway hasked hwanted
  case failbackNow => exact fun s w ha hmay => does_congr (does_failbackNow s w) (failbackNow_may ha hmay)
  case handover => exact fun s w ha hon hwitness => does_congr (does_handover s w) (handover_paired ha hon hwitness)
  case unwitnessed => exact fun s w ha hnone => does_congr (does_handover s w) (handover_unwitnessed ha hnone)
  case compareNow => exact fun s w ha hon hjoined => does_congr (does_compareNow s w) (compareNow_joined ha hon hjoined)
  case compare => exact fun s hon hjoined hidle hdays => does_comparePassTimer_reached hon hjoined hidle hdays
  case pulled => exact fun s c n r hon hresync hpresent => does_resyncCopy_pulled hon hresync hpresent
  case marked => exact fun s c k hon hresync hfresh hmark hpresent => does_resyncCopy_marked hon hresync hfresh hmark hpresent

/-- Settles O45: a claim outstanding by what its grant, its answer or its time brings, a drain by the requests still in it, and a region's copy by the pages at hand. Timers run once local time has
reached their end (notes/assumptions 3). -/
theorem claimsDrainsResync : Obligations.ClaimsDrainsResync := ⟨claimsOutstanding, drainsAndResync, custodyCommandsComplete⟩

end Sys2Proof.Machine
end

section
/-!
SUPPORT. What the device leaves settled at the end of each step, and the step itself (spec/16_power.md R360, R361, spec/18_management.md R396 to R400).
-/
namespace Sys2Proof.Machine
open Sys2Proof

/-! ### Every command is one operation of the device -/

/-- Each arm of the dispatch runs one operation. -/
theorem exists_does (i : Instr) (s : State) : ∃ e, Does i s e := by
  cases i <;> exact ⟨_, rfl⟩

theorem dev_tick (s : State) : (tick s).dev = afterStep { s.dev with now := s.dev.now + 1 } := by rw [tick]

theorem step_nil (d : Dev) : step ⟨d, []⟩ = .next (tick ⟨d, []⟩) := rfl

theorem step_cons (d : Dev) (c : Instr) (rest : List Instr) : step ⟨d, c :: rest⟩ = exec c ⟨d, rest⟩ := rfl

/-- After a step the device has done what follows by itself. -/
theorem dev_of_step {s t : State} (h : step s = .next t) : ∃ d, t.dev = afterStep d := by
  obtain ⟨d, pending⟩ := s
  cases pending with
  | nil =>
    rw [step_nil] at h
    rw [← Host.Outcome.next.inj h]
    exact ⟨_, dev_tick _⟩
  | cons c rest =>
    obtain ⟨e, he⟩ := exists_does c ⟨d, rest⟩
    unfold Does at he
    rw [step_cons, he] at h
    rw [← Host.Outcome.next.inj h]
    exact ⟨e, by dsimp only⟩

/-- Settles O1: each command runs one operation of the device, and that leaves the queue as it is (notes/assumptions 5). -/
theorem everyCommandAnswersANextState : Obligations.EveryCommandAnswersANextState := by
  intro c s
  obtain ⟨e, he⟩ := exists_does c s
  exact ⟨{ s with dev := afterStep e }, he, rfl⟩

/-- Settles O60: both halves are the two branches of a step (notes/assumptions 1). -/
theorem stepRunsTheFront : Obligations.StepRunsTheFront := by
  refine ⟨fun c rest s => rfl, fun s hempty => ?_⟩
  obtain ⟨d, pending⟩ := s
  subst hempty
  rw [step_nil, tick]

/-! ### The doze of every port stands -/

/-- e is at the same local time as d, and the link of each of its ports dozes or wakes as in d. -/
def SameDoze (d e : Dev) : Prop := e.now = d.now ∧ ∀ p, (getPort e p).doze = (getPort d p).doze

theorem SameDoze.refl (d : Dev) : SameDoze d d := ⟨rfl, fun _ => rfl⟩

theorem SameDoze.trans {d e f : Dev} (h : SameDoze d e) (h' : SameDoze e f) : SameDoze d f := ⟨h'.1.trans h.1, fun p => (h'.2 p).trans (h.2 p)⟩

theorem sameDoze_of_eq {d e : Dev} (hnow : e.now = d.now) (hports : e.ports = d.ports) : SameDoze d e := ⟨hnow, fun p => by rw [getPort_of e d p hports]⟩

theorem sameDoze_ite {P : Prop} [Decidable P] {d x y : Dev} (hx : SameDoze d x) (hy : SameDoze d y) : SameDoze d (if P then x else y) := by
  split
  · exact hx
  · exact hy

theorem sameDoze_forEach {α : Type} {f : Dev → α → Dev} (hf : ∀ e x, SameDoze e (f e x)) (l : List α) (d : Dev) : SameDoze d (forEach l d f) := by
  induction l generalizing d with
  | nil => exact .refl d
  | cons x l ih => exact (hf d x).trans (ih (f d x))

theorem sameDoze_setPort (d : Dev) (p : Nat) (v : Port) (h : v.doze = (getPort d p).doze) : SameDoze d (setPort d p v) := by
  refine ⟨rfl, fun q => ?_⟩
  by_cases hq : q = p
  · subst hq
    rw [getPort_setPort_same, h]
  · rw [getPort_setPort_ne d v hq]

theorem sameDoze_modPort (d : Dev) (p : Nat) (f : Port → Port) (h : (f (getPort d p)).doze = (getPort d p).doze) : SameDoze d (modPort d p f) := sameDoze_setPort d p _ h

theorem sameDoze_bumpBy (d : Dev) (r : RegId) (c i n : Nat) : SameDoze d (bumpBy d r c i n) := ⟨rfl, fun _ => rfl⟩

theorem sameDoze_bump (d : Dev) (r : RegId) (c i : Nat) : SameDoze d (bump d r c i) := ⟨rfl, fun _ => rfl⟩

theorem sameDoze_pfcGroup (c : Nat) (d : Dev) (g : Nat) : SameDoze d (pfcGroup c d g) := by
  obtain ⟨-, -, e⟩ | ⟨-, -, e⟩ | ⟨-, e⟩ := pfcGroup_cases c d g <;> rw [e]
  · exact sameDoze_setPort d c _ rfl
  · exact sameDoze_setPort d c _ rfl
  · exact .refl d

theorem sameDoze_pfcUpdate (d : Dev) (c : Nat) : SameDoze d (pfcUpdate d c) := sameDoze_ite (sameDoze_forEach (sameDoze_pfcGroup c) [0, 1, 2] d) (.refl d)

theorem sameDoze_journalAdd (d : Dev) (r : LogRec) : SameDoze d (journalAdd d r) :=
  sameDoze_ite (sameDoze_ite (sameDoze_of_eq rfl rfl) (sameDoze_of_eq rfl rfl)) (.refl d)

theorem sameDoze_logRecord (d : Dev) (sev cls cause unit requester reqCell access : Nat) (merged : Bool) (addr : Nat) (detail : List Nat) :
    SameDoze d (logRecord d sev cls cause unit requester reqCell access merged addr detail) := by
  unfold logRecord
  extract_lets +onlyGivenNames d1 r src d2
  have h2 : SameDoze d d2 := sameDoze_of_eq rfl rfl
  clear_value d2
  split
  · exact (h2.trans (sameDoze_bump ..)).trans (sameDoze_journalAdd ..)
  · refine h2.trans (.trans (.trans ?_ (sameDoze_bump ..)) (sameDoze_journalAdd ..))
    exact sameDoze_of_eq rfl rfl

theorem sameDoze_capture (d : Dev) (x : Capture) : SameDoze d (capture d x) := by
  unfold capture
  dsimp only
  split <;> exact sameDoze_of_eq rfl rfl

/-- A fault of a class below 3 stops nothing. -/
theorem sameDoze_raise (d : Dev) (e : FaultEvt) (act : SevereAct) (h : e.cls < 3) : SameDoze d (raise d e act) := by
  unfold raise
  extract_lets +onlyGivenNames d1 d2 d3 caught merged d4 sev d5
  have h3 : SameDoze d d3 := sameDoze_of_eq rfl rfl
  have h4 : SameDoze d3 d4 := sameDoze_ite (sameDoze_capture ..) (.refl _)
  have h5 : SameDoze d4 d5 := sameDoze_ite (.refl _) (sameDoze_logRecord ..)
  rw [if_neg (Nat.not_le.mpr h)]
  exact (h3.trans h4).trans h5

theorem sameDoze_fenceCell (d : Dev) (c cause : Nat) : SameDoze d (fenceCell d c cause) := sameDoze_ite (.refl d) (sameDoze_of_eq rfl rfl)

theorem sameDoze_setBufs (d : Dev) (m : NMap Buf) : SameDoze d { d with res.bufs := m } := sameDoze_of_eq rfl rfl

theorem sameDoze_dropRef (d : Dev) (id : Nat) : SameDoze d (dropRef d id) := by
  have hunder : ∀ (b : Buf) (x : FaultEvt), x.cls < 3 → SameDoze d (raise (fenceCell { d with res.bufs := nset d.res.bufs id b } (bufCell id) 0x07) x) := fun b x hx =>
    ((sameDoze_setBufs d _).trans (sameDoze_fenceCell ..)).trans (sameDoze_raise _ _ _ hx)
  unfold dropRef
  dsimp only
  split
  · exact hunder _ _ (Nat.lt_succ_self 2)
  · exact sameDoze_ite (hunder _ _ (Nat.lt_succ_self 2)) (sameDoze_ite ((sameDoze_setBufs d _).trans (sameDoze_pfcUpdate ..)) (sameDoze_setBufs d _))

theorem sameDoze_dropBuf (d : Dev) (b : Option Nat) : SameDoze d (dropBuf d b) := by
  cases b with
  | none => exact .refl d
  | some id => exact sameDoze_dropRef d id

theorem sameDoze_emit (d : Dev) (p : Nat) (e : Egress) : SameDoze d (emit d p e) :=
  .trans (e := send (modPort d p fun q => { q with queue := q.queue.eraseP fun x => x.pcp == e.pcp }) (sentAt (fedTime d) e.frame)) (sameDoze_setPort d p _ rfl) (sameDoze_dropBuf ..)

theorem sameDoze_drainCtrl (n : Nat) (d : Dev) (p : Nat) : SameDoze d (drainCtrl n d p) := by
  induction n generalizing d with
  | zero => exact .refl d
  | succ n ih =>
    rw [drainCtrl]
    split
    · exact .refl d
    · exact sameDoze_ite (((sameDoze_modPort d p _ rfl).trans (sameDoze_emit ..)).trans (ih _)) (.refl d)

theorem sameDoze_drrTurn (n : Nat) (d : Dev) (p pcp : Nat) : SameDoze d (drrTurn n d p pcp) := by
  induction n generalizing d with
  | zero => exact .refl d
  | succ n ih =>
    rw [drrTurn]
    split
    · exact sameDoze_modPort d p _ rfl
    · exact sameDoze_ite (((sameDoze_modPort d p _ rfl).trans (sameDoze_emit ..)).trans (ih _)) (.refl d)

theorem sameDoze_drrRounds (n : Nat) (d : Dev) (p : Nat) : SameDoze d (drrRounds n d p) := by
  induction n generalizing d with
  | zero => exact .refl d
  | succ n ih =>
    refine sameDoze_ite (.refl d) ((sameDoze_forEach (fun e pcp => ?_) _ d).trans (ih _))
    exact sameDoze_ite (.refl e) ((sameDoze_modPort e p _ rfl).trans (sameDoze_drrTurn ..))

theorem sameDoze_drainPort (d : Dev) (p : Nat) : SameDoze d (drainPort d p) :=
  sameDoze_ite (.refl d) (sameDoze_ite ((sameDoze_drainCtrl ..).trans (sameDoze_drrRounds ..)) (sameDoze_drainCtrl ..))

/-! ### No port stands in the entry or the exit of doze after its time -/

/-- What a settled device asks of one port (R361). -/
def DozeSettled (d : Dev) (p : Nat) : Prop := due d (getPort d p).doze.deadline = true → (getPort d p).doze.st ≠ .entering ∧ (getPort d p).doze.st ≠ .exiting

theorem dozeSettled_congr {d e : Dev} {p : Nat} (hnow : e.now = d.now) (hdoze : (getPort e p).doze = (getPort d p).doze) (h : DozeSettled d p) : DozeSettled e p := by
  rw [DozeSettled, due, hdoze, hnow]
  exact h

/-- A port that has never been used neither enters nor leaves doze. -/
theorem dozeSettled_unlisted {d : Dev} {p : Nat} (h : p ∉ d.ports.map (·.1)) : DozeSettled d p := by
  have hport : getPort d p = {} := by
    cases hget : nget d.ports p with
    | none => rw [getPort, ngetD, hget, Option.getD_none]
    | some v => exact absurd (List.mem_map_of_mem (mem_of_nget hget)) h
  intro _
  rw [hport]
  exact ⟨DozeState.noConfusion, DozeState.noConfusion⟩

/-- What a change of one port's doze leaves: the time, and the doze of every other port. -/
def OnlyDozeOf (p : Nat) (d e : Dev) : Prop := e.now = d.now ∧ ∀ q, q ≠ p → (getPort e q).doze = (getPort d q).doze

theorem OnlyDozeOf.trans {p : Nat} {d e f : Dev} (h : OnlyDozeOf p d e) (h' : OnlyDozeOf p e f) : OnlyDozeOf p d f :=
  ⟨h'.1.trans h.1, fun q hq => (h'.2 q hq).trans (h.2 q hq)⟩

theorem SameDoze.only {d e : Dev} (h : SameDoze d e) (p : Nat) : OnlyDozeOf p d e := ⟨h.1, fun q _ => h.2 q⟩

theorem onlyDozeOf_modDoze (d : Dev) (p : Nat) (f : Doze → Doze) : OnlyDozeOf p d (modDoze d p f) :=
  ⟨rfl, fun q hq => by rw [modDoze, modPort, getPort_setPort_ne d _ hq]⟩

theorem getPort_modDoze_same (d : Dev) (p : Nat) (f : Doze → Doze) : (getPort (modDoze d p f) p).doze = f (getPort d p).doze := by
  rw [modDoze, modPort, getPort_setPort_same]

theorem onlyDozeOf_dozeWake (d : Dev) (p : Nat) : OnlyDozeOf p d (dozeWake d p) := by
  unfold dozeWake
  dsimp only
  split
  · exact (onlyDozeOf_modDoze d p _).trans ((sameDoze_bumpBy ..).only p)
  · split
    · exact (SameDoze.refl d).only p
    · exact (onlyDozeOf_modDoze d p _).trans ((sameDoze_bump ..).only p)
  · exact (SameDoze.refl d).only p

theorem onlyDozeOf_dozeStir (d : Dev) (p : Nat) : OnlyDozeOf p d (dozeStir d p) := by
  unfold dozeStir
  split
  · exact (onlyDozeOf_modDoze d p _).trans (onlyDozeOf_dozeWake ..)
  · exact (SameDoze.refl d).only p

/-- A port's turn settles its doze and leaves that of the others. -/
theorem dozeSettle_cases (d : Dev) (p : Nat) : OnlyDozeOf p d (dozeSettle d p) ∧ DozeSettled (dozeSettle d p) p := by
  have hstir := onlyDozeOf_dozeStir d p
  unfold dozeSettle
  generalize dozeStir d p = e at hstir ⊢
  dsimp only
  split
  · rename_i hdue
    exact ⟨hstir, fun h => absurd (h.symm.trans hdue) Bool.noConfusion⟩
  · split
    · split
      · refine ⟨hstir.trans (onlyDozeOf_modDoze ..), fun h => ?_⟩
        rw [getPort_modDoze_same] at h
        exact absurd (of_decide_eq_true h) (Nat.not_le.mpr (Nat.lt_add_of_pos_right (by decide)))
      · refine ⟨hstir.trans (onlyDozeOf_modDoze ..), fun _ => ?_⟩
        rw [getPort_modDoze_same]
        exact ⟨DozeState.noConfusion, DozeState.noConfusion⟩
    · have hdrain := sameDoze_drainPort (stayAwake e p) p
      refine ⟨(hstir.trans (onlyDozeOf_modDoze ..)).trans (hdrain.only p), fun _ => ?_⟩
      rw [hdrain.2, stayAwake, getPort_modDoze_same]
      exact ⟨DozeState.noConfusion, DozeState.noConfusion⟩
    · rename_i hentering hexiting
      exact ⟨hstir, fun _ => ⟨hentering, hexiting⟩⟩

/-- One turn for each port of a list settles these ports and keeps the others settled. -/
theorem dozeSettled_forEach {l : List Nat} {d : Dev} (h : ∀ p, p ∉ l → DozeSettled d p) (p : Nat) : DozeSettled (forEach l d dozeSettle) p := by
  induction l generalizing d with
  | nil => exact h p List.not_mem_nil
  | cons x l ih =>
    obtain ⟨honly, hx⟩ := dozeSettle_cases d x
    refine ih fun q hq => ?_
    by_cases hqx : q = x
    · exact hqx ▸ hx
    · exact dozeSettled_congr honly.1 (honly.2 q hqx) (h q (List.not_mem_cons_of_ne_of_not_mem hqx hq))

theorem dozeSettled_dozeAll (d : Dev) (p : Nat) : DozeSettled (dozeAll d) p := dozeSettled_forEach (fun _ hq => dozeSettled_unlisted hq) p

/-! ### The Vault does not stand idle while a sequence waits -/

/-- What a settled device asks of the Vault (R396, R400). -/
def VaultSettled (d : Dev) : Prop := d.vlt.op = none → (d.log.jrn.erasing && jrnBank d == 0) = false → d.vlt.reErase = [] → d.vlt.waits = none

theorem vaultStart_waits (d : Dev) (o : VaultOp) (inner : Bool) : (vaultStart d o inner).vlt.waits = d.vlt.waits := by
  unfold vaultStart
  dsimp only
  (repeat' split) <;> rfl

theorem vaultStart_sameDoze (d : Dev) (o : VaultOp) (inner : Bool) : SameDoze d (vaultStart d o inner) := by
  unfold vaultStart
  exact sameDoze_ite (sameDoze_of_eq rfl rfl) (sameDoze_of_eq rfl rfl)

theorem sameDoze_vaultNext (d : Dev) : SameDoze d (vaultNext d) := by
  unfold vaultNext
  refine sameDoze_ite (.refl d) ?_
  split
  · exact sameDoze_ite (sameDoze_of_eq rfl rfl) (.refl d)
  · split
    · exact (sameDoze_of_eq rfl rfl).trans (vaultStart_sameDoze ..)
    · exact .refl d

theorem vaultSettled_vaultNext (d : Dev) : VaultSettled (vaultNext d) := by
  unfold vaultNext
  split
  · rename_i hbusy
    intro hop herase _
    rw [hop, herase] at hbusy
    exact absurd hbusy Bool.noConfusion
  · split
    · rename_i hre
      split
      · exact fun hop => nomatch hop
      · exact fun _ _ hnone => absurd (hre.symm.trans hnone) (List.cons_ne_nil _ _)
    · split
      · exact fun _ _ _ => vaultStart_waits ..
      · rename_i hwaits
        exact fun _ _ _ => hwaits

/-! ### The turn of the key store leaves both as they are -/

/-- What of a device decides whether it is settled. -/
def settledView (d : Dev) : Nat × NMap Port × VaultPart × LogPart := (d.now, d.ports, d.vlt, d.log)

theorem settledView_forEach {α : Type} {f : Dev → α → Dev} (hf : ∀ e x, settledView (f e x) = settledView e) (l : List α) (d : Dev) : settledView (forEach l d f) = settledView d := by
  induction l generalizing d with
  | nil => rfl
  | cons x l ih => exact (ih _).trans (hf d x)

theorem settledView_settleKeys (d : Dev) : settledView (settleKeys d) = settledView d :=
  settledView_forEach (fun e x => by unfold settleSlot; (repeat' split) <;> rfl) _ d

theorem settledView_destroyEnd (d : Dev) (k : Nat) : settledView (destroyEnd d k) = settledView d := rfl

theorem settledView_keyTurn (d : Dev) : settledView (keyTurn d) = settledView d := by
  unfold keyTurn
  extract_lets e
  have he : settledView e = settledView d := by
    unfold e
    (repeat' split) <;> rfl
  split
  · exact (settledView_settleKeys e).trans he
  · exact he

theorem settled_of_view {s : State} {d : Dev} (h : settledView s.dev = settledView d) (hvault : VaultSettled d) (hdoze : ∀ p, DozeSettled d p) : Settled s := by
  injection h with hnow h
  injection h with hports h
  injection h with hvlt hlog
  refine ⟨?_, fun p => dozeSettled_congr hnow (by rw [getPort_of s.dev d p hports]) (hdoze p)⟩
  rw [jrnBank, hvlt, hlog]
  exact hvault

/-- What follows by itself ends with the turns of doze, of the Vault and of the key store, and these leave the device settled. -/
theorem settled_of_afterStep {s : State} {d : Dev} (h : s.dev = afterStep d) : Settled s := by
  unfold afterStep at h
  dsimp only at h
  generalize leaderCheck _ = e at h
  have hnext := sameDoze_vaultNext (dozeAll e)
  exact settled_of_view (h ▸ settledView_keyTurn _) (vaultSettled_vaultNext _) fun p => dozeSettled_congr hnext.1 (hnext.2 p) (dozeSettled_dozeAll e p)

/-- Settles O25: whatever the step was, it ended with what the device does by itself (notes/assumptions 1). -/
theorem everyStepSettles : Obligations.EveryStepSettles := by
  intro s t _ hstep
  obtain ⟨d, hd⟩ := dev_of_step hstep
  exact settled_of_afterStep hd

/-- Settles O24: at reset no sequence waits and no port has been used, so nothing is left for the end of a step (notes/assumptions 1). -/
theorem resetIsSettled : Obligations.ResetIsSettled := ⟨fun _ _ _ => rfl, fun _ => dozeSettled_unlisted List.not_mem_nil⟩

end Sys2Proof.Machine
end

section
/-!
SUPPORT. The order in which calendar entries fire, the contents of the Vault, and the opening of service (spec/12_time_and_global_ops.md R267, spec/18_management.md R395 to R397, spec/15_startup.md
R341, R342).
-/
namespace Sys2Proof.Machine
open Sys2Proof

/-! ### The calendar entry that fires next -/

/-- The earlier of the entry held so far and the next one of a list. -/
def earlierEnt (b : Option (Nat × CalEnt)) (p : Nat × CalEnt) : Option (Nat × CalEnt) :=
  match b with
  | none => some p
  | some x => if firesFirst p.2 x.2 then some p else some x

theorem firesFirst_iff (a b : CalEnt) : firesFirst a b = true ↔ a.time < b.time ∨ (a.time = b.time ∧ (a.kind < b.kind ∨ (a.kind = b.kind ∧ a.order < b.order))) := by
  simp [firesFirst]

theorem firesFirst_irrefl (a : CalEnt) : firesFirst a a = false := by
  rw [Bool.eq_false_iff, ne_eq, firesFirst_iff]
  omega

theorem firesFirst_asymm {a b : CalEnt} (h : firesFirst a b = true) : firesFirst b a = false := by
  rw [Bool.eq_false_iff, ne_eq, firesFirst_iff]
  rw [firesFirst_iff] at h
  omega

theorem notBefore_trans {a b c : CalEnt} (h : firesFirst a b = false) (h' : firesFirst b c = false) : firesFirst a c = false := by
  rw [Bool.eq_false_iff, ne_eq, firesFirst_iff] at h h' ⊢
  omega

theorem earlierEnt_cases (x p : Nat × CalEnt) :
    (earlierEnt (some x) p = some p ∧ firesFirst p.2 x.2 = true) ∨ (earlierEnt (some x) p = some x ∧ firesFirst p.2 x.2 = false) := by
  cases h : firesFirst p.2 x.2 with
  | true => exact .inl ⟨if_pos h, rfl⟩
  | false => exact .inr ⟨if_neg (h ▸ Bool.false_ne_true), rfl⟩

/-- The earliest of an entry and those of a list is one of them, and none of them goes before it. -/
theorem foldl_earlierEnt_some {l : List (Nat × CalEnt)} {x y : Nat × CalEnt} (h : l.foldl earlierEnt (some x) = some y) :
    (y = x ∨ y ∈ l) ∧ firesFirst x.2 y.2 = false ∧ ∀ q ∈ l, firesFirst q.2 y.2 = false := by
  induction l generalizing x with
  | nil =>
    obtain rfl := Option.some.inj h
    exact ⟨.inl rfl, firesFirst_irrefl _, fun q hq => absurd hq List.not_mem_nil⟩
  | cons p l ih =>
    rw [List.foldl_cons] at h
    obtain ⟨hstep, hbefore⟩ | ⟨hstep, hbefore⟩ := earlierEnt_cases x p <;> rw [hstep] at h <;> obtain ⟨hy, hfirst, hrest⟩ := ih h
    · exact ⟨.inr (hy.elim (fun h => h ▸ List.mem_cons_self) (List.mem_cons_of_mem p)), notBefore_trans (firesFirst_asymm hbefore) hfirst, List.forall_mem_cons.mpr ⟨hfirst, hrest⟩⟩
    · exact ⟨hy.imp id (List.mem_cons_of_mem p), hfirst, List.forall_mem_cons.mpr ⟨notBefore_trans hbefore hfirst, hrest⟩⟩

theorem foldl_earlierEnt_none {l : List (Nat × CalEnt)} {y : Nat × CalEnt} (h : l.foldl earlierEnt none = some y) : y ∈ l ∧ ∀ q ∈ l, firesFirst q.2 y.2 = false := by
  cases l with
  | nil => cases h
  | cons p l =>
    obtain ⟨hy, hp, hrest⟩ := foldl_earlierEnt_some h
    exact ⟨hy.elim (fun h => h ▸ List.mem_cons_self) (List.mem_cons_of_mem p), List.forall_mem_cons.mpr ⟨hp, hrest⟩⟩

/-- The entries whose time has come. -/
def dueEnts (d : Dev) : List (Nat × CalEnt) := (postedEnts d).filter fun p => decide (p.2.time ≤ fedTime d)

theorem mem_dueEnts {d : Dev} {q : Nat × CalEnt} : q ∈ dueEnts d ↔ q ∈ d.cal.ents ∧ q.2.state = .posted ∧ q.2.time ≤ fedTime d := by
  simp only [dueEnts, postedEnts, List.mem_filter, beq_iff_eq, decide_eq_true_eq, and_assoc]

theorem nextFiring_eq (d : Dev) : nextFiring d = (dueEnts d).foldl earlierEnt none := by
  unfold nextFiring dueEnts
  congr 1
  funext b p
  cases b <;> rfl

/-- Settles O9: the fold over the due entries keeps the earliest, in the order of time, kind and posting. -/
theorem firingOrder : Obligations.FiringOrder := by
  intro d i e h
  rw [nextFiring_eq] at h
  obtain ⟨hmem, hfirst⟩ := foldl_earlierEnt_none h
  obtain ⟨hent, hposted, hdue⟩ := mem_dueEnts.mp hmem
  exact ⟨hent, hposted, hdue, fun q hq hstate htime => hfirst q (mem_dueEnts.mpr ⟨hq, hstate, htime⟩)⟩

/-! ### The words of the Vault -/

theorem vaultWord_congr {v v' : VaultPart} {i : Nat} (huser : nget v'.user i = nget v.user i) (hundef : v'.undef = v.undef) : vaultWord v' i = vaultWord v i := by
  rw [vaultWord, vaultWord, huser, hundef]

theorem vaultWord_listed {v : VaultPart} {i : Nat} {w : Word} (h : nget v.user i = some w) : vaultWord v i = w := by rw [vaultWord, h]

theorem vaultWord_erased {v : VaultPart} {i : Nat} (huser : nget v.user i = none) (hundef : v.undef = []) : vaultWord v i = 0xFFFFFFFF := by
  rw [vaultWord, huser, hundef]
  rfl

/-- Words programmed from a place on leave those before and behind as they are. -/
theorem nget_vaultPut_out {m : NMap Word} {n i : Nat} {l : List Word} (h : i < n ∨ n + l.length ≤ i) : nget (vaultPut m n l) i = nget m i := by
  induction l generalizing m n with
  | nil => rfl
  | cons w l ih =>
    rw [List.length_cons] at h
    rw [vaultPut, ih (by omega)]
    split
    · rfl
    · exact nget_nset_ne _ _ _ _ (by omega)

/-- A programmed word is listed, but for one that leaves its erased place as it was. -/
theorem nget_vaultPut_in {m : NMap Word} {n i : Nat} {l : List Word} (hi : i < l.length) (hempty : nget m (n + i) = none) :
    nget (vaultPut m n l) (n + i) = if l.getD i 0 = 0xFFFFFFFF then none else some (l.getD i 0) := by
  induction l generalizing m n i with
  | nil => exact absurd hi (Nat.not_lt_zero i)
  | cons w l ih =>
    rw [vaultPut]
    cases i with
    | zero =>
      rw [nget_vaultPut_out (by omega), List.getD_cons_zero, Nat.add_zero]
      split
      · exact hempty
      · exact nget_nset_same ..
    | succ i =>
      rw [List.getD_cons_succ, ← ih (Nat.lt_of_succ_lt_succ hi) (m := if w = 0xFFFFFFFF then m else nset m n w) (n := n + 1)]
      · rw [Nat.add_right_comm, Nat.add_assoc]
      · rw [Nat.add_right_comm, Nat.add_assoc]
        split
        · exact hempty
        · rw [nget_nset_ne _ _ _ _ (by omega), hempty]

/-- The words of a range are erased and no other. -/
theorem nget_filter_key {α : Type} (f : Nat → Bool) (m : NMap α) (k : Nat) : nget (m.filter fun p => f p.1) k = if f k then nget m k else none := by
  induction m with
  | nil => exact (ite_self none).symm
  | cons p m ih =>
    obtain ⟨j, v⟩ := p
    rw [List.filter_cons, nget]
    by_cases hj : j = k
    · subst hj
      by_cases hf : f j = true
      · rw [if_pos hf, if_pos rfl, if_pos hf, nget, if_pos rfl]
      · rw [if_neg hf, ih, if_neg hf, if_neg hf]
    · rw [if_neg hj]
      split
      · rw [nget, if_neg hj, ih]
      · exact ih

theorem vaultPassed_program {d : Dev} {o : VaultOp} (h : o.kind = 1) :
    (vaultPassed d o).vlt.user = vaultPut d.vlt.user (o.off / 4) o.data ∧ (vaultPassed d o).vlt.undef = d.vlt.undef := by
  rw [vaultPassed, if_pos h]
  exact ⟨rfl, rfl⟩

theorem vaultPassed_erase {d : Dev} {o : VaultOp} (h : o.kind ≠ 1) : let s := o.off / 65536 * 16384
    (vaultPassed d o).vlt.user = (d.vlt.user.filter fun p => !(decide (s ≤ p.1) && decide (p.1 < s + 16384))) ∧
      (vaultPassed d o).vlt.undef = (d.vlt.undef.filter fun p => !(decide (s ≤ p.1) && decide (p.1 < s + 16384))) := by
  rw [vaultPassed, if_neg h]
  dsimp only
  split <;> exact ⟨rfl, rfl⟩

/-- A sector of the user area is the words with its number. -/
theorem inSector_iff (s i : Nat) : s * 16384 ≤ i ∧ i < s * 16384 + 16384 ↔ i / 16384 = s := by omega

/-- Settles O17: a program puts its words into the table of user words, and an erase takes the words of its sector out of it. -/
theorem vaultContents : Obligations.VaultContents := by
  refine ⟨fun d o i hkind hlen hundef hi hempty => ?_, fun d o i hkind hlen hout => ?_, fun d o i hkind hundef => ?_⟩
  · obtain ⟨huser, hundef'⟩ := vaultPassed_program (d := d) hkind
    have hword := nget_vaultPut_in (hlen ▸ hi) hempty
    rw [← huser] at hword
    split at hword
    · rename_i hones
      rw [vaultWord_erased hword (hundef'.trans hundef), hones]
    · exact vaultWord_listed hword
  · obtain ⟨huser, hundef'⟩ := vaultPassed_program (d := d) hkind
    exact vaultWord_congr (by rw [huser, nget_vaultPut_out (by rw [hlen]; exact hout)]) hundef'
  · obtain ⟨huser, hundef'⟩ := vaultPassed_erase (d := d) (o := o) (by rw [hkind]; decide)
    rw [hundef, List.filter_nil] at hundef'
    have hword := nget_filter_key (fun j => !(decide (o.off / 65536 * 16384 ≤ j) && decide (j < o.off / 65536 * 16384 + 16384))) d.vlt.user i
    rw [← huser] at hword
    split
    · rename_i hin
      obtain ⟨hlo, hhi⟩ := (inSector_iff _ _).mpr hin
      exact vaultWord_erased (by simpa [hlo, hhi] using hword) hundef'
    · rename_i hout
      have hkeep : ¬(o.off / 65536 * 16384 ≤ i ∧ i < o.off / 65536 * 16384 + 16384) := fun h => hout ((inSector_iff _ _).mp h)
      refine vaultWord_congr ?_ (hundef'.trans hundef.symm)
      rw [hword, if_pos (by rw [← Bool.decide_and, decide_eq_false hkeep]; rfl)]

/-! ### The opening of service -/

theorem startProgress_opens {d : Dev} (hstate : d.pwr.state = .starting) (hmay : mayOpen d = true) : startProgress d = openService d := by
  rw [startProgress, advance, if_neg (not_not_intro hstate), if_pos hmay]

theorem startProgress_elsewhere {d : Dev} (hstate : d.pwr.state ≠ .starting) : startProgress d = d := by rw [startProgress, advance, if_pos hstate]

theorem startProgress_waits {d : Dev} (hmay : mayOpen d = false) (hstep : d.ldr.step < 3 ∨ 10 ≤ d.ldr.step ∨ stepOver d = false) : startProgress d = d := by
  have hstay : ¬ (3 ≤ d.ldr.step ∧ d.ldr.step < 10 ∧ stepOver d = true) := by
    rintro ⟨hlo, hhi, hover⟩
    obtain h | h | h := hstep
    · omega
    · omega
    · exact absurd (hover.symm.trans h) Bool.noConfusion
  rw [startProgress, advance, hmay, if_neg Bool.false_ne_true, if_neg hstay, ite_self]

/-- A device alone in its federation announces nothing and has no custody to settle. -/
theorem announce_standalone {d : Dev} (h : standalone d = true) : announce d = d := if_pos h

theorem custodyTurn_standalone {d : Dev} (h : standalone d = true) : custodyTurn d = d := by
  rw [custodyTurn, custodyOn, h, Bool.not_true, Bool.false_and, Bool.false_and, if_neg Bool.false_ne_true]

theorem openService_standalone {d : Dev} (h : standalone d = true) : let e := openService d
    e.ldr.step = 15 ∧ e.pwr.state = .service ∧ e.per.owed = some d.ldr.startCount ∧ e.mem = d.mem ∧ e.ldr.vaultSlot = some d.ldr.idSlot := by
  have halone : ∀ e, standalone e = true → custodyTurn (announce e) = e := fun e he => by rw [announce_standalone he, custodyTurn_standalone he]
  unfold openService
  dsimp only
  rw [halone]
  · exact ⟨rfl, rfl, rfl, rfl, rfl⟩
  · exact h

theorem mayOpen_iff (d : Dev) :
    mayOpen d = true ↔ d.ldr.step = 10 ∧ (d.cus.settled = true ∨ d.cus.coldOver = true) ∧ d.mode.behind = false ∧ ∀ c ∈ allCells, liveCell d c = true → hasArmed d c = true := by
  simp only [mayOpen, Bool.and_eq_true, Bool.or_eq_true, Bool.not_eq_true', beq_iff_eq, List.all_eq_true, and_assoc, ← Bool.not_eq_true, Decidable.imp_iff_not_or]

/-- Settles O15: the order of the start opens service where its one condition holds, and goes no further where that fails and the step in progress is not over. -/
theorem serviceOpens : Obligations.ServiceOpens :=
  ⟨fun _ => startProgress_opens, fun _ => openService_standalone, fun _ => startProgress_elsewhere, fun _ => startProgress_waits, mayOpen_iff⟩

end Sys2Proof.Machine
end

section
/-!
SUPPORT. The commands of time, the calendar, acts, the bulk queue and keys complete (rows 164 to 243 of the table), and the reset pin (spec/20_electrical.md R418).
-/
namespace Sys2Proof.Machine
open Sys2Proof

/-! ### Time, calendar and mode -/

theorem does_sync (s : State) (h : PtpHdr) (origin : BitVec 64) : Does (.sync h origin) s (syncReceived s.dev h origin.toNat) := does_run _ s (fun d => syncReceived d h origin.toNat) rfl

theorem does_announce (s : State) (h : PtpHdr) (cls : BitVec 8) (ord : Ordinal) (rest : AnnRest) : Does (.announce h cls ord rest) s (announceReceived s.dev h cls.toNat ord.val rest.steps.toNat rest.utc.toNat) :=
  does_run _ s (fun d => announceReceived d h cls.toNat ord.val rest.steps.toNat rest.utc.toNat) rfl

theorem does_delayReq (s : State) (h : PtpHdr) : Does (.delayReq h) s (delayReq s.dev h) := does_run _ s (fun d => delayReq d h) rfl

theorem does_delayResp (s : State) (h : PtpHdr) (arrival : BitVec 64) : Does (.delayResp h arrival) s (delayResp s.dev h arrival.toNat) := does_run _ s (fun d => delayResp d h arrival.toNat) rfl

theorem does_syncTimer (s : State) : Does .syncTimer s (syncTimer (reachO s.dev (some s.dev.tim.nextSync))) := does_run _ s (fun d => syncTimer (reachO d (some d.tim.nextSync))) rfl

theorem does_announceTimeout (s : State) : Does .announceTimeout s (announceTimeout (reachO s.dev (announceTime s.dev))) := does_run _ s (fun d => announceTimeout (reachO d (announceTime d))) rfl

theorem does_syncLossExpiry (s : State) : Does .syncLossExpiry s (syncLossExpiry (reachO s.dev (syncLossTime s.dev))) := does_run _ s (fun d => syncLossExpiry (reachO d (syncLossTime d))) rfl

theorem does_ppsInEdge (s : State) (at_ : BitVec 64) (width : BitVec 32) : Does (.ppsInEdge at_ width) s (ppsInEdge (reach s.dev at_.toNat) width.toNat) :=
  does_run _ s (fun d => ppsInEdge (reach d at_.toNat) width.toNat) rfl

theorem does_ppsLoss (s : State) : Does .ppsLoss s (ppsLoss (reachO s.dev (ppsTime s.dev))) := does_run _ s (fun d => ppsLoss (reachO d (ppsTime d))) rfl

theorem does_wholeSecond (s : State) : Does .wholeSecond s (wholeSecond (reachFedO s.dev (secondTime s.dev))) := does_run _ s (fun d => wholeSecond (reachFedO d (secondTime d))) rfl

theorem does_slewComplete (s : State) : Does .slewComplete s (slewComplete (reachO s.dev (slewTime s.dev))) := does_run _ s (fun d => slewComplete (reachO d (slewTime d))) rfl

theorem does_timeTodWrite (s : State) (w : Writer) (v : Word) : Does (.timeTodWrite w v) s (timeTodWrite s.dev w v.toNat) := does_run _ s (fun d => timeTodWrite d w v.toNat) rfl

theorem does_modeCommit (s : State) : Does .modeCommit s (modeCommit (reachFedO s.dev (fireTime s.dev 1))) := does_run _ s (fun d => modeCommit (reachFedO d (fireTime d 1))) rfl

theorem does_snapshotCut (s : State) : Does .snapshotCut s (snapshotCut (reachFedO s.dev (fireTime s.dev 2))) := does_run _ s (fun d => snapshotCut (reachFedO d (fireTime d 2))) rfl

theorem does_coordRestart (s : State) : Does .coordRestart s (coordRestart (reachFedO s.dev (fireTime s.dev 3))) := does_run _ s (fun d => coordRestart (reachFedO d (fireTime d 3))) rfl

theorem does_scrubWindow (s : State) : Does .scrubWindow s (scrubWindow (reachFedO s.dev (fireTime s.dev 4))) := does_run _ s (fun d => scrubWindow (reachFedO d (fireTime d 4))) rfl

theorem does_scrubWindowEnd (s : State) : Does .scrubWindowEnd s (scrubWindowEnd (reachFedO s.dev (s.dev.cal.scrubEnd))) := does_run _ s (fun d => scrubWindowEnd (reachFedO d (d.cal.scrubEnd))) rfl

theorem does_keyRotation (s : State) : Does .keyRotation s (keyRotation (reachFedO s.dev (fireTime s.dev 5))) := does_run _ s (fun d => keyRotation (reachFedO d (fireTime d 5))) rfl

theorem does_dozeWindow (s : State) : Does .dozeWindow s (dozeWindow (reachFedO s.dev (fireTime s.dev 6))) := does_run _ s (fun d => dozeWindow (reachFedO d (fireTime d 6))) rfl

theorem does_dozeWindowEnd (s : State) : Does .dozeWindowEnd s (dozeWindowEnd (reachFedO s.dev (s.dev.cal.dozeEnd))) := does_run _ s (fun d => dozeWindowEnd (reachFedO d (d.cal.dozeEnd))) rfl

theorem does_startSlot (s : State) : Does .startSlot s (startSlot (reachFedO s.dev (fireTime s.dev 7))) := does_run _ s (fun d => startSlot (reachFedO d (fireTime d 7))) rfl

theorem does_calPostLocal (s : State) (w : Writer) : Does (.calPostLocal w) s (calPostLocal s.dev w) := does_run _ s (fun d => calPostLocal d w) rfl

theorem does_calCancelLocal (s : State) (w : Writer) : Does (.calCancelLocal w) s (calCancelLocal s.dev w) := does_run _ s (fun d => calCancelLocal d w) rfl

theorem does_calendarPostPost (s : State) (m : CalPostMsg) : Does (.calendarPostPost m) s (calendarPostPost s.dev m) := does_run _ s (fun d => calendarPostPost d m) rfl

theorem does_calendarPostCancel (s : State) (m : CalPostMsg) : Does (.calendarPostCancel m) s (calendarPostCancel s.dev m) := does_run _ s (fun d => calendarPostCancel d m) rfl

theorem does_calendarPostAnswer (s : State) (m : CalPostMsg) : Does (.calendarPostAnswer m) s (calendarPostAnswer s.dev m) := does_run _ s (fun d => calendarPostAnswer d m) rfl

theorem does_queryMode (s : State) (m : ModeMsg) : Does (.queryMode m) s (queryModeReceived s.dev m) := does_run _ s (fun d => queryModeReceived d m) rfl

theorem does_modeAnswer (s : State) (m : ModeMsg) : Does (.modeAnswer m) s (modeAnswer s.dev m) := does_run _ s (fun d => modeAnswer d m) rfl

theorem timeCommandsComplete : Claims.TimeCommandsComplete :=
  ⟨does_sync, does_announce, does_delayReq, does_delayResp, does_syncTimer, does_announceTimeout, does_syncLossExpiry, does_ppsInEdge, does_ppsLoss, does_wholeSecond,
    does_slewComplete, does_timeTodWrite, does_modeCommit, does_snapshotCut, does_coordRestart, does_scrubWindow, does_scrubWindowEnd, does_keyRotation, does_dozeWindow,
    does_dozeWindowEnd, does_startSlot, does_calPostLocal, does_calCancelLocal, does_calendarPostPost, does_calendarPostCancel, does_calendarPostAnswer, does_queryMode, does_modeAnswer⟩

/-! ### Acts, the tree, cuts and commits -/

theorem does_actBarrier (s : State) (w : Writer) : Does (.actBarrier w) s (actBarrier s.dev w) := does_run _ s (fun d => actBarrier d w) rfl

theorem does_actSnapshot (s : State) (w : Writer) : Does (.actSnapshot w) s (actSnapshot s.dev w) := does_run _ s (fun d => actSnapshot d w) rfl

theorem does_actModeCommit (s : State) (w : Writer) : Does (.actModeCommit w) s (actModeCommit s.dev w) := does_run _ s (fun d => actModeCommit d w) rfl

theorem does_actRestart (s : State) (w : Writer) : Does (.actRestart w) s (actRestart s.dev w) := does_run _ s (fun d => actRestart d w) rfl

theorem does_actPost (s : State) (w : Writer) : Does (.actPost w) s (actPost s.dev w) := does_run _ s (fun d => actPost d w) rfl

theorem does_actCmdReserved (s : State) (w : Writer) (op : Fin 16) : Does (.actCmdReserved w op) s (actCmdReserved s.dev w op.val) := does_run _ s (fun d => actCmdReserved d w op.val) rfl

theorem does_treePost (s : State) (m : TreeMsg) : Does (.treePost m) s (treeReceived s.dev m Machine.treePost) := does_run _ s (fun d => treeReceived d m Machine.treePost) rfl

theorem does_treeCancel (s : State) (m : TreeMsg) : Does (.treeCancel m) s (treeReceived s.dev m Machine.treeCancelOp) := does_run _ s (fun d => treeReceived d m Machine.treeCancelOp) rfl

theorem does_treeConfirm (s : State) (m : TreeMsg) : Does (.treeConfirm m) s (treeReceived s.dev m Machine.treeConfirmOp) := does_run _ s (fun d => treeReceived d m Machine.treeConfirmOp) rfl

theorem does_treeDiscard (s : State) (m : TreeMsg) : Does (.treeDiscard m) s (treeReceived s.dev m Machine.treeDiscardOp) := does_run _ s (fun d => treeReceived d m Machine.treeDiscardOp) rfl

theorem does_treePause (s : State) (m : TreeMsg) : Does (.treePause m) s (treeReceived s.dev m Machine.treePauseOp) := does_run _ s (fun d => treeReceived d m Machine.treePauseOp) rfl

theorem does_treeResume (s : State) (m : TreeMsg) : Does (.treeResume m) s (treeReceived s.dev m Machine.treeResumeOp) := does_run _ s (fun d => treeReceived d m Machine.treeResumeOp) rfl

theorem does_treeBarrier (s : State) (m : TreeMsg) : Does (.treeBarrier m) s (treeReceived s.dev m Machine.treeBarrierOp) := does_run _ s (fun d => treeReceived d m Machine.treeBarrierOp) rfl

theorem does_treeGather (s : State) (m : GatherMsg) : Does (.treeGather m) s (treeGather s.dev m) := does_run _ s (fun d => treeGather d m) rfl

theorem does_treeGatherTimeout (s : State) (act : BitVec 32) (op : Fin 7) : Does (.treeGatherTimeout act op) s (treeGatherTimeout (reachO s.dev (gatherTime s.dev act.toNat op.val)) act.toNat op.val) :=
  does_run _ s (fun d => treeGatherTimeout (reachO d (gatherTime d act.toNat op.val)) act.toNat op.val) rfl

theorem does_messageCutDrained (s : State) (act : BitVec 32) : Does (.messageCutDrained act) s (messageCut s.dev act.toNat) := does_run _ s (fun d => messageCut d act.toNat) rfl

theorem does_holdWindowEnd (s : State) (act : BitVec 32) : Does (.holdWindowEnd act) s (holdWindowEnd (reachFedO s.dev (holdEndTime s.dev act.toNat)) act.toNat) :=
  does_run _ s (fun d => holdWindowEnd (reachFedO d (holdEndTime d act.toNat)) act.toNat) rfl

theorem does_cutResultGatherStart (s : State) : Does .cutResultGatherStart s (cutResultGatherStart (reachFedO s.dev (cutTime s.dev))) :=
  does_run _ s (fun d => cutResultGatherStart (reachFedO d (cutTime d))) rfl

theorem does_graceWindowEnd (s : State) : Does .graceWindowEnd s (graceWindowEnd (reachFedO s.dev (s.dev.mode.graceEnd))) := does_run _ s (fun d => graceWindowEnd (reachFedO d (d.mode.graceEnd))) rfl

theorem does_timeModeAdopt (s : State) (w : Writer) (v : Word) : Does (.timeModeAdopt w v) s (timeModeAdopt s.dev w v) := does_run _ s (fun d => timeModeAdopt d w v) rfl

theorem does_commit (s : State) (w : Writer) (v : Word) : Does (.commit w v) s (commitWrite s.dev w v) := does_run _ s (fun d => commitWrite d w v) rfl

theorem actCommandsComplete : Claims.ActCommandsComplete :=
  ⟨does_actBarrier, does_actSnapshot, does_actModeCommit, does_actRestart, does_actPost, does_actCmdReserved, does_treePost, does_treeCancel, does_treeConfirm, does_treeDiscard,
    does_treePause, does_treeResume, does_treeBarrier, does_treeGather, does_treeGatherTimeout, does_messageCutDrained, does_holdWindowEnd, does_cutResultGatherStart,
    does_graceWindowEnd, does_timeModeAdopt, does_commit⟩

/-! ### The bulk queue -/

theorem does_bulkCopy (s : State) (p : Pkt) (b : BulkPayload) : Does (.bulkCopy p b) s (frameIn s.dev (.req p (.bulk .copy b))) := does_run _ s (fun d => frameIn d (.req p (.bulk .copy b))) rfl

theorem does_bulkFill (s : State) (p : Pkt) (b : BulkPayload) : Does (.bulkFill p b) s (frameIn s.dev (.req p (.bulk .fill b))) := does_run _ s (fun d => frameIn d (.req p (.bulk .fill b))) rfl

theorem does_bulkCommit (s : State) (p : Pkt) (b : BulkPayload) : Does (.bulkCommit p b) s (frameIn s.dev (.req p (.bulk .commit b))) :=
  does_run _ s (fun d => frameIn d (.req p (.bulk .commit b))) rfl

theorem does_bulkLoad (s : State) (p : Pkt) (b : BulkPayload) : Does (.bulkLoad p b) s (frameIn s.dev (.req p (.bulk .load b))) := does_run _ s (fun d => frameIn d (.req p (.bulk .load b))) rfl

theorem does_bulkTrim (s : State) (p : Pkt) (b : BulkPayload) : Does (.bulkTrim p b) s (frameIn s.dev (.req p (.bulk .trim b))) := does_run _ s (fun d => frameIn d (.req p (.bulk .trim b))) rfl

theorem does_bulkVerify (s : State) (p : Pkt) (b : BulkPayload) : Does (.bulkVerify p b) s (frameIn s.dev (.req p (.bulk .verify b))) :=
  does_run _ s (fun d => frameIn d (.req p (.bulk .verify b))) rfl

theorem does_bulkSnapshot (s : State) (p : Pkt) (b : BulkPayload) : Does (.bulkSnapshot p b) s (frameIn s.dev (.req p (.bulk .snapshot b))) :=
  does_run _ s (fun d => frameIn d (.req p (.bulk .snapshot b))) rfl

theorem does_bulkRelease (s : State) (p : Pkt) (b : BulkPayload) : Does (.bulkRelease p b) s (frameIn s.dev (.req p (.bulk .release b))) :=
  does_run _ s (fun d => frameIn d (.req p (.bulk .release b))) rfl

theorem does_bulkBarrier (s : State) (p : Pkt) (b : BulkPayload) : Does (.bulkBarrier p b) s (frameIn s.dev (.req p (.bulk .barrier b))) :=
  does_run _ s (fun d => frameIn d (.req p (.bulk .barrier b))) rfl

theorem does_bulkAbort (s : State) (p : Pkt) (tag : BitVec 16) (wellFormed : Bool) : Does (.bulkAbort p tag wellFormed) s (frameIn s.dev (.req p (.bulkAbort tag wellFormed))) :=
  does_run _ s (fun d => frameIn d (.req p (.bulkAbort tag wellFormed))) rfl

theorem does_bulkCommandStart (s : State) (k : ConnNo) (tag : BitVec 16) : Does (.bulkCommandStart k tag) s (bulkCommandStart s.dev k.val tag.toNat) :=
  does_run _ s (fun d => bulkCommandStart d k.val tag.toNat) rfl

theorem does_bulkPieceDone (s : State) (k : ConnNo) (tag : BitVec 16) (lo : BitVec 41) : Does (.bulkPieceDone k tag lo) s (bulkPieceDone s.dev k.val tag.toNat lo.toNat) :=
  does_run _ s (fun d => bulkPieceDone d k.val tag.toNat lo.toNat) rfl

theorem bulkCommandsComplete : Claims.BulkCommandsComplete :=
  ⟨does_bulkCopy, does_bulkFill, does_bulkCommit, does_bulkLoad, does_bulkTrim, does_bulkVerify, does_bulkSnapshot, does_bulkRelease, does_bulkBarrier, does_bulkAbort,
    does_bulkCommandStart, does_bulkPieceDone⟩

/-! ### Keys, engines and tamper -/

theorem does_keyGenerate (s : State) (w : Writer) : Does (.keyGenerate w) s (keyGenerate s.dev w) := does_run _ s (fun d => keyGenerate d w) rfl

theorem does_keyImport (s : State) (w : Writer) : Does (.keyImport w) s (keyImport s.dev w) := does_run _ s (fun d => keyImport d w) rfl

theorem does_keyDestroy (s : State) (w : Writer) : Does (.keyDestroy w) s (keyDestroy s.dev w) := does_run _ s (fun d => keyDestroy d w) rfl

theorem does_keySlotQuery (s : State) (w : Writer) : Does (.keySlotQuery w) s (keySlotQuery s.dev w) := does_run _ s (fun d => keySlotQuery d w) rfl

theorem does_keyAgree (s : State) (w : Writer) : Does (.keyAgree w) s (keyAgree s.dev w) := does_run _ s (fun d => keyAgree d w) rfl

theorem does_ownerAdd (s : State) (w : Writer) (readBack : Bool) : Does (.ownerAdd w readBack) s (ownerAdd s.dev w readBack) := does_run _ s (fun d => ownerAdd d w readBack) rfl

theorem does_ownerRevoke (s : State) (w : Writer) (readBack : Bool) : Does (.ownerRevoke w readBack) s (ownerRevoke s.dev w readBack) := does_run _ s (fun d => ownerRevoke d w readBack) rfl

theorem does_keyCmdReserved (s : State) (w : Writer) (op : Fin 16) : Does (.keyCmdReserved w op) s (keyCmdReserved s.dev w op.val) := does_run _ s (fun d => keyCmdReserved d w op.val) rfl

theorem does_drbgReseed (s : State) : Does .drbgReseed s (drbgReseed (reachO s.dev (reseedTime s.dev))) := does_run _ s (fun d => drbgReseed (reachO d (reseedTime d))) rfl

theorem does_entropyHealthFailure (s : State) : Does .entropyHealthFailure s (entropyHealthFailure s.dev) := does_run _ s (fun d => entropyHealthFailure d) rfl

theorem does_keyScheduleFetchDone (s : State) (c : CellNo) (slot : Nat) : Does (.keyScheduleFetchDone c slot) s (keyScheduleFetchDone s.dev c.val slot) :=
  does_run _ s (fun d => keyScheduleFetchDone d c.val slot) rfl

theorem does_cellGeneratorReseed (s : State) : Does .cellGeneratorReseed s (cellGeneratorReseed (reachO s.dev (seedTime s.dev))) :=
  does_run _ s (fun d => cellGeneratorReseed (reachO d (seedTime d))) rfl

theorem does_generatorStaleExpiry (s : State) (c : CellNo) : Does (.generatorStaleExpiry c) s (generatorStaleExpiry (reachO s.dev (staleTime s.dev c.val)) c.val) :=
  does_run _ s (fun d => generatorStaleExpiry (reachO d (staleTime d c.val)) c.val) rfl

theorem does_tamperVoltage (s : State) : Does .tamperVoltage s (tamperVoltage s.dev) := does_run _ s (fun d => tamperVoltage d) rfl

theorem does_tamperClock (s : State) : Does .tamperClock s (tamperClock s.dev) := does_run _ s (fun d => tamperClock d) rfl

theorem does_tamperLid (s : State) : Does .tamperLid s (tamperLid s.dev) := does_run _ s (fun d => tamperLid d) rfl

theorem does_mkpdu (s : State) (m : Mkpdu) : Does (.mkpdu m) s (mkpdu s.dev m) := does_run _ s (fun d => mkpdu d m) rfl

theorem does_mkaHelloTimer (s : State) (p : CellNo) : Does (.mkaHelloTimer p) s (mkaHelloTimer (reachO s.dev (mkaTime s.dev p.val)) p.val) :=
  does_run _ s (fun d => mkaHelloTimer (reachO d (mkaTime d p.val)) p.val) rfl

theorem does_sakRenewal (s : State) (p : CellNo) (pn : Nat) : Does (.sakRenewal p pn) s (sakRenewal (reachO s.dev (renewTime s.dev p.val pn)) p.val pn) :=
  does_run _ s (fun d => sakRenewal (reachO d (renewTime d p.val pn)) p.val pn) rfl

theorem keyCommandsComplete : Claims.KeyCommandsComplete :=
  ⟨does_keyGenerate, does_keyImport, does_keyDestroy, does_keySlotQuery, does_keyAgree, does_ownerAdd, does_ownerRevoke, does_keyCmdReserved, does_drbgReseed,
    does_entropyHealthFailure, does_keyScheduleFetchDone, does_cellGeneratorReseed, does_generatorStaleExpiry, does_tamperVoltage, does_tamperClock, does_tamperLid, does_mkpdu,
    does_mkaHelloTimer, does_sakRenewal⟩
theorem does_delayReqTimer (s : State) : Does .delayReqTimer s (delayReqTimer (reachO s.dev (some s.dev.tim.nextDelay))) :=
  does_run _ s (fun d => delayReqTimer (reachO d (some d.tim.nextDelay))) rfl

theorem does_rotationGraceEnd (s : State) : Does .rotationGraceEnd s (rotationGraceEnd (reachFedO s.dev (s.dev.sec.ctrlOld.map (·.2)))) := rfl

theorem does_snapshotReleaseDone (s : State) (act : BitVec 32) : Does (.snapshotReleaseDone act) s (snapshotReleaseDone s.dev act.toNat) :=
  does_run _ s (fun d => snapshotReleaseDone d act.toNat) rfl

/-! ### The reset pin -/

theorem does_resetNAssert (s : State) : Does .resetNAssert s (resetNAssert s.dev) := does_run _ s resetNAssert rfl

theorem does_resetNRelease (s : State) : Does .resetNRelease s (resetNRelease s.dev) := does_run _ s resetNRelease rfl

theorem inService3_iff (d : Dev) : inService3 d = true ↔ d.pwr.state = .service ∨ d.pwr.state = .quiet ∨ d.pwr.state = .dormant := by
  simp only [inService3, Bool.or_eq_true, beq_iff_eq, or_assoc]

theorem resetNAssert_serves {d : Dev} (h : inService3 d = true) : resetNAssert d = beginFlush { d with pwr.resetN := false } .warmReset := by
  obtain h | h | h := (inService3_iff d).mp h <;> simp only [resetNAssert, h]

theorem resetNAssert_flushing {d : Dev} (h : d.pwr.state = .flushing) : resetNAssert d = { d with pwr.resetN := false, pwr.resetWanted := true } := by
  simp only [resetNAssert, h]

theorem resetNAssert_halted {d : Dev} (h : d.pwr.state = .halted) :
    resetNAssert d = if d.flt.grave then { d with pwr.resetN := false } else beginStart { d with pwr.resetN := false } true := by
  simp only [resetNAssert, h]

theorem resetNRelease_held {d : Dev} (hstate : d.pwr.state = .starting) (hgood : d.pwr.inputGood = true) (hup : d.pwr.upping = false) (hstep : d.ldr.step = 1) :
    resetNRelease d = beginOrder { d with pwr.resetN := true } true := if_pos ⟨hstate, hgood, hup, hstep⟩

theorem resetNRelease_elsewhere {d : Dev} (hstate : d.pwr.state ≠ .starting) : resetNRelease d = { d with pwr.resetN := true } := if_neg fun h => hstate h.1

/-- A start that RESET_N still holds waits at its first step. -/
theorem beginStart_held {d : Dev} (h : d.pwr.resetN = false) : beginStart d true = { freshDev d true with pwr.state := .starting } := by
  have hreset : ({ freshDev d true with pwr.state := .starting } : Dev).pwr.resetN = false := h
  rw [beginStart, hreset]
  rfl

/-- Settles O12: the pin's two edges act by the state of the device that meets them. -/
theorem resetPin : Obligations.ResetPin := by
  refine ⟨?serves, ?flushing, ?halted, ?grave, ?held, ?elsewhere⟩
  case serves => exact fun s h => does_congr (does_resetNAssert s) (resetNAssert_serves h)
  case flushing => exact fun s h => does_congr (does_resetNAssert s) (resetNAssert_flushing h)
  case halted =>
    refine fun s h hgrave => does_congr (does_resetNAssert s) ((resetNAssert_halted h).trans ?_)
    rw [hgrave, if_neg Bool.false_ne_true, beginStart_held rfl]
  case grave =>
    refine fun s h hgrave => does_congr (does_resetNAssert s) ((resetNAssert_halted h).trans ?_)
    rw [hgrave, if_pos rfl]
  case held => exact fun s hstate hgood hup hstep => does_congr (does_resetNRelease s) (resetNRelease_held hstate hgood hup hstep)
  case elsewhere => exact fun s h => does_congr (does_resetNRelease s) (resetNRelease_elsewhere h)

end Sys2Proof.Machine
end

section
/-!
SUPPORT. Federation time: IEEE 1588 messages, its timers, the PPS pins and the seconds (spec/12_time_and_global_ops.md R256 to R264).
-/
namespace Sys2Proof.Machine
open Sys2Proof

/-! ### IEEE 1588 messages -/

section
variable {d e : Dev} {h : PtpHdr} (hx : ptpHeard d h = (e, true))
include hx

theorem syncReceived_locked (origin : Nat) (hroot : e.tim.isRoot = false) (hslave : e.tim.slave = some h.port.val) (hst : e.tim.st = .locked) :
    syncReceived d h origin = steer { e with tim.syncT := nset e.tim.syncT h.port.val (origin, fedTime e), tim.lastSync := e.now } (((origin + ngetD e.tim.pathDelay h.port.val 0 : Nat) : Int) - fedTime e) := by
  have hmine : ¬ (e.tim.isRoot = true ∨ e.tim.slave ≠ some h.port.val) := by simp [hroot, hslave]
  rw [syncReceived, hx]
  dsimp only
  rw [if_neg hmine, hst]

/-- The first Sync on the slave port sets the time of a device in FREERUN. -/
theorem syncReceived_freerun (origin : Nat) (hroot : e.tim.isRoot = false) (hslave : e.tim.slave = some h.port.val) (hst : e.tim.st = .freerun) :
    let x : Dev := { e with tim.syncT := nset e.tim.syncT h.port.val (origin, fedTime e), tim.lastSync := e.now }
    syncReceived d h origin = freeStep { setTime x (origin + ngetD e.tim.pathDelay h.port.val 0) with tim.st := .locking, tim.good := 0, tim.uBase := freeVal e % 2 ^ 32 } := by
  have hmine : ¬ (e.tim.isRoot = true ∨ e.tim.slave ≠ some h.port.val) := by simp [hroot, hslave]
  rw [syncReceived, hx]
  dsimp only
  rw [if_neg hmine, hst]
  rfl

theorem announceReceived_better {cls ord steps utc : Nat} {a : AnnInfo} (hrole : portRole e h.port.val ≠ 1) (hord : ord ≠ ordinal e) (hroot : e.tim.isRoot = true) (hslave : e.tim.slave = none) :
    let x : Dev := { e with tim.best := nset e.tim.best h.port.val ⟨cls, ord, steps, e.now, utc⟩ }
    bestAnnounce x = some (h.port.val, a) → annBetter a (ownAnn x) = true →
    announceReceived d h cls ord steps utc = if mayAnnounce (follow x h.port.val a) then announceAll (follow x h.port.val a) h.port.val else follow x h.port.val a := by
  intro x hbest hbetter
  rw [announceReceived, hx]
  have howns : (x.tim.isRoot || x.tim.electing.isSome) = true := by rw [show x.tim.isRoot = true from hroot, Bool.true_or]
  have hyields : ¬ ((x.tim.isRoot || x.tim.electing.isSome) && !annBetter a (ownAnn x)) = true := by rw [hbetter, Bool.not_true, Bool.and_false]; exact Bool.false_ne_true
  have hfollows : ¬ (!(x.tim.isRoot || x.tim.electing.isSome) && x.tim.slave.isNone) = true := by rw [howns]; exact Bool.false_ne_true
  have hchanged : (x.tim.slave != some h.port.val || x.tim.root != a.ordinal || x.tim.steps != a.steps + 1) = true := by rw [show x.tim.slave = none from hslave]; rfl
  dsimp only
  rw [if_neg (not_or.mpr ⟨hrole, hord⟩), hbest]
  refine (if_neg hyields).trans ((if_neg hfollows).trans (ite_congr (congrArg (· = true) ?_) (fun _ => rfl) fun _ => rfl))
  exact (congrArg (· && mayAnnounce (follow x h.port.val a)) hchanged).trans (Bool.true_and _)

theorem announceReceived_host (cls ord steps utc : Nat) (hrole : portRole e h.port.val = 1) : announceReceived d h cls ord steps utc = e := by
  rw [announceReceived, hx]
  exact if_pos (.inl hrole)

theorem delayReq_heard : delayReq d h = sendCtrl e ptpDelayResp h.port.val [fedTime e] := by rw [delayReq, hx]

theorem delayResp_heard (arrival : Nat) {t1 t2 t3 : Nat} (hsync : nget e.tim.syncT h.port.val = some (t1, t2)) (hdelay : nget e.tim.delayT1 h.port.val = some t3) :
    delayResp d h arrival = { e with tim.pathDelay := nset e.tim.pathDelay h.port.val ((((t2 : Int) - t1) + ((arrival : Int) - t3)) / 2).toNat, tim.delayT1 := ndel e.tim.delayT1 h.port.val } := by
  rw [delayResp, hx]
  dsimp only
  rw [hsync, hdelay]

end

/-- A message of another domain than 24 is counted and no more. -/
theorem syncReceived_otherDomain {d : Dev} {h : PtpHdr} (origin : Nat) : let x := macGate d h.port.val h.sec
    x.2 = true → isDown x.1 = false → ptpPort x.1 h.port.val = true → h.domain.toNat ≠ 24 → syncReceived d h origin = bump x.1 .TIME_CNT 0 6 := by
  intro x hpass hdown hport hdomain
  have hheard : ptpHeard d h = (bump x.1 .TIME_CNT 0 6, false) := by
    have hx : macGate d h.port.val h.sec = (x.1, true) := Prod.ext rfl hpass
    rw [ptpHeard, hx]
    dsimp only
    rw [hdown, hport]
    exact if_pos hdomain
  rw [syncReceived, hheard]

/-- Settles O8: what is heard acts by the state of the clock. Where a device in FREERUN takes the time, its uncertainty is a free value (notes/assumptions 6). -/
theorem timeMessages : Obligations.TimeMessages := by
  refine ⟨?locked, ?freerun, ?better, ?host, ?asked, ?answered, ?domain⟩
  case locked => exact fun s h origin hx hroot hslave hst => does_congr (does_sync s h origin) (syncReceived_locked (Prod.ext rfl hx) _ hroot hslave hst)
  case freerun =>
    exact fun s h origin hx hroot hslave hst =>
      ⟨_, does_congr (does_sync s h origin) (syncReceived_freerun (Prod.ext rfl hx) _ hroot hslave hst), rfl, rfl, rfl, rfl, rfl, rfl, rfl⟩
  case better =>
    exact fun s h cls steps ord utc hx hrole hord hroot hbest hbetter hslave =>
      does_congr (does_announce s h cls ord ⟨steps, utc⟩) (announceReceived_better (Prod.ext rfl hx) (by rw [hrole]; decide) hord hroot hslave hbest hbetter)
  case host => exact fun s h cls steps ord utc hx hrole => does_congr (does_announce s h cls ord ⟨steps, utc⟩) (announceReceived_host (Prod.ext rfl hx) _ _ _ _ hrole)
  case asked => exact fun s h hx => does_congr (does_delayReq s h) (delayReq_heard (Prod.ext rfl hx))
  case answered => exact fun s h arrival t1 t2 t3 hx hsync hdelay => does_congr (does_delayResp s h arrival) (delayResp_heard (Prod.ext rfl hx) _ hsync hdelay)
  case domain => exact fun s h origin hpass hdown hport hdomain => does_congr (does_sync s h origin) (syncReceived_otherDomain _ hpass hdown hport hdomain)

/-! ### Timers of federation time -/

theorem portUp_congr {d e : Dev} {p : Nat} (hport : getPort e p = getPort d p) (hregs : ∀ r c i, reg e r c i = reg d r c i) (hsec : e.sec = d.sec) (hflt : e.flt = d.flt) :
    portUp e p = portUp d p := by
  simp only [portUp, fabricPort, portRole, macCarries, macsecOn, getMka, cellFenced, hport, hregs, hsec, hflt]

theorem syncTimer_due {d : Dev} (hdown : isDown d = false) (hdue : due d d.tim.nextSync = true) :
    syncTimer d = forEach (allCells.filter (masterPort d)) { d with tim.nextSync := d.now + 62500000 } fun d p => sendAnnounce (sendCtrl d ptpSync p [fedTime d]) p := by
  rw [syncTimer, hdue, hdown]
  rfl

theorem delayReqTimer_due {d : Dev} {p : Nat} (hdown : isDown d = false) (hslave : d.tim.slave = some p) (hdue : due d d.tim.nextDelay = true) :
    delayReqTimer d = sendCtrl { d with tim.nextDelay := d.now + 62500000, tim.delayT1 := nset d.tim.delayT1 p (fedTime d) } ptpDelayReq p [fedTime d] := by
  rw [delayReqTimer, hslave]
  dsimp only
  rw [hdue, hdown]
  rfl

theorem syncLossExpiry_due {d : Dev} (hst : d.tim.st = .locked) (hroot : d.tim.isRoot = false) (hdue : due d (d.tim.lastSync + 250000000) = true) :
    syncLossExpiry d = enterHoldover d := by
  rw [syncLossExpiry, hst, hroot, hdue]
  rfl

/-- The best Announce has timed out while a port is up: the device elects. -/
theorem announceTimeout_due {d : Dev} {p : Nat} {a : AnnInfo} (hslave : d.tim.slave = some p) (hbest : nget d.tim.best p = some a) (hdue : a.at_ + annTimeout ≤ d.now)
    (hup : ∃ q ∈ allCells, portUp d q = true) : announceTimeout d = elect { d with tim.best := ndel d.tim.best p, tim.slave := none } := by
  have hany : allCells.any (portUp { d with tim.best := ndel d.tim.best p, tim.slave := none }) = true := List.any_eq_true.mpr hup
  rw [announceTimeout, hslave]
  dsimp only
  rw [hbest, Option.any_some, decide_eq_false (Nat.not_lt.mpr hdue), if_neg Bool.false_ne_true, if_pos hany]

/-- With nothing left to slew, nothing has been slewed. -/
theorem slewed_of_rem_eq_zero {d : Dev} (h : d.tim.rem = 0) : slewed d = 0 := by
  unfold slewed
  split
  · rw [h, if_neg (Int.lt_irrefl 0)]
    exact Int.min_eq_left (Int.natCast_nonneg _)
  · rfl

theorem le_now_of_due {d : Dev} {t : Nat} (h : due d t = true) : t ≤ d.now := of_decide_eq_true h

section
variable {s : State}

theorem does_syncTimer_reached (hdown : isDown s.dev = false) : let d := reach s.dev s.dev.tim.nextSync
    Does .syncTimer s (forEach (allCells.filter (masterPort d)) { d with tim.nextSync := d.now + 62500000 } fun d p => sendAnnounce (sendCtrl d ptpSync p [fedTime d]) p) := by
  intro d
  have hdue : due d d.tim.nextSync = true := by rw [reach_tim]; exact due_reach ..
  refine does_congr (does_syncTimer s) ?_
  rw [reachO]
  exact syncTimer_due ((isDown_reach ..).trans hdown) hdue

theorem does_delayReqTimer_reached {p : Nat} (hdown : isDown s.dev = false) (hslave : s.dev.tim.slave = some p) : let d := reach s.dev s.dev.tim.nextDelay
    Does .delayReqTimer s (sendCtrl { d with tim.nextDelay := d.now + 62500000, tim.delayT1 := nset d.tim.delayT1 p (fedTime d) } ptpDelayReq p [fedTime d]) := by
  intro d
  have hdue : due d d.tim.nextDelay = true := by rw [reach_tim]; exact due_reach ..
  refine does_congr (does_delayReqTimer s) ?_
  rw [reachO]
  have hslave' : d.tim.slave = some p := by rw [reach_tim, hslave]
  exact delayReqTimer_due ((isDown_reach ..).trans hdown) hslave' hdue

theorem does_syncLossExpiry_reached (hst : s.dev.tim.st = .locked) (hroot : s.dev.tim.isRoot = false) :
    Does .syncLossExpiry s (enterHoldover (reach s.dev (s.dev.tim.lastSync + 250000000))) := by
  refine does_congr (does_syncLossExpiry s) ?_
  rw [syncLossTime, if_pos ⟨.inl hst, hroot⟩, reachO]
  exact syncLossExpiry_due (by rw [reach_tim, hst]) (by rw [reach_tim, hroot]) (by rw [reach_tim]; exact due_reach ..)

theorem does_announceTimeout_reached {p : Nat} {a : AnnInfo} (hslave : s.dev.tim.slave = some p) (hbest : nget s.dev.tim.best p = some a) (hup : ∃ q ∈ allCells, portUp s.dev q = true) :
    let d := reach s.dev (a.at_ + annTimeout)
    Does .announceTimeout s (elect { d with tim.best := ndel d.tim.best p, tim.slave := none }) := by
  intro d
  obtain ⟨q, hq, hport⟩ := hup
  refine does_congr (does_announceTimeout s) ?_
  rw [announceTime, hslave, Option.bind_some, hbest, Option.map_some, reachO]
  have hpassed : a.at_ + annTimeout ≤ d.now := le_now_of_due (due_reach ..)
  have hport' : portUp d q = true := (portUp_congr (getPort_reach ..) (reg_reach _ _) (reach_sec ..) (reach_flt ..)).trans hport
  have hslave' : d.tim.slave = some p := by rw [reach_tim, hslave]
  have hbest' : nget d.tim.best p = some a := by rw [reach_tim, hbest]
  exact announceTimeout_due hslave' hbest' hpassed ⟨q, hq, hport'⟩

theorem does_slewComplete_reached (hst : s.dev.tim.st = .slewing) (hrem : s.dev.tim.rem = 0) : Does .slewComplete s (enterLocked (reachO s.dev (slewTime s.dev))) := by
  refine does_congr (does_slewComplete s) ?_
  rw [slewTime, if_pos hst, reachO, slewComplete, if_pos]
  rw [slewed_of_rem_eq_zero (by rw [reach_tim, hrem]), reach_tim]
  exact ⟨hst, hrem⟩

end

theorem timeTimers : Claims.TimeTimers :=
  ⟨fun _ => does_syncTimer_reached, fun _ _ => does_delayReqTimer_reached, fun _ => does_syncLossExpiry_reached, fun _ _ _ => does_announceTimeout_reached, fun _ => does_slewComplete_reached⟩

/-! ### The PPS pins and the seconds -/

/-- An edge within 1 µs of a second after the last one counts. -/
theorem ppsInEdge_inWindow {d : Dev} {width l : Nat} (hon : fbit (hreg d .TIME_PPS_CFG) 31 = true) (hlo : 1000 ≤ width) (hhi : width ≤ 500000000) (hpwr : d.pwr.state ≠ .off)
    (hroot : d.tim.isRoot = false) (hlocked : d.tim.pps.locked = false) (hlast : d.tim.pps.last = some l) (hphase : (phaseErr (d.now - l)).natAbs ≤ 1000) (hgap : d.now - l ≤ 1500000000) :
    ppsInEdge d width =
      { d with tim.pps := { d.tim.pps with good := d.tim.pps.good + 1, last := some d.now, locked := decide (8 ≤ d.tim.pps.good + 1), err := phaseErr (fedTime d - hfld d .TIME_PPS_CFG 15 0) } } := by
  have hserved : (!fbit (hreg d .TIME_PPS_CFG) 31 || decide (width < 1000) || decide (500000000 < width) || d.pwr.state == .off) = false := by
    simp [hon, Nat.not_lt.mpr hlo, Nat.not_lt.mpr hhi, hpwr]
  rw [ppsInEdge, hserved, if_neg Bool.false_ne_true]
  simp [hlast, hlocked, hphase, hgap, hroot]

theorem ppsLoss_due {d : Dev} {l : Nat} (hlast : d.tim.pps.last = some l) (hlocked : d.tim.pps.locked = true) (hdue : due d (l + sec 3) = true) :
    ppsLoss d = { d with tim.pps := { d.tim.pps with locked := false, good := 0 } } := by
  rw [ppsLoss, hlast]
  dsimp only
  rw [hlocked, hdue]
  rfl

/-- Reaching a federation time that has come changes nothing. -/
theorem reachFed_of_le {d : Dev} {t : Nat} (h : t ≤ fedTime d) : reachFed d t = d := by
  have hmore : ({ d with now := d.now + (t - fedTime d) } : Dev) = d := by rw [Nat.sub_eq_zero_of_le h, Nat.add_zero]
  simp only [reachFed, hmore, if_pos h]

/-- The second that is over has been reached. -/
theorem reachFedO_secondTime {d : Dev} (h : d.tim.lastSecond < fedTime d / 1000000000) : reachFedO d (secondTime d) = d := by
  unfold secondTime
  split
  · rfl
  · exact reachFed_of_le (Nat.le_trans (Nat.mul_le_mul_right _ h) (Nat.div_mul_le_self _ _))

theorem sendCtrl_ppsPulse (d : Dev) (l : List Nat) : sendCtrl d ppsPulse 0 l = send d (.ctrl ppsPulse 0 l) := sendCtrl_direct d ppsPulse 0 l rfl

/-- The device at a second, once PPS_OUT has risen or stays low (R261). -/
def ppsRisen (d : Dev) (n : Nat) : Dev :=
  let width := if d.tim.st = .locked then 10000 else 100000
  let d := { d with tim.lastSecond := n }
  if fbit (hreg d .TIME_PPS_CFG) 30 && d.tim.everSet then sendCtrl { d with tim.ppsOut := width } ppsPulse 0 [n, width] else { d with tim.ppsOut := 0 }

theorem ppsRisen_on {d : Dev} (n : Nat) (hst : d.tim.st = .locked) (hon : fbit (hreg d .TIME_PPS_CFG) 30 = true) (hset : d.tim.everSet = true) :
    ppsRisen d n = send { d with tim.lastSecond := n, tim.ppsOut := 10000 } (.ctrl ppsPulse 0 [n, 10000]) := by
  have hrises : (fbit (hreg d .TIME_PPS_CFG) 30 && d.tim.everSet) = true := by rw [hon, hset]; rfl
  rw [ppsRisen, if_pos hst]
  exact (if_pos hrises).trans (sendCtrl_ppsPulse ..)

/-- PPS_OUT is a pin: it leaves the clock as it is. -/
theorem ppsRisen_tim (d : Dev) (n : Nat) : ∃ width, (ppsRisen d n).tim = { d.tim with lastSecond := n, ppsOut := width } := by
  unfold ppsRisen
  dsimp only
  rw [sendCtrl_ppsPulse]
  split <;> exact ⟨_, rfl⟩

/-- What was pending takes effect at a second n: a written time of day at a root that is not PPS-locked, or a step (R262, R264). -/
def pendingMade (d : Dev) (n : Nat) : Dev :=
  match d.tim.todPending with
  | some t => if d.tim.isRoot && !d.tim.pps.locked then applyOffset { d with tim.todPending := none } ((t * 1000000000 : Nat) - ((n * 1000000000 : Nat) : Int)) else d
  | none =>
    if d.tim.st = .stepPending then
      let d := foldSlew d
      bump { d with tim.offset := d.tim.offset + d.tim.stepPending, tim.stepPending := 0, tim.rem := 0, tim.slewFrom := d.now, tim.st := .slewing } .TIME_CNT 0 1
    else d

theorem pendingMade_nothing {d : Dev} (n : Nat) (htod : d.tim.todPending = none) (hst : d.tim.st ≠ .stepPending) : pendingMade d n = d := by
  rw [pendingMade, htod]
  exact if_neg hst

/-- A step that waited is made: the offset moves by it. -/
theorem pendingMade_step {d : Dev} (n : Nat) (htod : d.tim.todPending = none) (hst : d.tim.st = .stepPending) : let e := pendingMade d n
    e.tim.offset = d.tim.offset + d.tim.stepPending ∧ e.tim.stepPending = 0 ∧ e.tim.st = .slewing := by
  have hslewed : slewed d = 0 := by rw [slewed, hst]; rfl
  rw [pendingMade, htod]
  dsimp only
  rw [if_pos hst]
  refine ⟨?_, rfl, rfl⟩
  show d.tim.offset + slewed d + d.tim.stepPending = _
  rw [hslewed, Int.add_zero]

/-- At a second that has come PPS_OUT is first, then what was pending. -/
theorem wholeSecond_passed {d : Dev} {n : Nat} (hn : fedTime d / 1000000000 = n) (hlast : d.tim.lastSecond < n) (hpwr : d.pwr.state ≠ .off) :
    wholeSecond d = (let e := pendingMade (ppsRisen d n) n; { e with tim.lastSecond := fedTime e / 1000000000 }) := by
  have hlate : ¬ (n ≤ d.tim.lastSecond ∨ d.pwr.state = .off) := not_or.mpr ⟨Nat.not_le.mpr hlast, hpwr⟩
  rw [wholeSecond, hn]
  exact if_neg hlate

/-- The second that PPS_OUT marks is the one that federation time has reached. -/
theorem wholeSecond_pulse {d : Dev} {n : Nat} (hn : fedTime d / 1000000000 = n) (hlast : d.tim.lastSecond < n) (hpwr : d.pwr.state ≠ .off) (htod : d.tim.todPending = none)
    (hst : d.tim.st = .locked) (hon : fbit (hreg d .TIME_PPS_CFG) 30 = true) (hset : d.tim.everSet = true) :
    wholeSecond d = { send { d with tim.lastSecond := n, tim.ppsOut := 10000 } (.ctrl ppsPulse 0 [n, 10000]) with tim.lastSecond := n } := by
  rw [wholeSecond_passed hn hlast hpwr, ppsRisen_on n hst hon hset]
  generalize hx : send { d with tim.lastSecond := n, tim.ppsOut := 10000 } (.ctrl ppsPulse 0 [n, 10000]) = x
  have hmade : pendingMade x n = x := pendingMade_nothing n (by rw [← hx]; exact htod) (by rw [← hx, send, hst]; decide)
  have hfed : fedTime x / 1000000000 = n := by rw [← hx]; exact hn
  rw [hmade]
  dsimp only
  rw [hfed]

theorem wholeSecond_step {d : Dev} {n : Nat} (hn : fedTime d / 1000000000 = n) (hlast : d.tim.lastSecond < n) (hpwr : d.pwr.state ≠ .off) (htod : d.tim.todPending = none)
    (hst : d.tim.st = .stepPending) : let e := wholeSecond d
    e.tim.offset = d.tim.offset + d.tim.stepPending ∧ e.tim.stepPending = 0 ∧ e.tim.st = .slewing := by
  obtain ⟨width, hwidth⟩ := ppsRisen_tim d n
  obtain ⟨hoffset, hpending, hslewing⟩ := pendingMade_step (d := ppsRisen d n) n (by rw [hwidth, htod]) (by rw [hwidth, hst])
  rw [wholeSecond_passed hn hlast hpwr]
  exact ⟨hoffset.trans (by rw [hwidth]), hpending, hslewing⟩

theorem timeTodWrite_root {d : Dev} {w : Writer} (v : Nat) (ha : Accepts d w .TIME_TOD_CFG 0) (hroot : d.tim.isRoot = true) (hstep : d.ldr.step = 15) : let e := asked d w .TIME_TOD_CFG 0 1
    timeTodWrite d w v = { e with tim.utcOffset := cfld e .TIME_TOD_CFG 0 31 16, tim.todPending := some (cfld e .TIME_TOD_CFG 0 15 0 * 2 ^ 32 + v) } := by
  intro e
  have hroot' : e.tim.isRoot = true := by rw [asked_tim, hroot]
  have hstep' : e.ldr.step = 15 := by rw [asked_ldr, hstep]
  rw [timeTodWrite, command_accepted _ _ _ _ _ _ ha]
  dsimp only
  rw [if_neg (by rw [hroot']; exact Bool.false_ne_true)]
  exact if_pos hstep'

theorem timeTodWrite_follower {d : Dev} {w : Writer} (v : Nat) (ha : Accepts d w .TIME_TOD_CFG 0) (hroot : d.tim.isRoot = false) : timeTodWrite d w v = asked d w .TIME_TOD_CFG 0 1 := by
  rw [timeTodWrite, command_accepted _ _ _ _ _ _ ha]
  exact if_pos (by rw [asked_tim, hroot]; rfl)

theorem does_ppsInEdge_inWindow {s : State} {t : BitVec 64} {w : BitVec 32} {l : Nat} (hon : fbit (hreg s.dev .TIME_PPS_CFG) 31 = true) (hlo : 1000 ≤ w.toNat) (hhi : w.toNat ≤ 500000000)
    (hpwr : s.dev.pwr.state ≠ .off) (hroot : s.dev.tim.isRoot = false) (hlocked : s.dev.tim.pps.locked = false) (hlast : s.dev.tim.pps.last = some l) : let d := reach s.dev t.toNat
    (phaseErr (d.now - l)).natAbs ≤ 1000 → d.now - l ≤ 1500000000 →
    ∃ e, Does (.ppsInEdge t w) s e ∧ e.tim.pps.good = s.dev.tim.pps.good + 1 ∧ e.tim.pps.last = some d.now ∧ e.tim.pps.locked = decide (8 ≤ s.dev.tim.pps.good + 1) ∧
      e.tim.pps.err = phaseErr (fedTime d - hfld d .TIME_PPS_CFG 15 0) ∧ e.tim.offset = s.dev.tim.offset := by
  intro d hphase hgap
  have htim : d.tim = s.dev.tim := reach_tim ..
  have hon' : fbit (hreg d .TIME_PPS_CFG) 31 = true := by rw [hreg, reg_reach]; exact hon
  have hedge := ppsInEdge_inWindow hon' hlo hhi (by rw [reach_pwr]; exact hpwr) (by rw [htim, hroot]) (by rw [htim, hlocked]) (by rw [htim, hlast]) hphase hgap
  refine ⟨_, does_congr (does_ppsInEdge s t w) hedge, ?_, rfl, ?_, rfl, ?_⟩ <;> dsimp only <;> rw [htim]

theorem does_ppsLoss_reached {s : State} {l : Nat} (hlast : s.dev.tim.pps.last = some l) (hlocked : s.dev.tim.pps.locked = true) : let d := reach s.dev (l + sec 3)
    Does .ppsLoss s { d with tim.pps := { d.tim.pps with locked := false, good := 0 } } := by
  have htime : ppsTime s.dev = some (l + sec 3) := by rw [ppsTime, hlocked, if_pos rfl, hlast, Option.map_some]
  refine does_congr (does_ppsLoss s) ?_
  rw [htime, reachO]
  generalize ht : l + sec 3 = t
  have htim : (reach s.dev t).tim = s.dev.tim := reach_tim ..
  exact ppsLoss_due (by rw [htim, hlast]) (by rw [htim, hlocked]) (by rw [ht]; exact due_reach ..)

theorem does_wholeSecond_passed {s : State} (hlast : s.dev.tim.lastSecond < fedTime s.dev / 1000000000) : Does .wholeSecond s (wholeSecond s.dev) :=
  does_congr (does_wholeSecond s) (by rw [reachFedO_secondTime hlast])

theorem ppsAndSeconds : Claims.PpsAndSeconds := by
  refine ⟨?edge, ?loss, ?second, ?step, ?written, ?follower⟩
  case edge => exact fun s t w l hon hlo hhi hpwr hroot hlocked hlast hphase hgap => does_ppsInEdge_inWindow hon hlo hhi hpwr hroot hlocked hlast hphase hgap
  case loss => exact fun s l hlast hlocked => does_ppsLoss_reached hlast hlocked
  case second => exact fun s hlast hpwr htod hst hon hset => ⟨_, does_congr (does_wholeSecond_passed hlast) (wholeSecond_pulse rfl hlast hpwr htod hst hon hset), rfl, rfl, rfl, rfl⟩
  case step => exact fun s hlast hpwr htod hst _ => ⟨_, does_wholeSecond_passed hlast, wholeSecond_step rfl hlast hpwr htod hst⟩
  case written => exact fun s w v ha hroot hstep => does_congr (does_timeTodWrite s w v) (timeTodWrite_root _ ha hroot hstep)
  case follower => exact fun s w v ha hroot => does_congr (does_timeTodWrite s w v) (timeTodWrite_follower _ ha hroot)

/-- Settles O46: timers once local time has reached their end (notes/assumptions 3), edges and seconds by what they find, and that each of the commands completes. -/
theorem clocks : Obligations.Clocks := ⟨timeTimers, ppsAndSeconds, timeCommandsComplete⟩

end Sys2Proof.Machine
end

section
/-!
SUPPORT. Posts to the calendar, the mode query, and what entries do when they fire (spec/12_time_and_global_ops.md R266 to R268, R275, R281, R283;
notes/assumptions 17 and 87 for the slot that a post takes, 89 for the instant at which a device is BEHIND).
-/
namespace Sys2Proof.Machine
open Sys2Proof

/-! ### Posts -/

/-- The entry of an accepted post. -/
def postedEnt (d : Dev) (kind flags act time arg : Nat) : CalEnt := ⟨.posted, kind, flags, act, time, arg, d.cal.orders⟩

theorem calPost_accepted {d : Dev} {kind flags act time arg : Nat} {ok : Bool} (h : postCode d kind time arg ok = 0) :
    ∃ e, calPost d kind flags act time arg ok = (e, 0) ∧ e.cal.ents = nset d.cal.ents (calSlot d) (postedEnt d kind flags act time arg) ∧ (kind ≠ 2 → e.snap = d.snap) := by
  rw [calPost, h]
  refine ⟨_, rfl, ?_, fun hkind => ?_⟩
  · split <;> rfl
  · rw [if_neg hkind]

theorem calPost_refused {d : Dev} {kind flags act time arg : Nat} {ok : Bool} (h : postCode d kind time arg ok ≠ 0) :
    calPost d kind flags act time arg ok = (d, postCode d kind time arg ok) := by
  unfold calPost
  split
  · rename_i h0
    exact absurd h0 h
  · rfl

theorem calPostLocal_accepted {d : Dev} {w : Writer} (ha : Accepts d w .CAL_CMD 0) : let e := asked d w .CAL_CMD 0 0
    let w0 := reg e .CAL_POST 0 0
    let x := calPost e (fld w0 7 4) (fld w0 3 0) (calWord e 1) (calWord e 2 * 2 ^ 32 + calWord e 3) (calWord e 4 * 2 ^ 32 + calWord e 5) (fld w0 31 8 == 0)
    calPostLocal d w = { x.1 with cal.result := x.2 } := by
  rw [calPostLocal, command_accepted _ _ _ _ _ _ ha]

theorem calCancelLocal_accepted {d : Dev} {w : Writer} (ha : Accepts d w .CAL_CMD 0) : let e := asked d w .CAL_CMD 0 0
    calCancelLocal d w = calCancel e (calWord e 1) := by
  rw [calCancelLocal, command_accepted _ _ _ _ _ _ ha]

theorem calendarPostPost_heard {d e : Dev} {m : CalPostMsg} (hx : calHeard d m 0 = (e, true)) :
    let y := calPost e m.entry.kind.toNat m.entry.flags.toNat m.act.toNat m.entry.time.toNat m.entry.arg.toNat (m.entry.rsv == 0)
    calendarPostPost d m = sendCalPost y.1 m.port.val m.act.toNat 2 y.2 noEntry := by
  rw [calendarPostPost, hx]

theorem calendarPostCancel_heard {d e : Dev} {m : CalPostMsg} (hx : calHeard d m 1 = (e, true)) :
    calendarPostCancel d m = sendCalPost (calCancel e m.act.toNat) m.port.val m.act.toNat 2 0 noEntry := by
  rw [calendarPostCancel, hx]

theorem queryModeReceived_heard {d e : Dev} {m : ModeMsg} (hx : modeHeard d m 3 = (e, true)) :
    queryModeReceived d m = sendCalPost e m.port.val 0 4 0 (modeEntry e.mode.gen e.mode.epoch) := by
  rw [queryModeReceived, hx]

theorem modeAnswer_heard {d e : Dev} {m : ModeMsg} (hx : modeHeard d m 4 = (e, true)) : let l := nset e.mode.answers m.port.val (m.generation.toNat, m.epoch.toNat)
    modeAnswer d m = { e with mode.answers := l, mode.behind := e.mode.behind || decide (l.length < 2 * (l.filter fun p => decide (e.mode.gen < p.2.1)).length) } := by
  rw [modeAnswer, hx]

theorem calendarPosts : Claims.CalendarPosts := by
  refine ⟨?accepted, ?refused, ?posted, ?cancelLocal, ?post, ?cancel, ?answer, ?query, ?mode⟩
  case accepted =>
    intro d kind flags act time arg ok hcode
    obtain ⟨e, he, hents, hsnap⟩ := calPost_accepted (flags := flags) (act := act) hcode
    exact ⟨e, he, by rw [hents, nget_nset_same, postedEnt], fun i hi => by rw [hents, nget_nset_ne _ _ _ _ hi], hsnap⟩
  case refused => exact fun d kind flags act time arg ok hcode => calPost_refused hcode
  case posted => exact fun s w ha => does_congr (does_calPostLocal s w) (calPostLocal_accepted ha)
  case cancelLocal => exact fun s w ha => does_congr (does_calCancelLocal s w) (calCancelLocal_accepted ha)
  case post => exact fun s m hx => does_congr (does_calendarPostPost s m) (calendarPostPost_heard (Prod.ext rfl hx))
  case cancel => exact fun s m hx => does_congr (does_calendarPostCancel s m) (calendarPostCancel_heard (Prod.ext rfl hx))
  case answer => exact fun s m => does_calendarPostAnswer s m
  case query => exact fun s m hx => does_congr (does_queryMode s m) (queryModeReceived_heard (Prod.ext rfl hx))
  case mode => exact fun s m hx => does_congr (does_modeAnswer s m) (modeAnswer_heard (Prod.ext rfl hx))

/-! ### The entry that stands alone fires at its time -/

theorem postedEnts_reachFed (d : Dev) (t : Nat) : postedEnts (reachFed d t) = postedEnts d := by rw [postedEnts, postedEnts, reachFed_cal]

section
variable {d : Dev} {i kind : Nat} {e : CalEnt} (hf : FiresAlone d i e kind)
include hf

theorem fireTime_alone : fireTime d kind = some e.time := by
  obtain ⟨hents, hkind, -, -⟩ := hf
  rw [fireTime, hents]
  exact if_pos hkind

theorem nextFiring_alone : nextFiring (reachFed d e.time) = some (i, e) := by
  obtain ⟨hents, -, -, hdue⟩ := hf
  have hkept : [(i, e)].filter (fun p => decide (p.2.time ≤ fedTime (reachFed d e.time))) = [(i, e)] := List.filter_cons_of_pos (decide_eq_true hdue)
  rw [nextFiring_eq, dueEnts, postedEnts_reachFed, hents, hkept]
  rfl

/-- The entry takes its effect on the device in which it is FIRED. -/
theorem fire_alone (go : Dev → CalEnt → Dev) : fire (reachFedO d (fireTime d kind)) kind go = go (firedAt d i e) e := by
  obtain ⟨hents, hkind, hpwr, hdue⟩ := id hf
  rw [fireTime_alone hf, reachFedO, fire, nextFiring_alone hf]
  exact if_pos ⟨hkind, by rw [reachFed_pwr]; exact hpwr⟩

end

theorem isDown_firedAt (d : Dev) (i : Nat) (e : CalEnt) : isDown (firedAt d i e) = isDown d := by simp only [firedAt, isDown, reachFed_pwr]

theorem mediaOn_firedAt (d : Dev) (i : Nat) (e : CalEnt) (c : Nat) : mediaOn (firedAt d i e) c = mediaOn d c := by simp only [firedAt, mediaOn, getMed, reachFed_med]

theorem custodyOn_firedAt (d : Dev) (i : Nat) (e : CalEnt) : custodyOn (firedAt d i e) = custodyOn d := by
  simp only [firedAt, custodyOn, standalone, isDown, reachFed_ldr, reachFed_pwr]

/-- Without a media channel and without a twin a scrub window only opens. -/
theorem scrubWindow_alone {d : Dev} {i : Nat} {e : CalEnt} (hf : FiresAlone d i e 4) (hmedia : ∀ c ∈ allCells, mediaOn d c = false) (hcus : custodyOn d = false) :
    scrubWindow (reachFedO d (fireTime d 4)) = { firedAt d i e with cal.scrubEnd := some (e.time + e.arg * 1000000000) } := by
  rw [scrubWindow, fire_alone hf]
  generalize hx : firedAt d i e = x
  have hnone : (allCells.filter fun c => mediaOn { x with cal.scrubEnd := some (e.time + e.arg * 1000000000) } c && (getMed { x with cal.scrubEnd := some (e.time + e.arg * 1000000000) } c).scrub.isNone) = [] := by
    refine List.filter_eq_nil_iff.mpr fun c hc => ?_
    have hoff : mediaOn { x with cal.scrubEnd := some (e.time + e.arg * 1000000000) } c = false := by
      rw [← hx]
      exact (mediaOn_firedAt d i e c).trans (hmedia c hc)
    rw [hoff]
    exact Bool.false_ne_true
  have hoff : ¬ (custodyOn { x with cal.scrubEnd := some (e.time + e.arg * 1000000000) } && x.cus.state == .joined && x.cus.comparing.isNone) = true := by
    have hcus' : custodyOn { x with cal.scrubEnd := some (e.time + e.arg * 1000000000) } = false := by
      rw [← hx]
      exact (custodyOn_firedAt d i e).trans hcus
    rw [hcus', Bool.false_and, Bool.false_and]
    exact Bool.false_ne_true
  dsimp only
  rw [hnone, forEach_nil]
  exact if_neg hoff

/-- A window that ends at a time that has come is over. -/
theorem any_reached {d : Dev} {o : Option Nat} {t : Nat} (ho : o = some t) (hdue : t ≤ fedTime d) : (o.any fun t => decide (t ≤ fedTime d)) = true := by
  rw [ho, Option.any_some, decide_eq_true hdue]

section
variable {d : Dev} {i : Nat} {e : CalEnt}

theorem modeCommit_alone (hf : FiresAlone d i e 1) (hdown : isDown d = false) : modeCommit (reachFedO d (fireTime d 1)) =
    (let c := commitAll (firedAt d i e)
     { c with mode.oldEpoch := (firedAt d i e).mode.epoch, mode.epoch := e.arg % 4, mode.gen := e.arg / 2 ^ 32, mode.graceEnd := some (e.time + epsilon c + graceNs c) }) := by
  rw [modeCommit, fire_alone hf, isDown_firedAt, hdown, if_neg Bool.false_ne_true]

theorem snapshotCut_alone (hf : FiresAlone d i e 2) (hpart : participates (firedAt d i e) = true) :
    snapshotCut (reachFedO d (fireTime d 2)) = openCut (firedAt d i e) e.act e.arg e.time false := by
  rw [snapshotCut, fire_alone hf, if_pos hpart]

theorem coordRestart_alone (hf : FiresAlone d i e 3) (hserves : inService3 (firedAt d i e) = true) :
    coordRestart (reachFedO d (fireTime d 3)) = beginFlush { firedAt d i e with ldr.restartMs := e.arg } .restart := by
  rw [coordRestart, fire_alone hf, if_pos hserves]

theorem keyRotation_alone (hf : FiresAlone d i e 5) : let x := firedAt d i e
    keyRotation (reachFedO d (fireTime d 5)) = rotate x (e.arg % 4096) (e.arg / 4096) (e.time + epsilon x + graceNs x) := by
  rw [keyRotation, fire_alone hf]

theorem dozeWindow_alone (hf : FiresAlone d i e 6) : dozeWindow (reachFedO d (fireTime d 6)) = { firedAt d i e with cal.dozeEnd := some (e.time + e.arg * 1000000) } := by
  rw [dozeWindow, fire_alone hf]

theorem startSlot_alone (hf : FiresAlone d i e 7) : startSlot (reachFedO d (fireTime d 7)) = { firedAt d i e with ldr.posted := some e.arg } := by
  rw [startSlot, fire_alone hf]

theorem scrubWindowEnd_reached {t : Nat} (hend : d.cal.scrubEnd = some t) (hdue : t ≤ fedTime (reachFed d t)) :
    scrubWindowEnd (reachFedO d d.cal.scrubEnd) = { reachFed d t with cal.scrubEnd := none } := by
  rw [hend, reachFedO, scrubWindowEnd, if_pos (any_reached (by rw [reachFed_cal, hend]) hdue)]

theorem dozeWindowEnd_reached {t : Nat} (hend : d.cal.dozeEnd = some t) (hdue : t ≤ fedTime (reachFed d t)) :
    dozeWindowEnd (reachFedO d d.cal.dozeEnd) = { reachFed d t with cal.dozeEnd := none } := by
  rw [hend, reachFedO, dozeWindowEnd, if_pos (any_reached (by rw [reachFed_cal, hend]) hdue)]

theorem graceWindowEnd_reached {t : Nat} (hend : d.mode.graceEnd = some t) (hdue : t ≤ fedTime (reachFed d t)) :
    graceWindowEnd (reachFedO d d.mode.graceEnd) = { reachFed d t with mode.graceEnd := none } := by
  rw [hend, reachFedO, graceWindowEnd, if_pos (any_reached (by rw [reachFed_mode, hend]) hdue)]

end

theorem calendarFires : Claims.CalendarFires := by
  refine ⟨?mode, ?cut, ?restart, ?scrub, ?rotation, ?doze, ?slot, ?scrubEnd, ?dozeEnd, ?graceEnd⟩
  case mode => exact fun s i e hf hdown => does_congr (does_modeCommit s) (modeCommit_alone hf hdown)
  case cut => exact fun s i e hf hpart => does_congr (does_snapshotCut s) (snapshotCut_alone hf hpart)
  case restart => exact fun s i e hf hserves => does_congr (does_coordRestart s) (coordRestart_alone hf hserves)
  case scrub => exact fun s i e hf hmedia hcus => does_congr (does_scrubWindow s) (scrubWindow_alone hf hmedia hcus)
  case rotation => exact fun s i e hf => does_congr (does_keyRotation s) (keyRotation_alone hf)
  case doze => exact fun s i e hf => does_congr (does_dozeWindow s) (dozeWindow_alone hf)
  case slot => exact fun s i e hf => does_congr (does_startSlot s) (startSlot_alone hf)
  case scrubEnd => exact fun s t hend hdue => does_congr (does_scrubWindowEnd s) (scrubWindowEnd_reached hend hdue)
  case dozeEnd => exact fun s t hend hdue => does_congr (does_dozeWindowEnd s) (dozeWindowEnd_reached hend hdue)
  case graceEnd => exact fun s t hend hdue => does_congr (does_graceWindowEnd s) (graceWindowEnd_reached hend hdue)

/-- Settles O47: a post by the code of Table TIM-5 that applies to it, and an entry on the device in which it is FIRED. Timers run once local time has reached their end (notes/assumptions 3). -/
theorem calendar : Obligations.Calendar := ⟨calendarPosts, calendarFires⟩

end Sys2Proof.Machine
end

section
/-!
SUPPORT. Acts by command, and a device that is alone in its tree (spec/12_time_and_global_ops.md R269, R273, R277; notes/assumptions 96 for the kind that ACT_POST takes).
-/
namespace Sys2Proof.Machine
open Sys2Proof

/-! ### Acts by command (R273) -/

section
variable {d : Dev} {w : Writer} (ha : Accepts d w .TIME_ACT_CMD 0)
include ha

/-- An accepted act command of a device that coordinates no act. -/
theorem actCommand_idle (hrun : d.act.run = none) (go : Dev → Dev) : actCommand d w go = go (asked d w .TIME_ACT_CMD 0 0) := by
  have hidle : ¬ (asked d w .TIME_ACT_CMD 0 0).act.run.isSome = true := by rw [asked_act, hrun]; exact Bool.false_ne_true
  rw [actCommand, command_accepted _ _ _ _ _ _ ha]
  exact if_neg hidle

/-- While an act runs, a command only sets OVERRUN. -/
theorem actCommand_overrun (hrun : d.act.run.isSome = true) (go : Dev → Dev) :
    actCommand d w go = { asked d w .TIME_ACT_CMD 0 0 with act.overrun := true } := by
  have hbusy : (asked d w .TIME_ACT_CMD 0 0).act.run.isSome = true := by rw [asked_act, hrun]
  rw [actCommand, command_accepted _ _ _ _ _ _ ha]
  exact if_pos hbusy

theorem actPosting_allowed {op kind : Nat} (hrun : d.act.run = none) (harg : calArgOk (asked d w .TIME_ACT_CMD 0 0) kind (actArg (asked d w .TIME_ACT_CMD 0 0)) = true) :
    actPosting d w op kind = startAct (asked d w .TIME_ACT_CMD 0 0) op kind (actTime (asked d w .TIME_ACT_CMD 0 0)) (actArg (asked d w .TIME_ACT_CMD 0 0)) none := by
  rw [actPosting, actCommand_idle ha hrun]
  exact if_pos harg

theorem actSnapshot_overrun (hrun : d.act.run.isSome = true) : actSnapshot d w = { asked d w .TIME_ACT_CMD 0 0 with act.overrun := true } := by
  unfold actSnapshot actPosting
  exact actCommand_overrun ha hrun _

theorem actBarrier_allowed (hrun : d.act.run = none) (htime : actTime (asked d w .TIME_ACT_CMD 0 0) = 0) (harg : actArg (asked d w .TIME_ACT_CMD 0 0) = 0) :
    actBarrier d w = startAct (asked d w .TIME_ACT_CMD 0 0) 1 0 0 0 none := by
  rw [actBarrier, actCommand_idle ha hrun]
  exact if_neg fun h => h.elim (absurd htime) (absurd harg)

end

theorem regKey_calPost_ne : ∀ j, j < 6 → regKey .CAL_POST 0 0 ≠ regKey .HUB_ACCESS_STATUS 0 j := by decide

theorem actPost_allowed {d : Dev} {w : Writer} (ha : Accepts d w .TIME_ACT_CMD 0) (hrun : d.act.run = none) : let e := asked d w .TIME_ACT_CMD 0 0
    let k := fld (reg e .CAL_POST 0 0) 7 4
    calArgOk e k (actArg e) = true → actPost d w = startAct e 5 k (actTime e) (actArg e) none := by
  intro e k harg
  have hk : fld (reg d .CAL_POST 0 0) 7 4 = k := by rw [show k = fld (reg e .CAL_POST 0 0) 7 4 from rfl, reg_asked _ _ _ _ _ _ _ _ regKey_calPost_ne]
  rw [actPost, hk]
  exact actPosting_allowed ha hrun harg

theorem actsHold : Claims.Acts := by
  refine ⟨?barrier, ?snapshot, ?mode, ?restart, ?post, ?bad, ?busy⟩
  case barrier => exact fun s w ha hrun ht harg => does_congr (does_actBarrier s w) (actBarrier_allowed ha hrun ht harg)
  case snapshot => exact fun s w ha hrun harg => does_congr (does_actSnapshot s w) (actPosting_allowed ha hrun harg)
  case mode => exact fun s w ha hrun harg => does_congr (does_actModeCommit s w) (actPosting_allowed ha hrun harg)
  case restart => exact fun s w ha hrun harg => does_congr (does_actRestart s w) (actPosting_allowed ha hrun harg)
  case post => exact fun s w ha hrun harg => does_congr (does_actPost s w) (actPost_allowed ha hrun harg)
  case bad => exact fun s w op _ ha hrun => does_congr (does_actCmdReserved s w op) (actCommand_idle ha hrun _)
  case busy => exact fun s w ha hrun => does_congr (does_actSnapshot s w) (actSnapshot_overrun ha hrun)

/-! ### A relay whose answers are all in -/

/-- What a device with no one below it answers to a BARRIER. -/
def soleAnswer (d : Dev) : Gather := ⟨1, 0, 0, sat (uncertainty d) 0xFFFF, none⟩

theorem addGather_own_accepts (d : Dev) : addGather {} (ownGather d 0) = soleAnswer d := by
  simp [addGather, ownGather, soleAnswer]

/-- The shape of the tree is that of the topology and the link states; no act touches it. -/
theorem treeKids_act (d : Dev) (a : ActPart) (root x : Nat) : treeKids { d with act := a } root x = treeKids d root x := rfl

/-- A relay with no child to wait for, whose own part is handled, is gone from the table once it is answered: to its parent, or handed to the coordinator. -/
theorem ownPart_only {d : Dev} {key : Nat} {r : Relay} (hr : d.act.relays = [(key, r)]) (hkids : r.kids = []) (hsum : r.sum = {}) : let e := { d with act.relays := [] }
    ownPart d key 0 = match r.parent with
      | some p => sendCtrl e 0xE8 p (tagged e (gatherBytes (key / 8) (key % 8) 0 1 0 (sat (uncertainty d) 0xFFFF) 0))
      | none => { e with act.ready := d.act.ready ++ [(key / 8, key % 8, soleAnswer d)] } := by
  have hset : nmod d.act.relays key (fun r => { r with own := true, sum := addGather r.sum (ownGather d 0) }) = [(key, { r with own := true, sum := soleAnswer d })] := by
    simp [hr, nmod, nget, nset, hsum, addGather_own_accepts]
  rw [ownPart, addToRelay, hset]
  simp only [relayCheck, nget, if_true, Bool.not_true, hkids, ndel]
  cases hp : r.parent <;> rfl

theorem barrierKey (act : Nat) : (act * 8 + treeBarrierOp) / 8 = act ∧ (act * 8 + treeBarrierOp) % 8 = treeBarrierOp := by
  unfold treeBarrierOp
  omega

/-- A BARRIER at a device with no one below it is answered at once with a gather of one. -/
theorem treeOpen_barrier_alone {d : Dev} {act root : Nat} {parent : Option Nat} (hkids : treeKids d root (ordinal d) = []) (hrelays : d.act.relays = []) :
    treeOpen d act treeBarrierOp root parent {} = match parent with
      | some p => sendCtrl d 0xE8 p (tagged d (gatherBytes act 6 0 1 0 (sat (uncertainty d) 0xFFFF) 0))
      | none => { d with act.ready := d.act.ready ++ [(act, 6, soleAnswer d)] } := by
  have hfree : ¬ nhas d.act.relays (act * 8 + treeBarrierOp) = true := by rw [hrelays]; exact Bool.false_ne_true
  have hback : { d with act.relays := [] } = d := by rw [← hrelays]
  obtain ⟨hdiv, hmod⟩ := barrierKey act
  rw [treeOpen, if_neg hfree]
  simp only [hkids, forEach_nil, hrelays, nset, List.map_nil]
  refine (ownPart_only rfl rfl rfl).trans ?_
  rw [hdiv, hmod]
  cases parent with
  | some p => exact congrArg (fun e => sendCtrl e 0xE8 p (tagged e (gatherBytes act 6 0 1 0 (sat (uncertainty d) 0xFFFF) 0))) hback
  | none => rfl

/-! ### A BARRIER of a device that is alone -/

/-- The number of the next act, and the act as a BARRIER command starts it. -/
def nextAct (d : Dev) : Nat := ordinal d * 2 ^ 18 + d.act.seq % 2 ^ 18
def barrierRun (d : Dev) : ActRun := { op := 1, id := nextAct d, kind := 0, time := 0, arg := 0, phase := .barrier, bulk := none }
def barrierStarted (d : Dev) : Dev := { d with act.run := some (barrierRun d), act.seq := d.act.seq + 1, act.lastOp := 1, act.result := 0, act.id := nextAct d, act.sum := {} }

theorem startAct_barrier (d : Dev) : startAct d 1 0 0 0 none = actTurn actFuel (treeOpen (barrierStarted d) (nextAct d) treeBarrierOp (ordinal d) none {}) := rfl

theorem actTurn_done {d : Dev} (h : d.act.ready = []) : ∀ n, actTurn n d = d
  | 0 => rfl
  | n + 1 => by rw [actTurn, h]

/-- The last gather of a root is acted on. -/
theorem actTurn_last {d : Dev} {act op : Nat} {g : Gather} (h : d.act.ready = [(act, op, g)]) (n : Nat) :
    actTurn (n + 1) d = actTurn n (releaseGathered (actStep { d with act.ready := [] } act op g) act op) := by
  rw [actTurn, h]

/-- Only the gather of a DISCARD ends a RELEASE. -/
theorem releaseGathered_other (d : Dev) (act : Nat) {op : Nat} (h : op ≠ treeDiscardOp) : releaseGathered d act op = d := by
  unfold releaseGathered
  split
  · exact if_neg fun hc => h hc.1
  · rfl

/-- The gather of the coordinator's own BARRIER ends the act. -/
theorem actStep_barrier {d : Dev} {r : ActRun} (hrun : d.act.run = some r) (hphase : r.phase = .barrier) (hbulk : r.bulk = none) (g : Gather) :
    actStep d r.id 6 g = { d with act.run := none, act.result := 0, act.sum := g } := by
  rw [actStep, hrun]
  simp only [ne_eq, not_true_eq_false, if_false, hphase]
  refine (if_pos rfl).trans ?_
  rw [actEnd, hbulk]
  rfl

theorem startAct_barrier_alone {d : Dev} (hkids : treeKids d (ordinal d) (ordinal d) = []) (hrelays : d.act.relays = []) (hready : d.act.ready = []) :
    startAct d 1 0 0 0 none = { barrierStarted d with act.run := none, act.sum := soleAnswer d, act.ready := [] } := by
  have hopen := treeOpen_barrier_alone (d := barrierStarted d) (act := nextAct d) (root := ordinal d) (parent := none) hkids hrelays
  rw [startAct_barrier, hopen]
  refine (actTurn_last (act := nextAct d) (op := 6) (g := soleAnswer d) (congrArg (· ++ _) hready) 15).trans ?_
  rw [releaseGathered_other _ _ (by decide), show nextAct d = (barrierRun d).id from rfl, actStep_barrier (r := barrierRun d) rfl rfl rfl, actTurn_done rfl]
  rfl

theorem barrierAlone : Claims.BarrierAlone :=
  ⟨fun _ hkids hrelays hready => ⟨_, startAct_barrier_alone hkids hrelays hready, rfl, rfl, rfl, hrelays, rfl, rfl, rfl, rfl, rfl, rfl⟩,
   fun _ _ _ _ hkids hrelays => treeOpen_barrier_alone hkids hrelays⟩

/-- Settles O48: a command that its argument allows starts its act with this device as coordinator, and a BARRIER with no one below is answered by the device itself. -/
theorem actsOfTheTree : Obligations.ActsOfTheTree := ⟨actsHold, barrierAlone⟩

end Sys2Proof.Machine
end

section
/-!
SUPPORT. Broadcasts of the tree, gathers and cuts (spec/12_time_and_global_ops.md R268 to R270, R273 to R278; notes/assumptions 93 for the gather of a cut's result, 94 for the bound of 256 snapshots).
-/
namespace Sys2Proof.Machine
open Sys2Proof

/-! ### Broadcasts (R268, R269) -/

section
variable {d e : Dev} {m : TreeMsg} {op : Nat}

theorem treeReceived_taken (hx : broadcastHeard d m op = (e, true)) (hroot : m.root.val ≠ ordinal e) : treeReceived d m op = treeTaken e m op := by
  rw [treeReceived, hx]
  exact if_neg hroot

/-- A device does not take its own broadcast again. -/
theorem treeReceived_own (hx : broadcastHeard d m op = (e, true)) (hroot : m.root.val = ordinal e) : treeReceived d m op = e := by
  rw [treeReceived, hx]
  exact if_pos hroot

theorem broadcastHeard_badTag (hx : ctrlHeard d m.port.val m.sec = (e, true)) (htag : tagOk e (treeBytes m.act.toNat op m.root.val (wireBroadcast m)) m.tag = false) :
    broadcastHeard d m op = (bump e .TIME_CNT 0 5, false) := by
  rw [broadcastHeard, treeHeard, hx]
  exact if_neg (ne_true_of_eq_false htag)

theorem treeReceived_badTag (hx : ctrlHeard d m.port.val m.sec = (e, true)) (htag : tagOk e (treeBytes m.act.toNat op m.root.val (wireBroadcast m)) m.tag = false) :
    treeReceived d m op = bump e .TIME_CNT 0 5 := by
  rw [treeReceived, broadcastHeard_badTag hx htag]

end

theorem treeBroadcasts : Claims.TreeBroadcasts := by
  refine ⟨?post, ?cancel, ?confirm, ?discard, ?pause, ?resume, ?barrier, ?own, ?tag⟩
  case post => exact fun s m hx hroot => does_congr (does_treePost s m) (treeReceived_taken (Prod.ext rfl hx) hroot)
  case cancel => exact fun s m hx hroot => does_congr (does_treeCancel s m) (treeReceived_taken (Prod.ext rfl hx) hroot)
  case confirm => exact fun s m hx hroot => does_congr (does_treeConfirm s m) (treeReceived_taken (Prod.ext rfl hx) hroot)
  case discard => exact fun s m hx hroot => does_congr (does_treeDiscard s m) (treeReceived_taken (Prod.ext rfl hx) hroot)
  case pause => exact fun s m hx hroot => does_congr (does_treePause s m) (treeReceived_taken (Prod.ext rfl hx) hroot)
  case resume => exact fun s m hx hroot => does_congr (does_treeResume s m) (treeReceived_taken (Prod.ext rfl hx) hroot)
  case barrier => exact fun s m hx hroot => does_congr (does_treeBarrier s m) (treeReceived_taken (Prod.ext rfl hx) hroot)
  case own => exact fun s m hx hroot => does_congr (does_treePost s m) (treeReceived_own (Prod.ext rfl hx) hroot)
  case tag => exact fun s m d hx htag => does_congr (does_treePost s m) (treeReceived_badTag hx htag)

/-! ### What an operation does (R276 to R278) -/

theorem nmod_some {α : Type} {m : NMap α} {k : Nat} {v : α} (f : α → α) (h : nget m k = some v) : nmod m k f = nset m k (f v) := by rw [nmod, h]

theorem nget_nmod_same {α : Type} {m : NMap α} {k : Nat} {v : α} (f : α → α) (h : nget m k = some v) : nget (nmod m k f) k = some (f v) := by
  rw [nmod_some f h, nget_nset_same]

theorem retainSnapshot_pending {d : Dev} {act : Nat} {sn : Snap} (h : nget d.snap.snaps act = some sn) (hst : sn.state = .pending) :
    nget (retainSnapshot d act).snap.snaps act = some { sn with state := .retained } :=
  (nget_nmod_same _ h).trans (congrArg some (if_pos hst))

theorem releaseSnapshot_held {d : Dev} {act : Nat} {sn : Snap} (h : nget d.snap.snaps act = some sn) :
    nget (releaseSnapshot d act).snap.snaps act = some { sn with state := .releasing } := nget_nmod_same _ h

section
variable (d : Dev) (act : Nat) (e : TreeEntry)

theorem treeLocal_post : treeLocal d act 0 e =
    ((calPost d e.kind (e.flags ||| 1) act e.time e.arg (e.rsv == 0)).1, some (calPost d e.kind (e.flags ||| 1) act e.time e.arg (e.rsv == 0)).2) := rfl

theorem treeLocal_cancel : treeLocal d act 1 e = (calCancel d act, some 0) := rfl

theorem treeLocal_confirm : treeLocal d act 2 e = (retainSnapshot d act, some 0) := rfl

theorem treeLocal_discard : treeLocal d act 3 e = (releaseSnapshot d act, some 0) := rfl

theorem treeLocal_pause : treeLocal d act 4 e = if inService3 d then ({ d with snap.paused := nset d.snap.paused e.arg act }, none) else (d, some 4) := rfl

end

theorem treeOperations : Claims.TreeOperations := by
  intro d act e sn
  refine ⟨?confirm, ?discard, ?pause, ?paused, treeLocal_post d act e, treeLocal_cancel d act e⟩
  case confirm => exact fun hsn hst => ⟨_, treeLocal_confirm d act e, retainSnapshot_pending hsn hst⟩
  case discard => exact fun hsn => ⟨_, treeLocal_discard d act e, releaseSnapshot_held hsn⟩
  case pause => exact fun hserv => ⟨_, (treeLocal_pause d act e).trans (if_pos hserv), nget_nset_same _ _ _⟩
  case paused => exact fun hserv => (treeLocal_pause d act e).trans (if_neg (ne_true_of_eq_false hserv))

/-! ### Gathers (R270) -/

/-- What the children that are silent at the end of TREE_US count as. -/
def silentGather (l : List Nat) : Gather := { refd := l.length, mask := if l = [] then 0 else 2 ^ 7, first := l.foldl (fun b x => some (min x (b.getD x))) none }

/-- The answer that a TREE GATHER carries. -/
def wireGather (m : GatherMsg) : Gather :=
  { acc := m.accepted.toNat, refd := m.refused.toNat, mask := m.mask.toNat, maxU := m.maxUnc.toNat, first := if m.refused = 0 then none else some m.firstRefuser.val }

theorem treeGather_late {d e : Dev} {m : GatherMsg} (hx : gatherHeard d m = (e, true)) (hr : nget e.act.relays (m.act.toNat * 8 + m.op.val) = none) :
    treeGather d m = bump e .TIME_CNT 0 7 := by
  rw [treeGather, hx]
  dsimp only
  rw [hr]

/-- The last child of a relay has answered. -/
theorem treeGather_last {d e : Dev} {m : GatherMsg} {r : Relay} {k a b : Nat} (hx : gatherHeard d m = (e, true)) (hr : nget e.act.relays (m.act.toNat * 8 + m.op.val) = some r)
    (hfar : farEnd e (ordinal e) m.port.val = some (k, a, b)) (hkids : r.kids = [k]) : let key := m.act.toNat * 8 + m.op.val
    treeGather d m = actTurn actFuel (relayCheck { e with act.relays := nset e.act.relays key { r with kids := [], sum := addGather r.sum (wireGather m) } } key) := by
  rw [treeGather, hx]
  dsimp only
  rw [hr, hfar]
  dsimp only
  rw [hkids]
  refine (if_pos (by simp)).trans ?_
  rw [addToRelay, nmod_some _ hr]
  simp [hkids, wireGather]

theorem treeGatherTimeout_due {d : Dev} {act op : Nat} {r : Relay} (hr : nget d.act.relays (act * 8 + op) = some r) (hdue : due d r.deadline = true) :
    let key := act * 8 + op
    let g := silentGather (r.kids.map fun k => treeMembers d r.root 6 k).flatten
    treeGatherTimeout d act op = actTurn actFuel (relayCheck { d with act.relays := nset d.act.relays key { r with kids := [], sum := addGather r.sum g } } key) := by
  rw [treeGatherTimeout, hr]
  refine (if_pos hdue).trans (congrArg (actTurn actFuel) ?_)
  rw [addToRelay, nmod_some _ hr]
  rfl

theorem gatherTime_open {d : Dev} {act op : Nat} {r : Relay} (hr : nget d.act.relays (act * 8 + op) = some r) : gatherTime d act op = some r.deadline := by
  rw [gatherTime, hr]
  rfl

/-! ### Cuts (R274 to R278) -/

theorem openCut_opens {d : Dev} {act : Nat} (set t : Nat) (msg : Bool) (hnew : nhas d.snap.snaps act = false) (hroom : d.snap.snaps.length < 256) :
    let chs := (d.chm.chambers.filter fun p => p.2.state == .active && p.2.set == set && p.2.cls != .volatileC).map (·.1)
    let used := d.snap.snaps.foldl (fun m p => nset m p.2.rec_ 0) ([] : NMap Nat)
    openCut d act set t msg =
      { d with snap.snaps := nset d.snap.snaps act { state := .pending, set := set, time := t, byMessage := msg, chambers := chs, rec_ := (nfreeFrom used 0 256).getD 0 } } := by
  have h : ¬ (nhas d.snap.snaps act || decide (256 ≤ d.snap.snaps.length)) = true := by simp [hnew, hroom]
  exact if_neg h

theorem messageCutDrained_none {d : Dev} {act : Nat} (h : d.snap.paused = []) : messageCutDrained d act = d := by rw [messageCutDrained, h]; rfl

theorem messageCutDrained_drained {d : Dev} {act set : Nat} (hpaused : d.snap.paused = [(set, act)]) (hdrained : setDrained d set = true) (hnew : nhas d.snap.snaps act = false) :
    let e := openCut d act set (fedTime d) true
    messageCutDrained d act = ownPart e (act * 8 + 4) (if nhas e.snap.snaps act then 0 else 3) := by
  have hfind : [(set, act)].find? (fun p => p.2 == act) = some (set, act) := by simp
  rw [messageCutDrained, hpaused, hfind]
  refine if_neg ?_
  simp [hdrained, hnew]

theorem holdEndTime_held {d : Dev} {act set t : Nat} (h : nget d.snap.holds act = some (set, t)) : holdEndTime d act = some (t + epsilon d + 1) := by
  rw [holdEndTime, h]
  rfl

theorem holdWindowEnd_over {d : Dev} {act set t : Nat} (h : nget d.snap.holds act = some (set, t)) (hover : t + epsilon d < fedTime d) : holdWindowEnd d act = endHold d act := by
  rw [holdWindowEnd, h]
  exact if_pos hover

theorem cutTime_waiting {d : Dev} {r : ActRun} (hrun : d.act.run = some r) (hphase : r.phase = .wait) : cutTime d = some (r.time + 2 * epsilon d + 1) := by
  rw [cutTime, hrun]
  exact if_pos hphase

theorem cutResultGatherStart_over {d : Dev} {r : ActRun} (hrun : d.act.run = some r) (hphase : r.phase = .wait) (hover : r.time + 2 * epsilon d < fedTime d) :
    cutResultGatherStart d = actTurn actFuel (treeOpen { d with act.run := some { r with phase := .cut } } r.id 6 (ordinal d) none (runEntry r)) := by
  rw [cutResultGatherStart, hrun]
  exact if_pos ⟨hphase, hover⟩

theorem gathersAndCuts : Claims.GathersAndCuts := by
  refine ⟨?last, ?late, ?silent, ?drained, ?unpaused, ?hold, ?cut, ?opens⟩
  case last => exact fun s m r k a b hx hr hfar hkids => does_congr (does_treeGather s m) (treeGather_last (Prod.ext rfl hx) hr hfar hkids)
  case late => exact fun s m hx hr => does_congr (does_treeGather s m) (treeGather_late (Prod.ext rfl hx) hr)
  case silent =>
    intro s act op r key d l g hr
    refine does_congr (does_treeGatherTimeout s act op) ?_
    rw [gatherTime_open hr]
    exact treeGatherTimeout_due ((congrArg (nget ·.relays key) (reach_act _ _)).trans hr) (due_reach _ _)
  case drained => exact fun s act set hpaused hdrained hnew => does_congr (does_messageCutDrained s act) (congrArg (actTurn actFuel) (messageCutDrained_drained hpaused hdrained hnew))
  case unpaused => exact fun s act hpaused => does_congr (does_messageCutDrained s act) (congrArg (actTurn actFuel) (messageCutDrained_none hpaused))
  case hold =>
    intro s act set t d hh hover
    refine does_congr (does_holdWindowEnd s act) ?_
    rw [holdEndTime_held hh]
    exact holdWindowEnd_over ((congrArg (nget ·.holds act.toNat) (reachFed_snap _ _)).trans hh) hover
  case cut =>
    intro s r d hrun hphase hover
    refine does_congr (does_cutResultGatherStart s) ?_
    rw [cutTime_waiting hrun hphase]
    exact cutResultGatherStart_over ((congrArg ActPart.run (reachFed_act _ _)).trans hrun) hphase hover
  case opens =>
    intro d act set t msg hnew hroom
    rw [openCut_opens set t msg hnew hroom]
    refine ⟨_, nget_nset_same _ _ _, rfl, rfl, rfl, rfl, rfl, fun n c hc hactive hset hcls => ?_, fun a ha => nget_nset_ne _ _ _ _ ha, rfl⟩
    exact List.mem_map.mpr ⟨(n, c), List.mem_filter.mpr ⟨hc, by simp [hactive, hset, hcls]⟩, rfl⟩

/-- Settles O49: a broadcast that is heard is taken and relayed, its operation acts on the calendar, the snapshots or the set's cut, and gathers and cuts end as R270 and R274 to R278 say. -/
theorem treeMessages : Obligations.TreeMessages := ⟨treeBroadcasts, treeOperations, gathersAndCuts, actCommandsComplete⟩

end Sys2Proof.Machine
end

section
/-!
SUPPORT. A bulk command whose acknowledgement leaves behind a frame with a buffer outside the cells of the device (spec/13_bulk_queue.md R287; spec/05_congestion.md R31, R102).
-/
namespace Sys2Proof.Machine
open Sys2Proof

/-- A device in SERVICE with an empty bulk queue and a READY host connection on port 0. A frame of PCP 0 waits at that port; it holds a buffer of cell 26624, where cells end at 255. The port of that
number has PFC on and an XOFF threshold above all that the cell has free. Its count PORT_CNG_CNT[0] would stand at the key of BLK_CNT[0]. -/
def strayFrame : Dev :=
  let d : Dev :=
    { pwr := { state := .service, inputGood := true }, ldr := { step := 15, ident := ⟨0, some 2, 4, 4⟩ },
      fab := { topo := ⟨[4], [⟨0, 1, 1, 1, 2⟩, ⟨0, 2, 2, 2, 3⟩], 5⟩, hosts := [(0x99, (0, 0))] },
      ports := [(0, { link := .up, queue := [⟨0, 64, 0, .ctrl 0 0 [], some (26624 * 1024)⟩] }), (26624, { link := .up })],
      res := { bufs := [(26624 * 1024, { requester := 0, refs := 1 })] },
      conns := [(1, { state := .ready, gen := 1, version := 3, epsn := 5, npsn := 3, remoteQpn := 99, addr := 0x99 })] }
  setReg (setReg (setReg d .FAB_PORT_ROLE 0 0 0x321) .FAB_PORT_ROLE 0 3328 2) .POOL_PFC 26624 0 0x3FF

/-- A BARRIER of one connection, with the tag 6. -/
def barrierPayload : BulkPayload := ⟨false, false, 0, 6, 0, 0, 0, 0, 0, 0, 0, 0, true⟩

/-- The device takes the BARRIER: it keeps every rule of its payload and finds room. Its acknowledgement lets the waiting frame leave, the buffer of that frame is freed, and the port of cell 26624 sends
XOFF, as the cell has less free than its threshold (R102): counting that XOFF advances the count of accepted commands a second time. -/
theorem barrier_strayFrame_counts_twice : BulkFits strayFrame (hostPkt 0xD7) .barrier barrierPayload ∧ reg strayFrame .BLK_CNT 0 0 = 0 ∧
    reg (bulkQueued strayFrame (hostPkt 0xD7) .barrier barrierPayload) .BLK_CNT 0 0 = 2 := by decide +kernel

/-- Refutes O50: the state may list a buffer of a cell that no device has. Where a frame that waits at the connection's port holds one, the acknowledgement of a bulk command may count an XOFF over
the counter of accepted commands, which then rises by two. -/
theorem not_bulkCommands : ¬ Obligations.BulkCommands := by
  rintro ⟨-, hgrows⟩
  obtain ⟨-, -, -, -, -, -, hcount⟩ := hgrows strayFrame (hostPkt 0xD7) .barrier barrierPayload rfl
  obtain ⟨-, hbefore, hafter⟩ := barrier_strayFrame_counts_twice
  rw [hafter, hbefore] at hcount
  exact absurd hcount (by decide)

end Sys2Proof.Machine
end

section
/-!
SUPPORT. A device with no bulk command outstanding gets none by what it does on its own once a buffer, a frame or a credit is free: requests that waited go on, answers leave, errors end connections
(spec/13_bulk_queue.md R284, R297).
-/
namespace Sys2Proof.Machine
open Sys2Proof

/-- No bulk command is outstanding. -/
abbrev NoCommands (d : Dev) : Prop := d.bulk.cmds = []

theorem noCommands_ite {P : Prop} [Decidable P] {d e : Dev} (hd : NoCommands d) (he : NoCommands e) : NoCommands (if P then d else e) := by
  split
  · exact hd
  · exact he

theorem noCommands_ite_fst {α : Type} {P : Prop} [Decidable P] {x y : Dev × α} (hx : NoCommands x.1) (hy : NoCommands y.1) : NoCommands (if P then x else y).1 := by
  split
  · exact hx
  · exact hy

theorem noCommands_foldl {α β : Type} {f : Dev × β → α → Dev × β} {l : List α} {a : Dev × β} (hf : ∀ a x, NoCommands a.1 → NoCommands (f a x).1) (h : NoCommands a.1) :
    NoCommands (l.foldl f a).1 := by
  induction l generalizing a with
  | nil => exact h
  | cons x l ih => exact ih (hf a x h)

theorem forEach_noCommands {α : Type} {f : Dev → α → Dev} {l : List α} {d : Dev} (hf : ∀ e x, NoCommands e → NoCommands (f e x)) (h : NoCommands d) : NoCommands (forEach l d f) := by
  induction l generalizing d with
  | nil => exact h
  | cons x l ih => exact ih (hf d x h)

theorem setReq_noCommands (d : Dev) (r : Req) (h : NoCommands d) : NoCommands (setReq d r) := h

theorem mirrorStamp_noCommands (d : Dev) (n : Nat) (h : NoCommands d) : NoCommands (mirrorStamp d n).1 := h

theorem putParts_noCommands (d : Dev) (id : Nat) (ps : List Part) (h : NoCommands d) : NoCommands (putParts d id ps) := by
  grind [putParts, setReq_noCommands]

theorem issuePart_noCommands (d : Dev) (id : Nat) (p : Part) (h : NoCommands d) : NoCommands (issuePart d id p) := by
  grind [issuePart, putParts_noCommands, mirrorStamp_noCommands]

theorem issueReq_noCommands (d : Dev) (id : Nat) (h : NoCommands d) : NoCommands (issueReq d id) := by
  grind [issueReq, issuePart_noCommands, setReq_noCommands, forEach_noCommands]

theorem restamp_noCommands (d : Dev) (r : Req) (p : Part) (h : NoCommands d) : NoCommands (restamp d r p).1 := by
  grind [restamp, mirrorStamp_noCommands]

theorem openCut_noCommands (d : Dev) (act set t : Nat) (msg : Bool) (h : NoCommands d) : NoCommands (openCut d act set t msg) := by
  grind [openCut]

theorem openCuts_noCommands (d : Dev) (chamber ts : Nat) (h : NoCommands d) : NoCommands (openCuts d chamber ts) := by
  grind [openCuts, openCut_noCommands, forEach_noCommands]

theorem setReg_noCommands (d : Dev) (r : RegId) (c i : Nat) (v : Word) (h : NoCommands d) : NoCommands (setReg d r c i v) := h

theorem bumpBy_noCommands (d : Dev) (r : RegId) (c i n : Nat) (h : NoCommands d) : NoCommands (bumpBy d r c i n) := h

theorem bump_noCommands (d : Dev) (r : RegId) (c i : Nat) (h : NoCommands d) : NoCommands (bump d r c i) := h

theorem engineWait_noCommands (d : Dev) (c requester : Nat) (use : WaitUse) (h : NoCommands d) : NoCommands (engineWait d c requester use) := h

theorem setEng_noCommands (d : Dev) (c : Nat) (e : Engines) (h : NoCommands d) : NoCommands (setEng d c e) := h

theorem grantComp_noCommands (d : Dev) (c : Nat) (h : NoCommands d) : NoCommands (grantComp d c) := h

theorem submitComp_noCommands (d : Dev) (c cls page : Nat) (h : NoCommands d) : NoCommands (submitComp d c cls page) := by
  grind [submitComp, setEng_noCommands, grantComp_noCommands, engineWait_noCommands]

theorem raisePromo_noCommands (d : Dev) (k : Nat) (p : Promo) (h : NoCommands d) : NoCommands (raisePromo d k p) := by
  grind [raisePromo, submitComp_noCommands]

theorem setFrame_noCommands (d : Dev) (k : Nat) (f : Frame) (h : NoCommands d) : NoCommands (setFrame d k f) := h

theorem setClassBit_noCommands (d : Dev) (c : Nat) (h : NoCommands d) : NoCommands (setClassBit d c) := h

theorem stamped_noCommands (d : Dev) (h : NoCommands d) : NoCommands (stamped d) := h

theorem capture_noCommands (d : Dev) (x : Capture) (h : NoCommands d) : NoCommands (capture d x) := by
  grind [capture]

theorem journalAdd_noCommands (d : Dev) (r : LogRec) (h : NoCommands d) : NoCommands (journalAdd d r) := by
  grind [journalAdd, bump_noCommands]

theorem logRecord_noCommands (d : Dev) (sev cls cause unit requester reqCell access : Nat) (merged : Bool) (addr : Nat) (detail : List Nat) (h : NoCommands d) :
    NoCommands (logRecord d sev cls cause unit requester reqCell access merged addr detail) := by
  grind [logRecord, bump_noCommands, journalAdd_noCommands, stamped_noCommands]

theorem bulkError_noCommands (d : Dev) (k : Nat) (h : NoCommands d) : NoCommands (bulkError d k) := by
  grind [bulkError, bumpBy_noCommands]

theorem setConn_noCommands (d : Dev) (k : Nat) (c : Conn) (h : NoCommands d) : NoCommands (setConn d k c) := h

theorem connError_noCommands (d : Dev) (k : Nat) (h : NoCommands d) : NoCommands (connError d k) := by
  grind [connError, setConn_noCommands, bulkError_noCommands, bump_noCommands]

theorem endConns_noCommands (d : Dev) (h : NoCommands d) : NoCommands (endConns d) := by
  grind [endConns, connError_noCommands, forEach_noCommands]

theorem leaveProving_noCommands (d : Dev) (cause : Nat) (h : NoCommands d) : NoCommands (leaveProving d cause) := by
  grind [leaveProving]

theorem haltNoFlush_noCommands (d : Dev) (h : NoCommands d) : NoCommands (haltNoFlush d) := by
  grind [haltNoFlush, bump_noCommands, forEach_noCommands, leaveProving_noCommands, endConns_noCommands]

theorem severe_noCommands (d : Dev) (cls : Nat) (act : SevereAct) (h : NoCommands d) : NoCommands (severe d cls act) := by
  unfold severe
  (repeat' split) <;> grind [haltNoFlush_noCommands]

theorem raise_noCommands (d : Dev) (e : FaultEvt) (act : SevereAct) (h : NoCommands d) : NoCommands (raise d e act) := by
  grind [raise, severe_noCommands, logRecord_noCommands, capture_noCommands, stamped_noCommands, setClassBit_noCommands, bump_noCommands]

theorem fenceCell_noCommands (d : Dev) (c cause : Nat) (h : NoCommands d) : NoCommands (fenceCell d c cause) := by
  grind [fenceCell]

theorem send_noCommands (d : Dev) (o : Out) (h : NoCommands d) : NoCommands (send d o) := h

theorem sendPfc_noCommands (d : Dev) (p g quanta : Nat) (h : NoCommands d) : NoCommands (sendPfc d p g quanta) := send_noCommands _ _ h

theorem setPort_noCommands (d : Dev) (p : Nat) (v : Port) (h : NoCommands d) : NoCommands (setPort d p v) := h

theorem pfcUpdate_noCommands (d : Dev) (c : Nat) (h : NoCommands d) : NoCommands (pfcUpdate d c) := by
  grind [pfcUpdate, forEach_noCommands, sendPfc_noCommands, setPort_noCommands, bump_noCommands]

theorem dropRef_noCommands (d : Dev) (id : Nat) (h : NoCommands d) : NoCommands (dropRef d id) := by
  grind [dropRef, raise_noCommands, fenceCell_noCommands, pfcUpdate_noCommands]

theorem dropBuf_noCommands (d : Dev) (b : Option Nat) (h : NoCommands d) : NoCommands (dropBuf d b) := by
  cases b with
  | none => exact h
  | some id => exact dropRef_noCommands d id h

theorem modPort_noCommands (d : Dev) (p : Nat) (f : Port → Port) (h : NoCommands d) : NoCommands (modPort d p f) := h

theorem emit_noCommands (d : Dev) (p : Nat) (e : Egress) (h : NoCommands d) : NoCommands (emit d p e) := dropBuf_noCommands _ _ h

theorem drainCtrl_noCommands (n : Nat) (d : Dev) (p : Nat) (h : NoCommands d) : NoCommands (drainCtrl n d p) := by
  induction n generalizing d with
  | zero => exact h
  | succ n ih => grind [drainCtrl, emit_noCommands, modPort_noCommands]

theorem drrTurn_noCommands (n : Nat) (d : Dev) (p pcp : Nat) (h : NoCommands d) : NoCommands (drrTurn n d p pcp) := by
  induction n generalizing d with
  | zero => exact h
  | succ n ih => grind [drrTurn, emit_noCommands, modPort_noCommands]

theorem drrRounds_noCommands (n : Nat) (d : Dev) (p : Nat) (h : NoCommands d) : NoCommands (drrRounds n d p) := by
  induction n generalizing d with
  | zero => exact h
  | succ n ih => grind [drrRounds, forEach_noCommands, drrTurn_noCommands, modPort_noCommands]

theorem drainPort_noCommands (d : Dev) (p : Nat) (h : NoCommands d) : NoCommands (drainPort d p) := by
  grind [drainPort, drainCtrl_noCommands, drrRounds_noCommands]

theorem carried_noCommands (d : Dev) (p pcp : Nat) (h : NoCommands d) : NoCommands (carried d p pcp) := by
  grind [carried, modPort_noCommands]

theorem enqueue_noCommands (d : Dev) (p pcp bytes : Nat) (frame : Out) (buf : Option Nat) (h : NoCommands d) : NoCommands (enqueue d p pcp bytes frame buf) := by
  grind [enqueue, dropBuf_noCommands, bump_noCommands, drainPort_noCommands, carried_noCommands, modPort_noCommands]

theorem flowletHop_noCommands (d : Dev) (key : Nat) (h : HopSet) (pcp : Nat) (hd : NoCommands d) : NoCommands (flowletHop d key h pcp).1 := by
  grind [flowletHop, bump_noCommands]

theorem routeOut_noCommands (d : Dev) (addr ret qpn pcp : Nat) (h : NoCommands d) : NoCommands (routeOut d addr ret qpn pcp).1 := by
  grind [routeOut, flowletHop_noCommands, bump_noCommands]

theorem connOut_noCommands (d : Dev) (k : Nat) (response : Bool) (bytes : Nat) (frame : Wire → Out) (h : NoCommands d) : NoCommands (connOut d k response bytes frame) := by
  grind [connOut, routeOut_noCommands, enqueue_noCommands, send_noCommands]

theorem putRequest_noCommands (d : Dev) (k : Nat) (s : Sent) (ackReq : Bool) (h : NoCommands d) : NoCommands (putRequest d k s ackReq) := by
  grind [putRequest, connOut_noCommands]

theorem leave_noCommands (d : Dev) (k : Nat) (s : Sent) (h : NoCommands d) : NoCommands (leave d k s) := by
  grind [leave, setConn_noCommands, putRequest_noCommands]

theorem trySend_noCommands (d : Dev) (k : Nat) (h : NoCommands d) : NoCommands (trySend d k) := by
  refine noCommands_foldl (fun a s ha => ?_) h
  exact noCommands_ite_fst (leave_noCommands _ _ _ ha) ha

theorem sendRequest_noCommands (d : Dev) (k addr : Nat) (kind : SentKind) (hold persist : Bool) (ts : Nat) (data : List Byte) (bad : List Nat) (buf : Option Nat) (h : NoCommands d) :
    NoCommands (sendRequest d k addr kind hold persist ts data bad buf) := by
  grind [sendRequest, dropBuf_noCommands, setConn_noCommands, trySend_noCommands]

theorem sendMirror_noCommands (d : Dev) (n addr : Nat) (kind : SentKind) (hold persist : Bool) (ts : Nat) (data : List Byte) (bad : List Nat) (buf : Option Nat) (h : NoCommands d) :
    NoCommands (sendMirror d n addr kind hold persist ts data bad buf) := by
  grind [sendMirror, sendRequest_noCommands, dropBuf_noCommands]

theorem startPromo_noCommands (d : Dev) (k : Nat) (cls : PromoClass) (h : NoCommands d) : NoCommands (startPromo d k cls).1 := by
  grind [startPromo, sendMirror_noCommands, setFrame_noCommands, bump_noCommands, raisePromo_noCommands]

theorem setPoison_noCommands (d : Dev) (l : Nat) (h : NoCommands d) : NoCommands (setPoison d l) := h

theorem bringPage_noCommands (d : Dev) (k : Nat) (cls : PromoClass) (h : NoCommands d) : NoCommands (bringPage d k cls).1 := by
  unfold bringPage
  (repeat' split) <;> grind [setPoison_noCommands, forEach_noCommands, setFrame_noCommands, startPromo_noCommands]

theorem askCredit_noCommands (d : Dev) (tenant c : Nat) (h : NoCommands d) : NoCommands (askCredit d tenant c) := by
  grind [askCredit]

theorem askDirty_noCommands (d : Dev) (c : Nat) (h : NoCommands d) : NoCommands (askDirty d c) := by
  grind [askDirty]

theorem writeGate_noCommands (d : Dev) (r : Req) (p : Part) (n credit dirty : Nat) (h : NoCommands d) : NoCommands (writeGate d r p n credit dirty).1 := by
  unfold writeGate
  extract_lets k c twin e who snaps counted thr t whole
  have he : NoCommands e := noCommands_ite (openCuts_noCommands _ _ _ h) h
  have hbring : NoCommands (bringPage e k).1 := bringPage_noCommands e k _ he
  generalize thr = thr'
  generalize e = e' at *
  generalize bringPage e' k = brought at *
  generalize freeSlot e' c = slot
  split
  · split
    · exact he
    · exact bump_noCommands _ _ _ _ he
  · cases thr' with
    | some t => exact he
    | none =>
      dsimp only
      split
      · exact he
      · generalize hb : (if whole = true then _ else brought) = b
        have hb' : NoCommands b.1 := by
          rw [← hb]
          split
          · split <;> exact he
          · exact hbring
        obtain ⟨f, at0⟩ := b
        change NoCommands f at hb'
        cases at0 with
        | wait => exact bump_noCommands _ _ _ _ hb'
        | noFrame => exact hb'
        | failed =>
          dsimp only
          split
          · exact hb'
          · exact bump_noCommands _ _ _ _ hb'
        | here =>
          exact noCommands_ite_fst (bump_noCommands _ _ _ _ hb') (noCommands_ite_fst (askCredit_noCommands _ _ _ hb') (noCommands_ite_fst hb'
            (noCommands_ite (askDirty_noCommands _ _ hb') (bump_noCommands _ _ _ _ (askDirty_noCommands _ _ hb')))))

theorem gateAll_noCommands (d : Dev) (r : Req) (ps : List Part) (h : NoCommands d) : NoCommands (gateAll d r ps).1 := by
  unfold gateAll
  extract_lets x
  have hx : NoCommands x.1 := by
    refine noCommands_foldl (fun a p ha => ?_) h
    have hgate := writeGate_noCommands a.1 r p p.n a.2.2.2.1 a.2.2.2.2 ha
    generalize writeGate a.1 r p p.n a.2.2.2.1 a.2.2.2.2 = g at hgate
    obtain ⟨e, res⟩ := g
    cases res <;> exact hgate
  generalize x = y at hx
  generalize freeFrames y.1 _ = free
  split
  · exact hx
  · exact noCommands_ite_fst hx hx

theorem setHbm_noCommands (d : Dev) (c : Nat) (h : Hbm) (hd : NoCommands d) : NoCommands (setHbm d c h) := hd

theorem throttleTake_noCommands (d : Dev) (c slot lo n : Nat) (r : Requester) (h : NoCommands d) : NoCommands (throttleTake d c slot lo n r) := by
  grind [throttleTake, setHbm_noCommands]

theorem preserve_noCommands (d : Dev) (k : Nat) (snaps : List Nat) (h : NoCommands d) : NoCommands (preserve d k snaps) := by
  grind [preserve, forEach_noCommands]

theorem markRegion_noCommands (d : Dev) (k : Nat) (h : NoCommands d) : NoCommands (markRegion d k) := by
  grind [markRegion, bump_noCommands]

theorem takeBuf_noCommands (d : Dev) (c pool size requester : Nat) (h : NoCommands d) : NoCommands (takeBuf d c pool size requester).1 := by
  grind [takeBuf, pfcUpdate_noCommands, bump_noCommands]

theorem addRef_noCommands (d : Dev) (id : Nat) (h : NoCommands d) : NoCommands (addRef d id).1 := by
  grind [addRef, takeBuf_noCommands, bump_noCommands]

theorem stampSent_noCommands (d : Dev) (n ts : Nat) (h : NoCommands d) : NoCommands (stampSent d n ts) := h

theorem afterApply_noCommands (d : Dev) (r : Req) (p : Part) (data : List Byte) (marks : List Nat) (h : NoCommands d) : NoCommands (afterApply d r p data marks).1 := by
  grind [afterApply, stampSent_noCommands, sendMirror_noCommands, addRef_noCommands, markRegion_noCommands]

theorem takeCredit_noCommands (d : Dev) (k : Nat) (h : NoCommands d) : NoCommands (takeCredit d k) := by
  grind [takeCredit, askCredit_noCommands]

theorem clearPoison_noCommands (d : Dev) (l : Nat) (h : NoCommands d) : NoCommands (clearPoison d l) := h

theorem touchRepair_noCommands (d : Dev) (line : Nat) (h : NoCommands d) : NoCommands (touchRepair d line) := h

theorem setAlc_noCommands (d : Dev) (c : Nat) (a : Alcove) (h : NoCommands d) : NoCommands (setAlc d c a) := h

theorem alcErr_noCommands (d : Dev) (c kind a : Nat) (h : NoCommands d) : NoCommands (alcErr d c kind a) := h

theorem dropSites_noCommands (d : Dev) (c a : Nat) (f : ErrSite → Bool) (h : NoCommands d) : NoCommands (dropSites d c a f) := by
  grind [dropSites]

theorem alcUncorrectable_noCommands (d : Dev) (c a : Nat) (h : NoCommands d) : NoCommands (alcUncorrectable d c a) := by
  grind [alcUncorrectable, raise_noCommands, setAlc_noCommands, bump_noCommands, alcErr_noCommands]

theorem alcBad_noCommands (d : Dev) (c a : Nat) (sites : List ErrSite) (h : NoCommands d) : NoCommands (alcBad d c a sites) := by
  grind [alcBad, alcUncorrectable_noCommands, setAlc_noCommands, dropSites_noCommands, bump_noCommands, alcErr_noCommands]

theorem takeFlip_noCommands (d : Dev) (target c a : Nat) (h : NoCommands d) : NoCommands (takeFlip d target c a).1 := by
  grind [takeFlip]

theorem flipT0_noCommands (d : Dev) (target c a : Nat) (site : Nat → ErrSite) (h : NoCommands d) : NoCommands (flipT0 d target c a site) := by
  grind [flipT0, takeFlip_noCommands]

theorem countDrain_noCommands (d : Dev) (c : Nat) (e : MbEnt) (h : NoCommands d) : NoCommands (countDrain d c e) := h

theorem flipT1_noCommands (d : Dev) (c a : Nat) (h : NoCommands d) : NoCommands (flipT1 d c a) := by
  grind [flipT1, takeFlip_noCommands]

theorem activate_noCommands (d : Dev) (c a : Nat) (r : Requester) (h : NoCommands d) : NoCommands (activate d c a r) := by
  grind [activate, bump_noCommands, bumpBy_noCommands, setHbm_noCommands]

theorem askRepair_noCommands (d : Dev) (line : Nat) (h : NoCommands d) : NoCommands (askRepair d line) := by
  grind [askRepair, sendMirror_noCommands]

theorem failChannel_noCommands (d : Dev) (c cause : Nat) (h : NoCommands d) : NoCommands (failChannel d c cause) := by
  grind [failChannel, fenceCell_noCommands, raise_noCommands, setHbm_noCommands]

theorem ueLine_noCommands (d : Dev) (c a codewords : Nat) (r : Requester) (h : NoCommands d) : NoCommands (ueLine d c a codewords r) := by
  grind [ueLine, failChannel_noCommands, raise_noCommands, setHbm_noCommands, bump_noCommands, bumpBy_noCommands]

theorem corrected_noCommands (d : Dev) (cause unit addr access : Nat) (h : NoCommands d) : NoCommands (corrected d cause unit addr access) := by
  grind [corrected, raise_noCommands]

theorem correctCodeword_noCommands (d : Dev) (c a : Nat) (lanes : List Nat) (h : NoCommands d) : NoCommands (correctCodeword d c a lanes) := by
  grind [correctCodeword, corrected_noCommands, setHbm_noCommands, forEach_noCommands, bump_noCommands]

theorem decodeLine_noCommands (d : Dev) (c a : Nat) (lanes : List Nat × List Nat) (r : Requester) (h : NoCommands d) : NoCommands (decodeLine d c a lanes r).1 := by
  grind [decodeLine, ueLine_noCommands, bump_noCommands, correctCodeword_noCommands, forEach_noCommands]

theorem fetchT1_noCommands (d : Dev) (c a line : Nat) (le : List Nat × List Nat) (r : Requester) (h : NoCommands d) : NoCommands (fetchT1 d c a line le r) := by
  grind [fetchT1, setPoison_noCommands, decodeLine_noCommands, ueLine_noCommands, askRepair_noCommands, activate_noCommands]

theorem drainT1_noCommands (d : Dev) (c a : Nat) (e : MbEnt) (h : NoCommands d) : NoCommands (drainT1 d c a e) := by
  grind [drainT1, activate_noCommands, fetchT1_noCommands]

theorem drainEntry_noCommands (d : Dev) (c : Nat) (e : MbEnt) (h : NoCommands d) : NoCommands (drainEntry d c e) := by
  grind [drainEntry, drainT1_noCommands, flipT1_noCommands, setAlc_noCommands, countDrain_noCommands]

theorem mbRead_noCommands (d : Dev) (c line : Nat) (sites : List ErrSite) (h : NoCommands d) : NoCommands (mbRead d c line sites) := by
  unfold mbRead
  (repeat' split) <;> grind [corrected_noCommands, drainEntry_noCommands, setPoison_noCommands, bump_noCommands, alcErr_noCommands, raise_noCommands, dropSites_noCommands]

theorem drainRead_noCommands (d : Dev) (c : Nat) (e : MbEnt) (h : NoCommands d) : NoCommands (drainRead d c e) := by
  grind [drainRead, drainEntry_noCommands, mbRead_noCommands]

theorem mbWrite_noCommands (d : Dev) (c line lo n : Nat) (mark : Bool) (h : NoCommands d) : NoCommands (mbWrite d c line lo n mark) := by
  grind [mbWrite, dropSites_noCommands, drainRead_noCommands, flipT0_noCommands, setAlc_noCommands, bump_noCommands]

theorem applyLine_noCommands (d : Dev) (slot line lo n : Nat) (mark : Bool) (h : NoCommands d) : NoCommands (applyLine d slot line lo n mark) := by
  grind [applyLine, mbWrite_noCommands, setAlc_noCommands, flipT0_noCommands, alcBad_noCommands, touchRepair_noCommands, clearPoison_noCommands, setPoison_noCommands]

theorem applyBytes_noCommands (d : Dev) (k off : Nat) (data : List Byte) (marks : List Nat) (h : NoCommands d) : NoCommands (applyBytes d k off data marks) := by
  grind [applyBytes, applyLine_noCommands, forEach_noCommands, setFrame_noCommands, takeCredit_noCommands]

theorem frameFor_noCommands (d : Dev) (k : Nat) (h : NoCommands d) : NoCommands (frameFor d k) := by
  grind [frameFor, setFrame_noCommands]

theorem applyWrite_noCommands (d : Dev) (r : Req) (p : Part) (h : NoCommands d) : NoCommands (applyWrite d r p).1 := by
  grind [applyWrite, frameFor_noCommands, applyBytes_noCommands, afterApply_noCommands, preserve_noCommands, throttleTake_noCommands]

theorem runWrite_noCommands (d : Dev) (r : Req) (ps : List Part) (h : NoCommands d) : NoCommands (runWrite d r ps).1 := by
  have hg := gateAll_noCommands d r ps h
  unfold runWrite
  generalize gateAll d r ps = g at hg
  obtain ⟨e, qs, pass⟩ := g
  cases pass with
  | false => exact hg
  | true => exact noCommands_foldl (fun a p ha => applyWrite_noCommands a.1 r p ha) hg

theorem copied_noCommands (d : Dev) (k : Nat) (h : NoCommands d) : NoCommands (copied d k) := by
  grind [copied]

theorem forEach_page_noCommands {copy : Dev → Nat → Dev} {key : Part → Nat} {d : Dev} {l : List Part} (hcopy : ∀ e k, NoCommands e → NoCommands (copy e k)) (h : NoCommands d) :
    NoCommands (forEach l d fun d p => copy d (key p)) :=
  forEach_noCommands (fun e p => hcopy e (key p)) h

theorem runGroup_noCommands (d : Dev) (r : Req) (ps : List Part) (h : NoCommands d) : NoCommands (runGroup d r ps) := by
  have hw := runWrite_noCommands d r ps h
  unfold runGroup
  generalize runWrite d r ps = x at hw
  exact putParts_noCommands _ _ _ (noCommands_ite (forEach_page_noCommands (copy := copied) copied_noCommands hw) hw)

theorem partTake_noCommands (d : Dev) (r : Req) (p : Part) (who : Requester) (h : NoCommands d) : NoCommands (partTake d r p who) := by
  grind [partTake, throttleTake_noCommands]

theorem alcCorrected_noCommands (d : Dev) (c a : Nat) (sites : List ErrSite) (h : NoCommands d) : NoCommands (alcCorrected d c a sites) := by
  grind [alcCorrected, setAlc_noCommands, dropSites_noCommands, bump_noCommands, corrected_noCommands]

theorem installLine_noCommands (d : Dev) (c a : Nat) (p : Bool) (h : NoCommands d) : NoCommands (installLine d c a p) := by
  grind [installLine, flipT0_noCommands, setAlc_noCommands, dropSites_noCommands]

theorem readLine_noCommands (d : Dev) (line base : Nat) (span : Nat × Nat) (errs : List LineErr) (noFill : Bool) (r : Requester) (h : NoCommands d) :
    NoCommands (readLine d line base span errs noFill r) := by
  grind [readLine, installLine_noCommands, fetchT1_noCommands, alcCorrected_noCommands, alcBad_noCommands, bump_noCommands, mbRead_noCommands]

theorem readSpan_noCommands (d : Dev) (addr n base : Nat) (errs : List LineErr) (noFill : Bool) (r : Requester) (h : NoCommands d) : NoCommands (readSpan d addr n base errs noFill r) := by
  grind [readSpan, readLine_noCommands, forEach_noCommands]

theorem runRead_noCommands (d : Dev) (r : Req) (p : Part) (h : NoCommands d) : NoCommands (runRead d r p).1 := by
  grind [runRead, readSpan_noCommands, partTake_noCommands, bump_noCommands, bringPage_noCommands]

theorem runVerify_noCommands (d : Dev) (r : Req) (p : Part) (h : NoCommands d) : NoCommands (runVerify d r p).1 := by
  grind [runVerify, partTake_noCommands, readSpan_noCommands, bringPage_noCommands]

theorem bringDigest_noCommands (d : Dev) (k : Nat) (h : NoCommands d) : NoCommands (bringDigest d k).1 := by
  grind [bringDigest, bringPage_noCommands]

theorem runMarker_noCommands (d : Dev) (r : Req) (p : Part) (h : NoCommands d) : NoCommands (runMarker d r p).1 := by
  grind [runMarker, sendMirror_noCommands, bringDigest_noCommands]

theorem runCommitMark_noCommands (d : Dev) (r : Req) (p : Part) (h : NoCommands d) : NoCommands (runCommitMark d r p).1 := by
  grind [runCommitMark, sendMirror_noCommands]

theorem runLoad_noCommands (d : Dev) (r : Req) (p : Part) (h : NoCommands d) : NoCommands (runLoad d r p).1 := by
  grind [runLoad, bringPage_noCommands]

theorem setMed_noCommands (d : Dev) (c : Nat) (m : Media) (h : NoCommands d) : NoCommands (setMed d c m) := h

theorem freeStep_noCommands (d : Dev) (h : NoCommands d) : NoCommands (freeStep d) := h

theorem touchMeta_noCommands (d : Dev) (c : Nat) (h : NoCommands d) : NoCommands (touchMeta d c) := h

theorem setMapEnt_noCommands (d : Dev) (k : Nat) (e : MapEnt) (h : NoCommands d) : NoCommands (setMapEnt d k e) := h

theorem alcDropFrame_noCommands (d : Dev) (c slot : Nat) (h : NoCommands d) : NoCommands (alcDropFrame d c slot) := h

theorem dropCharge_noCommands (d : Dev) (k : Nat) (h : NoCommands d) : NoCommands (dropCharge d k) := h

theorem clearPagePoison_noCommands (d : Dev) (k : Nat) (h : NoCommands d) : NoCommands (clearPagePoison d k) := h

theorem wakeDestaged_noCommands (d : Dev) (k : Nat) (h : NoCommands d) : NoCommands (wakeDestaged d k) := h

theorem forgetPage_noCommands (d : Dev) (k : Nat) (h : NoCommands d) : NoCommands (forgetPage d k) := by
  grind [forgetPage, wakeDestaged_noCommands, clearPagePoison_noCommands, dropCharge_noCommands, setAlc_noCommands, alcDropFrame_noCommands, dropBuf_noCommands]

theorem trimPage_noCommands (d : Dev) (k : Nat) (h : NoCommands d) : NoCommands (trimPage d k) := by
  grind [trimPage, forgetPage_noCommands, setMapEnt_noCommands]

theorem runTrim_noCommands (d : Dev) (r : Req) (p : Part) (h : NoCommands d) : NoCommands (runTrim d r p).1 := by
  grind [runTrim, afterApply_noCommands, preserve_noCommands, trimPage_noCommands, askDirty_noCommands, bump_noCommands]

theorem modConn_noCommands (d : Dev) (k : Nat) (f : Conn → Conn) (h : NoCommands d) : NoCommands (modConn d k f) := h

theorem addReplay_noCommands (d : Dev) (k : Nat) (r : Replay) (h : NoCommands d) : NoCommands (addReplay d k r) := h

theorem runAtomic_noCommands (d : Dev) (r : Req) (p : Part) (h : NoCommands d) : NoCommands (runAtomic d r p).1 := by
  unfold runAtomic
  extract_lets +onlyGivenNames to_ who
  have hbring := bringPage_noCommands d (pageKey r.chamber p.page) .demand h
  generalize bringPage d (pageKey r.chamber p.page) = brought at hbring
  split
  · exact h
  · exact hbring
  · exact hbring
  · exact bump_noCommands _ _ _ _ hbring
  · rename_i e
    extract_lets +onlyGivenNames k addr d1 d2
    have h2 : NoCommands d2 := readLine_noCommands _ _ _ _ _ _ _ (partTake_noCommands _ _ _ _ hbring)
    clear_value d2
    refine noCommands_ite_fst h2 ?_
    extract_lets +onlyGivenNames old hit
    refine noCommands_ite_fst (addReplay_noCommands _ _ _ h2) ?_
    have hgate := writeGate_noCommands d2 r p 8 0 0 h2
    generalize writeGate d2 r p 8 0 0 = gate at hgate
    split
    · exact hgate
    · exact afterApply_noCommands _ _ _ _ _ (addReplay_noCommands _ _ _ (applyBytes_noCommands _ _ _ _ _ (preserve_noCommands _ _ _ hgate)))

theorem runPart_noCommands (d : Dev) (r : Req) (p : Part) (h : NoCommands d) : NoCommands (runPart d r p) := by
  grind [runPart, setReq_noCommands, runAtomic_noCommands, runTrim_noCommands, runLoad_noCommands, runCommitMark_noCommands, runMarker_noCommands, runVerify_noCommands, runRead_noCommands, putParts_noCommands]

theorem runArrival_noCommands (d : Dev) (x : Nat × Nat × Nat) (h : NoCommands d) : NoCommands (runArrival d x) := by
  have hfold : ∀ (l : List Part) (r : Req), NoCommands (l.foldl (fun (a : Dev × List Part) q => let z := restamp a.1 r q; (z.1, a.2 ++ [z.2])) (d, [])).1 :=
    fun l r => noCommands_foldl (fun a q ha => restamp_noCommands a.1 r q ha) h
  unfold runArrival
  split
  · exact h
  split
  · exact h
  dsimp only
  split
  · exact h
  split
  · split
    · exact putParts_noCommands _ _ _ h
    split
    · exact h
    · exact runGroup_noCommands _ _ _ (hfold _ _)
  split
  · exact h
  · exact runPart_noCommands _ _ _ (restamp_noCommands _ _ _ h)

theorem runCommit_noCommands (d : Dev) (r : Req) (h : NoCommands d) : NoCommands (runCommit d r) := by
  grind [runCommit, setReq_noCommands]

theorem finishReq_noCommands (d : Dev) (id : Nat) (h : NoCommands d) : NoCommands (finishReq d id) := by
  grind [finishReq, setReq_noCommands, runCommit_noCommands]

theorem runReqs_noCommands (n : Nat) (d : Dev) (h : NoCommands d) : NoCommands (runReqs n d) := by
  induction n generalizing d with
  | zero => exact h
  | succ n ih =>
    have hrun : ∀ e l₁ l₂ l₃, NoCommands e → NoCommands (forEach l₃ (forEach l₂ (forEach l₁ e issueReq) runArrival) finishReq) := fun e l₁ l₂ l₃ he =>
      forEach_noCommands finishReq_noCommands (forEach_noCommands runArrival_noCommands (forEach_noCommands issueReq_noCommands he))
    rw [runReqs]
    split
    · exact ih _ (hrun _ _ _ _ h)
    · exact hrun _ _ _ _ h

theorem delReq_noCommands (d : Dev) (i : Nat) (h : NoCommands d) : NoCommands (delReq d i) := h

theorem dropSilent_noCommands (d : Dev) (h : NoCommands d) : NoCommands (dropSilent d) := by
  grind [dropSilent, dropBuf_noCommands, delReq_noCommands, forEach_noCommands]

theorem setPlan_noCommands (d : Dev) (n : Nat) (p : Plan) (h : NoCommands d) : NoCommands (setPlan d n p) := h

theorem delFrame_noCommands (d : Dev) (k : Nat) (h : NoCommands d) : NoCommands (delFrame d k) := h

theorem unpin_noCommands (d : Dev) (n slot : Nat) (h : NoCommands d) : NoCommands (unpin d n slot) := by
  unfold unpin
  extract_lets p d1
  have h1 : NoCommands d1 := setPlan_noCommands _ _ _ h
  split
  · exact h1
  extract_lets k
  split
  · exact h1
  extract_lets pins d2
  have h2 : NoCommands d2 := setFrame_noCommands _ _ _ h1
  split
  · exact noCommands_ite (delFrame_noCommands _ _ h2) h2
  · exact h2

theorem moveCursor_noCommands (d : Dev) (n c : Nat) (h : NoCommands d) : NoCommands (moveCursor d n c) := by
  grind [moveCursor, unpin_noCommands, forEach_noCommands, setPlan_noCommands, bumpBy_noCommands]

theorem consumeRead_noCommands (d : Dev) (tenant chamber off len : Nat) (h : NoCommands d) : NoCommands (consumeRead d tenant chamber off len) := by
  grind [consumeRead, moveCursor_noCommands, setPlan_noCommands, bump_noCommands, forEach_noCommands]

theorem respond_noCommands (d : Dev) (k extra : Nat) (pmh : Bool) (frame : Wire → Out) (h : NoCommands d) : NoCommands (respond d k extra pmh frame) := by
  grind [respond, connOut_noCommands]

theorem putNak_noCommands (d : Dev) (k : Nat) (a : About) (syndrome : Nat) (h : NoCommands d) : NoCommands (putNak d k a syndrome) := by
  grind [putNak, respond_noCommands]

theorem putStatusNak_noCommands (d : Dev) (k : Nat) (a : About) (syndrome status detail : Nat) (h : NoCommands d) : NoCommands (putStatusNak d k a syndrome status detail) := by
  grind [putStatusNak, respond_noCommands]

theorem sendBusyCode_noCommands (d : Dev) (k : Nat) (a : About) (code wait : Nat) (h : NoCommands d) : NoCommands (sendBusyCode d k a code wait) := by
  grind [sendBusyCode, putStatusNak_noCommands, putNak_noCommands, bump_noCommands]

theorem sendBusy_noCommands (d : Dev) (k : Nat) (a : About) (wait : Nat) (h : NoCommands d) : NoCommands (sendBusy d k a wait) := by
  grind [sendBusy, sendBusyCode_noCommands]

theorem answerBusy_noCommands (d : Dev) (r : Req) (h : NoCommands d) : NoCommands (answerBusy d r) := by
  grind [answerBusy, dropBuf_noCommands, forEach_noCommands, modConn_noCommands, sendBusy_noCommands]

theorem putRead_noCommands (d : Dev) (k : Nat) (a : About) (addr : Nat) (bytes : List Byte) (bad : List Nat) (n : Nat) (h : NoCommands d) : NoCommands (putRead d k a addr bytes bad n) := by
  grind [putRead, bumpBy_noCommands, respond_noCommands, forEach_noCommands]

theorem answered_noCommands (d : Dev) (k psn : Nat) (h : NoCommands d) : NoCommands (answered d k psn) := h

theorem fatalNak_noCommands (d : Dev) (k : Nat) (a : About) (syndrome : Nat) (h : NoCommands d) : NoCommands (fatalNak d k a syndrome) := by
  grind [fatalNak, putNak_noCommands, bump_noCommands, connError_noCommands]

theorem sendStatus_noCommands (d : Dev) (k : Nat) (a : About) (reqPsn kind status : Nat) (h : NoCommands d) : NoCommands (sendStatus d k a reqPsn kind status) := by
  grind [sendStatus, addReplay_noCommands, answered_noCommands, putStatusNak_noCommands, bump_noCommands, fatalNak_noCommands]

theorem answerRead_noCommands (d : Dev) (r : Req) (h : NoCommands d) : NoCommands (answerRead d r) := by
  grind [answerRead, sendStatus_noCommands, bump_noCommands, answered_noCommands, putRead_noCommands]

theorem putAtomic_noCommands (d : Dev) (k : Nat) (a : About) (orig : Nat) (h : NoCommands d) : NoCommands (putAtomic d k a orig) := by
  grind [putAtomic, respond_noCommands]

theorem putAck_noCommands (d : Dev) (k : Nat) (a : About) (h : NoCommands d) : NoCommands (putAck d k a) := by
  grind [putAck, respond_noCommands]

theorem sendAck_noCommands (d : Dev) (k : Nat) (a : About) (h : NoCommands d) : NoCommands (sendAck d k a) := by
  grind [sendAck, answered_noCommands, putAck_noCommands]

theorem answerWrite_noCommands (d : Dev) (r : Req) (h : NoCommands d) : NoCommands (answerWrite d r) := by
  grind [answerWrite, setConn_noCommands, sendAck_noCommands]

theorem answerOne_noCommands (d : Dev) (r : Req) (status : Nat) (h : NoCommands d) : NoCommands (answerOne d r status) := by
  grind [answerOne, sendStatus_noCommands, answerWrite_noCommands, addReplay_noCommands, sendAck_noCommands, answered_noCommands, putAtomic_noCommands, answerRead_noCommands, answerBusy_noCommands, setReq_noCommands, dropBuf_noCommands,
      delReq_noCommands, consumeRead_noCommands]

theorem answerConn_noCommands (n : Nat) (d : Dev) (k : Nat) (h : NoCommands d) : NoCommands (answerConn n d k) := by
  induction n generalizing d with
  | zero => exact h
  | succ n ih =>
    rw [answerConn]
    split
    · exact h
    split
    · exact ih _ (answerOne_noCommands _ _ _ h)
    · exact h

theorem pump_noCommands (d : Dev) (h : NoCommands d) : NoCommands (pump d) := by
  grind [pump, answerConn_noCommands, forEach_noCommands, dropSilent_noCommands, runReqs_noCommands]

theorem requeue_noCommands (d : Dev) (f : Req → Part → Bool) (h : NoCommands d) : NoCommands (requeue d f) := h

theorem retireDone_noCommands (d : Dev) (c result : Nat) (h : NoCommands d) : NoCommands (retireDone d c result) := h

theorem queuePpr_noCommands (d : Dev) (c bank row : Nat) (h : NoCommands d) : NoCommands (queuePpr d c bank row).1 := by
  grind [queuePpr, setHbm_noCommands]

theorem retireEnter_noCommands (d : Dev) (c f : Nat) (persist : Bool) (h : NoCommands d) : NoCommands (retireEnter d c f persist) := by
  grind [retireEnter, queuePpr_noCommands, forEach_noCommands, setHbm_noCommands, setReg_noCommands]

theorem modSnapPage_noCommands (d : Dev) (act k : Nat) (f : SnapPage → SnapPage) (h : NoCommands d) : NoCommands (modSnapPage d act k f) := h

theorem moveStaged_noCommands (d : Dev) (c f : Nat) (persist : Bool) (h : NoCommands d) : NoCommands (moveStaged d c f persist) := by
  grind [moveStaged, modSnapPage_noCommands, retireEnter_noCommands, retireDone_noCommands]

theorem moveData_noCommands (d : Dev) (c f : Nat) (persist : Bool) (h : NoCommands d) : NoCommands (moveData d c f persist) := by
  unfold moveData
  (repeat' split) <;> grind [alcDropFrame_noCommands, setFrame_noCommands, retireEnter_noCommands, retireDone_noCommands]

theorem tryMove_noCommands (d : Dev) (c : Nat) (h : NoCommands d) : NoCommands (tryMove d c) := by
  grind [tryMove, moveData_noCommands, moveStaged_noCommands]

theorem wakeDirty_noCommands (d : Dev) (c : Nat) (h : NoCommands d) : NoCommands (wakeDirty d c) := by
  unfold wakeDirty
  exact pump_noCommands _ (requeue_noCommands _ _ h)

theorem stagingFreed_noCommands (d : Dev) (s : Snap) (h : NoCommands d) : NoCommands (stagingFreed d s) :=
  forEach_noCommands (fun e c he => wakeDirty_noCommands _ c (tryMove_noCommands e c he)) h

theorem purgeSlot_noCommands (d : Dev) (k : Nat) (h : NoCommands d) : NoCommands (purgeSlot d k) := h

theorem settleSlot_noCommands (d : Dev) (k : Nat) (s : KeySlot) (h : NoCommands d) : NoCommands (settleSlot d k s) := by
  grind [settleSlot, purgeSlot_noCommands]

theorem settleKeys_noCommands (d : Dev) (h : NoCommands d) : NoCommands (settleKeys d) := forEach_noCommands (fun e p he => settleSlot_noCommands e p.1 p.2 he) h

end Sys2Proof.Machine
end

section
/-!
SUPPORT. Bulk commands start, their pieces end, and they complete (spec/13_bulk_queue.md R288 to R299; notes/assumptions 105 and 251 for the answer to an abort whose tag nobody knows).
-/
namespace Sys2Proof.Machine
open Sys2Proof

/-! ### The start of the command whose turn it is (R288, R289) -/

section
variable {d : Dev} {k tag : Nat} {c : BulkCmd} (htag : findTag d k tag = some c)
include htag

/-- The first command that may start, when it needs no rights of tenant 0 or its connection has them, starts by its kind. -/
theorem bulkCommandStart_turn (hturn : d.bulk.cmds.find? (startable d) = some c)
    (hrights : ¬((c.kind = .snapshot ∨ c.kind = .release ∨ (c.kind = .barrier ∧ c.pl.scope = 1)) ∧ (getConn d k).tenant ≠ 0)) :
    bulkCommandStart d k tag = match c.kind with
      | .snapshot =>
        if d.act.run.isSome then bulkFinish d c stBusy 0x0A
        else startAct (setBulk d { c with state := .acting }) 2 2 c.pl.arg.toNat c.pl.set.toNat (some c.id)
      | .release => startRelease d c
      | .barrier =>
        if c.pl.scope = 0 then bulkFinish d c stOk 0
        else if d.act.run.isSome then bulkFinish d c stBusy 0x0A
        else startAct (setBulk d { c with state := .acting }) 1 0 0 0 (some c.id)
      | _ => startRange d c := by
  have hfirst : ¬ (d.bulk.cmds.find? (startable d)).map (·.id) ≠ some c.id := by rw [hturn]; simp
  rw [bulkCommandStart, htag]
  exact (if_neg hfirst).trans (if_neg hrights)

theorem bulkCommandStart_barrier (hturn : d.bulk.cmds.find? (startable d) = some c) (hkind : c.kind = .barrier) (hscope : c.pl.scope = 0) :
    bulkCommandStart d k tag = bulkFinish d c stOk 0 := by
  rw [bulkCommandStart_turn htag hturn (by simp [hkind, hscope]), hkind]
  exact if_pos hscope

theorem bulkCommandStart_snapshot (hturn : d.bulk.cmds.find? (startable d) = some c) (hkind : c.kind = .snapshot) (htenant : (getConn d k).tenant = 0) (hrun : d.act.run = none) :
    bulkCommandStart d k tag = startAct (setBulk d { c with state := .acting }) 2 2 c.pl.arg.toNat c.pl.set.toNat (some c.id) := by
  rw [bulkCommandStart_turn htag hturn (fun h => h.2 htenant), hkind, hrun]
  rfl

theorem bulkCommandStart_fill (hturn : d.bulk.cmds.find? (startable d) = some c) (hkind : c.kind = .fill) : bulkCommandStart d k tag = startRange d c := by
  rw [bulkCommandStart_turn htag hturn (by simp [hkind]), hkind]

theorem bulkCommandStart_release (hturn : d.bulk.cmds.find? (startable d) = some c) (hkind : c.kind = .release) (htenant : (getConn d k).tenant = 0) :
    bulkCommandStart d k tag = startRelease d c := by
  rw [bulkCommandStart_turn htag hturn (fun h => h.2 htenant), hkind]

end

theorem bulkCommandStart_unknown {d : Dev} {k tag : Nat} (h : findTag d k tag = none) : bulkCommandStart d k tag = d := by rw [bulkCommandStart, h]

theorem startRange_fails {d : Dev} {c : BulkCmd} {st : Nat} (h : targetCheck d c = .fail st) : startRange d c = bulkFinish d c st (custodyDetail st) := by rw [startRange, h]

/-- A FILL whose target passes its checks runs. -/
theorem startRange_fill {d : Dev} {c : BulkCmd} {n off : Nat} (hkind : c.kind = .fill) (h : targetCheck d c = .ok n off) :
    startRange d c = bulkIssue 64 (setBulk d { c with chamber := n, off := off, state := .running }) := by
  have hfill : c.kind ≠ .copy := by rw [hkind]; decide
  have hbar : copyBar d { c with chamber := n, off := off } = none := if_pos hfill
  rw [startRange, h]
  dsimp only
  rw [if_pos hfill, hbar]

/-- A RELEASE of one device gives up a snapshot that is RETAINED, and waits. -/
theorem startRelease_retained {d : Dev} {c : BulkCmd} {sn : Snap} (hsn : nget d.snap.snaps c.pl.snap.toNat = some sn) (hst : sn.state = .retained) (hscope : c.pl.scope = 0) :
    startRelease d c = setBulk (releaseSnapshot d c.pl.snap.toNat) { c with state := .acting } := by
  have hheld : ¬ sn.state = .pending := by rw [hst]; decide
  have hone : ¬ c.pl.scope = 1 := by rw [hscope]; decide
  rw [startRelease, hsn]
  exact (if_neg hheld).trans (if_neg hone)

theorem bulkStart : Claims.BulkStart := by
  refine ⟨?barrier, ?snapshot, ?fails, ?fill, ?release, ?unknown⟩
  case barrier => exact fun s k tag c htag hturn hkind hscope => does_congr (does_bulkCommandStart s k tag) (bulkCommandStart_barrier htag hturn hkind hscope)
  case snapshot => exact fun s k tag c htag hturn hkind htenant hrun => does_congr (does_bulkCommandStart s k tag) (bulkCommandStart_snapshot htag hturn hkind htenant hrun)
  case fails => exact fun s k tag c st htag hturn hkind hcheck => does_congr (does_bulkCommandStart s k tag) ((bulkCommandStart_fill htag hturn hkind).trans (startRange_fails hcheck))
  case fill =>
    exact fun s k tag c n off htag hturn hkind hcheck => does_congr (does_bulkCommandStart s k tag) ((bulkCommandStart_fill htag hturn hkind).trans (startRange_fill hkind hcheck))
  case release =>
    exact fun s k tag c sn htag hturn hkind htenant hsn hst hscope =>
      does_congr (does_bulkCommandStart s k tag) ((bulkCommandStart_release htag hturn hkind htenant).trans (startRelease_retained hsn hst hscope))
  case unknown => exact fun s k tag htag => does_congr (does_bulkCommandStart s k tag) (bulkCommandStart_unknown htag)

/-! ### The end of a piece (R290, R291) -/

section
variable {d : Dev} {k tag lo : Nat} {c : BulkCmd} {r : Req} (hpiece : pieceOf d k tag lo = some (c, r))
include hpiece

/-- The write of a FILL's piece is over: its bytes count. -/
theorem bulkPieceDone_fill (hbulk : r.bulk = some (c.id, lo, 1)) (hstage : r.stage = .over stOk) (hkind : r.kind = .write) (hover : (r.parts.all fun p => partOver p.st) = true)
    (hfill : c.kind = .fill) : bulkPieceDone d k tag lo = pieceOk (dropBuf (delReq (setBulk d c) r.id) r.buf) c lo (pieceLen c lo) := by
  rw [bulkPieceDone, hpiece]
  simp [hstage, hkind, hover, hbulk, hfill]

/-- A page that a LOAD or VERIFY could not have is counted. -/
theorem bulkPieceDone_tierFail (hstage : r.stage = .over stTierFail) (hmark : r.kind ≠ .commitMark) (hverify : r.kind ≠ .verify) (hover : (r.parts.all fun p => partOver p.st) = true)
    (hkind : c.kind = .load ∨ c.kind = .verify) : bulkPieceDone d k tag lo = pieceBad (dropBuf (delReq (setBulk d c) r.id) r.buf) c lo := by
  have hnotOk : stTierFail ≠ stOk := by decide
  rw [bulkPieceDone, hpiece]
  simp [hstage, hmark, hverify, hover, hkind, hnotOk]

end

theorem bulkPieceDone_unknown {d : Dev} {k tag lo : Nat} (h : pieceOf d k tag lo = none) : bulkPieceDone d k tag lo = d := by rw [bulkPieceDone, h]

/-! ### Aborts (R299) -/

/-- The device once the frame of an abort has its buffer, and the abort is acknowledged and counted. -/
def abortStored (d : Dev) (p : Pkt) : Dev := bump (bulkAck (bulkFrame d p).1 p (connOf p) none) .BLK_CNT 0 4

/-- What answers an abort of a tag: the command that is outstanding, the record of one that has completed, or NO_TAG (Table BLK-6). -/
def abortAnswered (d : Dev) (p : Pkt) (k tag : Nat) : Dev :=
  match findTag d k tag with
  | some c => abortCmd d c
  | none =>
    match (ngetD d.bulk.recs k []).find? fun r => r.tag == tag with
    | some r => sendCompletion (bump d .BLK_CNT 0 7) k none (p.oxh.any (·.persist)) r 3 true
    | none => sendCompletion (bump d .BLK_CNT 0 8) k none (p.oxh.any (·.persist)) ⟨p.psn.toNat, tag, 0, stOk, 0, 0, 0, 0⟩ 4 true

theorem bulkAbort_eq (d : Dev) (p : Pkt) (tag : Nat) (wellFormed : Bool) : bulkAbort d p tag wellFormed =
    receive d p none .bulkAbort false (fun _ => 1) (fun d _ => d) fun d k =>
      bulkTaken d p k ⟨p.psn.toNat, none, p.oxh.any (·.persist)⟩ ((getConn d k).service == .data && wellFormed) fun d =>
        abortAnswered (bump (bulkAck d p k none) .BLK_CNT 0 4) p k tag := by
  refine congrArg (receive d p none .bulkAbort false _ _) (funext fun e => funext fun k => congrArg (bulkTaken e p k _ _) (funext fun f => ?_))
  generalize bump (bulkAck f p k none) .BLK_CNT 0 4 = g
  cases hfind : findTag g k tag with
  | some c => simp only [abortAnswered, hfind]
  | none => cases hrec : (ngetD g.bulk.recs k []).find? (fun r => r.tag == tag) <;> simp only [abortAnswered, hfind, hrec]

theorem abortAnswered_outstanding {d : Dev} {p : Pkt} {k tag : Nat} {c : BulkCmd} (h : findTag d k tag = some c) : abortAnswered d p k tag = abortCmd d c := by rw [abortAnswered, h]

theorem abortAnswered_noTag {d : Dev} {p : Pkt} {k tag : Nat} (h : findTag d k tag = none) (hrecs : ngetD d.bulk.recs k [] = []) :
    abortAnswered d p k tag = sendCompletion (bump d .BLK_CNT 0 8) k none (p.oxh.any (·.persist)) ⟨p.psn.toNat, tag, 0, stOk, 0, 0, 0, 0⟩ 4 true := by
  rw [abortAnswered, h, hrecs]
  rfl

theorem bulkTaken_served {d : Dev} {p : Pkt} {k : Nat} {a : About} {good : Bool} {go : Dev → Dev} (hgood : good = true) (hstate : d.pwr.state = .service) :
    bulkTaken d p k a good go = hostBuf d p k a go := by
  have hbusy : bulkBusy d = none := if_pos (Or.inl hstate)
  rw [bulkTaken, hgood, hbusy]
  rfl

theorem hostBuf_granted {d : Dev} {p : Pkt} {a : About} {go : Dev → Dev} (h : (takeBufs d (connCell (connOf p)) p.bytes (connIdx (connOf p)) false).isSome = true) :
    hostBuf d p (connOf p) a go = dropRef (go (bulkFrame d p).1) (bulkFrame d p).2 := by
  obtain ⟨x, hx⟩ := Option.isSome_iff_exists.mp h
  rw [hostBuf, bulkFrame, hx]
  rfl

section
variable {d : Dev} {p : Pkt} {tag : BitVec 16} (hin : Enters d (.req p (.bulkAbort tag true))) (hexp : Expected (frameHeard d p (.bulkAbort tag true)) p .bulkAbort false)
  (hservice : (getConn (frameHeard d p (.bulkAbort tag true)) (connOf p)).service = .data) (hstate : (frameHeard d p (.bulkAbort tag true)).pwr.state = .service)
  (hbuf : (takeBufs (taken (frameHeard d p (.bulkAbort tag true)) p) (connCell (connOf p)) p.bytes (connIdx (connOf p)) false).isSome = true)
include hin hexp hservice hstate hbuf

/-- An abort that is expected is taken, acknowledged and answered by what its tag names. -/
theorem frameIn_bulkAbort : let e := taken (frameHeard d p (.bulkAbort tag true)) p
    frameIn d (.req p (.bulkAbort tag true)) = dropRef (abortAnswered (abortStored e p) p (connOf p) tag.toNat) (bulkFrame e p).2 := by
  obtain ⟨hdown, hicrc, hudp, hthis, -⟩ := id hexp
  have hgood : ((getConn (taken (frameHeard d p (.bulkAbort tag true)) p) (connOf p)).service == .data && true) = true := by
    rw [taken, getConn_setConn_same]
    simpa using hservice
  have hserves : (taken (frameHeard d p (.bulkAbort tag true)) p).pwr.state = .service := hstate
  rw [frameIn_of_enters hin, runFrame_req hdown hicrc hudp hthis]
  show bulkAbort _ p tag.toNat true = _
  rw [bulkAbort_eq]
  refine (receive_expected hexp).trans ((bulkTaken_served hgood hserves).trans ?_)
  exact hostBuf_granted hbuf

theorem frameIn_bulkAbort_outstanding {c : BulkCmd} {e : Dev} (he : abortStored (taken (frameHeard d p (.bulkAbort tag true)) p) p = e) (htag : findTag e (connOf p) tag.toNat = some c) :
    frameIn d (.req p (.bulkAbort tag true)) = dropRef (abortCmd e c) (bulkFrame (taken (frameHeard d p (.bulkAbort tag true)) p) p).2 := by
  rw [frameIn_bulkAbort hin hexp hservice hstate hbuf, he, abortAnswered_outstanding htag]

theorem frameIn_bulkAbort_noTag {e : Dev} (he : abortStored (taken (frameHeard d p (.bulkAbort tag true)) p) p = e) (htag : findTag e (connOf p) tag.toNat = none)
    (hrecs : ngetD e.bulk.recs (connOf p) [] = []) : frameIn d (.req p (.bulkAbort tag true)) =
      dropRef (sendCompletion (bump e .BLK_CNT 0 8) (connOf p) none (p.oxh.any (·.persist)) ⟨p.psn.toNat, tag.toNat, 0, stOk, 0, 0, 0, 0⟩ 4 true)
        (bulkFrame (taken (frameHeard d p (.bulkAbort tag true)) p) p).2 := by
  rw [frameIn_bulkAbort hin hexp hservice hstate hbuf, he, abortAnswered_noTag htag hrecs]

end

/-! ### A snapshot that is FREE (R297) -/

theorem snapshotReleaseDone_free {d : Dev} {act : Nat} {sn : Snap} (hsn : nget d.snap.snaps act = some sn) (hst : sn.state = .releasing) (hcmds : d.bulk.cmds = []) :
    snapshotReleaseDone d act = stagingFreed (settleKeys { d with snap.snaps := ndel d.snap.snaps act }) sn := by
  have hkept : (stagingFreed (settleKeys { d with snap.snaps := ndel d.snap.snaps act }) sn).bulk.cmds = [] := stagingFreed_noCommands _ _ (settleKeys_noCommands _ hcmds)
  rw [snapshotReleaseDone, hsn]
  refine (if_neg (not_not_intro hst)).trans ?_
  dsimp only at hkept ⊢
  rw [hkept]
  rfl

theorem bulkEnds : Claims.BulkEnds := by
  refine ⟨?fill, ?bad, ?unknown, ?abort, ?noTag, ?free⟩
  case fill => exact fun s k tag lo c r hpiece hbulk hstage hkind hover hfill => does_congr (does_bulkPieceDone s k tag lo) (bulkPieceDone_fill hpiece hbulk hstage hkind hover hfill)
  case bad =>
    intro s k tag lo st c r hpiece hstage _ hmark hverify hover hkind hst
    subst hst
    exact does_congr (does_bulkPieceDone s k tag lo) (bulkPieceDone_tierFail hpiece hstage hmark hverify hover hkind)
  case unknown => exact fun s k tag lo hpiece => does_congr (does_bulkPieceDone s k tag lo) (bulkPieceDone_unknown hpiece)
  case abort =>
    intro s p tag c b d x e hin hexp hservice hstate hbuf htag
    exact does_congr (does_bulkAbort s p tag true) (frameIn_bulkAbort_outstanding hin hexp hservice hstate hbuf rfl htag)
  case noTag =>
    intro s p tag b d x e hin hexp hservice hstate hbuf htag hrecs
    exact does_congr (does_bulkAbort s p tag true) (frameIn_bulkAbort_noTag hin hexp hservice hstate hbuf rfl htag hrecs)
  case free => exact fun s act sn hsn hst hcmds => does_congr (does_snapshotReleaseDone s act) (snapshotReleaseDone_free hsn hst hcmds)

/-- Settles O51: a command whose turn it is starts by its kind, a piece that is over counts, an abort is acknowledged and answered, and a snapshot that has been released is FREE. -/
theorem bulkProgress : Obligations.BulkProgress := ⟨bulkStart, bulkEnds, bulkCommandsComplete⟩

end Sys2Proof.Machine
end

section
/-!
SUPPORT. Commands of the key store, and the end of a rotation grace (spec/14_security.md R305 to R311, R317, R318, R323; notes/assumptions 253 for the DESTROY that waits and 24 for the tenant of an
agreed key).
-/
namespace Sys2Proof.Machine
open Sys2Proof

/-! ### Commands while none waits, and while a DESTROY does (R311) -/

/-- The device once a command has found another that waits: it only sets OVERRUN. -/
def keyOverrun (d : Dev) (w : Writer) : Dev := { asked d w .KEY_CMD 0 0 with sec.overrun := true }

section
variable {d : Dev} {w : Writer} (ha : Accepts d w .KEY_CMD 0)
include ha

theorem keyCommand_idle (hidle : d.sec.destroying = none) (go : Dev → Dev) : keyCommand d w go = go (asked d w .KEY_CMD 0 0) := by
  have h : ¬ (asked d w .KEY_CMD 0 0).sec.destroying.isSome = true := by rw [asked_sec, hidle]; exact Bool.false_ne_true
  rw [keyCommand, command_accepted _ _ _ _ _ _ ha]
  exact if_neg h

theorem keyCommand_overrun {k : Nat} (hbusy : d.sec.destroying = some k) (go : Dev → Dev) : keyCommand d w go = keyOverrun d w := by
  have h : (asked d w .KEY_CMD 0 0).sec.destroying.isSome = true := by rw [asked_sec, hbusy]; rfl
  rw [keyCommand, command_accepted _ _ _ _ _ _ ha]
  exact if_pos h

theorem keyDestroy_overrun {k : Nat} (hbusy : d.sec.destroying = some k) : keyDestroy d w = keyOverrun d w := by
  rw [keyDestroy, keyDestroyWith, keyCommand_overrun ha hbusy]

end

/-! ### GENERATE, IMPORT and AGREE (R306 to R308) -/

section
variable {d e : Dev} {w : Writer} (ha : Accepts d w .KEY_CMD 0) (hidle : d.sec.destroying = none) (he : asked d w .KEY_CMD 0 0 = e)
include ha hidle he

theorem keyGenerate_entropy (hgood : badTarget e (kslot e) (fld (karg e 0) 27 24) = false) (hfree : targetFull e (kslot e) (fld (karg e 0) 27 24) = false) (hstop : e.sec.stopped = true) :
    keyGenerate d w = keyDone e 1 .entropy [] := by
  rw [keyGenerate, keyCommand_idle ha hidle, he]
  simp [hgood, hfree, hstop]

theorem keyGenerate_drawn (hgood : badTarget e (kslot e) (fld (karg e 0) 27 24) = false) (hfree : targetFull e (kslot e) (fld (karg e 0) 27 24) = false) (hstop : e.sec.stopped = false)
    (husage : fld (karg e 0) 27 24 ≠ 1) : let x := drbgDraw e
    keyGenerate d w = keyDone (bump (fillSlot x.1 (kslot e) (fld (karg e 0) 27 24) 0 (fld (karg x.1 0) 23 12) x.2) .KEY_CNT 0 0) 1 .ok [(1, checkOf x.2)] := by
  rw [keyGenerate, keyCommand_idle ha hidle, he]
  simp [hgood, hfree, hstop, husage]

theorem keyImport_done {e' : Dev} {r : KeyResult} {m : Nat}
    (hinto : importInto e (kslot e) (fld (karg e 0) 27 24) true (fld (karg e 0) 23 12) (fld (karg e 1) 11 0) ((List.range 18).map fun i => (karg e (2 + i)).toNat) = (e', r, m)) :
    keyImport d w = keyDone e' 2 r [(1, checkOf m)] := by
  rw [keyImport, keyCommand_idle ha hidle, he, hinto]

theorem keyAgree_done {e' : Dev} {r : KeyResult} {m : Nat} (hinto : agreeInto e (kslot e) ((List.range 24).map fun i => (reg e .KEY_PUB_ARG 0 i).toNat) = (e', r, m)) :
    keyAgree d w = keyDone e' 5 r [(1, checkOf m)] := by
  rw [keyAgree, keyCommand_idle ha hidle, he, hinto]

/-! ### DESTROY and the query (R310 to R312) -/

section
variable {x : KeySlot} (hk : kslot e < 3584) (hodd : oddOfPair e (kslot e) = false) (hx : getSlot e (kslot e) = some x)
include hk hodd hx

/-- A DESTROY of an occupied slot turns on its state, its references and the requests that hold it. -/
theorem keyDestroy_occupied : let k := kslot e
    let posted := (postedEnts d).any fun p => p.2.kind == 5 && (p.2.arg % 4096 == k || p.2.arg / 4096 == k)
    keyDestroy d w = if x.state ≠ .live ∨ slotReferenced e k posted = true then keyDone e 3 .inUse []
      else if slotHeld e k then keyDone { e with sec.destroying := some k } 3 .busy [] else destroyEnd e k := by
  have hgood : ¬ (3584 ≤ kslot e ∨ oddOfPair e (kslot e) = true) := by simp [hodd, hk]
  rw [keyDestroy, keyDestroyWith, keyCommand_idle ha hidle, he]
  refine (if_neg hgood).trans ?_
  rw [hx]

theorem keyDestroy_inUse (href : slotReferenced e (kslot e) false = true) : keyDestroy d w = keyDone e 3 .inUse [] := by
  have hany : ∀ b, slotReferenced e (kslot e) b = true := by
    intro b
    rw [slotReferenced, Bool.or_false] at href
    rw [slotReferenced, href, Bool.true_or]
  rw [keyDestroy_occupied ha hidle he hk hodd hx]
  exact if_pos (Or.inr (hany _))

theorem keyDestroy_free (hlive : x.state = .live) (href : slotReferenced e (kslot e) false = false) (hcal : e.cal.ents = []) :
    keyDestroy d w = if slotHeld e (kslot e) then keyDone { e with sec.destroying := some (kslot e) } 3 .busy [] else destroyEnd e (kslot e) := by
  have hposted : postedEnts d = [] := by rw [postedEnts, ← asked_cal d w .KEY_CMD 0 0, he, hcal]; rfl
  rw [keyDestroy_occupied ha hidle he hk hodd hx, hposted]
  exact if_neg (by simp [hlive, href])

end

theorem keySlotQuery_empty (hk : kslot e < 3584) (hodd : oddOfPair e (kslot e) = false) (hx : getSlot e (kslot e) = none) : keySlotQuery d w = keyDone e 4 .ok [(0, 0), (1, 0), (2, 0)] := by
  have hgood : ¬ (3584 ≤ kslot e ∨ oddOfPair e (kslot e) = true) := by simp [hodd, hk]
  rw [keySlotQuery, keyCommand_idle ha hidle, he]
  refine (if_neg hgood).trans ?_
  rw [hx]

/-! ### Owner fuses (R323) -/

theorem ownerAdd_blown (hfree : nhas e.sec.owners (fld (karg e 0) 1 0) = false) :
    ownerAdd d w true = keyDone { e with sec.owners := nset e.sec.owners (fld (karg e 0) 1 0) ((List.range 12).map fun j => (reg e .KEY_PUB_ARG 0 j).toNat) } 6 .ok [] := by
  rw [ownerAdd, keyCommand_idle ha hidle, he]
  exact (if_neg (ne_true_of_eq_false hfree)).trans (if_pos rfl)

theorem ownerAdd_refused (b : Bool) (hset : nhas e.sec.owners (fld (karg e 0) 1 0) = true) : ownerAdd d w b = keyDone e 6 .refused [] := by
  rw [ownerAdd, keyCommand_idle ha hidle, he]
  exact if_pos hset

theorem ownerRevoke_blown (hactive : fld (karg e 0) 1 0 ≠ e.sec.active) (hleft : ∃ p ∈ e.sec.owners, p.1 ≠ fld (karg e 0) 1 0 ∧ p.1 ∉ e.sec.revoked) :
    ownerRevoke d w true = keyDone { e with sec.revoked := sinsert e.sec.revoked (fld (karg e 0) 1 0) } 7 .ok [] := by
  have hother : (e.sec.owners.any fun p => p.1 != fld (karg e 0) 1 0 && !e.sec.revoked.contains p.1) = true := by
    obtain ⟨p, hp, hne, hvalid⟩ := hleft
    exact List.any_eq_true.mpr ⟨p, hp, by simp [hne, hvalid]⟩
  rw [ownerRevoke, keyCommand_idle ha hidle, he]
  exact (if_neg (not_or_intro hactive (by rw [hother]; decide))).trans (if_pos rfl)

end

/-! ### What an import and an agreement put into a slot (R307, R308) -/

section
variable {d : Dev} {k u km kek : Nat} (hgood : badTarget d k u = false) (hkek : kekMat d kek = some km) (hfree : targetFull d k u = false)
include hgood hkek hfree

theorem importInto_fits (t : Nat) {l : List Nat} (husage : u ≠ 1) (hrest : ((l.drop 10).any (· != 0)) = false) :
    importInto d k u true t kek l = match Config.unwrap km (l.take 10) with
      | some m => (bump (fillSlot d k u 1 t m) .KEY_CNT 0 1, .ok, m)
      | none => (bump d .KEY_CNT 0 2, .unwrapFail, 0) := by
  rw [importInto, hgood, hkek, hfree]
  cases hm : Config.unwrap km (l.take 10) <;> simp [husage, hm, hrest]

theorem importInto_misfits (t : Nat) (l : List Nat) : importInto d k u false t kek l = (bump d .KEY_CNT 0 2, .unwrapFail, 0) := by
  rw [importInto, hgood, hkek, hfree]
  cases hm : Config.unwrap km (l.take (if u = 1 then 18 else 10)) <;> simp [hm]

end

theorem agreeInto_free {d : Dev} {k : Nat} (hgood : badTarget d k 5 = false) (hfree : targetFull d k 5 = false) (l : List Nat) :
    agreeInto d k l = match Config.agree (l ++ [ordinal d, k]) with
      | some m => (bump (fillSlot d k 5 2 0 (m % 2 ^ 256)) .KEY_CNT 0 1, .ok, m % 2 ^ 256)
      | none => (d, .badArg, 0) := by
  rw [agreeInto, hgood, hfree]
  cases Config.agree (l ++ [ordinal d, k]) <;> rfl

/-! ### What a slot waits for (R312) -/

theorem sec_keyDone_none (d : Dev) (op : Nat) (r : KeyResult) : (keyDone d op r []).sec.slots = d.sec.slots := by
  unfold keyDone
  split <;> rfl

theorem slots_destroyEnd (d : Dev) (k : Nat) : (destroyEnd d k).sec.slots = ndel d.sec.slots k := by
  rw [destroyEnd, sec_keyDone_none]
  rfl

/-- The DESTROY that waited ends once no request holds its slot; where every slot is LIVE, none else settles. -/
theorem keyTurn_destroyEnd {d : Dev} {k : Nat} (hdest : d.sec.destroying = some k) (hheld : slotHeld d k = false) (hlive : ∀ p ∈ d.sec.slots, p.2.state = .live) :
    keyTurn d = destroyEnd d k := by
  have hstay : ¬ ((destroyEnd d k).sec.slots.any fun p => p.2.state != .live) = true := by
    rw [slots_destroyEnd]
    simpa using fun a b hp => hlive (a, b) (ndel_sub _ _ _ hp)
  rw [keyTurn, hdest]
  simp only [hheld]
  exact if_neg hstay

theorem keyStoreCommands : Claims.KeyStoreCommands := by
  refine ⟨?drawn, ?entropy, ?import_, ?fits, ?misfits, ?destroyed, ?inUse, ?held, ?turn, ?overrun, ?query, ?agree, ?agreed, ?owner, ?ownerAgain, ?revoke, ?reserved⟩
  case drawn => exact fun s w ha hidle hgood hfree hstop husage => does_congr (does_keyGenerate s w) (keyGenerate_drawn ha hidle rfl hgood hfree hstop husage)
  case entropy => exact fun s w ha hidle hgood hfree hstop => does_congr (does_keyGenerate s w) (keyGenerate_entropy ha hidle rfl hgood hfree hstop)
  case import_ => exact fun s w e r m ha hidle hinto => does_congr (does_keyImport s w) (keyImport_done ha hidle rfl hinto)
  case fits => exact fun d k u t kek km l hgood hkek hfree husage hrest => importInto_fits hgood hkek hfree t husage hrest
  case misfits => exact fun d k u t kek km l hgood hkek hfree => importInto_misfits hgood hkek hfree t l
  case destroyed =>
    exact fun s w x ha hidle hk hodd hx hlive href hcal hheld =>
      does_congr (does_keyDestroy s w) ((keyDestroy_free ha hidle rfl hk hodd hx hlive href hcal).trans (if_neg (ne_true_of_eq_false hheld)))
  case inUse => exact fun s w x ha hidle hk hodd hx _ href => does_congr (does_keyDestroy s w) (keyDestroy_inUse ha hidle rfl hk hodd hx href)
  case held =>
    exact fun s w x ha hidle hk hodd hx hlive href hcal hheld => does_congr (does_keyDestroy s w) ((keyDestroy_free ha hidle rfl hk hodd hx hlive href hcal).trans (if_pos hheld))
  case turn => exact fun d k hdest hheld hlive => keyTurn_destroyEnd hdest hheld hlive
  case overrun =>
    intro s w b op k d e ha hbusy
    exact ⟨does_congr (does_keyGenerate s w) (keyCommand_overrun ha hbusy _), does_congr (does_keyImport s w) (keyCommand_overrun ha hbusy _),
      does_congr (does_keyDestroy s w) (keyDestroy_overrun ha hbusy), does_congr (does_keySlotQuery s w) (keyCommand_overrun ha hbusy _),
      does_congr (does_keyAgree s w) (keyCommand_overrun ha hbusy _), does_congr (does_ownerAdd s w b) (keyCommand_overrun ha hbusy _),
      does_congr (does_ownerRevoke s w b) (keyCommand_overrun ha hbusy _), does_congr (does_keyCmdReserved s w op) (keyCommand_overrun ha hbusy _)⟩
  case query => exact fun s w ha hidle hk hodd hx => does_congr (does_keySlotQuery s w) (keySlotQuery_empty ha hidle rfl hk hodd hx)
  case agree => exact fun s w e r m ha hidle hinto => does_congr (does_keyAgree s w) (keyAgree_done ha hidle rfl hinto)
  case agreed => exact fun d k l hgood hfree => agreeInto_free hgood hfree l
  case owner => exact fun s w ha hidle hfree => does_congr (does_ownerAdd s w true) (ownerAdd_blown ha hidle rfl hfree)
  case ownerAgain => exact fun s w b ha hidle hset => does_congr (does_ownerAdd s w b) (ownerAdd_refused ha hidle rfl b hset)
  case revoke => exact fun s w ha hidle hactive hleft => does_congr (does_ownerRevoke s w true) (ownerRevoke_blown ha hidle rfl hactive hleft)
  case reserved => exact fun s w op _ ha hidle => does_congr (does_keyCmdReserved s w op) (keyCommand_idle ha hidle _)

/-! ### The grace of a rotation (R317, R318) -/

theorem settleSlot_held {d : Dev} {k : Nat} {x : KeySlot} (h : x.state = .live ∨ graceHolds d k = true) : settleSlot d k x = d := if_pos h

section
variable {d : Dev} {k : Nat} {x : KeySlot}

theorem settleSlot_emptied (hst : x.state ≠ .live) (hgrace : graceHolds d k = false) (hnamed : chamberNames d k = false) :
    settleSlot d k x = purgeSlot { d with sec.slots := ndel d.sec.slots k } k :=
  (if_neg (not_or_intro hst (ne_true_of_eq_false hgrace))).trans (if_pos hnamed)

theorem settleSlot_linked (hst : x.state = .retiring) (hgrace : graceHolds d k = false) (hnamed : chamberNames d k = true) (hsectors : slotSectors d k = false) (hheld : slotHeld d k = false) :
    settleSlot d k x = purgeSlot { d with sec.slots := nset d.sec.slots k { x with state := .linked, check := checkOf x.mat, mat := 0 } } k := by
  have hnotLive : x.state ≠ .live := by rw [hst]; decide
  have hnotFree : ¬ chamberNames d k = false := by rw [hnamed]; decide
  exact (if_neg (not_or_intro hnotLive (ne_true_of_eq_false hgrace))).trans ((if_neg hnotFree).trans (if_pos ⟨hst, hsectors, hheld⟩))

/-- Sectors under a slot, or a request that holds it, keep it as it is. -/
theorem settleSlot_inUse (hnamed : chamberNames d k = true) (huse : slotSectors d k = true ∨ slotHeld d k = true) : settleSlot d k x = d := by
  have hnotFree : ¬ chamberNames d k = false := by rw [hnamed]; decide
  have hnotOver : ¬ (x.state = .retiring ∧ slotSectors d k = false ∧ slotHeld d k = false) := by
    rintro ⟨-, hsectors, hheld⟩
    rw [hsectors, hheld] at huse
    exact absurd huse (by decide)
  rw [settleSlot, if_neg hnotFree, if_neg hnotOver, ite_self]

end

theorem rotationGraceEnd_over {d : Dev} {k t : Nat} (h : d.sec.ctrlOld = some (k, t)) (hover : t ≤ fedTime d) : rotationGraceEnd d = settleKeys { d with sec.ctrlOld := none } := by
  rw [rotationGraceEnd, h]
  exact if_pos hover

theorem rotationGrace : Claims.RotationGrace := by
  refine ⟨?ends, fun d k x h => settleSlot_held h, ?emptied, ?linked, fun d k x _ hnamed huse => settleSlot_inUse hnamed huse⟩
  case ends =>
    intro s k t d hgrace hover
    refine does_congr (does_rotationGraceEnd s) ?_
    rw [hgrace]
    exact rotationGraceEnd_over ((congrArg SecPart.ctrlOld (reachFed_sec _ _)).trans hgrace) hover
  case emptied =>
    intro d k x hst hgrace hnamed hwf
    rw [settleSlot_emptied hst hgrace hnamed]
    exact nget_ndel_same _ _ hwf
  case linked =>
    intro d k x hst hgrace hnamed hsectors hheld
    rw [settleSlot_linked hst hgrace hnamed hsectors hheld]
    exact nget_nset_same _ _ _

/-- Settles O52: each key command that its checks let pass does to its slot or fuse what R305 to R311 and R323 say, a DESTROY that waits ends once no request holds its slot, and the grace of a rotation
ends with the old slot settled. -/
theorem keyStore : Obligations.KeyStore := ⟨keyStoreCommands, rotationGrace, keyCommandsComplete⟩

end Sys2Proof.Machine
end

section
/-!
SUPPORT. The key store and the MACsec sessions stand when a fault is raised and when a frame leaves (spec/14_security.md R303, R320; spec/17_faults_and_events.md R363 to R370).
-/
namespace Sys2Proof.Machine
open Sys2Proof

theorem forEach_sec {α : Type} {f : Dev → α → Dev} (hf : ∀ e x, (f e x).sec = e.sec) (l : List α) (d : Dev) : (forEach l d f).sec = d.sec := by
  induction l generalizing d with
  | nil => rfl
  | cons x l ih => exact (ih (f d x)).trans (hf d x)

/-! ### Faults -/

@[simp] theorem journalAdd_sec (d : Dev) (r : LogRec) : (journalAdd d r).sec = d.sec := by
  grind [journalAdd, bump_sec]

@[simp] theorem logRecord_sec (d : Dev) (sev cls cause unit requester reqCell access : Nat) (merged : Bool) (addr : Nat) (detail : List Nat) :
    (logRecord d sev cls cause unit requester reqCell access merged addr detail).sec = d.sec := by
  grind [logRecord, journalAdd_sec, bump_sec, stamped_sec]

@[simp] theorem capture_sec (d : Dev) (x : Capture) : (capture d x).sec = d.sec := by
  grind [capture]

@[simp] theorem setClassBit_sec (d : Dev) (c : Nat) : (setClassBit d c).sec = d.sec := rfl

@[simp] theorem bulkError_sec (d : Dev) (k : Nat) : (bulkError d k).sec = d.sec := by
  grind [bulkError, bumpBy_sec]

@[simp] theorem connError_sec (d : Dev) (k : Nat) : (connError d k).sec = d.sec := by
  grind [connError, bulkError_sec, bump_sec, setConn_sec]

@[simp] theorem leaveProving_sec (d : Dev) (cause : Nat) : (leaveProving d cause).sec = d.sec := by
  grind [leaveProving]

@[simp] theorem endConns_sec (d : Dev) : (endConns d).sec = d.sec := forEach_sec connError_sec _ d

@[simp] theorem haltNoFlush_sec (d : Dev) : (haltNoFlush d).sec = d.sec := by
  have hcount : ∀ (l : List Nat) (e : Dev), (forEach l e fun e c => bump e .HBM_CNT c 6).sec = e.sec := fun l e => forEach_sec (f := fun e c => bump e .HBM_CNT c 6) (fun _ _ => rfl) l e
  grind [haltNoFlush, endConns_sec, leaveProving_sec]

@[simp] theorem severe_sec (d : Dev) (cls : Nat) (act : SevereAct) : (severe d cls act).sec = d.sec := by
  unfold severe
  (repeat' split) <;> grind [haltNoFlush_sec]

@[simp] theorem raise_sec (d : Dev) (e : FaultEvt) (act : SevereAct) : (raise d e act).sec = d.sec := by
  grind [raise, severe_sec, logRecord_sec, capture_sec, stamped_sec, setClassBit_sec, bump_sec]

@[simp] theorem fenceCell_sec (d : Dev) (c cause : Nat) : (fenceCell d c cause).sec = d.sec := by
  grind [fenceCell]

/-! ### Buffers -/

@[simp] theorem pfcUpdate_sec (d : Dev) (c : Nat) : (pfcUpdate d c).sec = d.sec := by
  grind [pfcUpdate, sendPfc, forEach_sec, setPort_sec, bump_sec, send_sec]

@[simp] theorem takeBuf_sec (d : Dev) (c pool size requester : Nat) : (takeBuf d c pool size requester).1.sec = d.sec := by
  grind [takeBuf, pfcUpdate_sec, bump_sec]

@[simp] theorem dropRef_sec (d : Dev) (id : Nat) : (dropRef d id).sec = d.sec := by
  grind [dropRef, raise_sec, fenceCell_sec, pfcUpdate_sec]

@[simp] theorem dropBuf_sec (d : Dev) (b : Option Nat) : (dropBuf d b).sec = d.sec := by
  cases b with
  | none => rfl
  | some id => exact dropRef_sec d id

theorem takePieces_sec {n : Nat} {d : Dev} {c size who : Nat} {reserve : Bool} {x : Dev × Nat} (h : takePieces n d c size who reserve = some x) : x.1.sec = d.sec := by
  induction n generalizing d size with
  | zero =>
    obtain ⟨p, -, rfl⟩ := Option.map_eq_some_iff.mp h
    exact takeBuf_sec d c p 1 who
  | succ n ih => grind [takePieces, takeBuf_sec, dropRef_sec]

/-! ### Frames on their way out -/

@[simp] theorem emit_sec (d : Dev) (p : Nat) (e : Egress) : (emit d p e).sec = d.sec := dropBuf_sec ..

@[simp] theorem drainCtrl_sec (n : Nat) (d : Dev) (p : Nat) : (drainCtrl n d p).sec = d.sec := by
  induction n generalizing d with
  | zero => rfl
  | succ n ih => grind [drainCtrl, emit_sec, modPort_sec]

@[simp] theorem drrTurn_sec (n : Nat) (d : Dev) (p pcp : Nat) : (drrTurn n d p pcp).sec = d.sec := by
  induction n generalizing d with
  | zero => rfl
  | succ n ih => grind [drrTurn, emit_sec, modPort_sec]

@[simp] theorem drrRounds_sec (n : Nat) (d : Dev) (p : Nat) : (drrRounds n d p).sec = d.sec := by
  induction n generalizing d with
  | zero => rfl
  | succ n ih => grind [drrRounds, forEach_sec, drrTurn_sec, modPort_sec]

@[simp] theorem drainPort_sec (d : Dev) (p : Nat) : (drainPort d p).sec = d.sec := by
  grind [drainPort, drainCtrl_sec, drrRounds_sec]

@[simp] theorem carried_sec (d : Dev) (p pcp : Nat) : (carried d p pcp).sec = d.sec := by
  grind [carried, modPort_sec]

@[simp] theorem enqueue_sec (d : Dev) (p pcp bytes : Nat) (frame : Out) (buf : Option Nat) : (enqueue d p pcp bytes frame buf).sec = d.sec := by
  grind [enqueue, dropBuf_sec, bump_sec, drainPort_sec, carried_sec, modPort_sec]

@[simp] theorem sendCtl_sec (d : Dev) (p bytes : Nat) (frame : Out) : (sendCtl d p bytes frame).sec = d.sec := by
  unfold sendCtl
  split
  next htaken => exact (enqueue_sec ..).trans (takePieces_sec htaken)
  next => rfl

@[simp] theorem sendClaimed_sec (d : Dev) (opcode dest claim : Nat) (fields : List Nat) : (sendClaimed d opcode dest claim fields).sec = d.sec := by
  grind [sendClaimed, sendCtl_sec, send_sec, modPort_sec]

@[simp] theorem sendCtrl_sec (d : Dev) (opcode dest : Nat) (fields : List Nat) : (sendCtrl d opcode dest fields).sec = d.sec := sendClaimed_sec ..

end Sys2Proof.Machine
end

section
/-!
SUPPORT. Generators, MACsec sessions and tamper trips (spec/14_security.md R306, R319, R320, R324, R325).
-/
namespace Sys2Proof.Machine
open Sys2Proof

/-! ### Generators (R306) -/

theorem reseedTime_running {d : Dev} (hstop : d.sec.stopped = false) (hreqs : d.sec.requests < 2 ^ 20) : reseedTime d = some (d.sec.seededAt + sec 1) :=
  if_neg (not_or_intro (ne_true_of_eq_false hstop) (Nat.not_le.mpr hreqs))

theorem reseedTime_stopped {d : Dev} (hstop : d.sec.stopped = true) : reseedTime d = none := if_pos (Or.inl hstop)

theorem drbgReseed_due {d : Dev} (hstop : d.sec.stopped = false) (hdue : due d (d.sec.seededAt + sec 1) = true) : drbgReseed d = reseed d :=
  (if_neg (ne_true_of_eq_false hstop)).trans (if_pos (by rw [hdue, Bool.true_or]))

theorem drbgReseed_stopped {d : Dev} (hstop : d.sec.stopped = true) : drbgReseed d = d := if_pos hstop

theorem drbgReseed_reached {d : Dev} (hstop : d.sec.stopped = false) (hreqs : d.sec.requests < 2 ^ 20) :
    drbgReseed (reachO d (reseedTime d)) = reseed (reach d (d.sec.seededAt + sec 1)) := by
  rw [reseedTime_running hstop hreqs, reachO]
  generalize ht : d.sec.seededAt + sec 1 = t
  refine drbgReseed_due (by rw [reach_sec, hstop]) ?_
  rw [reach_sec, ht]
  exact due_reach d t

theorem generators : Claims.Generators := by
  refine ⟨?reseeds, ?stopped, fun s => does_entropyHealthFailure s⟩
  case reseeds => exact fun s hstop hreqs => does_congr (does_drbgReseed s) (drbgReseed_reached hstop hreqs)
  case stopped =>
    intro s hstop
    refine does_congr (does_drbgReseed s) ?_
    rw [reseedTime_stopped hstop]
    exact drbgReseed_stopped hstop

/-! ### MACsec sessions (R319, R320) -/

@[simp] theorem getMka_setMka_same (d : Dev) (p : Nat) (m : Mka) : getMka (setMka d p m) p = m := ngetD_nset_same _ _ _ _

theorem getMka_setMka_ne (d : Dev) {p q : Nat} (m : Mka) (h : q ≠ p) : getMka (setMka d p m) q = getMka d q := ngetD_nset_ne _ _ _ _ _ h

theorem getMka_congr {d e : Dev} (h : e.sec = d.sec) (p : Nat) : getMka e p = getMka d p := by rw [getMka, getMka, h]

theorem cakOf_reach (d : Dev) (t p : Nat) : cakOf (reach d t) p = cakOf d p := by
  unfold reach
  split <;> rfl

/-- The session as a verified MKPDU of a partner with a better priority leaves it. -/
def heardBehind (d : Dev) (p : Nat) : Dev := setMka d p { getMka d p with heard := some d.now, keyServer := false }

theorem mkpdu_brings {d : Dev} {m : Mkpdu} {k : Nat} (hcak : cakOf d m.port.val = some m.cak) (hckn : cknOf d m.port.val = m.ckn.toNat)
    (hprio : m.prio.toNat < cfld d .PORT_MACSEC_CFG m.port.val 23 16) (hsak : m.sak = some k) (hold : m.txNew = false) : mkpdu d m = installSak (heardBehind d m.port.val) m.port.val k := by
  have hbehind : (decide (cfld d .PORT_MACSEC_CFG m.port.val 23 16 < m.prio.toNat) ||
      (cfld d .PORT_MACSEC_CFG m.port.val 23 16 == m.prio.toNat && decide (sciOf d m.port.val < m.sci.toNat))) = false := by
    rw [decide_eq_false (Nat.lt_asymm hprio), beq_false_of_ne (Nat.ne_of_gt hprio)]
    rfl
  rw [mkpdu, hcak]
  dsimp only
  rw [if_neg (not_or_intro (not_not_intro rfl) (not_not_intro hckn)), hbehind, hsak, hold]
  rfl

theorem mkpdu_noCak {d : Dev} {m : Mkpdu} (h : cakOf d m.port.val = none) : mkpdu d m = d := by rw [mkpdu, h]

/-- A hello leaves every 2 s; a session that is not live has nothing to end. -/
theorem mkaHelloTimer_due {d : Dev} {p : Nat} (hcak : (cakOf d p).isSome = true) (hdue : due d (getMka d p).nextHello = true) (hlive : (getMka d p).live = false) :
    mkaHelloTimer d p = sendCtrl (setMka d p { getMka d p with nextHello := d.now + sec 2 }) 0x888E p [0] := by
  have hwaits : ¬ ((cakOf d p).isNone || !due d (getMka d p).nextHello) = true := by
    rw [Option.isNone_eq_false_iff.mpr hcak, hdue]
    decide
  have hstill : (getMka (sendCtrl (setMka d p { getMka d p with nextHello := d.now + sec 2 }) 0x888E p [0]) p).live = false := by
    rw [getMka_congr (sendCtrl_sec _ _ _ _), getMka_setMka_same]
    exact hlive
  rw [mkaHelloTimer, if_neg hwaits]
  dsimp only
  rw [hstill]
  rfl

theorem mkaTime_keyed {d : Dev} {p : Nat} (hcak : (cakOf d p).isSome = true) : mkaTime d p = some (getMka d p).nextHello := if_pos hcak

theorem mkaHelloTimer_reached {d : Dev} {p t : Nat} (ht : (getMka d p).nextHello = t) (hcak : (cakOf d p).isSome = true) (hlive : (getMka d p).live = false) : let e := reach d t
    mkaHelloTimer (reachO d (mkaTime d p)) p = sendCtrl (setMka e p { getMka e p with nextHello := e.now + sec 2 }) 0x888E p [0] := by
  have hsame := getMka_congr (reach_sec d t) p
  rw [mkaTime_keyed hcak, ht, reachO]
  exact mkaHelloTimer_due (by rw [cakOf_reach, hcak]) (by rw [hsame, ht]; exact due_reach d t) (by rw [hsame, hlive])

/-- At the packet-number limit the key server serves a new SAK at once. -/
theorem sakRenewal_limit {d : Dev} {p pn : Nat} (hlive : (getMka d p).live = true) (hserver : (getMka d p).keyServer = true) (hpn : 0xC000000000000000 ≤ pn) :
    sakRenewal (reachO d (renewTime d p pn)) p pn = serveSak d p := by
  have hnow : renewTime d p pn = none := if_neg fun h => absurd hpn (Nat.not_le.mpr h.2.2)
  have hrenews : ((getMka d p).live && (getMka d p).keyServer && (decide (0xC000000000000000 ≤ pn) || due d ((getMka d p).sakAt + sec (cfld d .PORT_MACSEC_STATUS p 15 0)))) = true := by
    rw [hlive, hserver, decide_eq_true hpn]
    rfl
  rw [hnow]
  exact if_pos hrenews

theorem getMka_installSak (d : Dev) (p mat : Nat) :
    getMka (installSak d p mat) p = { getMka d p with live := true, sakAt := d.now, saks := (getMka d p).saks + 1, oldKept := (getMka d p).live, rxNext := 1, rxOld := (getMka d p).rxNext } :=
  getMka_setMka_same _ _ _

theorem getMka_installSak_ne (d : Dev) {p q : Nat} (mat : Nat) (h : q ≠ p) : getMka (installSak d p mat) q = getMka d q := getMka_setMka_ne _ _ h

theorem slots_installSak (d : Dev) (p mat : Nat) :
    (installSak d p mat).sec.slots = nset d.sec.slots (sakSlot p ((getMka d p).saks + 1)) { usage := 3, origin := 0, tenant := 0, mat := mat } := rfl

section
variable {d : Dev} {p : Nat} (hon : macsecOn d p = true)
include hon

theorem macGate_plain : macGate d p .plain = (bump d .CIPH_CNT p 7, false) := if_pos hon

theorem macGate_badIcv : macGate d p .badIcv = (bump d .CIPH_CNT p 5, false) := if_pos hon

/-- A frame under the new SAK of a live session stands or falls by its packet number. -/
theorem macGate_protect (hcarries : macCarries d p = true) {pn : BitVec 64} (hpn : pn ≠ 0) : let m := getMka d p
    macGate d p (.protect false pn) = if pn.toNat < replayLow d p m.rxNext then (bump d .CIPH_CNT p 4, false) else (setMka d p { m with rxNext := max m.rxNext (pn.toNat + 1) }, true) := by
  rw [macGate, if_pos hon]
  dsimp only
  rw [if_neg (by rw [hcarries]; decide), if_neg fun h => Bool.false_ne_true h.1]
  exact ite_congr (propext (or_iff_left hpn)) (fun _ => rfl) fun _ => if_neg Bool.false_ne_true

end

theorem macsecSessions : Claims.MacsecSessions := by
  refine ⟨?brings, ?noCak, ?hello, ?renewal, ?installs, fun d p hoff => if_neg (ne_true_of_eq_false hoff), fun d p hon => ⟨macGate_plain hon, macGate_badIcv hon⟩, ?window⟩
  case brings => exact fun s m k hcak hckn hprio hsak hold => does_congr (does_mkpdu s m) (mkpdu_brings hcak hckn hprio hsak hold)
  case noCak => exact fun s m hcak => does_congr (does_mkpdu s m) (mkpdu_noCak hcak)
  case hello => exact fun s p hcak hlive => does_congr (does_mkaHelloTimer s p) (mkaHelloTimer_reached rfl hcak hlive)
  case renewal => exact fun s p pn hlive hserver hpn => does_congr (does_sakRenewal s p pn) (sakRenewal_limit hlive hserver hpn)
  case installs =>
    intro d p mat
    refine ⟨?_, ?_, ?_, fun q hq => getMka_installSak_ne d mat hq⟩
    · rw [getMka_installSak]
    · rw [getMka_installSak]
    · rw [slots_installSak, nget_nset_same]
  case window =>
    intro d p pn m hon hcarries hpn
    exact ⟨fun h => (macGate_protect hon hcarries hpn).trans (if_neg (Nat.not_lt.mpr h)), fun h => (macGate_protect hon hcarries hpn).trans (if_pos h)⟩

/-! ### Tamper (R324, R325) -/

theorem tamperTrip_on {d : Dev} (h : d.pwr.state ≠ .off) (last : Nat) :
    tamperTrip d last = raise { d with sec.tamper := last, sec.clearAtHalt := true } { cls := 4, cause := 0x15, unit := uHub 8, addr := last } := if_neg h

/-- The device once the lid has erased its keys. -/
def lidErased (d : Dev) : Dev :=
  { d with sec.slots := [], sec.keyCache := [], sec.fetching := [], sec.mka := [], sec.mediaEpoch := d.sec.mediaEpoch + 1,
           sec.mediaErased := true, sec.tamper := 4, res.eng := d.res.eng.map fun p => (p.1, { p.2 with ctx := [] }) }

/-- A device that halts at once, without a flush. -/
def haltedAtOnce (d : Dev) : Dev := { d with pwr.state := .halted, reqs := [] }

section
variable {d : Dev} (hon : d.pwr.state ≠ .off) (hrail : (getRail d 31).st = .up)
include hon hrail

theorem tamperLid_trips (hcfg : fbit (hreg d .KEY_TAMPER_CFG) 31 = false) : tamperLid d = tamperTrip d 3 := by
  have hacts : ¬ (d.pwr.state = .off ∨ (getRail d 31).st ≠ .up) := not_or_intro hon (not_not_intro hrail)
  rw [tamperLid, if_neg hacts]
  exact if_neg (ne_true_of_eq_false hcfg)

theorem tamperLid_erases (hcfg : fbit (hreg d .KEY_TAMPER_CFG) 31 = true) :
    tamperLid d = haltedAtOnce (raise (lidErased d) { cls := 4, cause := 0x15, unit := uHub 8, addr := 4 } .noFlush) := by
  have hacts : ¬ (d.pwr.state = .off ∨ (getRail d 31).st ≠ .up) := not_or_intro hon (not_not_intro hrail)
  rw [tamperLid, if_neg hacts, if_pos hcfg, haltedAtOnce, lidErased]

end

/-- The detector sleeps while rail[31] is not up. -/
theorem tamperLid_railDown {d : Dev} (h : (getRail d 31).st ≠ .up) : tamperLid d = d := if_pos (Or.inr h)

theorem tamper : Claims.Tamper := by
  refine ⟨?voltage, ?clock, ?lid, ?erase, ?sleeps⟩
  case voltage => exact fun s hon => does_congr (does_tamperVoltage s) (tamperTrip_on hon 1)
  case clock => exact fun s hon => does_congr (does_tamperClock s) (tamperTrip_on hon 2)
  case lid => exact fun s hon hrail hcfg => does_congr (does_tamperLid s) ((tamperLid_trips hon hrail hcfg).trans (tamperTrip_on hon 3))
  case erase =>
    intro s hon hrail hcfg
    have hlid := does_congr (does_tamperLid s) (tamperLid_erases hon hrail hcfg)
    have hsec := raise_sec (lidErased s.dev) { cls := 4, cause := 0x15, unit := uHub 8, addr := 4 } .noFlush
    generalize raise (lidErased s.dev) _ _ = e at hlid hsec
    exact ⟨haltedAtOnce e, hlid, rfl, rfl, congrArg SecPart.slots hsec, congrArg SecPart.keyCache hsec, congrArg SecPart.mka hsec,
      congrArg SecPart.mediaEpoch hsec, congrArg SecPart.mediaErased hsec⟩
  case sleeps => exact fun s h => does_congr (does_tamperLid s) (tamperLid_railDown h)

/-- Settles O53: the DRBG reseeds or stops, an MKPDU, a hello and a renewal act on their session, the replay window admits or discards, and a tamper trip raises C4 or erases the keys. -/
theorem generatorsLinksTamper : Obligations.GeneratorsLinksTamper := ⟨generators, macsecSessions, tamper⟩

end Sys2Proof.Machine
end
